-- ==== Sys2Proof/Word.lean ====
section
/-! DEFINITION. The word types of the DRZ3216 (R3, R4): registers of 32 bits, counters of 64, conduit
words of 64 bytes, and entries and cloves of 128 bytes. -/
namespace Sys2Proof

abbrev Byte := BitVec 8
abbrev Word16 := BitVec 16
/-- A register (R4). -/
abbrev Word32 := BitVec 32
/-- A counter (R508), or an engine register (R288). -/
abbrev Word64 := BitVec 64
/-- A conduit word of 64 bytes, byte n in bits 8n + 7 : 8n (R490). -/
abbrev Word512 := BitVec 512
/-- The 128 bytes of an entry, of DAT or of a clove; byte n in bits 8n + 7 : 8n (R4). -/
abbrev Dat := BitVec 1024

end Sys2Proof
end

