-- ==== Sys2Proof/Machine/Bits.lean ====
section
/-! DEFINITION. Bit-field and byte-order helpers, and the checks the spec gives parameters for:
CRC-32 (R65), CRC-32C (R305), CRC-16 (R35) and the ones'-complement sum (R255). -/
namespace Sys2Proof

/-- Bits [hi:lo] of a number (R3). -/
def bits (v hi lo : Nat) : Nat := (v >>> lo) % 2 ^ (hi + 1 - lo)

/-- Bit i of a number. -/
def bit (v i : Nat) : Bool := (v >>> i) % 2 == 1

/-- The number with bits [hi:lo] replaced by x. -/
def setBits (v hi lo x : Nat) : Nat :=
  v - (bits v hi lo <<< lo) + ((x % 2 ^ (hi + 1 - lo)) <<< lo)

/-- The number with bit i replaced. -/
def setBit (v i : Nat) (b : Bool) : Nat := setBits v i i (if b then 1 else 0)

/-- 1 for true, 0 for false. -/
def b2n (b : Bool) : Nat := if b then 1 else 0

/-- Ceiling division. -/
def cdiv (a b : Nat) : Nat := (a + b - 1) / b

/-- The unsigned little-endian field of `size` bytes at byte offset `off` of a record (R4). -/
def datU {w : Nat} (d : BitVec w) (off size : Nat) : Nat := (d.toNat >>> (8 * off)) % 2 ^ (8 * size)

/-- The field of `n` bits at bit `b` of the record's byte `off`. -/
def datB {w : Nat} (d : BitVec w) (off b n : Nat) : Nat := (d.toNat >>> (8 * off + b)) % 2 ^ n

/-- The record with the little-endian field of `size` bytes at `off` replaced. -/
def datPut {w : Nat} (d : BitVec w) (off size x : Nat) : BitVec w :=
  if size = 0 then d else BitVec.ofNat w (setBits d.toNat (8 * off + 8 * size - 1) (8 * off) x)

/-- The record with `n` bits at bit `b` of byte `off` replaced. -/
def datPutB {w : Nat} (d : BitVec w) (off b n x : Nat) : BitVec w :=
  if n = 0 then d else BitVec.ofNat w (setBits d.toNat (8 * off + b + n - 1) (8 * off + b) x)

/-- Sign extension of an n-bit number (R305). -/
def sext (n x : Nat) : Int := if n = 0 then 0 else if bit x (n - 1) then (x : Int) - (2 ^ n : Nat) else x

/-- The residue of an integer modulo 2^n. -/
def wrap (n : Nat) (x : Int) : Nat := (x % ((2 ^ n : Nat) : Int)).toNat

/-- Little-endian value of a list of bytes. -/
def leVal : List Byte → Nat
  | [] => 0
  | b :: r => b.toNat + 256 * leVal r

/-- Network-order (big-endian) value of a list of bytes (R4). -/
def beVal (bs : List Byte) : Nat := bs.foldl (fun a b => a * 256 + b.toNat) 0

/-- The n low bytes of a number, little-endian. -/
def leBytes : Nat → Nat → List Byte
  | 0, _ => []
  | n + 1, v => BitVec.ofNat 8 v :: leBytes n (v / 256)

/-- The n low bytes of a number in network order. -/
def beBytes (n v : Nat) : List Byte := (leBytes n v).reverse

/-- The bytes [off, off + n) of a byte list; bytes beyond its end are left out. -/
def slice (bs : List Byte) (off n : Nat) : List Byte := (bs.drop off).take n

/-- The list made exactly n bytes long, zero-filled at its end. -/
def padTo (n : Nat) (bs : List Byte) : List Byte := (bs ++ List.replicate (n - bs.length) 0).take n

/-- Byte i of a list, zero beyond its end. -/
def byteAt (bs : List Byte) (i : Nat) : Byte := bs.getD i 0

/-- The list with byte i replaced. -/
def setByte (bs : List Byte) (i : Nat) (b : Byte) : List Byte := bs.set i b

/-- The list with the bytes `new` written from offset off. -/
def setSlice (bs : List Byte) (off : Nat) (new : List Byte) : List Byte :=
  (padTo off bs ++ new ++ bs.drop (off + new.length)).take (max bs.length (off + new.length))

/-- A record of `w` bits from its bytes, byte 0 in bits 7:0. -/
def bvOfBytes (w : Nat) (bs : List Byte) : BitVec w := BitVec.ofNat w (leVal bs)

/-- The first n bytes of a record. -/
def bvBytes {w : Nat} (n : Nat) (d : BitVec w) : List Byte := leBytes n d.toNat

/-- One byte through a reflected CRC of `w` bits with polynomial `poly`. -/
def crcReflByte (poly : Nat) : Nat → Nat → Nat
  | 0, c => c
  | k + 1, c => crcReflByte poly k (if c % 2 = 1 then (c / 2) ^^^ poly else c / 2)

/-- CRC-32 of IEEE 802.3, reflected (R65). -/
def crc32 (bs : List Byte) : Nat :=
  (bs.foldl (fun c b => crcReflByte 0xEDB88320 8 (c ^^^ b.toNat)) 0xFFFFFFFF) ^^^ 0xFFFFFFFF

/-- CRC-32C advanced over bytes, reflected, from a given value, with no inversion of its own (R305). -/
def crc32cAdvance (c : Nat) (bs : List Byte) : Nat :=
  bs.foldl (fun c b => crcReflByte 0x82F63B78 8 (c ^^^ b.toNat)) c

/-- One byte through CRC-16/CCITT, most significant bit first. -/
def crc16Byte : Nat → Nat → Nat
  | 0, c => c
  | k + 1, c => crc16Byte k (if c ≥ 0x8000 then ((c * 2) ^^^ 0x1021) % 65536 else (c * 2) % 65536)

/-- CRC-16/CCITT-FALSE: polynomial 0x1021, initial value 0xFFFF. -/
def crc16 (bs : List Byte) : Nat := bs.foldl (fun c b => crc16Byte 8 (c ^^^ (b.toNat * 256))) 0xFFFF

/-- Ones'-complement addition of 16-bit words. -/
def ocAdd (a b : Nat) : Nat := let t := a + b; t % 65536 + t / 65536

/-- Number of one bits among the n low bits. -/
def popcount : Nat → Nat → Nat
  | 0, _ => 0
  | n + 1, v => v % 2 + popcount n (v / 2)

/-- The lowest set bit below n, if any. -/
def lowBit? (n v : Nat) : Option Nat := (List.range n).find? (fun i => bit v i)

end Sys2Proof
end

