-- ==== Sys2Proof/Machine/SMap.lean ====
section
/-! DEFINITION. The one sparse table of the model: key and value pairs in one canonical form (keys strictly
rising, no value equal to the default, which is what an unlisted key reads as). Memories, tables, registers
and counters are held in it, so that equal contents are equal data. -/
namespace Sys2Proof

/-- A sparse table. -/
structure SMap (α : Type) where
  cells : List (Nat × α) := []
deriving DecidableEq, Repr, Inhabited

/-- The value at key k, `default` where none is listed. -/
def smapGet {α : Type} [Inhabited α] : List (Nat × α) → Nat → α
  | [], _ => default
  | (j, v) :: r, k => if j = k then v else smapGet r k

/-- The list with key k set to a value that is not the default, keeping keys rising. -/
def smapPut {α : Type} : List (Nat × α) → Nat → α → List (Nat × α)
  | [], k, v => [(k, v)]
  | (j, w) :: r, k, v => if k < j then (k, v) :: (j, w) :: r else if j = k then (k, v) :: r else (j, w) :: smapPut r k v

/-- Reading a sparse table. -/
def SMap.get {α : Type} [Inhabited α] (m : SMap α) (k : Nat) : α := smapGet m.cells k

/-- Writing a sparse table; the default value leaves the key unlisted. -/
def SMap.set {α : Type} [Inhabited α] [DecidableEq α] (m : SMap α) (k : Nat) (v : α) : SMap α :=
  let rest := m.cells.filter (fun c => c.1 != k)
  if v = default then ⟨rest⟩ else ⟨smapPut rest k v⟩

/-- Changing the value at one key. -/
def SMap.upd {α : Type} [Inhabited α] [DecidableEq α] (m : SMap α) (k : Nat) (f : α → α) : SMap α :=
  m.set k (f (m.get k))

/-- The listed keys of a range, rising. -/
def SMap.keysIn {α : Type} (m : SMap α) (lo hi : Nat) : List Nat :=
  (m.cells.map Prod.fst).filter (fun k => lo ≤ k && k < hi)

/-- The listed pairs of a range, rising. -/
def SMap.pairsIn {α : Type} (m : SMap α) (lo hi : Nat) : List (Nat × α) :=
  m.cells.filter (fun c => lo ≤ c.1 && c.1 < hi)

/-- The table without the listed keys of a range. -/
def SMap.clearIn {α : Type} (m : SMap α) (lo hi : Nat) : SMap α :=
  ⟨m.cells.filter (fun c => !(lo ≤ c.1 && c.1 < hi))⟩

/-- The table with only the pairs that meet a test. -/
def SMap.keep {α : Type} (m : SMap α) (p : Nat → α → Bool) : SMap α :=
  ⟨m.cells.filter (fun c => p c.1 c.2)⟩

/-- Every listed value changed. -/
def SMap.mapAll {α : Type} [Inhabited α] [DecidableEq α] (m : SMap α) (f : α → α) : SMap α :=
  ⟨m.cells.filterMap (fun c => if f c.2 = default then none else some (c.1, f c.2))⟩

/-- The canonical form: keys strictly rising, no default value listed. -/
def SMap.wf {α : Type} [Inhabited α] [DecidableEq α] (m : SMap α) : Bool :=
  decide (List.Pairwise (fun a b : Nat × α => a.1 < b.1) m.cells) && m.cells.all (fun c => c.2 != default)

end Sys2Proof
end

