-- ==== Sys2Proof/Machine/StCore.lean ====
section
/-! DEFINITION. The records of the always-on island, the modes, Load, the timebase, security, the host
interface and the fault counts: one plain record per part, each field with the rule that names it. -/
namespace Sys2Proof

/-- The operating modes (R80, R92). -/
inductive Mode where
  | load | service | headless | drain | maintenance | lockdown
deriving DecidableEq, Repr, Inhabited

/-- MGT_MODE.MODE (R92). -/
def Mode.code : Mode → Nat
  | .load => 0 | .service => 1 | .headless => 2 | .drain => 3 | .maintenance => 4 | .lockdown => 5

/-- An event record (R447). -/
structure EventRec where
  st : Word64 := 0
  block : BitVec 4 := 0
  suppressed : Bool := false
  code : Byte := 0
  unit : Word16 := 0
  detail : Word32 := 0
deriving DecidableEq, Repr, Inhabited

/-- A side-band response: SEQ, STATUS and the data (R503). -/
structure SbResp where
  seq : Byte := 0
  status : Byte := 0x07
  data : List Byte := []
deriving DecidableEq, Repr, Inhabited

/-- The always-on island: it survives RESET_N and warm reloads (R57, R452). -/
structure Island where
  /-- Slot i of the event log (R453). -/
  log : SMap EventRec := {}
  /-- MGT_ELOG_TOTAL (R453). -/
  total : Word32 := 0
  /-- Records held, at most 1,024 (R452). -/
  held : Nat := 0
  /-- LOG_WRAPPED was raised since the last end of a Load or cold reset (R451). -/
  wrapped : Bool := false
  /-- SEC_ALARM_LATCH (R473). -/
  latch : BitVec 17 := 0
  /-- SEC_FUSE_STATE.SCORCH_PENDING (R470). -/
  scorchPending : Bool := false
  /-- ALERT_N is driven low (R507). -/
  alert : Bool := false
  /-- The mode in force when RESET_N last fell, as the island last saw it (R452). -/
  lastMode : Option Mode := none
  /-- The standing side-band response (R503). -/
  resp : SbResp := {}
  /-- The side-band request in execution: its SEQ (R503). -/
  busy : Option Byte := none
  /-- SWC_ID.INC as drawn last (R369). -/
  inc : Nat := 0
  /-- A core rail fell while RESET_N was high: every block stays in reset until RESET_N falls (R526). -/
  railHold : Bool := false
  /-- The device is held after a thermal trip until a cool rise of RESET_N (R472). -/
  tripHold : Bool := false
  /-- VDD_AON is below 0.72 V (R526). -/
  aonDown : Bool := false
deriving DecidableEq, Repr, Inhabited

/-- The pins and supplies the commands read or drive (R57, R58, R60, R61, R162, R472, R506, R513). -/
structure Pins where
  resetN : Bool := true
  perstN : Bool := true
  /-- BPOS[2:0] sampled at the last rise of RESET_N (R513). -/
  bpos : Nat := 0
  tknIn : Bool := false
  /-- ST at which BOOT_TKN_IN last changed (R61, R63). -/
  tknInSince : Nat := 0
  tknOut : Bool := false
  /-- ST at which BOOT_TKN_OUT last changed (R61). -/
  tknOutSince : Nat := 0
  /-- The device drives the xSPI pins (R60). -/
  xspiDriven : Bool := false
  /-- THERM_TRIP_N is driven low (R472). -/
  thermTrip : Bool := false
  /-- The alarm sources whose condition holds, whatever the device does (R468, R473). -/
  sources : BitVec 17 := 0
  casMout : Bool := false
  casMin : Bool := false
  /-- Every core rail is on (R506, R523). -/
  coreRails : Bool := true
deriving DecidableEq, Repr, Inhabited

/-- The one-time-programmable memory (R456). -/
structure Otp where
  rootHash : BitVec 256 := 0
  rootLock : Bool := false
  jtagDisable : Bool := false
  kill : Bool := false
  serial : Word64 := 0
  rollback : Word64 := 0
  bootCount : BitVec 1024 := 0
  secret : BitVec 256 := 0
  /-- The 96 delay records of 16 bytes (R422, R423). -/
  hbmFactory : SMap (BitVec 128) := {}
deriving DecidableEq, Repr, Inhabited

/-- MGT_MODE and the timers of the modes (R80 to R92). -/
structure ModeSt where
  mode : Mode := .load
  cause : Nat := 0
  drained : Bool := false
  target : Nat := 0
  /-- ST of entry into Drain (R87). -/
  drainStart : Nat := 0
  /-- ST of the last restart of the watchdog (R82). -/
  hbLast : Nat := 0
  /-- MGT_MODE_CTL.RESULT. -/
  refused : Bool := false
  /-- Maintenance was entered by a failed Load (R90). -/
  loadFailed : Bool := false
deriving DecidableEq, Repr, Inhabited

/-- Where Load stands (R77). -/
inductive LoadPhase where
  | idle | wait | reading | verify | applying
deriving DecidableEq, Repr, Inhabited

/-- Bytes of a given length, zero where none is listed. -/
structure Blob where
  len : Nat := 0
  cells : SMap Byte := {}
deriving DecidableEq, Repr, Inhabited

/-- The loader (R61 to R93). -/
structure Load where
  phase : LoadPhase := .wait
  /-- ST of the entry into Load (R63). -/
  entered : Nat := 0
  /-- The device is done with the flash (R61). -/
  done : Bool := false
  ok : Bool := false
  /-- The last step of R77 reached (R93). -/
  step : Nat := 0
  code : Nat := 0
  sect : Nat := 0xFF
  detail : Nat := 0
  devId : Nat := 0
  flags : Nat := 0
  secVersion : Nat := 0
  buildId : Nat := 0
  /-- The board directory as read since the token was taken, if the flash answered (R61, R65). -/
  dir : Option (List Byte) := none
  /-- COUNT of the board directory (R65, R514). -/
  dirCount : Nat := 0
  /-- The signature, read before the message (R76, R77). -/
  sig : List Byte := []
  /-- The signed message held in the packet buffer (R77), and the image that runs. -/
  image : Blob := {}
  /-- An image is applied (R77). -/
  applied : Bool := false
deriving DecidableEq, Repr, Inhabited

/-- TBE_STATUS.STATE (R40). -/
inductive TbeState where
  | unsync | locked | holdover
deriving DecidableEq, Repr, Inhabited

def TbeState.code : TbeState → Nat
  | .unsync => 0 | .locked => 1 | .holdover => 2

/-- The timebase (R32 to R55). NT x 10^9 is ST - O in LOCKED and HOLDOVER, and 0 in UNSYNC (R38, R40). -/
structure Tbe where
  /-- ST in ns (R38). -/
  st : Nat := 0
  /-- O in ns (R38). -/
  off : Nat := 0
  state : TbeState := .unsync
  refclkLost : Bool := false
  /-- ST of the last accepted edge (R34). -/
  lastEdge : Option Nat := none
  /-- ST of the last accepted pulse with a valid bound message (R40). -/
  lastGood : Nat := 0
  /-- SECONDS of the message bound to the next accepted pulse (R35). -/
  bound : Option Nat := none
  /-- SECONDS and compensated instant of the kept pulse (R555). -/
  kept : Option (Nat × Int) := none
  /-- A labelled pulse was accepted since UNSYNC was entered (R555). -/
  labelled : Bool := false
  /-- SECONDS, label error and phase error of the accepted pulse before, when it was labelled (R41). -/
  prev : Option (Nat × Int × Int) := none
  /-- Increments still to add (positive) or withhold (negative) (R42). -/
  slew : Int := 0
  /-- ST at which the next slew increment is due. -/
  slewDue : Nat := 0
  /-- TBE_PHASE_ERR. -/
  phaseErr : Int := 0
  /-- TBE_LAST_TOD0 to 3. -/
  lastTod : BitVec 128 := 0
  leap : Bool := false
  traceable : Bool := false
  realignRefused : Bool := false
  /-- Snapshot: NT in ns, ST and E (R55). -/
  snapNt : Nat := 0
  snapSt : Nat := 0
  snapE : Nat := 0
  /-- TBE_TOD_BAD counts since the last TOD_INVALID record (R54). -/
  badSince : Nat := 0
  /-- A forward step of ST whose items await discharge (R44): the ST it left. -/
  skip : Option Nat := none
  /-- Indices, not reduced, at the last boundary taken of the epoch and the age quantum (R49). -/
  epochSeen : Nat := 0
  ageSeen : Nat := 0
  /-- The same of telemetry window n. -/
  twinSeen : SMap Nat := {}
  /-- The same of the leak period of fault class k (R439). -/
  leakSeen : SMap Nat := {}
deriving DecidableEq, Repr, Inhabited

/-- SEC_IDENT.STATE (R476). -/
inductive IdentState where
  | none | building | ready | exhausted
deriving DecidableEq, Repr, Inhabited

def IdentState.code : IdentState → Nat
  | .none => 0 | .building => 1 | .ready => 2 | .exhausted => 3

/-- A pending or answered attestation request of a port (R464). -/
structure Attest where
  pending : Bool := false
  req : Dat := 0
  resp : List Byte := []
deriving DecidableEq, Repr, Inhabited

/-- The volatile keys and generator states of R471. -/
structure Keys where
  flow : SMap Nat := {}
  l2 : Nat := 0
  nat : Nat := 0
  evict : Nat := 0
  firstBlock : Nat := 0
deriving DecidableEq, Repr, Inhabited

/-- The security block (R456 to R476). -/
structure Sec where
  /-- SEC_ALARM_STATUS (R468). -/
  status : BitVec 17 := 0
  /-- The grade at which each active source was last answered (R469). -/
  answered : SMap Nat := {}
  /-- ALARM_GRADE of POLICY is in force instead of the floors (R469). -/
  policy : Bool := false
  /-- The DEVICE_SECRET read path is closed (R458). -/
  secretClosed : Bool := false
  /-- A zeroisation runs: the ST of the response (R471). -/
  zeroStart : Option Nat := none
  /-- A KILL burn of a Scorch response runs (R470). -/
  burning : Bool := false
  ident : IdentState := .none
  /-- The top-tree leaf q of this boot (R462). -/
  leaf : Option Nat := none
  /-- The top root has been computed (R467); I with it, of the identity public key (R461). -/
  topRoot : Bool := false
  idKey : List Byte := []
  /-- The attestation working state (R463), each part as one number: the bottom seed, the bottom tree's nodes, and the top signature with
  the bottom public key that it signs. -/
  seed : Nat := 0
  tree : Nat := 0
  topSig : Nat := 0
  sigs : Nat := 0
  /-- ATTEST_EXHAUSTED for signatures was raised this boot (R467). -/
  exhaustedRaised : Bool := false
  /-- Ports with a pending request, in arrival order (R464). -/
  queue : List Nat := []
  attest : SMap Attest := {}
  keys : Keys := {}
  /-- The TRNG's internal state as zeroisation leaves it (R471). -/
  trng : Nat := 0
  /-- What zeroisation has overwritten with zeros still awaits TRNG output (R471). -/
  refill : Bool := false
  /-- The core clocks are gated (R472). -/
  gated : Bool := false
deriving DecidableEq, Repr, Inhabited

/-- A limiter (R449). -/
structure Limiter where
  sec : Nat := 0
  n : Nat := 0
  suppressed : Bool := false
  used : Bool := false
deriving DecidableEq, Repr, Inhabited

/-- Which of a port's two privilege windows wrote START (R480). -/
inductive Window where
  | bar0 | bar4
deriving DecidableEq, Repr, Inhabited

/-- The two outside masters (R508). -/
inductive Master where
  | host | sideband
deriving DecidableEq, Repr, Inhabited

/-- The operation codes of R483. -/
inductive EcpOp where
  | read | write | insert | delete | lookup | modify | readClear | step | flushByMask
deriving DecidableEq, Repr, Inhabited

/-- The result of an operation: RESULT, IDX, CNT and DAT (R482). -/
structure EcpRes where
  result : Nat := 0
  idx : Nat := 0
  cnt : Nat := 0
  dat : Dat := 0
deriving DecidableEq, Repr, Inhabited

/-- What a table operation finds in error in the data it reads: array rows whose parity fails (R169), a flow table read that returns
uncorrectable data, and the cloves of which a FLUSH_BY_MASK reads such data (R232). -/
structure TableSide where
  parity : List Nat := []
  ue : Bool := false
  lost : List Nat := []
deriving DecidableEq, Repr, Inhabited

/-- An entry command port (R481, R482, R512); port 8 is the side-band master's. -/
structure EcpPort where
  op : Nat := 0
  tbl : Nat := 0
  idx : Nat := 0
  cnt : Nat := 0
  dat : Dat := 0
  result : Nat := 0
  busy : Bool := false
  done : Bool := false
  aborted : Bool := false
  /-- The latched operation: none is an operation code that R483 leaves out. -/
  lop : Option EcpOp := none
  ltbl : Nat := 0
  lidx : Nat := 0
  ldat : Dat := 0
  lwin : Window := .bar0
  /-- Which of the stored data that the operation reads are in error (R169, R232). -/
  side : TableSide := {}
  /-- A single-entry operation has committed, with its outcome; or the operation was refused or ended. -/
  outcome : Option EcpRes := none
  /-- An ABORT was taken (R487). -/
  abort : Bool := false
  /-- Next index of a running bulk walk and the entries it changed (R486). -/
  walkPos : Nat := 0
  walkCnt : Nat := 0
  /-- A cascaded search has been asked for, and its result is outstanding (R161). -/
  sent : Bool := false
  /-- Its commit waits: the place in the order in which waiting commits reached their controllers, 0 for none (R485). -/
  waitNo : Nat := 0
deriving DecidableEq, Repr, Inhabited

/-- A conduit (R489 to R495). -/
structure Conduit where
  /-- The word at pointer bits 9:0. -/
  words : SMap Word512 := {}
  wr : Nat := 0
  rd : Nat := 0
  pkts : Nat := 0
  /-- Words of credit taken by a window writer and not yet written (R501). -/
  granted : Nat := 0
  /-- CTL.FLUSH is set and waits for the producer's packet boundary (R494). -/
  flush : Bool := false
  /-- The producer stands inside a packet: words written of it. -/
  inPkt : Nat := 0
  /-- The courier skips inject entries up to the next START (R494). -/
  skipToStart : Bool := false
  /-- The consumer stands inside a packet: the courier has moved part of it (R58). -/
  partMoved : Bool := false
  /-- The word-window latches of the two masters (R501). -/
  latchHost : Word512 := 0
  latchSb : Word512 := 0
deriving DecidableEq, Repr, Inhabited

/-- A host ring (R498, R512). -/
structure Ring where
  base : Word64 := 0
  wb : Word64 := 0
  enable : Bool := false
  courier : Bool := false
  sizeLog2 : Nat := 0
  irqThresh : Nat := 0
  irqUs : Nat := 0
  hostIdx : Word32 := 0
  devIdx : Word32 := 0
  /-- END words written since ENABLE (R499). -/
  ends : Word32 := 0
  /-- Entries since the last message, and ST of the first of them (R500). -/
  since : Nat := 0
  firstAt : Option Nat := none
deriving DecidableEq, Repr, Inhabited

/-- An MSI-X table entry of PCI Express: message address, data and vector mask. -/
structure MsixEntry where
  addrLo : Word32 := 0
  addrHi : Word32 := 0
  data : Word32 := 0
  unmasked : Bool := false
  pend : Bool := false
deriving DecidableEq, Repr, Inhabited

/-- A fault unit's leaky-bucket count (R438, R454). -/
structure FltCount where
  count : Nat := 0
  peak : Nat := 0
  retired : Bool := false
  refused : Bool := false
deriving DecidableEq, Repr, Inhabited

/-- The counter-read shadow of a master (R508): the counter last read low, and its high word. -/
structure CntShadow where
  last : Option Nat := none
  hi : Word32 := 0
deriving DecidableEq, Repr, Inhabited

/-- What the device puts on its outputs while it runs one command. -/
inductive Out where
  /-- A frame on line port p, with its FCS, and whether the FCS was stomped (R98, R355). -/
  | frame (port : Nat) (bytes : List Byte) (stomped : Bool)
  /-- Line port p begins or ends to send the Remote Fault sequence (R100). -/
  | remoteFault (port : Nat) (on : Bool)
  /-- A posted memory write of the endpoint (R499). -/
  | memWrite (addr : Nat) (bytes : List Byte)
  /-- An MSI-X message (R500). -/
  | msix (vector : Nat)
  /-- Data returned to a master's register or window read. -/
  | readData (value : Nat)
  /-- The endpoint answered Unsupported Request (R478). -/
  | unsupported
  /-- The bytes of a Block Read response: the byte count, SEQ, STATUS, the data and PEC (R503). -/
  | smbResp (bytes : List Byte)
  /-- The port did not acknowledge (R503). -/
  | smbNack
  /-- The address answered to the Alert Response Address, with PEC (R502, R518). -/
  | smbAddr (bytes : List Byte)
  /-- A 256-byte cell on Malmin lane l (R359). -/
  | cell (lane : Nat) (bytes : List Byte)
  /-- A frame on the Runner ring (R161). -/
  | ring (frame : List Byte)
  /-- A command on the xSPI pins (R61, R66): in 8D-8D-8D form or 1S-1S-1S, the clock in MHz where the spec gives one, the bytes
  sent, dummy cycles, and the bytes read. -/
  | xspi (octal : Bool) (mhz : Option Nat) (sent : List Byte) (dummy count : Nat)
  /-- A TDO result of the debug port. -/
  | jtag (instr : Nat)
deriving DecidableEq, Repr

end Sys2Proof
end

