-- ==== Sys2Proof/Machine/Parse.lean ====
section
/-! DEFINITION. The parse graph (R108 to R116): the walk over node records, the parse result, and the
wire-bit fields that the parser, the classifier and forwarding read. -/
namespace Sys2Proof

/-- A PGRAPH node record (R110). -/
abbrev NodeRec := BitVec 2048

/-- The parse result (R116): headers are pairs of type and offset, outermost first. -/
structure ParseRes where
  outcome : Nat := 0
  reason : Nat := 0
  hdrs : List (Nat × Nat) := []
  faultNode : Nat := 0xFF
  payloadOff : Nat := 0
  declEnd : Nat := 0
deriving DecidableEq, Repr, Inhabited

/-- The integer formed by wire bits [bitOff, bitOff + width) counted from byte `start` (R109). -/
def wireField (bs : List Byte) (start bitOff width : Nat) : Nat :=
  let first := start + bitOff / 8
  let last := start + cdiv (bitOff + width) 8
  let v := beVal (padTo (last - first) (slice bs first (last - first)))
  (v >>> (8 * (last - start) - bitOff - width)) % 2 ^ width

/-- The 16-bit ones'-complement sum over bytes, an odd last byte taken as the high half. -/
def onesSum : List Byte → Nat
  | [] => 0
  | [a] => a.toNat * 256
  | a :: b :: r => ocAdd (a.toNat * 256 + b.toNat) (onesSum r)

/-- The first result of a list of tests. -/
def firstSome {α : Type} : List (Option α) → Option α
  | [] => none
  | some a :: _ => some a
  | none :: r => firstSome r

/-- A test that ends the walk with outcome and reason. -/
def failIf (c : Bool) (o r : Nat) : Option (Nat × Nat) := if c then some (o, r) else none

/-- `need(x)` of R112. -/
def parseNeed (frameEnd declEnd : Nat) (declared : Bool) (x : Nat) : Option (Nat × Nat) :=
  firstSome [failIf (declared && declEnd < x) 2 8, failIf (frameEnd < x) 3 0, failIf (512 < x) 1 2]

/-- Transition k of a node, as VALUE, MASK, NEXT, ACT and REASON (R110). -/
def nodeTrans (d : NodeRec) (k : Nat) : Nat × Nat × Nat × Nat × Nat :=
  let o := 64 + 12 * k
  (datU d o 4, datU d (o + 4) 4, datU d (o + 8) 1, datU d (o + 9) 1, datU d (o + 10) 1)

/-- The action of a node on its select field: ACT (1 go to a node, 2 end OK, 3 MALFORMED), the node and the
reason (R113). -/
def nodeAct (d : NodeRec) (sel : Nat) : Nat × Nat × Nat :=
  let hit := (List.range 16).find? (fun k =>
    let t := nodeTrans d k
    t.2.2.2.1 != 0 && decide ((sel &&& t.2.1) = (t.1 &&& t.2.1)))
  match (if datU d 12 1 = 0 then none else hit) with
  | some k => let t := nodeTrans d k; (t.2.2.2.1, t.2.2.1, t.2.2.2.2)
  | none =>
    match datU d 3 1 with
    | 0 => (1, datU d 4 1, 0)
    | 1 => (2, 0, 0)
    | _ => (3, 0, datU d 5 1)

/-- The walk of R112; the first argument is how many headers may still be pushed. A node number beyond the last graph record, which
RECIRC_NODE or VARG can name, reads as a record of zeros (R135; DESIGN CHOICE). -/
def parseGo (nodes : SMap NodeRec) (bs : List Byte) :
    Nat → Nat → Nat → List (Nat × Nat) → Nat → Bool → ParseRes
  | 0, start, node, hdrs, declEnd, _ =>
    { outcome := 1, reason := 1, hdrs, faultNode := node, payloadOff := start, declEnd }
  | fuel + 1, start, node, hdrs, declEnd, declared =>
    let d := nodes.get node
    let need := parseNeed bs.length declEnd declared
    let minLen := datU d 6 2
    let selW := datU d 12 1
    let advF := datB d 2 0 1 = 1
    let lenC := datB d 2 2 1 = 1
    let adv := if advF then wireField bs start (datU d 22 2) (datU d 24 1) * datU d 25 1 + datU d 20 2
               else datU d 20 2
    let total := wireField bs start (datU d 26 2) (datU d 28 1) * datU d 29 1 + datU d 30 2
    let bad := firstSome [
      need (start + minLen),
      if selW > 0 then need (start + cdiv (datU d 10 2 + selW) 8) else none,
      if advF then need (start + cdiv (datU d 22 2 + datU d 24 1) 8) else none,
      failIf (adv < minLen) 2 2,
      failIf (datU d 8 2 < adv) 2 3,
      need (start + adv),
      failIf (datB d 2 1 1 = 1 && onesSum (slice bs start adv) != 0xFFFF) 2 6,
      if lenC then need (start + cdiv (datU d 26 2 + datU d 28 1) 8) else none,
      failIf (lenC && total < adv) 2 4,
      failIf (lenC && declEnd < start + total) 2 (if declared then 7 else 1)]
    match bad with
    | some (o, r) => { outcome := o, reason := r, hdrs, faultNode := node, payloadOff := start, declEnd }
    | none =>
      let declEnd' := if lenC then start + total else declEnd
      let hdrs' := hdrs ++ [(datU d 1 1, start)]
      let sel := wireField bs start (datU d 10 2) selW &&& datU d 16 4
      match nodeAct d sel with
      | (1, nxt, _) => parseGo nodes bs fuel (start + adv) nxt hdrs' declEnd' (declared || lenC)
      | (2, _, _) => { outcome := 0, hdrs := hdrs', payloadOff := start + adv, declEnd := declEnd' }
      | (_, _, rs) => { outcome := 2, reason := rs, hdrs := hdrs', faultNode := node,
                        payloadOff := start + adv, declEnd := declEnd' }

/-- The parse of a frame without its FCS from a start node (R108, R112). -/
def parseFrame (nodes : SMap NodeRec) (startNode : Nat) (bs : List Byte) : ParseRes :=
  parseGo nodes bs 24 0 startNode [] bs.length false

/-- The 80-byte parse result (R116). -/
def parseBytes (r : ParseRes) : List Byte :=
  padTo 80 (leBytes 1 r.outcome ++ leBytes 1 r.reason ++ leBytes 1 r.hdrs.length ++ leBytes 1 r.faultNode ++
    leBytes 2 r.payloadOff ++ leBytes 2 r.declEnd ++
    (r.hdrs.map (fun h => leBytes 1 h.1 ++ leBytes 2 h.2)).flatten)

/-- The (n + 1)th header of a type, counted from the outermost or from the innermost (R123). -/
def findHdr (r : ParseRes) (ty n : Nat) (inner : Bool) : Option Nat :=
  let l := r.hdrs.filter (fun h => h.1 == ty)
  ((if inner then l.reverse else l)[n]?).map Prod.snd

/-- A field of a header, when its last bit lies within the frame and the first 512 bytes (R123). -/
def hdrField (r : ParseRes) (bs : List Byte) (ty n : Nat) (inner : Bool) (off width : Nat) : Option Nat :=
  match findHdr r ty n inner with
  | none => none
  | some st =>
    let e := 8 * st + off + width
    if e ≤ 8 * bs.length ∧ e ≤ 4096 then some (wireField bs st off width) else none

/-- Whether a node record keeps the ranges of R110 and R111 for a graph of `n` nodes. -/
def nodeOk (d : NodeRec) (pos n : Nat) : Bool :=
  let minLen := datU d 6 2
  let maxLen := datU d 8 2
  let selW := datU d 12 1
  let advF := datB d 2 0 1 = 1
  let lenC := datB d 2 2 1 = 1
  let transOk := fun k =>
    let t := nodeTrans d k
    let act := t.2.2.2.1
    act ≤ 3 && (act != 1 || t.2.2.1 < n) && (act != 3 || (0x10 ≤ t.2.2.2.2 && t.2.2.2.2 ≤ 0x1F)) &&
      datU d (64 + 12 * k + 11) 1 == 0
  datU d 0 1 == pos && datB d 2 3 5 == 0 && datU d 3 1 ≤ 2 &&
    (datU d 3 1 != 0 || datU d 4 1 < n) &&
    (datU d 3 1 != 2 || datU d 5 1 == 5 || (0x10 ≤ datU d 5 1 && datU d 5 1 ≤ 0x1F)) &&
    1 ≤ minLen && minLen ≤ 512 && minLen ≤ maxLen && maxLen ≤ 512 &&
    selW ≤ 32 && (selW == 0 || datU d 10 2 + selW ≤ 4096) &&
    (if advF then 1 ≤ datU d 24 1 && datU d 24 1 ≤ 16 && 1 ≤ datU d 25 1 && datU d 22 2 + datU d 24 1 ≤ 4096
     else minLen ≤ datU d 20 2 && datU d 20 2 ≤ maxLen) &&
    (!lenC || (1 ≤ datU d 28 1 && datU d 28 1 ≤ 16 && 1 ≤ datU d 29 1 && datU d 26 2 + datU d 28 1 ≤ 4096)) &&
    datU d 13 3 == 0 && datU d 32 32 == 0 && (List.range 16).all transOk

end Sys2Proof
end

