-- ==== Sys2Proof/Machine/StPkt.lean ====
section
/-! DEFINITION. A packet as it travels through the blocks, a thread of an action engine, and the engines' own state
(R283 to R321). -/
namespace Sys2Proof

/-- A packet: its frame without FCS and what the stages have recorded about it (R180, R290, R361). -/
structure Pkt where
  bytes : List Byte := []
  /-- Ingress line port. -/
  inPort : Nat := 0
  /-- Internal port of the switch core through which it entered (R324). -/
  inp : Nat := 0
  /-- It arrived from the fabric. -/
  fabric : Bool := false
  originDev : Nat := 0
  originPort : Nat := 0
  epoch : Nat := 0
  pass : Nat := 0
  /-- Start node of its next or current pass (R108, R135). -/
  node : Nat := 0
  parse : ParseRes := {}
  /-- Class, colour and queue (R131). -/
  cls : Nat := 0
  colour : Nat := 0
  queue : Nat := 0
  /-- RECIRC of the classifier action, with its node (R130). -/
  recirc : Option Nat := none
  noFlow : Bool := false
  flowProfile : Nat := 0
  nexthop : Nat := 0
  dev : Nat := 0
  port : Nat := 0
  natOwner : Bool := false
  subscriber : Nat := 0
  rewrite : Nat := 0
  aux : Nat := 0
  context : Nat := 0
  bridged : Bool := false
  egrProfile : Option Nat := none
  skipEgr : Bool := false
  /-- Ingress clove: partition and index, with its GEN (R361). -/
  clove : Option (Nat × Nat) := none
  gen : Nat := 0
  /-- The ingress clove counted the packet (R215). -/
  counted : Bool := false
  /-- Clove whose counts the egress lookup charged (R357). -/
  egrClove : Option (Nat × Nat) := none
  egrGen : Nat := 0
  /-- An ingress program of this device translated it for NAT64 (R257). -/
  nat64 : Bool := false
  stEntry : Nat := 0
  /-- A fault found at the tail of a cut-through packet (R97, R357). -/
  bad : Bool := false
  /-- It is moved cut-through (R326). -/
  cut : Bool := false
  /-- Its tail was still arriving from the fabric when it went on (R354, R356): the number of the record of that tail. -/
  tail : Option Nat := none
deriving DecidableEq, Repr, Inhabited

/-- The live micro-state of a thread (R288): 160 bytes of R310. -/
structure Live where
  m : SMap Word64 := {}
  z : Bool := false
  c : Bool := false
  n : Bool := false
  v : Bool := false
  ok : Bool := false
  epw : Bool := false
  /-- WD_FIRED (R314). -/
  wd : Bool := false
  upc : Nat := 0
  fipc : Nat := 0
  fi : Word32 := 0
  budget : Nat := 0
deriving DecidableEq, Repr, Inhabited

/-- What a thread waits for (R308). -/
inductive ThWait where
  /-- No run: the thread is free. -/
  | free
  /-- CLOVE_MISS before the program starts. -/
  | miss
  /-- LOCK before the program starts. -/
  | lock
  /-- FAR_WAIT. -/
  | far
  /-- Ready to issue. -/
  | ready
  /-- The run has ended; the packet waits to leave in order (R303). -/
  | ended
deriving DecidableEq, Repr, Inhabited

/-- A far operation of a thread (R309): function, arguments, destination register and, once the owner has
answered, the result code and block. -/
structure FarOp where
  fn : Nat := 0
  a : Word64 := 0
  b : Word64 := 0
  dest : Nat := 0
  /-- Result code (R298) and the block written at scratch 128, with its length. -/
  answer : Option (Nat × Nat × Dat) := none
  /-- The operation has no defined result: its HBM data is uncorrectable (R308). -/
  ue : Bool := false
deriving DecidableEq, Repr, Inhabited

/-- The TCP segment of a packet as it entered its run (R270, R271): its flags, sequence and acknowledgement numbers, window, length with
SYN and FIN counted, and the shift of a window scale option. -/
structure TcpSeg where
  syn : Bool := false
  fin : Bool := false
  rst : Bool := false
  ackFlag : Bool := false
  seq : Nat := 0
  ack : Nat := 0
  win : Nat := 0
  len : Nat := 0
  scale : Option Nat := none
deriving DecidableEq, Repr, Inhabited

/-- A thread context (R283, R288 to R292, R310). -/
structure Thread where
  wait : ThWait := .free
  egress : Bool := false
  /-- The program has started. -/
  started : Bool := false
  /-- Place in the order in which packets entered FSE (R303). -/
  order : Nat := 0
  pkt : Pkt := {}
  live : Live := {}
  save : Live := {}
  tm : Bool := false
  cause : Nat := 0
  /-- PENDING bits 3:0 (R310). -/
  pending : BitVec 4 := 0
  trapUsed : Nat := 0
  /-- Value of m15 for a pending EPOCH: the latest E (R312). -/
  epochE : Nat := 0
  scratch : BitVec 2048 := 0
  desc : BitVec 2048 := 0
  pushed : Nat := 0
  pulled : Nat := 0
  far : Option FarOp := none
  /-- Mapping index and GEN of every MAP that returned OK (R302). -/
  maps : List (Nat × Nat) := []
  /-- The clove of the run in the cluster's partition; none is NOCLOVE. -/
  clove : Option Nat := none
  shared : Bool := false
  /-- The lookup's key, profile and hash (R217). -/
  key : BitVec 384 := 0
  keyed : Bool := false
  profile : Nat := 0
  /-- The profile's entry of table 0x24 as it stood when the lookup began (R207), and the clove's of table 0x26 when the program
  began (R239). -/
  prof : Dat := 0
  sp : Dat := 0
  /-- Entries of table 0x24 that have been written since the lookup began and before its lock, as they stood then (R207). -/
  profs : List (Nat × Dat) := []
  /-- An ageing delete took the clove whose bucket the lookup had read, or for whose line it waited (R231, R238). -/
  raced : Bool := false
  hash : Nat := 0
  learned : Bool := false
  seg : Option TcpSeg := none
  /-- Verdict and argument with which the run ended (R301). -/
  verdict : Nat := 0
  varg : Nat := 0
deriving DecidableEq, Repr, Inhabited

/-- A self-test of a unit: the unit, whether it runs, and the RESULT field. -/
structure TestSt where
  unit : Nat := 0
  busy : Bool := false
  result : Nat := 0
deriving DecidableEq, Repr, Inhabited

/-- The action engines (R283 to R321). -/
structure EngSt where
  /-- Thread t of engine e of cluster c at key 1024 c + 64 e + t. -/
  th : SMap Thread := {}
  /-- Microwords of the control store (R307). -/
  cstore : SMap Word32 := {}
  /-- DISPATCH[opcode]; none is 0xFFFF (R306). -/
  disp : SMap (Option Nat) := {}
  /-- Next place in FSE entry order. -/
  nextOrder : Nat := 0
  /-- The accepted pre-emption: thread, request word, and whether it has been taken (R310, R315). -/
  pre : Option (Nat × Nat × Bool) := none
  preResult : Nat := 0
  /-- ENG_SNAP0 to 39 (R315). -/
  snap : BitVec 1280 := 0
  retired : BitVec 64 := 0
  /-- Engines whose count crossed and that still hold runs (R318). -/
  retiring : BitVec 64 := 0
  test : TestSt := {}
deriving DecidableEq, Repr, Inhabited

end Sys2Proof
end

