-- ==== Sys2Proof/Machine/StBuf.lean ====
section
/-! DEFINITION. The records of the packet buffer and the buffer pools (R322 to R346). -/
namespace Sys2Proof

/-- Where a queued packet lies (R323, R327, R328). -/
inductive Tier where
  | chip
  /-- In the HBM buffer at this address. -/
  | spilled (addr : Nat)
  /-- Read back into on-chip cells of the return reserve. -/
  | returned
deriving DecidableEq, Repr, Inhabited

/-- A packet in a virtual output queue or a leaf queue (R322 to R328). -/
structure QItem where
  pkt : Pkt := {}
  /-- Cells it takes on chip. -/
  cells : Nat := 0
  /-- Internal port charged (R324). -/
  inp : Nat := 0
  cls : Nat := 0
  tier : Tier := .chip
  /-- ST at linking (R342). -/
  stIn : Nat := 0
deriving DecidableEq, Repr, Inhabited

/-- A queue (R323, R341). -/
structure PQueue where
  items : List QItem := []
  chainGen : Nat := 0
deriving DecidableEq, Repr, Inhabited

/-- A store-and-forward packet whose last byte has arrived and that awaits its placement (R325, R327). -/
structure Staged where
  pkt : Pkt := {}
  leaf : Bool := false
  queue : Nat := 0
  inp : Nat := 0
  cls : Nat := 0
  cells : Nat := 0
deriving DecidableEq, Repr, Inhabited

/-- A buffer request that a pool has not answered (R331, R335). -/
structure BufReq where
  client : Nat := 0
  item : Staged := {}
  /-- The request was passed on by the next smaller pool (R331). -/
  borrowed : Bool := false
  /-- It waited for a refill, and the wait has been counted (R333). -/
  waited : Bool := false
deriving DecidableEq, Repr, Inhabited

/-- An HBM buffer: its allocation bit and its 64-byte header (R333, R342). -/
structure BufHdr where
  alloc : Bool := false
  hdr : Word512 := 0
  /-- A sweep could not read its header: it stays allocated until the next Load (R341). -/
  leaked : Bool := false
  /-- It was freed after its channel had been retired and before BPM finished withdrawing (R340): BPM_POOL_WD counts it already. -/
  out : Bool := false
deriving DecidableEq, Repr, Inhabited

/-- A pool's free store (R333), as runs of first index and length. -/
structure Pool where
  cache : List (Nat × Nat) := []
  ring : List (Nat × Nat) := []
  /-- Client granted last (R335). -/
  last : Nat := 15
  reqs : List BufReq := []
  /-- Withdrawn buffers (R340). -/
  wd : Nat := 0
deriving DecidableEq, Repr, Inhabited

/-- A reclaim sweep (R341). -/
structure Sweep where
  client : Nat := 0
  leaf : Bool := false
  queue : Nat := 0
  gen : Nat := 0
deriving DecidableEq, Repr, Inhabited

/-- PBF and BPM (R322 to R346). -/
structure BufSt where
  /-- Virtual output queues: 8 D + c, and 4,096 + 8 i + c for the four of the device's own ID (R351). -/
  voq : SMap PQueue := {}
  /-- Leaf queues (R380). -/
  leaf : SMap PQueue := {}
  staged : List Staged := []
  /-- Cells charged to internal port p and class c, at 8 p + c (R324). -/
  used : SMap Nat := {}
  /-- Staging cells of internal port p (R325). -/
  stage : SMap Nat := {}
  /-- Cells held by returned packets (R328). -/
  retCells : Nat := 0
  pools : SMap Pool := {}
  /-- Buffers by global index (R332). -/
  bufs : SMap BufHdr := {}
  /-- Pseudo-channels whose buffers BPM has withdrawn (R340). -/
  wdPcs : BitVec 96 := 0
  sweeps : List Sweep := []
  /-- BPM_LAST_REJECT, and the address with the pool of BPM_LAST_REJECT_ADDR (R336). -/
  lastReject : Word32 := 0
  lastRejLo : Word32 := 0
  lastRejHi : Word32 := 0
deriving DecidableEq, Repr, Inhabited

end Sys2Proof
end

