-- ==== Sys2Proof/Machine/StFab.lean ====
section
/-! DEFINITION. The records of the switch core, the Malmin lanes and the peers (R347 to R378), and of the traffic
manager (R379 to R396). -/
namespace Sys2Proof

/-- TYPE of a cell (R359). -/
inductive CellType where
  | idle | bulk | express | peer | link
deriving DecidableEq, Repr, Inhabited

def CellType.code : CellType → Nat
  | .idle => 0 | .bulk => 1 | .express => 2 | .peer => 3 | .link => 4

/-- A cell (R359); its CRC is computed when it is sent. -/
structure Cell where
  type : CellType := .idle
  poison : Bool := false
  lseq : Nat := 0
  len : Nat := 0
  fpo : Nat := 0xFF
  dst : Nat := 0
  cls : Nat := 0
  fin : Bool := false
  src : Nat := 0
  pgen : Nat := 0
  inc : Nat := 0
  seq : Nat := 0
  payload : List Byte := []
deriving DecidableEq, Repr, Inhabited

/-- A Malmin lane (R358 to R366, R372). -/
structure Lane where
  up : Bool := false
  retired : Bool := false
  miswired : Bool := false
  /-- The lane trains; ST of the last training attempt (R363). -/
  training : Bool := false
  trainAt : Nat := 0
  /-- FEC and cell lock, and ST since which it is lost (R366). -/
  lock : Bool := false
  lockLost : Option Nat := none
  /-- LSEQ of the next numbered cell sent. -/
  txSeq : Nat := 0
  /-- Numbered cells not yet acknowledged, oldest first (R365). -/
  kept : List Cell := []
  /-- Kept cells still to be resent of a replay in progress. -/
  replay : List Cell := []
  /-- How often the kept cell of each LSEQ has been replayed (R366). -/
  replays : SMap Nat := {}
  /-- ST at which ACK last advanced, or a cell was first kept (R366). -/
  ackAt : Nat := 0
  /-- LSEQ expected next, and whether a numbered cell was accepted since the lane came up (R365). -/
  rxSeq : Nat := 0
  rxAny : Bool := false
  /-- A gap lasts: ST of the last NAK (R365). -/
  gap : Option Nat := none
  /-- ST of the last LINK cell sent (R363); a LINK cell or a NAK is due (R364). -/
  linkAt : Nat := 0
  linkDue : Bool := false
  nakDue : Bool := false
  /-- ST of the last cell with a passing CRC (R371). -/
  heard : Nat := 0
  /-- The peer is a fabric element: its last REACH and ST of it (R372). -/
  reach : BitVec 512 := 0
  reachAt : Option Nat := none
deriving DecidableEq, Repr, Inhabited

/-- A peer's state (R369). -/
inductive PeerState where
  | new | joining | alive | dead
deriving DecidableEq, Repr, Inhabited

def PeerState.code : PeerState → Nat
  | .new => 0 | .joining => 1 | .alive => 2 | .dead => 3

/-- How the tail of a cut-through packet from the fabric stands (R356, R357): none is wanted any more, it arrives, it is whole, it
ended with POISON, or its rest will not come. -/
inductive TailState where
  | gone | arriving | whole | poisoned | lost
deriving DecidableEq, Repr, Inhabited

/-- The tail of a cut-through packet that went on while it was still arriving from the fabric (R354, R356). -/
structure TailSt where
  state : TailState := .gone
  /-- Bytes that have arrived since the packet went on. -/
  rest : List Byte := []
  /-- Fabric input, and the packet's staging cells there that the core has not moved yet (R325, R349). -/
  inp : Nat := 0
  held : Nat := 0
  cls : Nat := 0
  /-- A queue has linked the packet cut-through: what comes of it lies in the cells that it reserved (R326). -/
  linked : Bool := false
  /-- Cells of the reservation that it keeps after it has left its queue, until its tail, and the class they are charged to (R326). -/
  resv : Nat := 0
  resvCls : Nat := 0
deriving DecidableEq, Repr, Inhabited

/-- A cell that arrived early (R374): its fabric group, and ST of its arrival. One that found no room in staging is lost (R325), and
only shows that cells are missing. -/
structure EarlyCell where
  grp : Nat := 0
  cell : Cell := {}
  at_ : Nat := 0
  lost : Bool := false
deriving DecidableEq, Repr, Inhabited

/-- Cells of a stream under reassembly (R360, R374). -/
structure RxStream where
  /-- Next SEQ expected. -/
  seq : Nat := 0
  early : List EarlyCell := []
  /-- Bytes of the packet in assembly, descriptor and frame, while it has not gone on. -/
  part : List Byte := []
  /-- Frame bytes of that packet that have arrived, and the fabric group of its first cell. -/
  got : Nat := 0
  grp : Nat := 0
  /-- The packet in assembly has gone on, or is dropped (R325, R356): the record of its tail, and the bytes still to come, 0 for a
  packet that ends at END. -/
  tail : Option Nat := none
  need : Nat := 0
  /-- Cells are discarded until one with a packet start arrives. -/
  skip : Bool := false
deriving DecidableEq, Repr, Inhabited

/-- A packet being sent in a stream (R360): bytes of descriptor and frame still to send. -/
structure TxPkt where
  /-- Fabric transmit group that moves it; 6 is any group, for EXPRESS. -/
  group : Nat := 0
  bytes : List Byte := []
  /-- None of it has been sent. -/
  fresh : Bool := true
  /-- It carries LEN 0 and ends with END. -/
  cut : Bool := false
  /-- It ends with POISON. -/
  poison : Bool := false
  /-- The class that its cells carry (R359, R400). -/
  cls : Nat := 0
deriving DecidableEq, Repr, Inhabited

/-- A sending stream (R360). -/
structure TxStream where
  seq : Nat := 0
  pkts : List TxPkt := []
deriving DecidableEq, Repr, Inhabited

/-- A peer as the device records it (R367 to R374, R377). -/
structure Peer where
  state : PeerState := .new
  pgen : Nat := 0
  inc : Nat := 0
  /-- floor(ST / 10^6) at the last state change. -/
  change : Nat := 0
  /-- PGEN proposed in the JOIN sent last, and ST of it. -/
  proposed : Nat := 0
  joinAt : Nat := 0
  /-- ST of the last PEER_JOINED (R373). -/
  joinedAt : Option Nat := none
  /-- ST of the last RESYNC answered (R370). -/
  resyncAt : Option Nat := none
  /-- ST of the last cell or REACH that shows it (R371). -/
  seenAt : Nat := 0
  /-- Credit balance of class c (R367). -/
  credit : SMap Nat := {}
  /-- Backlog last reported to it, and ST of the report, by class (R368). -/
  reported : SMap Nat := {}
  reportAt : SMap Nat := {}
  /-- Credits outstanding to it, and backlog it has reported, by class (R368). -/
  granted : SMap Nat := {}
  backlog : SMap Nat := {}
  /-- BULK streams by class; the EXPRESS stream is number 8. -/
  tx : SMap TxStream := {}
  rx : SMap RxStream := {}
  /-- PEER cells waiting to be sent (R364). -/
  outq : List Cell := []
deriving DecidableEq, Repr, Inhabited

/-- A punt on its way to its conduit (R347, R496). -/
structure PuntItem where
  conduit : Nat := 0
  source : Nat := 0
  pkt : Pkt := {}
deriving DecidableEq, Repr, Inhabited

/-- A matched pair and what it moves (R349). The packet stays at the head of its queue until its last cell has moved. -/
structure Xfer where
  inp : Nat := 0
  outp : Nat := 0
  /-- Cells still to move. -/
  left : Nat := 0
  /-- Credits taken at its start (R367). -/
  cred : Nat := 0
  /-- It moves a packet whose tail is still arriving: the record of that tail (R349). -/
  tail : Option Nat := none
  /-- The queue whose head it moves: a virtual output queue's key, or 10,000 punts, 10,001 receive queue, 10,016 + c
  inject conduit, 10,040 + i recirculation queue. -/
  queue : Nat := 0
deriving DecidableEq, Repr, Inhabited

/-- The switch core (R347 to R378). -/
structure SwcSt where
  grantPtr : SMap Nat := {}
  acceptPtr : SMap Nat := {}
  /-- Round-robin place of an input among the queues of class c for output o: key 1,024 inp + 16 o + c (R350). -/
  rr : SMap Nat := {}
  xfers : List Xfer := []
  /-- Punts waiting at input i. -/
  punts : SMap (List PuntItem) := {}
  /-- Recirculation queue of pipeline i (R323), and passes at its recirculation input (R17). -/
  recirc : SMap (List Pkt) := {}
  reentry : SMap (List Pkt) := {}
  /-- Line packets at the entry of ingress pipeline i. -/
  line : SMap (List Pkt) := {}
  /-- Receive queue of fabric group g for egress pipeline j: key 4 g + j (R353). -/
  rxq : SMap (List Pkt) := {}
  /-- Packets ahead of egress pipeline j (R284). -/
  egq : SMap (List Pkt) := {}
  lanes : SMap Lane := {}
  /-- Tails of packets that went on while they were arriving, and the number of the next (R356). -/
  tails : SMap TailSt := {}
  nextTail : Nat := 0
  /-- Round-robin place of group g among its streams, and among its lanes for device D at key 8 D + g (R372). -/
  laneRr : SMap Nat := {}
  laneTurn : SMap Nat := {}
  peers : SMap Peer := {}
  /-- SWC_ID.INC (R369). -/
  inc : Nat := 0
  /-- Grant round robin of the sources of class c, and of the classes (R368). -/
  srcRr : SMap Nat := {}
  clsRr : Nat := 0
  clsUsed : Nat := 0
deriving DecidableEq, Repr, Inhabited

/-- The buckets of a node, with the fractions of a byte held (R385). -/
structure NodeSt where
  tc : Int := 0
  tp : Int := 0
  fracC : Nat := 0
  fracP : Nat := 0
  last : Nat := 0
  gen : Nat := 0
  /-- A committed or a peak entry is pending (R387). -/
  pendC : Bool := false
  pendP : Bool := false
deriving DecidableEq, Repr, Inhabited

/-- A wheel entry (R51, R387, R389). -/
structure WheelEnt where
  /-- ST at which it is due. -/
  due : Nat := 0
  /-- ST of the slot in which it fires. -/
  slot : Nat := 0
  /-- Index of its node in TM_SHAPER_STATE. -/
  node : Nat := 0
  peak : Bool := false
  gen : Nat := 0
  /-- It waits in the coarse wheel, with its laps. -/
  coarse : Bool := false
  laps : Nat := 0
  /-- Coarse period of its insertion. -/
  ins : Nat := 0
deriving DecidableEq, Repr, Inhabited

/-- The traffic manager (R379 to R396). -/
structure TmsSt where
  nodes : SMap NodeSt := {}
  wheel : List WheelEnt := []
  /-- Coarse period whose slot was visited last (R51). -/
  coarseSeen : Nat := 0
  /-- Deficits: leaf queues at 8 s + k, subscribers at 524,288 + 2 s + band, services at 655,360 + 2 v + band. -/
  deficit : SMap Int := {}
  /-- Round-robin pointers: subscribers at s, services at 65,536 + 2 v + band, ports at 73,728 + 2 p + band; and the
  child whose turn has already received its quantum, plus 1, at the same key. -/
  ptr : SMap Nat := {}
  turn : SMap Nat := {}
  /-- Transmit FIFO of port p, and its express queue (R22, R393). -/
  fifo : SMap (List Pkt) := {}
deriving DecidableEq, Repr, Inhabited

end Sys2Proof
end

