-- ==== Sys2Proof/Machine/StPod.lean ====
section
/-! DEFINITION. The records of the Pod (R397 to R419) and of the HBM controllers (R420 to R437). -/
namespace Sys2Proof

/-- A Pod lane (R404 to R413). -/
structure PodLane where
  retired : Bool := false
  /-- It was put out by FORCE_OUT or strikes and its retirement is due at the next gap, with the cause. -/
  retiring : Option Nat := none
  /-- Its role in the comparator's table: 0, 1 duty, 2 reserve, 3 none. -/
  role : Nat := 3
  /-- GEN and SLOT with which the comparator last loaded it (R411). -/
  gen : Nat := 0
  slot : Nat := 3
  /-- ST of its last three strikes, newest first (R407). -/
  strikes : List Nat := []
  health : Nat := 255
  /-- Clean passes since its last failed one (R410). -/
  clean : Nat := 0
  retiredAt : Nat := 0
  lastFail : Nat := 0
  /-- Its copies of tables 0x50 and 0x51 (R399). -/
  ent : SMap Word32 := {}
  rew : SMap (BitVec 128) := {}
deriving DecidableEq, Repr, Inhabited

/-- A 64-byte forwarding descriptor (R404). -/
abbrev PodDesc := Word512

/-- An admitted express frame before its decision (R397, R405, R406). -/
structure PodFrame where
  fseq : Nat := 0
  inPort : Nat := 0
  /-- The frame without FCS. -/
  bytes : List Byte := []
  /-- Its head as the lanes receive it: at most 128 bytes (R107). -/
  head : List Byte := []
  /-- It is bad, and its head had left when its tail showed that (R97, R416). -/
  bad : Bool := false
  /-- Lowest selector entry that matched (R398). -/
  selEntry : Nat := 0
  /-- The KEY and LABEL registers of its port as it was received (R419). -/
  keyReg : Word32 := 0
  labelReg : Word32 := 0
  d0 : Option PodDesc := none
  d1 : Option PodDesc := none
  /-- The lanes in the duty slots when it was admitted. -/
  lane0 : Nat := 3
  lane1 : Nat := 3
  /-- ST of the first descriptor (R405). -/
  firstAt : Option Nat := none
  /-- It waits for a vote. -/
  vote : Bool := false
  /-- The decision; none while open. A drop has no deciding descriptor. -/
  decided : Option (Option PodDesc) := none
deriving DecidableEq, Repr, Inhabited

/-- An express frame in an egress port's express queue (R414, R415). -/
structure ExpFrame where
  bytes : List Byte := []
  bad : Bool := false
  /-- It came cut-through from the fabric (R415). -/
  fabric : Bool := false
  /-- Its tail was still arriving when it was queued: the number of the record of that tail (R356). -/
  tail : Option Nat := none
deriving DecidableEq, Repr, Inhabited

/-- The Pod (R397 to R419). -/
structure PodSt where
  /-- The Pod runs: Load has set the roles (R417). -/
  live : Bool := false
  gen : Nat := 0
  lanes : SMap PodLane := {}
  /-- Admission buckets: twentieths of a frame and bytes, and ST of the last refill (R397). -/
  fcredit : Nat := 0
  bcredit : Nat := 0
  credAt : Nat := 0
  fseq : Nat := 0
  frames : List PodFrame := []
  /-- Ports whose write of an express table is held back, in order of arrival (R402). -/
  writes : List Nat := []
  /-- Votes decided since the oldest of them has been held back. -/
  heldVotes : Nat := 0
  /-- Agreed frames since the last shadow pass (R409). -/
  shadow : Nat := 0
  /-- An agreed frame whose shadow pass is due: its head and the agreed descriptor. -/
  shadowOf : Option (PodFrame × PodDesc) := none
  /-- Lanes that have run that pass. -/
  shadowDone : BitVec 3 := 0
  /-- Next word the scrubber compares, and the ST at which the one before was due (R403). -/
  scrub : Nat := 0
  scrubAt : Nat := 0
  /-- Express queue of egress port p (R414). -/
  exq : SMap (List ExpFrame) := {}
  forceOut : BitVec 3 := 0
  forceRefused : Bool := false
  test : TestSt := {}
deriving DecidableEq, Repr, Inhabited

/-- A request in a pseudo-channel's queue (R426). -/
structure HbmReq where
  /-- HBM byte address. -/
  addr : Nat := 0
  /-- ST of its arrival. -/
  at_ : Nat := 0
  /-- A write that covers its whole burst (R428, R429). -/
  whole : Bool := false
  /-- Its place in the order of arrival at its pseudo-channel (R426). -/
  no : Nat := 0
deriving DecidableEq, Repr, Inhabited

/-- An entry of an activate tracker (R427). -/
structure TrackEnt where
  row : Nat := 0
  count : Nat := 0
  next : Nat := 0
deriving DecidableEq, Repr, Inhabited

/-- A pseudo-channel (R420 to R435). -/
structure Pc where
  reads : List HbmReq := []
  writes : List HbmReq := []
  draining : Bool := false
  /-- The open row of bank b, 0 to 31. -/
  rows : SMap (Option Nat) := {}
  /-- The sixteen tracker entries of bank b in use (R427). -/
  track : SMap (List TrackEnt) := {}
  retired : Bool := false
  /-- Its relocation is in progress (R432): ST of its start, the number of this relocation, the pseudo-channels that take its chunks, and
  the chunks copied. -/
  relocating : Bool := false
  relocAt : Nat := 0
  relocNo : Nat := 0
  homes : List Nat := []
  copied : Nat := 0
  /-- Refresh and scrub have stopped (R432). -/
  stopped : Bool := false
  /-- Remap entries used, and the spare of physical row r of bank b at key 16,384 b + r (R431). -/
  spares : Nat := 0
  remap : SMap (Option Nat) := {}
  /-- Rows whose copy is in progress: bank, row and ST of its start (R431). -/
  sparing : List (Nat × Nat × Nat) := []
  /-- The rows that the last targeted refresh of bank b refreshed (R427). -/
  victims : SMap (List Nat) := {}
  /-- Bursts that read as uncorrectable, by burst of the local address (R429). -/
  poisoned : SMap Bool := {}
  /-- Next burst of the patrol scrubber, and the ST at which the one before was due (R428). -/
  scrub : Nat := 0
  scrubAt : Nat := 0
  /-- ST of the last refresh of bank b (R425). -/
  refreshed : SMap Nat := {}
  /-- The delay record (R422), and one that waits for the queue to empty (R424). -/
  dly : BitVec 128 := 0
  dlyHeld : Option (BitVec 128) := none
  /-- Requests that a delay write holds back (R424), or for which the queue has no room (R426); the number of arrivals. -/
  heldReads : List HbmReq := []
  heldWrites : List HbmReq := []
  arrivals : Nat := 0
  /-- RETIRE_REFUSED was raised (R433). -/
  refusedRaised : Bool := false
deriving DecidableEq, Repr, Inhabited

/-- The HBM controllers (R420 to R437). -/
structure HmcSt where
  pcs : SMap Pc := {}
  /-- Index of the last tracker boundary taken (R427). -/
  trackSeen : Nat := 0
  test : TestSt := {}
  /-- The running test is a sweep (R435): with its parameter, LOAD, and the ST of its start. -/
  testSweep : Bool := false
  testParam : Nat := 0
  testLoad : Bool := false
  testAt : Nat := 0
  /-- Relocations begun since Load (R432). -/
  relocs : Nat := 0
  /-- HMC_SWEEP_RESULT: LEFT + 256 RIGHT. -/
  sweep : Nat := 0
  /-- A stack's sensor reports above 85 C (R425), stack k at bit k. -/
  hot : BitVec 3 := 0
deriving DecidableEq, Repr, Inhabited

end Sys2Proof
end

