-- ==== Sys2Proof/Syntax.lean ====
section
/-! DEFINITION. The commands of the device, with what each carries from its environment. -/
namespace Sys2Proof

/-- What one flash read gives (R61, R65, R67, R76): the flash byte address of a read that failed, the bytes from the image's start,
and the bytes of its signature. -/
structure FlashRead where
  fail : Option Nat := none
  image : Blob := {}
  sig : List Byte := []
deriving DecidableEq, Repr, Inhabited

/-- What the apply step reads back and draws (R77, R460, R462, R369): the fuses that burned, and a new SWC_ID.INC. -/
structure ApplyRead where
  /-- HBM initialisation and calibration succeed. -/
  hwOk : Bool := true
  /-- SerDes calibration succeeds. -/
  serdesOk : Bool := true
  /-- BOOT_COUNT bit B reads burned. -/
  leafOk : Bool := true
  /-- The ROLLBACK count after the burn of Service entry. -/
  rollback : Nat := 0
  inc : Nat := 1
deriving DecidableEq, Repr, Inhabited

/-- What a port's receiver tells of a frame (R97, R98): whether its FCS check passes; whether, when its tail is checked, its head has
left the device under cut-through; and the codewords that the FEC decoders corrected and found uncorrectable since the frame before. -/
structure RxSide where
  fcsOk : Bool := true
  left : Bool := false
  corr : Nat := 0
  uncorr : Nat := 0
deriving DecidableEq, Repr, Inhabited

/-- The outcome of OTP sensing at reset release (R456, R468): whether two cells of a programmed bit disagree. -/
structure OtpSense where
  disagree : Bool := false
deriving DecidableEq, Repr, Inhabited

/-- Outcome of a spilled packet's read: sound, poisoned data, or a poisoned header (R328, R329, R341). -/
inductive ReadOutcome where
  | ok | data | header
deriving DecidableEq, Repr, Inhabited

/-- Outcome of an access to words with SECDED: a burst of HBM (R429), or a thread context or scratch (R318). -/
inductive BurstOutcome where
  | ok | corrected | uncorrectable
deriving DecidableEq, Repr, Inhabited

/-- What the SECDED of a conduit word finds (R495). -/
inductive WordCheck where
  | ok | corrected | uncorrectable
deriving DecidableEq, Repr, Inhabited

/-- The payload of a LINK cell (R362). -/
structure LinkCell where
  element : Bool := false
  sender : Nat := 0
  lane : Nat := 0
  ack : Option Nat := none
  nakSeq : Nat := 0
  reach : BitVec 512 := 0
  /-- Not of the payload: the codewords that the lane's FEC decoder corrected and found uncorrectable since the LINK cell before
  (R378). -/
  corr : Nat := 0
  uncorr : Nat := 0
deriving DecidableEq, Repr, Inhabited

/-- A RESULT frame of the ring (R161). -/
structure ResultFrame where
  issuer : Nat := 0
  slot : Nat := 0
  position : Nat := 0
  hit : Bool := false
  multi : Bool := false
  fin : Bool := false
  entry : Nat := 0
  prio : Nat := 0
  action : Nat := 0
deriving DecidableEq, Repr, Inhabited

/-- A CONTROL frame of the ring (R161, R165 to R167, R442). -/
inductive ControlFrame where
  | keepalive (pos : Nat) (ready retired : Bool)
  /-- A membership frame: its GEN, member mask, and the epoch at which it applies, if it names one. -/
  | membership (gen mask : Nat) (epoch : Option Nat)
deriving DecidableEq, Repr, Inhabited

/-- JTAG instructions (R474). -/
inductive JtagInstr where
  | idcode | bypass | other
deriving DecidableEq, Repr, Inhabited

/-- The commands of the DRZ3216: one constructor per row of the opcode table, in its
order but for eight without operands at the end (compiled code can number only so many constructors with operands). -/
inductive Instr where
  /-- ABORT (R487): MGT_ECPn_CTL.ABORT stops a running operation before its next commit. -/
  | ecpAbort (port : Nat)
  /-- ADD (R305): Micro-operation ADD adds two registers and sets the flags; operands: thread and microword fields. -/
  | uAdd (th : Nat) (d : Nat) (a : Nat) (b : Nat) (imm : Nat)
  /-- ADDI (R305): Micro-operation ADDI adds a sign-extended immediate; operands: thread and microword fields. -/
  | uAddi (th : Nat) (d : Nat) (a : Nat) (b : Nat) (imm : Nat)
  /-- ADJ (R291): Micro-operation ADJ pushes or pulls bytes at the head of the frame; operands: thread and microword fields. -/
  | uAdj (th : Nat) (d : Nat) (a : Nat) (b : Nat) (imm : Nat)
  /-- ADMIT (R272): Far ADMIT applies a subscriber's new-flow token bucket; operands: thread. -/
  | farAdmit (th : Nat)
  /-- AGE_QUANTUM_BOUNDARY (R49): The age stamp advances to the next quantum. -/
  | ageQuantumBoundary
  /-- ALARM (R470): An alarm source becomes active and is answered at its grade: Note, Guard into Lockdown, or Scorch. -/
  | alarm (src : Nat)
  /-- ALERT_ACK (R507): Kaseni ALERT_ACK releases ALERT_N and returns the log total. -/
  | sbAlertAck (seq : Byte) (n : Nat) (pecOk : Bool)
  /-- ALERT_RESPONSE (R518): A read of the SMBus Alert Response Address is answered with the device's address, releasing ALERT_N if it wins. -/
  | alertResponse (wins : Bool)
  /-- AND (R305): Micro-operation AND combines two registers and sets the flags; operands: thread and microword fields. -/
  | uAnd (th : Nat) (d : Nat) (a : Nat) (b : Nat) (imm : Nat)
  /-- APPLY_DONE (R77): The apply step (LREG, HBM initialisation, zeroing, key draw, PRELOAD, calibration) completes and the slot-0 check decides between Service and Maintenance; operands: what the fuses read back and the TRNG drew. -/
  | applyDone (a : ApplyRead)
  /-- ARM (R138): CLS_CTL.ARM checks the shadow and arms a swap at CLS_SWAP_EPOCH or records a refusal. -/
  | arm
  /-- ASA_SCRUB (R169): The ASA scrubber reads an entry and invalidates it on a parity error. -/
  | asaScrub (bad : Bool)
  /-- ASA_SEARCH (R157): Far ASA_SEARCH runs an associative search for a thread and stores its step handle. -/
  | farAsaSearch (th : Nat) (bad : List Nat)
  /-- ASA_STEP (R157): Far ASA_STEP returns the next match after the thread's stored rank. -/
  | farAsaStep (th : Nat) (bad : List Nat)
  /-- ASA_TEST (R171): ASA_TEST.START begins a bank march test or is rejected with IN_SERVICE. -/
  | asaTest (value : Word32)
  /-- ASA_TEST_DONE (R171): An ASA bank test completes with its result. -/
  | asaTestDone (pass : Bool)
  /-- ATTACH (R85): MGT_MODE_CTL command ATTACH returns a Headless device to Service and re-arms the watchdog. -/
  | attach
  /-- BLOCK_RELEASE (R253): A stalled NAT block release commits once its de-allocation record can enter the NAT log queue. -/
  | blockRelease (part : Nat)
  /-- BOOT_TKN_IN_FALL (R64): BOOT_TKN_IN falls; a token holder abandons its read, a finished device lowers BOOT_TKN_OUT, and the token timeout restarts. -/
  | bootTknInFall
  /-- BOOT_TKN_IN_RISE (R61): BOOT_TKN_IN goes high; a device that is done with the flash raises BOOT_TKN_OUT within 1,000 ns. -/
  | bootTknInRise
  /-- BOOT_TOKEN_TAKE (R61): After 20,000 ns of steady BOOT_TKN_IN high the device takes the token, soft-resets the flash and starts reading its directory and image; operands: the 512 bytes of the board directory, none where the flash does not answer. -/
  | bootTokenTake (dir : Option (List Byte))
  /-- BR (R305): Micro-operation BR branches the micro-PC when its condition holds; operands: thread and microword fields. -/
  | uBr (th : Nat) (cond : Nat) (target : Nat)
  /-- BUFFERS_WITHDRAWN (R340): BPM finishes removing buffers of a retired pseudo-channel from its caches and rings. -/
  | buffersWithdrawn (pc : Nat)
  /-- BUFFER_FREE (R336): A client frees a buffer, which passes or is rejected by the range, alignment, allocation and owner checks. -/
  | bufferFree (client : Nat) (addr : Nat)
  /-- BUFFER_GRANT (R335): A pool grants buffer requests in client round-robin order or answers EMPTY. -/
  | bufferGrant (pool : Nat)
  /-- BULK_CELL (R370): A numbered BULK cell is accepted, checked against the peer record and reassembled into its stream. -/
  | bulkCell (lane : Nat) (cell : Cell)
  /-- CASCADE_LAUNCH (R161): A member launches a pending cascaded search or STEP in its next owned slot. -/
  | cascadeLaunch (slot : Nat) (lost : List Nat)
  /-- CASCADE_TIMEOUT (R167): A cascaded search's RESULT has not arrived within 2,048 slots and it completes with TIMEOUT. -/
  | cascadeTimeout (slot : Nat)
  /-- CAS_MOUT_DRIVE (R162): At slot s + LEAD a member drives its match flag OR CAS_MIN and the winner originates its RESULT; operands: slot and CAS_MIN. -/
  | casMoutDrive (slot : Nat) (mini : Bool)
  /-- CDT_PTR_READ (R501): A read of MGT_CDTc_PTR grants a window writer its credit. -/
  | cdtPtrRead (m : Master) (c : Nat)
  /-- CELL_CRC_FAIL (R365): A cell fails its CRC or arrives out of order: it is discarded, a NAK is sent and the lane's count grows. -/
  | cellCrcFail (lane : Nat)
  /-- CELL_LOCK_CHANGE (R366): A Malmin lane receiver loses or regains FEC or cell lock, starting or cancelling the 10,000 ns lock-loss timer. -/
  | cellLockChange (lane : Nat) (locked : Bool)
  /-- CHANNEL_WITHDRAWN (R233): FSE finishes withdrawing the cloves and buckets of a retired pseudo-channel. -/
  | channelWithdrawn (pc : Nat)
  /-- CLOVE_READ (R217): A clove read for a pending miss returns and is compared by full key, installed, or found lost; operands: partition, place in the miss queue, uncorrectable data of the clove and of a victim. -/
  | cloveRead (part : Nat) (k : Nat) (ue : Bool) (victim : Bool)
  /-- CLUSTER_EXIT (R303): A finished packet leaves the cluster in ordering-key order and goes to its queue, punt conduit, recirculation or traffic manager. -/
  | clusterExit (th : Nat)
  /-- CMP (R305): Micro-operation CMP sets flags from a subtraction of two registers; operands: thread and microword fields. -/
  | uCmp (th : Nat) (d : Nat) (a : Nat) (b : Nat) (imm : Nat)
  /-- CMPI (R305): Micro-operation CMPI sets flags from a subtraction of an immediate; operands: thread and microword fields. -/
  | uCmpi (th : Nat) (d : Nat) (a : Nat) (b : Nat) (imm : Nat)
  /-- CNT (R296): Micro-operation CNT adds a packet and bytes to a program counter atomically; operands: thread and microword fields. -/
  | uCnt (th : Nat) (d : Nat) (a : Nat) (b : Nat) (imm : Nat)
  /-- COARSE_SLOT_VISIT (R51): A coarse-wheel slot is visited: lap counts are decremented or entries move to the fine wheel. -/
  | coarseSlotVisit
  /-- CONTROL_FRAME (R165): A keepalive, READY or membership CONTROL frame arrives and updates membership or bypass; operands: the frame; it fails its check. -/
  | controlFrame (f : ControlFrame) (bad : Bool)
  /-- COPY (R137): CLS_CTL.COPY starts copying the active image into the shadow or is refused. -/
  | copy
  /-- COPY_DONE (R137): A rule-set copy completes and COPY_BUSY clears. -/
  | copyDone
  /-- CORE_RAIL_FALL (R526): A core rail falls while RESET_N is high: the island answers any monitored source and holds every block outside the island in reset until RESET_N falls and rises again; operands: alarm source of the rail, 17 or more for an unmonitored rail. -/
  | coreRailFall (src : Nat)
  /-- COUNTER_READ (R508): A counter read returns its value, latches the high-word shadow and stamps the ST of the read. -/
  | counterRead (m : Master) (win : Window) (addr : Nat) (wide : Bool)
  /-- COURIER_COPY (R499): The courier copies conduit words to an outgoing host ring and writes back DEV_IDX. -/
  | courierCopy (c : Nat) (ue : WordCheck)
  /-- COURIER_INJECT (R499): The courier reads inject ring entries into an inject conduit as credit allows; operands: ring and the entries read from host memory. -/
  | courierInject (c : Nat) (words : List Word512)
  /-- CREDIT (R368): A PEER CREDIT cell adds granted credits to the source's balances. -/
  | peerCredit (lane : Nat) (cell : Cell)
  /-- CREDIT_REQUEST_DUE (R368): The 10,000 ns request interval for a non-zero backlog expires and a REQUEST is sent. -/
  | creditRequestDue (peer : Nat)
  /-- CSUP (R305): Micro-operation CSUP applies an incremental ones'-complement checksum update; operands: thread and microword fields. -/
  | uCsup (th : Nat) (d : Nat) (a : Nat) (b : Nat) (imm : Nat)
  /-- DELETE (R483): Entry command port operation DELETE removes an entry by index or key; operands: port 0 to 8, the window of the START, and what it reads in error. -/
  | ecpDelete (port : Nat) (win : Window) (x : TableSide)
  /-- DELETE_PEER (R242): Far DELETE_PEER deletes a named clove with the given reason; operands: thread; the clove read is uncorrectable. -/
  | farDeletePeer (th : Nat) (ue : Bool)
  /-- DESCRIPTOR (R405): A lane's forwarding descriptor reaches the comparator and is accepted, fenced, or compared with its pair; operands: lane, frame, and the bits in which its descriptor differs from a sound one. -/
  | podDescriptor (lane : Nat) (fseq : Nat) (err : Word512)
  /-- DESCRIPTOR_TIMEOUT (R405): The second duty descriptor has not arrived 40 ns after the first and the frame is treated as a disagreement. -/
  | descriptorTimeout (fseq : Nat)
  /-- DIRECTORY_READ (R217): The candidate buckets of a pending miss arrive; tag matches lead to clove reads or the flow is learned or refused; operands: partition, place in the miss queue, uncorrectable buckets, uncorrectable clove of a victim. -/
  | directoryRead (part : Nat) (k : Nat) (ue1 : Bool) (ue2 : Bool) (ue : Bool)
  /-- DISARM (R141): CLS_CTL.DISARM cancels an armed swap. -/
  | disarm
  /-- DISCHARGE (R44): After a forward step of ST, scheduled items in the skipped interval are discharged within 8 µs. -/
  | discharge
  /-- DISP_END (R301): Micro-operation DISP END ends the run: optional delete, map unbinding, lock release and verdict; operands: thread and microword fields. -/
  | dispEnd (th : Nat) (d : Nat) (a : Nat) (b : Nat) (imm : Nat)
  /-- DISP_JUMP (R306): Micro-operation DISP JUMP fetches the FI at a new FIPC and dispatches to its routine; operands: thread and microword fields. -/
  | dispJump (th : Nat) (d : Nat) (a : Nat) (b : Nat) (imm : Nat)
  /-- DISP_NEXT (R306): Micro-operation DISP NEXT fetches the next FI and dispatches to its routine; operands: thread and microword fields. -/
  | dispNext (th : Nat) (d : Nat) (a : Nat) (b : Nat) (imm : Nat)
  /-- DRAIN (R84): Kaseni DRAIN enters Drain from Headless or replaces the target in Drain. -/
  | sbDrain (seq : Byte) (n : Nat) (pecOk : Bool) (target : Nat)
  /-- DRAIN_FLUSH (R87): The drain timeout expires: remaining packets are discarded, DRAINED is set and the device moves to its target. -/
  | drainFlush
  /-- ECP (R504): Kaseni ECP runs an operation on entry command port 8. -/
  | sbEcp (seq : Byte) (n : Nat) (pecOk : Bool) (tbl : Nat) (op : Nat) (idx : Nat) (dlen : Nat) (dat : Dat) (x : TableSide)
  /-- ECP_ABORT (R504): Kaseni ECP_ABORT aborts the running side-band ECP request. -/
  | sbEcpAbort (seq : Byte) (n : Nat) (pecOk : Bool)
  /-- EGRESS_ENTRY (R208): A packet delivered by the switch core enters its egress pipeline for the egress flow lookup or final rewrite. -/
  | egressEntry (pipe : Nat)
  /-- ENABLE (R498): A write to MGT_RINGc_CFG sets or clears ENABLE, resetting indices or stopping the courier; operands: ring and value of MGT_RINGc_CFG. -/
  | ringEnable (c : Nat) (value : Word32)
  /-- END_RECORD_EXPORT (R277): The flow services take a clove from the end-record queue and format an IPFIX end record. -/
  | endRecordExport (part : Nat)
  /-- ENGINE_RETIRED (R318): An engine whose count crossed finishes its held runs and is retired. -/
  | engineRetired (e : Nat)
  /-- ENG_PREEMPT (R315): ENG_PREEMPT.START requests a pre-emption of a thread, answered IDLE, BUSY or accepted. -/
  | engPreempt (value : Word32)
  /-- ENG_TEST (R319): ENG_TEST.START begins an engine self-test or is rejected with IN_SERVICE. -/
  | engTest (value : Word32)
  /-- ENG_TEST_DONE (R319): An engine self-test completes with its result. -/
  | engTestDone (pass : Bool)
  /-- EPOCH (R308): A thread with EPW set takes the EPOCH routine trap at a micro-operation boundary after an epoch boundary. -/
  | thEpoch (th : Nat)
  /-- EPOCH_BOUNDARY (R49): The epoch index changes: armed swaps fire, CLS epoch counts advance, Runner re-admissions apply and EPW threads are flagged. -/
  | epochBoundary
  /-- EXPRESS_CELL (R415): A numbered EXPRESS cell is accepted and reassembled toward its egress port's express queue. -/
  | expressCell (lane : Nat) (cell : Cell)
  /-- EXT (R305): Micro-operation EXT extracts a bit field; operands: thread and microword fields. -/
  | uExt (th : Nat) (d : Nat) (a : Nat) (b : Nat) (imm : Nat)
  /-- FAR (R309): Micro-operation FAR issues a far function once and puts the thread into a wait trap; operands: thread and microword fields. -/
  | uFar (th : Nat) (d : Nat) (a : Nat) (b : Nat) (imm : Nat)
  /-- FAR_RESULT (R309): A far result returns: its code and block are written, OK is set and the thread is made ready or takes HBM_UE. -/
  | farResult (th : Nat)
  /-- FLAG (R305): Micro-operation FLAG sets and clears thread flags other than TM; operands: thread and microword fields. -/
  | uFlag (th : Nat) (d : Nat) (a : Nat) (b : Nat) (imm : Nat)
  /-- FLASH_READ_DONE (R61): The octal image read completes: the device issues the exit command, releases the pins, becomes done with the flash and begins signature verification; operands: what the flash answered. -/
  | flashReadDone (f : FlashRead)
  /-- FLUSH (R494): MGT_CDTc_CTL.FLUSH empties a conduit at the producer's next packet boundary; operands: conduit. -/
  | cdtFlush (c : Nat)
  /-- FLUSH_BY_MASK (R486): Entry command port operation FLUSH_BY_MASK starts a bulk delete of every matching entry; operands: port 0 to 8, the window of the START, and what it reads in error. -/
  | ecpFlushByMask (port : Nat) (win : Window) (x : TableSide)
  /-- FORCE_OUT (R413): A write to XPR_CTL.FORCE_OUT takes a Pod lane out of service or is refused. -/
  | forceOut (value : Word32)
  /-- FRAME_TRANSMIT (R98): The transmit MAC sends an express or bulk frame with padding and a new FCS, stomping on underrun. -/
  | frameTransmit (port : Nat) (underrun : Option Nat)
  /-- FREE_INDEX_REFILL (R552): A free-index bitmap read returns and appends free indices to the partition's cache. -/
  | freeIndexRefill (part : Nat) (ue : Bool)
  /-- FSE_AGE_VISIT (R229): The flow scanner visits a clove and conditionally rewrites its stamp or deletes it for idleness or lifetime. -/
  | fseAgeVisit (part : Nat) (ue : Bool)
  /-- FSE_LOOKUP (R217): A flow lookup begins once a thread is free: key built, cache probed, and a hit waits for its lock or a miss is queued or merged. -/
  | fseLookup (part : Nat) (egress : Bool)
  /-- FWD_READ_DONE (R181): A forwarding step's HBM read returns and the profile walk completes with a destination, punt or drop; operands: pipeline, place in its read queue, poisoned data. -/
  | fwdReadDone (pipe : Nat) (k : Nat) (poisoned : Bool)
  /-- GETF (R305): Micro-operation GETF reads a register or field of the current FI; operands: thread and microword fields. -/
  | uGetf (th : Nat) (d : Nat) (a : Nat) (b : Nat) (imm : Nat)
  /-- HASH (R305): Micro-operation HASH advances a CRC-32C over low bytes of a register; operands: thread and microword fields. -/
  | uHash (th : Nat) (d : Nat) (a : Nat) (b : Nat) (imm : Nat)
  /-- HBM_COMMAND (R426): An HBM controller picks and issues the next request for a pseudo-channel command slot, with row-hammer tracking on each activate; operands: pseudo-channel; HBM addresses requested since its last slot, a write with whether it covers its burst; what a read-modify-write reads; bursts that the copy of a chunk finds uncorrectable. -/
  | hbmCommand (pc : Nat) (reads : List Nat) (writes : List (Nat × Bool)) (rmw : BurstOutcome) (bad : List Nat)
  /-- HBM_READ_DATA (R429): HBM read data returns and is corrected and written back, or marked poisoned, with counts entered. -/
  | hbmReadData (addr : Nat) (outcome : BurstOutcome)
  /-- HB_EXPIRED (R82): The heartbeat timeout expires in Service and the device enters Headless. -/
  | hbExpired
  /-- HEADLESS (R80): Kaseni HEADLESS moves a device in Service to Headless. -/
  | sbHeadless (seq : Byte) (n : Nat) (pecOk : Bool)
  /-- HMC_DLY_WRITE (R424): A write to a delay register holds new requests until the queue empties and then applies the value. -/
  | hmcDlyWrite (pc : Nat) (k : Nat) (value : Word32)
  /-- HMC_TEST_DONE (R435): A sweep or march test completes and reports its result. -/
  | hmcTestDone (pass : Bool) (left : Nat) (right : Nat)
  /-- HOLDOVER_ENTER (R47): No accepted pulse with a valid message for 2 s while LOCKED: TBE enters HOLDOVER. -/
  | holdoverEnter
  /-- HOLD_EXPIRED (R103): HOLD_MS expires before the port returns and the held frames are flushed. -/
  | holdExpired (port : Nat)
  /-- HOST_DRAIN (R88): MGT_MODE_CTL command DRAIN enters Drain from Service or replaces the drain target in Drain; operands: TARGET of MGT_MODE_CTL. -/
  | hostDrain (target : Nat)
  /-- HOST_IDX (R499): A write to MGT_RINGc_HOST_IDX frees outgoing entries or offers inject entries. -/
  | hostIdx (c : Nat) (value : Word32)
  /-- HOST_RELOAD (R89): MGT_MODE_CTL command RELOAD performs a warm reload from Maintenance into Load. -/
  | hostReload
  /-- HSS_VERIFY_DONE (R77): HSS verification completes; the rollback and content checks run and, if they pass, the apply step begins. -/
  | hssVerifyDone
  /-- IDENTIFY (R504): Kaseni IDENTIFY returns the part, position, mode, serial and identity fields; operands: the command code, 0x01 or one that names no command, then as for every request. -/
  | sbIdentify (code : Byte) (seq : Byte) (n : Nat) (pecOk : Bool)
  /-- IDENTITY (R467): A pending IDENTITY request is served with the unsigned identity public key. -/
  | identity
  /-- IDENTITY_READY (R463): The attestation working state has been built after Service entry; SEC_IDENT becomes READY. -/
  | identityReady
  /-- INGRESS_PASS (R17): An ingress pipeline accepts a line packet, recirculated pass or MODE 1 inject packet and parses, classifies, meters and forwards it; operands: pipeline; array entries whose parity fails when read. -/
  | ingressPass (pipe : Nat) (bad : List Nat)
  /-- INS (R305): Micro-operation INS inserts a bit field; operands: thread and microword fields. -/
  | uIns (th : Nat) (d : Nat) (a : Nat) (b : Nat) (imm : Nat)
  /-- INSERT (R483): Entry command port operation INSERT places a keyed entry where the table chooses; operands: port 0 to 8, the window of the START, and what it reads in error. -/
  | ecpInsert (port : Nat) (win : Window) (x : TableSide)
  /-- INSERT_PEER (R242): Far INSERT_PEER inserts a clove without eviction; operands: thread. -/
  | farInsertPeer (th : Nat)
  /-- ISLAND_RESET (R452): VDD_AON returns from below 0.72 V: the always-on island takes its power-on reset, empties the log and the whole device is treated as cold-reset. -/
  | islandReset
  /-- JOIN (R373): A JOIN is received and ignored, or adopted with a JOIN_ACK after declaring the sender dead if it was ALIVE. -/
  | peerJoin (lane : Nat) (cell : Cell)
  /-- JOIN_ACK (R373): A JOIN_ACK sets the peer ALIVE and restarts stream sequence numbers. -/
  | peerJoinAck (lane : Nat) (cell : Cell)
  /-- JOIN_RESEND (R373): An unanswered JOIN is resent every 10,000 ns. -/
  | joinResend (peer : Nat)
  /-- JOIN_SEND (R373): The device sends a first JOIN to a reachable NEW or DEAD peer once 64,000 ns have passed since the last join. -/
  | joinSend (peer : Nat)
  /-- JTAG_DISABLE (R459): SEC_OTP_CMD command JTAG_DISABLE burns the JTAG_DISABLE fuse. -/
  | jtagDisable (confirm : Nat) (burned : Bool)
  /-- JTAG_INSTRUCTION (R474): A JTAG instruction is executed if the port is open, or refused and counted when locked. -/
  | jtagInstruction (instr : JtagInstr)
  /-- KEEPALIVE_CELL (R363): A KEEPALIVE LINK cell is received, its ACK applied and its sender checked against TOPO. -/
  | keepaliveCell (lane : Nat) (c : LinkCell)
  /-- KEY_FRAME (R162): A cascaded KEY frame arrives and the member searches its Runner banks; operands: wide: the frame has 42 bytes; bad: it fails its check; lost: rows whose parity fails. -/
  | keyFrame (issuer : Nat) (slot : Nat) (key : Nat) (wide : Bool) (bad : Bool) (lost : List Nat)
  /-- KILL (R459): SEC_OTP_CMD command KILL burns the KILL fuse. -/
  | killFuse (confirm : Nat) (burned : Bool)
  /-- KILL_BURNED (R470): The KILL fuse burn completes and SCORCH_PENDING clears. -/
  | killBurned (burned : Bool)
  /-- L2_AGE_VISIT (R196): The L2 ageing scanner visits a slot and conditionally deletes an idle non-static entry; operands: AGE or GEN changed between the read and the delete. -/
  | l2AgeVisit (raced : Bool)
  /-- L2_FLUSHED (R197): The flush scan for a downed port finishes deleting its learned entries. -/
  | l2Flushed
  /-- LANE_CELL_SEND (R364): A Malmin lane chooses and sends the cell for its next slot by the transmit order. -/
  | laneCellSend (lane : Nat)
  /-- LANE_DOWN (R366): A lane loses lock for 10,000 ns or sees no ACK advance for 100,000 ns and is taken down. -/
  | laneDown (lane : Nat)
  /-- LANE_RETURNED (R410): A retired Pod lane that meets the return conditions takes back its role at an inter-frame gap. -/
  | laneReturned (lane : Nat)
  /-- LANE_TRAINING (R363): The 100 ms retry interval of a down or miswired lane expires and training is retried. -/
  | laneTraining (lane : Nat)
  /-- LANE_UP (R358): A lane achieves cell lock and comes up. -/
  | laneUp (lane : Nat)
  /-- LB_SELECT (R267): Far LB_SELECT chooses a live member of a load-balancing group by slot or fallback; operands: thread; the slot read is uncorrectable. -/
  | farLbSelect (th : Nat) (ue : Bool)
  /-- LDF (R305): Micro-operation LDF performs the load that the current FI describes; operands: thread and microword fields. -/
  | uLdf (th : Nat) (d : Nat) (a : Nat) (b : Nat) (imm : Nat) (ecc : BurstOutcome)
  /-- LDL (R305): Micro-operation LDL loads from a window in little-endian order; operands: thread and microword fields. -/
  | uLdl (th : Nat) (d : Nat) (x : Nat) (xen : Bool) (win : Nat) (size : Nat) (off : Nat) (ecc : BurstOutcome)
  /-- LDN (R305): Micro-operation LDN loads from a window in network order; operands: thread and microword fields. -/
  | uLdn (th : Nat) (d : Nat) (x : Nat) (xen : Bool) (win : Nat) (size : Nat) (off : Nat) (ecc : BurstOutcome)
  /-- LEAK_BOUNDARY (R439): A leak boundary of a fault class passes and every non-zero count of the class falls by 1. -/
  | leakBoundary (cls : Nat)
  /-- LINE_INSTALL (R213): A waiting install finds a replaceable way and the line is installed with write-back of its predecessor. -/
  | lineInstall (part : Nat) (k : Nat)
  /-- LINK_CELL_DUE (R363): The 1,000 ns LINK cell interval of a lane expires and a KEEPALIVE or REACH is due. -/
  | linkCellDue (lane : Nat)
  /-- LINK_RAW_CHANGE (R99): The raw link state of a port changes and starts its debounce. -/
  | linkRawChange (port : Nat) (up : Bool)
  /-- LOCK_GRANT (R214): The controller grants a line lock to a waiting thread, applies the hit update and starts the program run; operands: partition and clove index of the line. -/
  | lockGrant (part : Nat) (idx : Nat)
  /-- LOOKUP (R483): Entry command port operation LOOKUP finds an entry by key; operands: port 0 to 8, the window of the START, and what it reads in error. -/
  | ecpLookup (port : Nat) (win : Window) (x : TableSide)
  /-- LPC_PORT_ADMIN (R553): A write to LPC_PORT_ADMIN takes ports administratively down with FLUSH, or starts their up debounce. -/
  | lpcPortAdmin (value : Word32)
  /-- MAP (R248): Far MAP finds or makes the NAT mapping, reverse clove and port block of an internal endpoint; operands: thread; a NAT block record read returns poisoned data. -/
  | farMap (th : Nat) (ue : Bool)
  /-- MARCH_TEST (R435): HMC_TEST with OP 0 starts a march test of a pseudo-channel or is rejected. -/
  | marchTest (value : Word32)
  /-- MATCHING (R348): The central scheduler computes a matching of inputs to outputs for packets that have cells and credits; operands: the inject conduits of which input 10 reads a word in error. -/
  | matching (inject : List (Nat × WordCheck))
  /-- MEMBER_DEAD (R165): A member is silent for 64,000 ns and the master excludes it with a new membership. -/
  | memberDead (pos : Nat)
  /-- MESSAGE_CLOSE (R273): An IPFIX message is closed 1 ms after its first record and sent; operands: partition, exporter. -/
  | messageClose (part : Nat) (x : Nat)
  /-- MGT_HEARTBEAT (R82): A host write to MGT_HEARTBEAT restarts the watchdog. -/
  | mgtHeartbeat (value : Word32)
  /-- MODIFY (R483): Entry command port operation MODIFY replaces the masked bits of an entry; operands: port 0 to 8, the window of the START, and what it reads in error. -/
  | ecpModify (port : Nat) (win : Window) (x : TableSide)
  /-- MOVB (R305): Micro-operation MOVB copies 1 to 32 bytes between windows; operands: thread and microword fields. -/
  | uMovb (th : Nat) (d : Nat) (a : Nat) (b : Nat) (imm : Nat) (ecc : BurstOutcome)
  /-- MOVI (R305): Micro-operation MOVI loads a shifted immediate; operands: thread and microword fields. -/
  | uMovi (th : Nat) (d : Nat) (sh : Nat) (imm : Nat)
  /-- MOVK (R305): Micro-operation MOVK replaces one 16-bit part of a register; operands: thread and microword fields. -/
  | uMovk (th : Nat) (d : Nat) (sh : Nat) (imm : Nat)
  /-- MSIX_TIMER (R500): IRQ_US expires after a ring's first unsignalled entry and its MSI-X vector is raised. -/
  | msixTimer (c : Nat)
  /-- MUL (R305): Micro-operation MUL multiplies two 32-bit values; operands: thread and microword fields. -/
  | uMul (th : Nat) (d : Nat) (a : Nat) (b : Nat) (imm : Nat)
  /-- NAK (R365): A NAK makes the sender replay its kept cells from NAK_SEQ. -/
  | nakCell (lane : Nat) (c : LinkCell)
  /-- NAK_REPEAT (R365): A receiver repeats its NAK every 1,000 ns while a gap lasts. -/
  | nakRepeat (lane : Nat)
  /-- NAT_RECORD_EXPORT (R280): A NAT log record leaves the partition's queue as an IPFIX block record. -/
  | natRecordExport (part : Nat)
  /-- NOP (R305): Micro-operation NOP does nothing; operands: thread and microword fields. -/
  | uNop (th : Nat) (d : Nat) (a : Nat) (b : Nat) (imm : Nat)
  /-- OPERATION_END (R482): A port operation completes or aborts: results are written, BUSY clears and the port's MSI-X vector is raised. -/
  | operationEnd (port : Nat)
  /-- OR (R305): Micro-operation OR combines two registers and sets the flags; operands: thread and microword fields. -/
  | uOr (th : Nat) (d : Nat) (a : Nat) (b : Nat) (imm : Nat)
  /-- PATROL_SCRUB (R428): The patrol scrubber reads the next burst of a pseudo-channel in service. -/
  | patrolScrub (pc : Nat) (outcome : BurstOutcome)
  /-- PATTERN_PASS (R409): The reserve or a retired lane runs a built-in pattern pass in a free lookup slot. -/
  | patternPass (lane : Nat) (ok : Bool)
  /-- PEEK (R242): Far PEEK returns bytes 48 to 127 of a named clove without a lock; operands: thread; the clove read is uncorrectable. -/
  | farPeek (th : Nat) (ue : Bool)
  /-- PEER_DEAD (R371): A peer is silent for 64,000 ns and is declared dead, with its queues flushed and credits cleared. -/
  | peerDead (peer : Nat)
  /-- PERST_N_ASSERT (R58): PERST_N resets the PCIe endpoint, MSI-X state, the courier and ring registers while conduits, mode and tables are kept. -/
  | perstNAssert
  /-- PERST_N_RELEASE (R58): PERST_N rises: the PCI Express endpoint leaves reset and its link trains within 100 ms. -/
  | perstNRelease
  /-- POD_LANE_RETIRED (R408): A Pod lane with three strikes in 1 ms is retired at the next inter-frame gap and the roles change. -/
  | podLaneRetired (lane : Nat)
  /-- POISON_MARK (R216): A poison mark reaches the controller and increments POISONED when index and GEN still match. -/
  | poisonMark (part : Nat)
  /-- PORT_ADMIN (R84): Kaseni PORT_ADMIN sets masked bits of LPC_PORT_ADMIN in Headless. -/
  | sbPortAdmin (seq : Byte) (n : Nat) (pecOk : Bool) (mask : Word32) (value : Word32)
  /-- PORT_DOWN (R101): The down debounce expires: the port is declared down, members are removed and FLUSH or HOLD applies. -/
  | portDown (port : Nat)
  /-- PORT_SELECT (R393): A port with FIFO room, credit and no express frame waiting asks its tree for a frame and debits the shapers. -/
  | portSelect (port : Nat)
  /-- PORT_UP (R99): The up debounce expires: the port is declared up and held frames resume. -/
  | portUp (port : Nat)
  /-- PPS_EDGE (R41): A TIME_PPS edge is captured and, if accepted, checked against its bound message for label and phase error, confirming acquisition, slews or steps; operands: ns since the step before; the edge. -/
  | ppsEdge (gap : Nat) (rising : Bool)
  /-- PREEMPT (R315): An accepted pre-emption is taken by the thread at its first ready boundary, snapshotted and resumed or ended. -/
  | thPreempt (th : Nat)
  /-- PROG_ROOT (R459): SEC_OTP_CMD command PROG_ROOT burns the staged owner root hash and reports the read-back result; operands: CONFIRM and the field as it reads back. -/
  | progRoot (confirm : Nat) (read : BitVec 256)
  /-- PUTF (R305): Micro-operation PUTF writes an FI-named register; operands: thread and microword fields. -/
  | uPutf (th : Nat) (d : Nat) (a : Nat) (b : Nat) (imm : Nat)
  /-- QUOTE (R467): A pending QUOTE request is served: its status is decided and the body signed with the next bottom leaf. -/
  | quote
  /-- REACH (R372): A REACH LINK cell from a fabric element updates which devices the lane reaches. -/
  | reachCell (lane : Nat) (c : LinkCell)
  /-- READ (R483): Entry command port operation READ returns the entry at IDX; operands: port 0 to 8, the window of the START, and what it reads in error. -/
  | ecpRead (port : Nat) (win : Window) (x : TableSide)
  /-- READ_CLEAR (R483): Entry command port operation READ_CLEAR returns an entry and clears named fields in one commit; operands: port 0 to 8, the window of the START, and what it reads in error. -/
  | ecpReadClear (port : Nat) (win : Window) (x : TableSide)
  /-- READ_LOG (R504): Kaseni READ_LOG returns log records from a slot. -/
  | sbReadLog (seq : Byte) (n : Nat) (pecOk : Bool) (slot : Nat) (count : Nat)
  /-- READ_REG (R504): Kaseni READ_REG returns up to 60 registers; operands: the checks of the conduit words it pops among the operands. -/
  | sbReadReg (seq : Byte) (n : Nat) (pecOk : Bool) (addr : Nat) (count : Nat) (es : List WordCheck)
  /-- REALIGN (R46): TBE_CTL.REALIGN re-aligns ST to NT in Drain, or is refused. -/
  | realign
  /-- RECLAIM_DONE (R341): A reclaim sweep finishes freeing the broken chain's buffers; operands: global indices whose header cannot be read. -/
  | reclaimDone (unread : List Nat)
  /-- REFCLK_LOST (R48): The clock monitor finds TIME_REFCLK absent or off frequency: the timebase moves to the board reference and LOCKED enters HOLDOVER; operands: measured offset. -/
  | refclkLost (ppm : Int)
  /-- REFCLK_RESTORED (R48): TIME_REFCLK returns within tolerance: the timebase returns to it and REFCLK_LOST clears. -/
  | refclkRestored
  /-- REFRESH (R425): A bank's refresh interval comes due and refresh is issued. -/
  | refresh (pc : Nat) (bank : Nat) (hot : BitVec 3)
  /-- REGISTER_WRITE (R10): A write to a register without behaviour of its own is applied field by field or ignored and counted; operands: window, offset, bytes and value. -/
  | registerWrite (win : Window) (addr : Nat) (size : Nat) (value : Nat)
  /-- RELOAD (R80): Kaseni RELOAD warm-reloads a device in Maintenance. -/
  | sbReload (seq : Byte) (n : Nat) (pecOk : Bool)
  /-- RELOCATION_DONE (R432): Relocation of a retired pseudo-channel's chunks completes and its refresh and scrub stop; operands: pseudo-channel; its bursts that the copy finds uncorrectable. -/
  | relocationDone (pc : Nat) (bad : List Nat)
  /-- REQUEST (R368): A PEER REQUEST cell reports backlog or returns credits and the destination grants credits within its limit. -/
  | peerRequest (lane : Nat) (cell : Cell)
  /-- RESEND (R275): FSE_TEL_CTL.RESEND sends templates to every conduit exporter. -/
  | resendTemplates
  /-- RESEQ_TIMEOUT (R374): A stream gap lasts TIMEOUT_NS and reassembly gives up on it; operands: source device and stream: class, or 8 for EXPRESS. -/
  | reseqTimeout (peer : Nat) (stream : Nat)
  /-- RESET_N_FALL (R57): Cold reset asserted: every block except the always-on island is held in reset, BOOT_TKN_OUT falls and any running side-band request ends. -/
  | resetNFall
  /-- RESET_N_RISE (R57): Cold reset released: straps are sampled, the island logs a cold-reset MODE_CHANGE, TBE restarts in UNSYNC and the device enters Load; operands: straps sampled, junction in C, cells that disagree at sensing. -/
  | resetNRise (bpos : Nat) (junction : Int) (t : OtpSense)
  /-- RESPONSE_FETCH (R503): A Block Read of command 0x7F returns the standing side-band response. -/
  | responseFetch
  /-- RESTART (R84): Kaseni RESTART is DRAIN with target Load. -/
  | sbRestart (seq : Byte) (n : Nat) (pecOk : Bool)
  /-- RESULT_FRAME (R162): A RESULT frame passes a member, which sets MULTI or END, or is consumed by its issuer or relaunched on a failed check. -/
  | resultFrame (f : ResultFrame) (bad : Bool)
  /-- RESYNC (R371): A RESYNC declares the peer dead when its PGEN matches the record, and is discarded otherwise. -/
  | peerResync (lane : Nat) (cell : Cell)
  /-- RETT (R310): Micro-operation RETT restores the saved state and resumes after a trap routine; operands: thread and microword fields. -/
  | uRett (th : Nat) (d : Nat) (a : Nat) (b : Nat) (imm : Nat)
  /-- RETURN_READ (R328): A spilled packet's read returns into on-chip cells and its buffer is freed, or it is dropped as uncorrectable or breaks the chain. -/
  | returnRead (leaf : Bool) (queue : Nat) (outcome : ReadOutcome)
  /-- RING_REFILL (R333): A free-ring read returns 256 indices into a pool's cache. -/
  | ringRefill (pool : Nat) (ue : Bool)
  /-- RING_TRAINING (R167): The 100 ms training retry of a down Runner expires and training is tried again. -/
  | ringTraining
  /-- ROW_SPARED (R431): A failing row's copy into a spare row completes and its remap entry is switched; operands: bad: bursts of the row that the copy finds uncorrectable. -/
  | rowSpared (pc : Nat) (bank : Nat) (row : Nat) (bad : List Nat)
  /-- RUNNER_DOWN (R167): The ring lap fails for 64,000 ns and every member reports the Runner down. -/
  | runnerDown
  /-- RUNNER_KEEPALIVE (R165): Every 1,000 ns a member sends its keepalive CONTROL frame. -/
  | runnerKeepalive
  /-- RUNNER_UP (R172): Ring training completes and the chain runs; operands: measured lap in slots; members that trained. -/
  | runnerUp (lap : Nat) (members : Nat)
  /-- RX_FRAME (R97): The receive MAC takes a frame, checks runt, MAC control, FCS and length, and hands it to the express selector and the Pod or the ingress pipeline; operands: line port, the frame with its FCS, and what the receiver tells of it. -/
  | rxFrame (port : Nat) (bytes : List Byte) (r : RxSide)
  /-- SEL (R305): Micro-operation SEL selects one of two registers by condition; operands: thread and microword fields. -/
  | uSel (th : Nat) (d : Nat) (a : Nat) (b : Nat) (imm : Nat)
  /-- SET_RELEASED (R140): The drain window ends and the draining slot becomes shadow. -/
  | setReleased
  /-- SHADOW_PASS (R409): The reserve or a retired lane recomputes one agreed frame's descriptor as a self-test pass. -/
  | shadowPass (lane : Nat) (err : Word512)
  /-- SHL (R305): Micro-operation SHL shifts left by an immediate or register amount; operands: thread and microword fields. -/
  | uShl (th : Nat) (d : Nat) (a : Nat) (b : Nat) (imm : Nat)
  /-- SHR (R305): Micro-operation SHR shifts right logically; operands: thread and microword fields. -/
  | uShr (th : Nat) (d : Nat) (a : Nat) (b : Nat) (imm : Nat)
  /-- SLEW_INCREMENT (R42): Every 20,000 ns of a slew, one timebase increment is added or withheld from NT and ST. -/
  | slewIncrement
  /-- SOURCE_CHECK (R194): A queued L2 source check compares the source with its bucket and refreshes, moves, learns or evicts a station. -/
  | sourceCheck (pipe : Nat) (poisoned : Bool)
  /-- SOURCE_INACTIVE (R468): An alarm source's condition ends and its SEC_ALARM_STATUS bit clears. -/
  | sourceInactive (src : Nat)
  /-- STATUS (R504): Kaseni STATUS returns the mode, time, Pod, alarm, log, load and fuse state. -/
  | sbStatus (seq : Byte) (n : Nat) (pecOk : Bool)
  /-- STEP (R483): Entry command port operation STEP returns the next entry in enumeration order; operands: port 0 to 8, the window of the START, and what it reads in error. -/
  | ecpStep (port : Nat) (win : Window) (x : TableSide)
  /-- STEP_FRAME (R163): A cascaded STEP frame arrives and the member searches relative to the resume point. -/
  | stepFrame (issuer : Nat) (slot : Nat) (key : Nat) (pos : Nat) (entry : Nat) (prio : Nat) (wide : Bool) (bad : Bool) (lost : List Nat)
  /-- STF (R305): Micro-operation STF performs the store that the current FI describes; operands: thread and microword fields. -/
  | uStf (th : Nat) (d : Nat) (a : Nat) (b : Nat) (imm : Nat) (ecc : BurstOutcome)
  /-- STL (R305): Micro-operation STL stores to a window in little-endian order; operands: thread and microword fields. -/
  | uStl (th : Nat) (d : Nat) (x : Nat) (xen : Bool) (win : Nat) (size : Nat) (off : Nat) (ecc : BurstOutcome)
  /-- STN (R305): Micro-operation STN stores to a window in network order; operands: thread and microword fields. -/
  | uStn (th : Nat) (d : Nat) (x : Nat) (xen : Bool) (win : Nat) (size : Nat) (off : Nat) (ecc : BurstOutcome)
  /-- SUB (R305): Micro-operation SUB subtracts two registers and sets the flags; operands: thread and microword fields. -/
  | uSub (th : Nat) (d : Nat) (a : Nat) (b : Nat) (imm : Nat)
  /-- SVC_FAIL (R252): Far SVC_FAIL sets the verdict from the profile's FAIL_ACT and FAIL_CONDUIT. -/
  | farSvcFail (th : Nat)
  /-- SWEEP (R435): HMC_TEST with OP 1 starts a margin sweep in Maintenance or is rejected. -/
  | sweepTest (value : Word32)
  /-- TAIL_PLACEMENT (R327): The last byte of a store-and-forward packet arrives and PBF spills it, keeps it on chip or drops it; operands: internal port. -/
  | tailPlacement (inp : Nat)
  /-- TBL_READ (R305): Far TBL_READ reads a direct-index table entry into the far result area; operands: thread; the entry read from HBM is uncorrectable. -/
  | farTblRead (th : Nat) (ue : Bool)
  /-- TELEMETRY_PASS (R278): An interval pass visits a clove and exports its deltas and updates its shadow; operands: partition, window, poisoned shadow. -/
  | telemetryPass (part : Nat) (win : Nat) (ue : Bool)
  /-- TEMPLATE_REFRESH (R275): The template refresh period of a UDP exporter expires and templates are sent. -/
  | templateRefresh (part : Nat) (x : Nat)
  /-- TIME (R305): Micro-operation TIME reads ST, the age stamp, E or the millisecond count; operands: thread and microword fields. -/
  | uTime (th : Nat) (d : Nat) (a : Nat) (b : Nat) (imm : Nat)
  /-- TOD_MESSAGE (R35): A time-of-day message ends on a byte gap and is checked, then bound to the next accepted pulse or discarded as bad; operands: ns since the step before; the bytes received before the gap. -/
  | todMessage (gap : Nat) (bytes : List Byte)
  /-- TOUCH (R242): Far TOUCH sets a named clove's AGE to the current stamp; operands: thread; the clove read is uncorrectable. -/
  | farTouch (th : Nat) (ue : Bool)
  /-- TWIN_BOUNDARY (R278): A telemetry window boundary starts an interval pass in each partition or counts an overrun; operands: window. -/
  | twinBoundary (n : Nat)
  /-- VOTE (R406): The reserve's descriptor decides a disagreement by majority, or the frame is dropped. -/
  | podVote (fseq : Nat) (err : Word512)
  /-- WATCHDOG (R314): A run's budget count reaches BUDGET and the thread takes WATCHDOG or is ended on a second expiry. -/
  | thWatchdog (th : Nat)
  /-- WORD_WINDOW_READ (R501): A read of a conduit word window pops a word or returns the idle word; operands: master, the host's window, conduit, byte offset, bytes read. -/
  | wordWindowRead (m : Master) (win : Window) (c : Nat) (off : Nat) (size : Nat) (ue : WordCheck)
  /-- WORD_WINDOW_WRITE (R501): A write to an inject conduit's word window fills the latch or pushes a word. -/
  | wordWindowWrite (m : Master) (win : Window) (c : Nat) (off : Nat) (size : Nat) (value : Word512)
  /-- WRITE (R483): Entry command port operation WRITE replaces the entry at IDX; operands: port 0 to 8, the window of the START, and what it reads in error. -/
  | ecpWrite (port : Nat) (win : Window) (x : TableSide)
  /-- WRITE_REG (R504): Kaseni WRITE_REG writes a register the mode allows the side-band to reach. -/
  | sbWriteReg (seq : Byte) (n : Nat) (pecOk : Bool) (addr : Nat) (value : Word32)
  /-- XOR (R305): Micro-operation XOR combines two registers and sets the flags; operands: thread and microword fields. -/
  | uXor (th : Nat) (d : Nat) (a : Nat) (b : Nat) (imm : Nat)
  /-- XPR_TEST (R412): XPR_TEST.START begins 4,096 pattern passes on one lane or is rejected. -/
  | xprTest (value : Word32)
  /-- XPR_TEST_DONE (R412): A Pod lane test sequence completes and reports PASS or FAIL. -/
  | xprTestDone (pass : Bool)
  /-- XP_SCRUB (R403): The express-table scrubber compares a word across the three copies and repairs or zeroes it; operands: per lane, the bits of the word in which its copy reads wrong. -/
  | xpScrub (errs : List (BitVec 128))
  /-- ZEROISED (R471): The overwrite of the volatile keys with zeros completes after a Guard or Scorch response. -/
  | zeroised (trngOk : Bool)
  /-- SMB_TIMEOUT (R534): SMB_CLK held low for more than 25 ms resets the side-band port state. -/
  | smbTimeout
  /-- SNAP (R55): TBE_CTL.SNAP latches NT, ST and E into the snapshot registers. -/
  | snap
  /-- THERMAL_TRIP (R472): The junction exceeds 120 °C: Guard response, clocks gated and THERM_TRIP_N driven low. -/
  | thermalTrip
  /-- TOKEN_TIMEOUT (R63): The 30 s token wait expires and Load ends with failure code TOKEN_TIMEOUT. -/
  | tokenTimeout
  /-- TRACKER_CLEAR (R427): Every activate tracker is cleared at each 32 ms boundary of ST. -/
  | trackerClear
  /-- VDD_AON_FALL (R526): VDD_AON falls below 0.72 V and the always-on island enters its power-on reset, losing the log and any SCORCH_PENDING. -/
  | vddAonFall
  /-- WHEEL_ENTRY (R51): A fine-wheel entry reaches its instant and fires, updating its shaper node. -/
  | wheelEntry
  /-- XP_TABLE_COMMIT (R402): A held express-table write is committed to all three copies at an inter-lookup gap with no vote pending. -/
  | xpTableCommit
deriving DecidableEq, Repr

end Sys2Proof
end

