-- ==== Sys2Proof/Decode.lean ====
section
/-! DEFINITION. The words that spell commands. The opcode table gives no row any bits, so that no word of it spells a command; the
microwords of the control store spell the micro-operations (R304, R305). -/
namespace Sys2Proof

/-- The command that a word spells by the bits of the opcode table: no row of the table has any. -/
def decodeTableWord (_nbits _w : Nat) : Option Instr := none

/-! ### Microwords (R304) -/

/-- A microword of format R. -/
def microR (op d a b imm : Nat) : Nat := op * 2 ^ 26 + d * 2 ^ 22 + a * 2 ^ 18 + b * 2 ^ 14 + imm
/-- A microword of format I. -/
def microI (op d sh imm : Nat) : Nat := op * 2 ^ 26 + d * 2 ^ 22 + sh * 2 ^ 20 + imm
/-- A microword of format W. -/
def microW (op d x : Nat) (xen : Bool) (win size off : Nat) : Nat :=
  op * 2 ^ 26 + d * 2 ^ 22 + x * 2 ^ 18 + b2n xen * 2 ^ 17 + win * 2 ^ 15 + size * 2 ^ 13 + off
/-- A microword of format B. -/
def microB (op cond target : Nat) : Nat := op * 2 ^ 26 + cond * 2 ^ 22 + target

/-- The operation of a microword. -/
def microOp (w : Nat) : Nat := w / 2 ^ 26

/-- A microword as the engine reads it: the bits that formats I and B hold at zero are ignored (R9, R304). -/
def microClean (w : Nat) : Nat :=
  if microOp w = 0x0B ∨ microOp w = 0x0C then w - bits w 19 16 * 2 ^ 16
  else if microOp w = 0x10 then w - bits w 21 16 * 2 ^ 16
  else w

/-- A microword whose issue is a FAULT: a reserved operation, or a DISP of the kind that R305 leaves out (R305, R316). -/
def microFaults (w : Nat) : Bool := decide (0x24 ≤ microOp w) || (microOp w == 0x1E && w % 4 == 3)

/-- The operation of a micro-operation in format R (R305); DISP is judged by its kind. -/
def microOpR : Instr → Option (Nat × Nat × Nat × Nat × Nat × Nat)
  | .uNop t d a b imm => some (0x00, t, d, a, b, imm) | .uAdd t d a b imm => some (0x01, t, d, a, b, imm)
  | .uSub t d a b imm => some (0x02, t, d, a, b, imm) | .uAnd t d a b imm => some (0x03, t, d, a, b, imm)
  | .uOr t d a b imm => some (0x04, t, d, a, b, imm) | .uXor t d a b imm => some (0x05, t, d, a, b, imm)
  | .uAddi t d a b imm => some (0x06, t, d, a, b, imm) | .uShl t d a b imm => some (0x07, t, d, a, b, imm)
  | .uShr t d a b imm => some (0x08, t, d, a, b, imm) | .uExt t d a b imm => some (0x09, t, d, a, b, imm)
  | .uIns t d a b imm => some (0x0A, t, d, a, b, imm) | .uCmp t d a b imm => some (0x0D, t, d, a, b, imm)
  | .uCmpi t d a b imm => some (0x0E, t, d, a, b, imm) | .uSel t d a b imm => some (0x0F, t, d, a, b, imm)
  | .uGetf t d a b imm => some (0x11, t, d, a, b, imm) | .uPutf t d a b imm => some (0x12, t, d, a, b, imm)
  | .uLdf t d a b imm _ => some (0x17, t, d, a, b, imm) | .uStf t d a b imm _ => some (0x18, t, d, a, b, imm)
  | .uMovb t d a b imm _ => some (0x19, t, d, a, b, imm) | .uCsup t d a b imm => some (0x1A, t, d, a, b, imm)
  | .uHash t d a b imm => some (0x1B, t, d, a, b, imm) | .uMul t d a b imm => some (0x1C, t, d, a, b, imm)
  | .uFar t d a b imm => some (0x1D, t, d, a, b, imm)
  | .dispNext t d a b imm => if imm % 4 = 0 then some (0x1E, t, d, a, b, imm) else none
  | .dispJump t d a b imm => if imm % 4 = 1 then some (0x1E, t, d, a, b, imm) else none
  | .dispEnd t d a b imm => if imm % 4 = 2 then some (0x1E, t, d, a, b, imm) else none
  | .uTime t d a b imm => some (0x1F, t, d, a, b, imm) | .uCnt t d a b imm => some (0x20, t, d, a, b, imm)
  | .uAdj t d a b imm => some (0x21, t, d, a, b, imm) | .uFlag t d a b imm => some (0x22, t, d, a, b, imm)
  | .uRett t d a b imm => some (0x23, t, d, a, b, imm)
  | _ => none

/-- The fields of a micro-operation fit its format (R304). -/
def microOk (i : Instr) : Bool :=
  match i with
  | .uMovi _ d sh imm | .uMovk _ d sh imm => decide (d < 16) && decide (sh < 4) && decide (imm < 65536)
  | .uBr _ cond target => decide (cond < 16) && decide (target < 65536)
  | .uLdl _ d x _ win size off _ | .uLdn _ d x _ win size off _ | .uStl _ d x _ win size off _ | .uStn _ d x _ win size off _ =>
    decide (d < 16) && decide (x < 16) && decide (win < 4) && decide (size < 4) && decide (off < 8192)
  | i =>
    match microOpR i with
    | some (_, _, d, a, b, imm) => decide (d < 16) && decide (a < 16) && decide (b < 16) && decide (imm < 16384)
    | none => false

/-- The microword of a micro-operation (R304, R305); other commands have none. -/
def microEncode (i : Instr) : Option Nat :=
  match i with
  | .uMovi _ d sh imm => some (microI 0x0B d sh imm) | .uMovk _ d sh imm => some (microI 0x0C d sh imm)
  | .uBr _ cond target => some (microB 0x10 cond target)
  | .uLdl _ d x xen win size off _ => some (microW 0x13 d x xen win size off)
  | .uLdn _ d x xen win size off _ => some (microW 0x14 d x xen win size off)
  | .uStl _ d x xen win size off _ => some (microW 0x15 d x xen win size off)
  | .uStn _ d x xen win size off _ => some (microW 0x16 d x xen win size off)
  | i =>
    match microOpR i with
    | some (op, _, d, a, b, imm) => some (microR op d a b imm)
    | none => none

/-- The micro-operation that thread t issues from a microword (R304, R305), whose reserved bits are ignored (R9); none for a reserved
operation. `ecc` is the outcome of the access to the thread's context, which no word holds (R318). -/
def microDecode (t w : Nat) (ecc : BurstOutcome := .ok) : Option Instr :=
  let d := bits w 25 22
  let a := bits w 21 18
  let b := bits w 17 14
  let imm := bits w 13 0
  let x := bits w 21 18
  let xen := bit w 17
  let win := bits w 16 15
  let size := bits w 14 13
  let off := bits w 12 0
  match microOp w with
  | 0x00 => some (.uNop t d a b imm) | 0x01 => some (.uAdd t d a b imm) | 0x02 => some (.uSub t d a b imm)
  | 0x03 => some (.uAnd t d a b imm) | 0x04 => some (.uOr t d a b imm) | 0x05 => some (.uXor t d a b imm)
  | 0x06 => some (.uAddi t d a b imm) | 0x07 => some (.uShl t d a b imm) | 0x08 => some (.uShr t d a b imm)
  | 0x09 => some (.uExt t d a b imm) | 0x0A => some (.uIns t d a b imm)
  | 0x0B => some (.uMovi t d (bits w 21 20) (bits w 15 0)) | 0x0C => some (.uMovk t d (bits w 21 20) (bits w 15 0))
  | 0x0D => some (.uCmp t d a b imm) | 0x0E => some (.uCmpi t d a b imm) | 0x0F => some (.uSel t d a b imm)
  | 0x10 => some (.uBr t d (bits w 15 0))
  | 0x11 => some (.uGetf t d a b imm) | 0x12 => some (.uPutf t d a b imm)
  | 0x13 => some (.uLdl t d x xen win size off ecc) | 0x14 => some (.uLdn t d x xen win size off ecc)
  | 0x15 => some (.uStl t d x xen win size off ecc) | 0x16 => some (.uStn t d x xen win size off ecc)
  | 0x17 => some (.uLdf t d a b imm ecc) | 0x18 => some (.uStf t d a b imm ecc) | 0x19 => some (.uMovb t d a b imm ecc)
  | 0x1A => some (.uCsup t d a b imm) | 0x1B => some (.uHash t d a b imm) | 0x1C => some (.uMul t d a b imm)
  | 0x1D => some (.uFar t d a b imm)
  | 0x1E =>
    match imm % 4 with
    | 0 => some (.dispNext t d a b imm)
    | 1 => some (.dispJump t d a b imm)
    | 2 => some (.dispEnd t d a b imm)
    | _ => none
  | 0x1F => some (.uTime t d a b imm) | 0x20 => some (.uCnt t d a b imm) | 0x21 => some (.uAdj t d a b imm)
  | 0x22 => some (.uFlag t d a b imm) | 0x23 => some (.uRett t d a b imm)
  | _ => none

end Sys2Proof
end

