-- ==== Sys2Proof/Machine/ClsSet.lean ====
section
/-! DEFINITION. Rule sets (R120 to R132) and ingress meters (R133, R134) as functions over a set image and a
meter entry: the key, the tree walk, the rules, the checks of an arm, and the two meter algorithms. -/
namespace Sys2Proof

/-- A set image by 128-byte blocks, block n at key n (R121). -/
abbrev SetImg := SMap Dat

/-- The little-endian field of a set image; it may cross a block. -/
def setU (m : SetImg) (off size : Nat) : Nat :=
  let o := off % 128
  let v := (m.get (off / 128)).toNat + ((if o + size > 128 then (m.get (off / 128 + 1)).toNat else 0) <<< 1024)
  (v >>> (8 * o)) % 2 ^ (8 * size)

/-- SET_LEN (R124). -/
def setLen (m : SetImg) : Nat := setU m 4 4
/-- ACTION_COUNT (R124). -/
def setActions (m : SetImg) : Nat := setU m 16 4

/-- What a pass shows the key map besides its headers (R122). -/
structure KeyIn where
  parse : ParseRes := {}
  bytes : List Byte := []
  port : Nat := 0
  pass : Nat := 0
deriving DecidableEq, Repr, Inhabited

/-- Key field f: none when it is not present (R122, R123). -/
def keyField (m : SetImg) (k : KeyIn) (f : Nat) : Option Nat :=
  let o := 64 + 8 * f
  match setU m o 1 with
  | 1 => hdrField k.parse k.bytes (setU m (o + 1) 1) (setU m (o + 2) 1 % 32) (bit (setU m (o + 2) 1) 7)
           (setU m (o + 4) 2) (setU m (o + 3) 1)
  | 2 => some k.port
  | 3 => some (k.bytes.length + 4)
  | 4 => some (k.parse.outcome * 32 + k.parse.reason)
  | 5 => some k.pass
  | _ => none

/-- The sixteen key fields (R122). -/
def setKey (m : SetImg) (k : KeyIn) : List (Option Nat) := (List.range 16).map (keyField m k)

/-- Where a tree walk ends (R126). -/
inductive TreeEnd where
  | noRule | leaf (addr : Nat) | fault
deriving DecidableEq, Repr

/-- The walk from a child entry; the first argument is the number of cut nodes still allowed (R126). -/
def treeWalk (m : SetImg) (key : List (Option Nat)) : Nat → Nat → TreeEnd
  | fuel, child =>
    let addr := 16 * bits child 18 0
    match bits child 31 30 with
    | 0 => .noRule
    | 2 => if setLen m < addr + 48 then .fault else .leaf addr
    | 1 =>
      match fuel with
      | 0 => .fault
      | fuel' + 1 =>
        let field := setU m (addr + 1) 1
        let shift := setU m (addr + 2) 1
        let nb := setU m (addr + 3) 1
        let entry := 16 * setU m (addr + 4) 4 + 4 * bits ((key.getD field none).getD 0) (shift + nb - 1) shift
        if setLen m < addr + 16 ∨ setU m addr 1 ≠ 1 ∨ 15 < field ∨ 31 < shift ∨ nb < 1 ∨ 8 < nb ∨
            setLen m < entry + 4 then .fault
        else treeWalk m key fuel' (setU m entry 4)
    | _ => .fault
termination_by structural fuel => fuel

/-- The conditions of a rule record, one for each tested field in ascending order (R127). -/
def condsMatch (m : SetImg) (key : List (Option Nat)) (mask : Nat) : Nat → Nat → Nat → Bool
  | 0, _, _ => true
  | n + 1, f, addr =>
    if bit mask f then
      (match key.getD f none with
       | some v => decide (setU m addr 4 ≤ v) && decide (v ≤ setU m (addr + 4) 4)
       | none => false) && condsMatch m key mask n (f + 1) (addr + 8)
    else condsMatch m key mask n (f + 1) addr

/-- Whether the rule record at an address matches the key (R127). -/
def ruleMatch (m : SetImg) (key : List (Option Nat)) (addr : Nat) : Bool :=
  condsMatch m key (setU m (addr + 4) 2) 16 0 (addr + 8)

/-- The winner among matching records: priority, record address and action (R128). -/
def bestRule (m : SetImg) (key : List (Option Nat)) : List Nat → Option (Nat × Nat × Nat)
  | [] => none
  | a :: r =>
    match bestRule m key r with
    | none => if ruleMatch m key a then some (setU m a 4 % 2 ^ 20, a, setU m (a + 6) 2) else none
    | some (p, b, c) =>
      let q := setU m a 4 % 2 ^ 20
      if ruleMatch m key a ∧ (p < q ∨ (p = q ∧ a < b)) then some (q, a, setU m (a + 6) 2) else some (p, b, c)

/-- The tree's answer: a fault, or the winning rule if any (R126 to R128). -/
inductive TreeRes where
  | fault | none | rule (prio action : Nat)
deriving DecidableEq, Repr

/-- The tree search of a key (R126 to R128). -/
def treeSearch (m : SetImg) (key : List (Option Nat)) : TreeRes :=
  match treeWalk m key 12 (setU m 8 4) with
  | .noRule => .none
  | .fault => .fault
  | .leaf addr =>
    let n := setU m (addr + 1) 1
    let recs := (List.range n).map (fun k => 8 * (setU m (addr + 16 + 4 * k) 4 % 2 ^ 20))
    if setU m addr 1 ≠ 2 ∨ n < 1 ∨ 8 < n ∨
        recs.any (fun a => setLen m < a + 8 + 8 * popcount 16 (setU m (a + 4) 2)) ∨
        recs.any (fun a => setActions m ≤ setU m (a + 6) 2) then .fault
    else match bestRule m key recs with
      | none => .none
      | some (p, _, a) => .rule p a

/-- An action entry (R130). -/
structure ActEntry where
  flags : Nat := 0
  cls : Nat := 0
  colour : Nat := 0
  queue : Nat := 0
  meter : Nat := 0
  conduit : Nat := 0
  recircNode : Nat := 0
  flowProfile : Nat := 0
deriving DecidableEq, Repr, Inhabited

def ActEntry.drop (a : ActEntry) : Bool := bit a.flags 0
def ActEntry.punt (a : ActEntry) : Bool := bit a.flags 1
def ActEntry.recirc (a : ActEntry) : Bool := bit a.flags 2
def ActEntry.noFlow (a : ActEntry) : Bool := bit a.flags 3
def ActEntry.metered (a : ActEntry) : Bool := bit a.flags 4

/-- Action entry k of a set (R130). -/
def setAct (m : SetImg) (k : Nat) : ActEntry :=
  let o := setU m 12 4 + 16 * k
  { flags := setU m o 1, cls := setU m (o + 1) 1 % 8, colour := setU m (o + 2) 1 % 4,
    queue := setU m (o + 3) 1 % 8, meter := setU m (o + 4) 2, conduit := setU m (o + 6) 1 % 16,
    recircNode := setU m (o + 7) 1, flowProfile := setU m (o + 8) 1 }

/-- Whether an action entry is valid (R130). Reserved bits are ignored (R9). -/
def actOk (m : SetImg) (k : Nat) : Bool :=
  let o := setU m 12 4 + 16 * k
  let a := setAct m k
  !(a.drop && a.punt) && a.colour != 3 && setU m (o + 6) 1 ≤ 15

/-- Whether key-map entry f keeps the ranges of R122. Reserved bits are ignored (R9). -/
def keyMapOk (m : SetImg) (f : Nat) : Bool :=
  let o := 64 + 8 * f
  setU m o 1 ≤ 5 && (setU m o 1 != 1 || (1 ≤ setU m (o + 3) 1 && setU m (o + 3) 1 ≤ 32))

/-- The checks an arm makes of a set image (R138: R124, R130, R132). ROOT is judged by the walk (R126); ASA_PROFILE has a range
where ASA_EN is set; reserved bits are ignored (R9). -/
def setChecks (m : SetImg) : Bool :=
  let n := setActions m
  let base := setU m 12 4
  let abnormal := fun k => let a := setAct m k; a.drop || a.punt
  setU m 0 4 == 0x54534C43 && setLen m % 16 == 0 && 256 ≤ setLen m && setLen m ≤ 8388608 &&
    base % 16 == 0 && 1 ≤ n && n ≤ 65536 && 256 ≤ base && base + 16 * n ≤ setLen m &&
    setU m 20 4 ≤ 262144 && setU m 24 2 < n && setU m 26 2 < n && setU m 28 2 < n &&
    (!bit (setU m 30 1) 1 || decide (setU m 31 1 < 32)) &&
    (List.range 16).all (keyMapOk m) && (List.range n).all (actOk m) &&
    abnormal (setU m 26 2) && abnormal (setU m 28 2)

/-- A meter's buckets after refill: TC, TP and the fractions of a byte kept to hold the rate (R134). -/
structure MeterSt where
  tc : Nat := 0
  tp : Nat := 0
  lastSt : Nat := 0
  fracC : Nat := 0
  fracP : Nat := 0
deriving DecidableEq, Repr, Inhabited

/-- A bucket refilled for `dt` ns at `rate` b/s up to `cap`: bytes and the fraction kept. -/
def refill (bytes frac dt rate cap : Nat) : Nat × Nat :=
  let x := dt * rate + frac
  let b := bytes + x / 8000000000
  if cap ≤ b then (cap, 0) else (b, x % 8000000000)

/-- The colour decided by a meter (0 green, 1 yellow, 2 red) and the buckets charged (R134). -/
def meterColour (rfc4115 aware : Bool) (pre b tc tp : Nat) : Nat × Nat × Nat :=
  let c := if aware then pre else 0
  if rfc4115 then
    if c = 0 ∧ b ≤ tc then (0, tc - b, tp)
    else if c ≤ 1 ∧ b ≤ tp then (1, tc, tp - b)
    else (2, tc, tp)
  else
    if c = 2 ∨ tp < b then (2, tc, tp)
    else if c = 1 ∨ tc < b then (1, tc, tp - b)
    else (0, tc - b, tp - b)

/-- A rate of a meter is 0, or 64 kb/s to 800 Gb/s (R133). -/
def rateOk (r : Nat) : Bool := r == 0 || (64000 ≤ r && r ≤ 800000000000)

end Sys2Proof
end

