-- ==== Sys2Proof/Machine/StIngress.lean ====
section
/-! DEFINITION. The records of the line ports, the classifier, the associative search array with the Runner, and
forwarding. -/
namespace Sys2Proof

/-- A line port (R95 to R104). -/
structure PortSt where
  /-- Raw link state (R99). -/
  raw : Bool := false
  /-- ST since which the debounce of the raw state runs (R99, R553). -/
  rawSince : Nat := 0
  /-- Declared link up: LPC_PORT_STATUS (R99). -/
  up : Bool := false
  /-- Holding under R103, and the ST of the down declaration. -/
  holding : Bool := false
  holdSince : Nat := 0
deriving DecidableEq, Repr, Inhabited

/-- The classifier's swap state (R120, R136 to R145). -/
structure ClsSt where
  /-- Set images: slot s, block n at key s x 65,536 + n (R121). -/
  img : SMap Dat := {}
  /-- Hidden fractions of a byte of the meters' buckets (R134), by meter index. -/
  frac : SMap (Nat × Nat) := {}
  active : Nat := 0
  draining : Bool := false
  /-- ST at which the last swap fired (R140). -/
  drainSt : Nat := 0
  armed : Option Nat := none
  /-- The swap armed last has fired (R141). -/
  fired : Bool := false
  copyBusy : Bool := false
  copyStart : Nat := 0
  copyRefused : Bool := false
  lastArm : Nat := 0
  lastDisarm : Nat := 0
  sinceAct : Nat := 0
  sinceDrain : Nat := 0
  slotEpoch0 : Nat := 0
  slotEpoch1 : Nat := 0
deriving DecidableEq, Repr, Inhabited

/-- An entry of the array: value, care and attribute record (R146, R148). -/
structure AsaEnt where
  value : BitVec 320 := 0
  care : BitVec 320 := 0
  attr : Word64 := 0
deriving DecidableEq, Repr, Inhabited

/-- A search result (R156). -/
structure AsaRes where
  hit : Bool := false
  multi : Bool := false
  cascaded : Bool := false
  timeout : Bool := false
  degraded : Bool := false
  position : Nat := 0
  entry : Nat := 0
  prio : Nat := 0
  action : Nat := 0
deriving DecidableEq, Repr, Inhabited

/-- A step handle (R157): key, profile, tag slot and the rank last returned. -/
structure AsaHandle where
  live : Bool := false
  key : Nat := 0
  profile : Nat := 0
  slot : Nat := 0
  position : Nat := 0
  entry : Nat := 0
  prio : Nat := 0
deriving DecidableEq, Repr, Inhabited

/-- ASA_RUNNER_STATUS.STATE (R173). -/
inductive RunnerState where
  | down | training | running | bypass
deriving DecidableEq, Repr, Inhabited

def RunnerState.code : RunnerState → Nat
  | .down => 0 | .training => 1 | .running => 2 | .bypass => 3

/-- Who asked for a cascaded search. -/
inductive AsaOwner where
  | port (n : Nat) | thread (t : Nat)
deriving DecidableEq, Repr, Inhabited

/-- The key of an owner's step handle: ports first, then threads. -/
def AsaOwner.key : AsaOwner → Nat
  | .port n => n
  | .thread t => 16 + t

/-- A cascaded search or STEP that waits for its slot or is in flight (R161 to R167). -/
structure CasReq where
  owner : AsaOwner := .port 0
  key : Nat := 0
  profile : Nat := 0
  /-- The resume point of a STEP: POSITION, ENTRY, PRIO (R163). -/
  resume : Option (Nat × Nat × Nat) := none
  /-- The launch slot, once launched. -/
  slot : Option Nat := none
  /-- ST of the launch. -/
  at_ : Nat := 0
  /-- It was relaunched after a failed check (R442). -/
  relaunched : Bool := false
deriving DecidableEq, Repr, Inhabited

/-- A match this member found for a slot, until it drives CAS_MOUT (R162). -/
structure CasMatch where
  slot : Nat := 0
  issuer : Nat := 0
  hit : Bool := false
  multi : Bool := false
  entry : Nat := 0
  prio : Nat := 0
  action : Nat := 0
  /-- CAS_MOUT has been driven for the slot (R162). -/
  driven : Bool := false
deriving DecidableEq, Repr, Inhabited

/-- The Runner as this member holds it (R158 to R167, R442). -/
structure Runner where
  state : RunnerState := .down
  gen : Nat := 0
  members : Nat := 0
  /-- This member's ring receive path is retired (R442). -/
  retired : Bool := false
  /-- ST of the last keepalive heard from each position (R165). -/
  heard : SMap Nat := {}
  /-- ST of this member's last keepalive. -/
  sent : Nat := 0
  /-- A re-admission that applies at the next epoch boundary: GEN, members and the epoch index named (R167). -/
  rejoin : Option (Nat × Nat × Nat) := none
  /-- ST at which the last ring frame came in: the ring lap works (R167). -/
  lapAt : Nat := 0
  /-- The last wide launch: its slot and ST (R161). -/
  wideAt : Option (Nat × Nat) := none
  /-- ST at which training was last tried (R167). -/
  trainAt : Nat := 0
  waiting : List CasReq := []
  flight : List CasReq := []
  matched : List CasMatch := []
deriving DecidableEq, Repr, Inhabited

/-- The associative search array (R146 to R173). -/
structure AsaSt where
  ents : SMap AsaEnt := {}
  /-- Staged low halves of the nine ports: index and data (R149). -/
  staged : SMap (Option (Nat × Dat)) := {}
  retired : Nat := 0
  handles : SMap AsaHandle := {}
  /-- Next entry the scrubber reads, and the ST at which the one before was due (R169). -/
  scrub : Nat := 0
  scrubAt : Nat := 0
  testBank : Nat := 0
  testBusy : Bool := false
  testResult : Nat := 0
  run : Runner := {}
deriving DecidableEq, Repr, Inhabited

/-- A route (R186). -/
structure Route where
  vrf : Nat := 0
  prefx : Nat := 0
  len : Nat := 0
  result : Nat := 0
deriving DecidableEq, Repr, Inhabited

/-- A route bucket under its pivot, with the cover that the pivot records (R187). -/
structure RBucket where
  vrf : Nat := 0
  prefx : Nat := 0
  len : Nat := 0
  routes : List Route := []
  cover : Option Route := none
deriving DecidableEq, Repr, Inhabited

/-- The 16 bytes of an L2 entry, of a next hop and of a direct-index entry. -/
abbrev Ent16 := BitVec 128

/-- A queued source check (R193). -/
structure SrcCheck where
  bd : Nat := 0
  mac : Nat := 0
  nexthop : Nat := 0
deriving DecidableEq, Repr, Inhabited

/-- A flush of a downed port's stations that runs (R197). -/
structure L2Flush where
  port : Nat := 0
  count : Nat := 0
deriving DecidableEq, Repr, Inhabited

/-- Forwarding's own state (R180 to R198); its host tables are with the other tables. -/
structure FwdSt where
  b4 : List RBucket := []
  b6 : List RBucket := []
  /-- LPM_PIVOT_HIGH was raised for the family (R189). -/
  high4 : Bool := false
  high6 : Bool := false
  /-- Offsets of the parts of the forwarding region, as chosen at Load (R176). -/
  place : SMap Nat := {}
  /-- L2 entries by index (R191). -/
  l2 : SMap Ent16 := {}
  l2Valid : Nat := 0
  /-- Source checks waiting, per pipeline (R193). -/
  checks : SMap (List SrcCheck) := {}
  /-- Recent sources with their age quantum, newest first, per pipeline (R193). -/
  recent : SMap (List (Nat × Nat × Nat)) := {}
  /-- The ms index and the learns admitted in it, per pipeline (R195). -/
  learnWin : SMap (Nat × Nat) := {}
  /-- Next slot the ageing scanner visits, and the ST at which the one before was due (R196). -/
  scan : Nat := 0
  scanAt : Nat := 0
  flushes : List L2Flush := []
deriving DecidableEq, Repr, Inhabited

end Sys2Proof
end

