-- ==== Sys2Proof/Machine/AsaCore.lean ====
section
/-! DEFINITION. The associative search as a function over the entries (R146 to R156): who takes part, ranking, the
result and the step after a rank. -/
namespace Sys2Proof

def AsaEnt.valid (e : AsaEnt) : Bool := bit e.attr.toNat 48
/-- TAG bits 2:1 of FLAGS (R148). -/
def AsaEnt.tag (e : AsaEnt) : Nat := bits e.attr.toNat 50 49
def AsaEnt.prio (e : AsaEnt) : Nat := bits e.attr.toNat 19 0
def AsaEnt.action (e : AsaEnt) : Nat := bits e.attr.toNat 47 32

/-- What a search examines (R151, R152, R160, R168). -/
structure AsaScope where
  /-- Banks examined: selected, powered and not retired. -/
  banks : Nat := 0
  key640 : Bool := false
  /-- Only entries with TAG 0, only entries tagged to a slot, or no tag filter (R168). -/
  untagged : Bool := false
  slot : Option Nat := none
  /-- Key bits compared. -/
  width : Nat := 320
  degraded : Bool := false
deriving DecidableEq, Repr, Inhabited

/-- Whether an entry at index n takes part and matches (R148, R152). -/
def asaMatch (ents : SMap AsaEnt) (sc : AsaScope) (key n : Nat) : Bool :=
  let e := ents.get n
  let lowOk := ((key ^^^ e.value.toNat) &&& e.care.toNat) % 2 ^ min 320 sc.width == 0
  let hi := ents.get (n + 2048)
  let hiOk := !sc.key640 || ((key >>> 320) ^^^ hi.value.toNat) &&& hi.care.toNat == 0
  e.valid && bit sc.banks (n / 2048) && (!sc.key640 || ((n / 2048) % 2 == 0 && bit sc.banks (n / 2048 + 1))) &&
    (!sc.untagged || e.tag == 0) && (match sc.slot with | some t => bit e.tag t | none => true) && lowOk && hiOk

/-- Whether (prio, n) ranks strictly after a rank (R154, R157). -/
def rankAfter (prio n prio0 n0 : Nat) : Bool := decide (prio < prio0) || (prio == prio0 && decide (n0 < n))

/-- The best of two ranked matches (R154). -/
def asaBetter (a b : Nat × Nat × Nat) : Nat × Nat × Nat := if rankAfter b.1 b.2.1 a.1 a.2.1 then a else b

/-- The matches as (priority, index, action), restricted to those after a rank. -/
def asaHits (ents : SMap AsaEnt) (sc : AsaScope) (key : Nat) (after : Option (Nat × Nat)) :
    List (Nat × Nat × Nat) :=
  (ents.cells.filter (fun c => asaMatch ents sc key c.1 &&
      (match after with | some (p, n) => rankAfter c.2.prio c.1 p n | none => true))).map
    (fun c => (c.2.prio, c.1, c.2.action))

/-- A local search, from the top or after a rank (R154 to R157). -/
def asaSearch (ents : SMap AsaEnt) (sc : AsaScope) (key : Nat) (after : Option (Nat × Nat)) : AsaRes :=
  match asaHits ents sc key after with
  | [] => { degraded := sc.degraded }
  | h :: t =>
    let w := t.foldl asaBetter h
    { hit := true, multi := !t.isEmpty, degraded := sc.degraded, entry := w.2.1, prio := w.1, action := w.2.2 }

/-- The 12-byte result (R156). -/
def AsaRes.bytes (r : AsaRes) : Nat :=
  let f := b2n r.hit + 2 * b2n r.multi + 4 * b2n r.cascaded + 8 * b2n r.timeout + 16 * b2n r.degraded
  if r.hit then f + r.position * 2 ^ 8 + r.entry * 2 ^ 16 + r.prio * 2 ^ 32 + r.action * 2 ^ 64 else f

/-- The handle that stands after a result (R157): a search without a match leaves it released. -/
def AsaRes.handle (r : AsaRes) (key profile slot : Nat) : AsaHandle :=
  { live := r.hit, key, profile, slot, position := r.position, entry := r.entry, prio := r.prio }

end Sys2Proof
end

