-- ==== Sys2Proof/Config.lean ====
section
/-! DEFINITION. What the spec leaves to the device: opaque constants with no body. Each names the rule that leaves
the value open; a claim about the model holds for every value of them. -/
namespace Sys2Proof

/-- A draw of the TRNG (R460, R471): the n-th draw of the state's counter, for any key or seed. -/
opaque Config.trng : Nat → Nat

/-- I and the top-tree root of the identity key, 48 bytes, from DEVICE_SECRET (R461). -/
opaque Config.identity : BitVec 256 → List Byte

/-- What stands in the place of I and the top-tree root while the root has not been computed (R466, R467): the n-th free value. -/
opaque Config.noIdentity : Nat → List Byte

/-- The nodes of the bottom tree that a seed gives, as one number (R463). -/
opaque Config.bottomTree : Nat → Nat

/-- What the top signature with leaf q under DEVICE_SECRET puts over a bottom tree's public key (R463, R466), as one number of 2,544
bytes: randomiser, chains and path, then I and root of the bottom key. -/
opaque Config.topSignature : BitVec 256 → Nat → Nat → Nat

/-- What the bottom signature of a body with leaf n of a seed's tree holds (R466): randomiser, chains and path. -/
opaque Config.signature : Nat → Nat → List Byte → List Byte

/-- The action index of an associative-search winner whose ACTION is not below ACTION_COUNT: the spec gives the
pass no action there (R128). -/
opaque Config.straysAction : Nat → Nat

/-- The keyed 64-bit hash of (BD, MAC) (R191). -/
opaque Config.l2Hash : Nat → Nat → Nat → Nat

/-- A pick of the device where the spec leaves a choice open: the n-th free value of the state's counter. -/
opaque Config.pick : Nat → Nat

/-- The 64-bit flow hash of a partition's keys, the partition number and the 48 key bytes (R211). -/
opaque Config.flowHash : Nat → Nat → Nat → Nat

/-- The n-th choice that makes up the permutation of block b of a partition under the NAT permutation key (R251). -/
opaque Config.natPerm : Nat → Nat → Nat → Nat → Nat

/-- The keyed 32-bit hash of a subscriber's key that starts its search for a first block (R250). -/
opaque Config.firstBlock : Nat → Nat → Nat

/-- What the die and stack sensors measure at an ST, in the layout of MGT_TEMP (R536, R540): a measurement from outside the model. -/
opaque Config.sensors : Nat → BitVec 32

/-- Half the refresh interval of a bank and the refreshes that may be postponed, each less one (R425): JESD238 gives them, not the spec. -/
opaque Config.refreshHalf : Nat
opaque Config.refreshPostponed : Nat

/-- The k-th choice that orders the regions of HBM (R29): the image places them, and the spec gives no place for their bases. -/
opaque Config.hbmBase : Nat → Nat

end Sys2Proof
end

