-- ==== Sys2Proof/Machine/Regs.lean ====
section
/-! DEFINITION. The register map: every register of R549 with the address, the repetition and the
fields that its chapter gives it, and the counters with theirs (R508). Written out from the tables of spec/ that
R549 names; the docstring of each name gives its window and offset. -/
namespace Sys2Proof

/-- The access types of R8; `res` is a reserved field (R9). -/
inductive Access where
  | rw | ro | wo | w1c | w1s | rc | rwl | res
deriving DecidableEq, Repr, Inhabited

/-- One field of a register: bits [hi:lo], its access type, whether its Reset column reads "image" (R11),
and its reset value. -/
structure RField where
  hi : Nat
  lo : Nat
  acc : Access
  image : Bool := false
  reset : Nat := 0
deriving DecidableEq, Repr, Inhabited

/-- A register, or an array of them in one or two dimensions. -/
structure RegGroup where
  base : Nat
  n1 : Nat := 1
  s1 : Nat := 4
  n2 : Nat := 1
  s2 : Nat := 4
  fields : List RField
deriving DecidableEq, Repr, Inhabited

/-- MGT_PART at BAR0 0x0000000. -/
def Reg.MGT_PART : Nat := 0x0000000
/-- MGT_BOARD at BAR0 0x0000004. -/
def Reg.MGT_BOARD : Nat := 0x0000004
/-- MGT_WIN_OPEN at BAR0 0x0000008. -/
def Reg.MGT_WIN_OPEN : Nat := 0x0000008
/-- MGT_SCRATCH at BAR0 0x000000C. -/
def Reg.MGT_SCRATCH : Nat := 0x000000C
/-- MGT_MODE at BAR0 0x0000100. -/
def Reg.MGT_MODE : Nat := 0x0000100
/-- MGT_MODE_CTL at BAR0 0x0000104. -/
def Reg.MGT_MODE_CTL : Nat := 0x0000104
/-- MGT_HEARTBEAT at BAR0 0x0000108. -/
def Reg.MGT_HEARTBEAT : Nat := 0x0000108
/-- MGT_HB_CFG at BAR0 0x000010C. -/
def Reg.MGT_HB_CFG : Nat := 0x000010C
/-- MGT_DRAIN_CFG at BAR0 0x0000110. -/
def Reg.MGT_DRAIN_CFG : Nat := 0x0000110
/-- MGT_PWR_OFF0 at BAR0 0x0000180. -/
def Reg.MGT_PWR_OFF0 : Nat := 0x0000180
/-- MGT_PWR_OFF1 at BAR0 0x0000184. -/
def Reg.MGT_PWR_OFF1 : Nat := 0x0000184
/-- MGT_TEMP at BAR0 0x0000190. -/
def Reg.MGT_TEMP : Nat := 0x0000190
/-- MGT_FLT_CFG at BAR0 0x0000200 + 8 x 4. -/
def Reg.MGT_FLT_CFG (i : Nat) : Nat := 0x0000200 + 0x4 * i
/-- MGT_ELOG_TOTAL at BAR0 0x0000300. -/
def Reg.MGT_ELOG_TOTAL : Nat := 0x0000300
/-- MGT_ELOG_SLOT at BAR0 0x0004000 + 1024 x 16 + 4 x 4. -/
def Reg.MGT_ELOG_SLOT (i : Nat) (j : Nat) : Nat := 0x0004000 + 0x10 * i + 0x4 * j
/-- MGT_ECP_CTL at BAR0 0x0008000 + 8 x 256. -/
def Reg.MGT_ECP_CTL (i : Nat) : Nat := 0x0008000 + 0x100 * i
/-- MGT_ECP_TBL at BAR0 0x0008004 + 8 x 256. -/
def Reg.MGT_ECP_TBL (i : Nat) : Nat := 0x0008004 + 0x100 * i
/-- MGT_ECP_IDX at BAR0 0x0008008 + 8 x 256. -/
def Reg.MGT_ECP_IDX (i : Nat) : Nat := 0x0008008 + 0x100 * i
/-- MGT_ECP_CNT at BAR0 0x0008010 + 8 x 256. -/
def Reg.MGT_ECP_CNT (i : Nat) : Nat := 0x0008010 + 0x100 * i
/-- MGT_ECP_STS at BAR0 0x000800C + 8 x 256. -/
def Reg.MGT_ECP_STS (i : Nat) : Nat := 0x000800C + 0x100 * i
/-- MGT_ECP_DAT at BAR0 0x0008080 + 8 x 256 + 32 x 4. -/
def Reg.MGT_ECP_DAT (i : Nat) (j : Nat) : Nat := 0x0008080 + 0x100 * i + 0x4 * j
/-- MGT_RING_BASE_LO at BAR0 0x0009000 + 41 x 64. -/
def Reg.MGT_RING_BASE_LO (i : Nat) : Nat := 0x0009000 + 0x40 * i
/-- MGT_RING_BASE_HI at BAR0 0x0009004 + 41 x 64. -/
def Reg.MGT_RING_BASE_HI (i : Nat) : Nat := 0x0009004 + 0x40 * i
/-- MGT_RING_WB_LO at BAR0 0x0009008 + 41 x 64. -/
def Reg.MGT_RING_WB_LO (i : Nat) : Nat := 0x0009008 + 0x40 * i
/-- MGT_RING_WB_HI at BAR0 0x000900C + 41 x 64. -/
def Reg.MGT_RING_WB_HI (i : Nat) : Nat := 0x000900C + 0x40 * i
/-- MGT_RING_CFG at BAR0 0x0009010 + 41 x 64. -/
def Reg.MGT_RING_CFG (i : Nat) : Nat := 0x0009010 + 0x40 * i
/-- MGT_RING_HOST_IDX at BAR0 0x0009014 + 41 x 64. -/
def Reg.MGT_RING_HOST_IDX (i : Nat) : Nat := 0x0009014 + 0x40 * i
/-- MGT_RING_DEV_IDX at BAR0 0x0009018 + 41 x 64. -/
def Reg.MGT_RING_DEV_IDX (i : Nat) : Nat := 0x0009018 + 0x40 * i
/-- MGT_CDT_PTR at BAR0 0x000901C + 41 x 64. -/
def Reg.MGT_CDT_PTR (i : Nat) : Nat := 0x000901C + 0x40 * i
/-- MGT_CDT_PKTS at BAR0 0x0009020 + 41 x 64. -/
def Reg.MGT_CDT_PKTS (i : Nat) : Nat := 0x0009020 + 0x40 * i
/-- MGT_CDT_CTL at BAR0 0x0009024 + 41 x 64. -/
def Reg.MGT_CDT_CTL (i : Nat) : Nat := 0x0009024 + 0x40 * i
/-- MGT_TBL_OPER at BAR0 0x000B000 + 8 x 4. -/
def Reg.MGT_TBL_OPER (i : Nat) : Nat := 0x000B000 + 0x4 * i
/-- MGT_SB_ALERT_MASK at BAR0 0x000B020. -/
def Reg.MGT_SB_ALERT_MASK : Nat := 0x000B020
/-- MGT_CNT_STAMP_HOST_LO at BAR0 0x000B040. -/
def Reg.MGT_CNT_STAMP_HOST_LO : Nat := 0x000B040
/-- MGT_CNT_STAMP_HOST_HI at BAR0 0x000B044. -/
def Reg.MGT_CNT_STAMP_HOST_HI : Nat := 0x000B044
/-- MGT_CNT_STAMP_SB_LO at BAR0 0x000B048. -/
def Reg.MGT_CNT_STAMP_SB_LO : Nat := 0x000B048
/-- MGT_CNT_STAMP_SB_HI at BAR0 0x000B04C. -/
def Reg.MGT_CNT_STAMP_SB_HI : Nat := 0x000B04C
/-- MGT_CNT_PROF_CFG at BAR0 0x000A000 + 32 x 16. -/
def Reg.MGT_CNT_PROF_CFG (i : Nat) : Nat := 0x000A000 + 0x10 * i
/-- MGT_CNT_PROF_TBL at BAR0 0x000A004 + 32 x 16. -/
def Reg.MGT_CNT_PROF_TBL (i : Nat) : Nat := 0x000A004 + 0x10 * i
/-- MGT_CNT_PROF_IDX_LO at BAR0 0x000A008 + 32 x 16. -/
def Reg.MGT_CNT_PROF_IDX_LO (i : Nat) : Nat := 0x000A008 + 0x10 * i
/-- MGT_CNT_PROF_IDX_HI at BAR0 0x000A00C + 32 x 16. -/
def Reg.MGT_CNT_PROF_IDX_HI (i : Nat) : Nat := 0x000A00C + 0x10 * i
/-- SEC_FUSE_STATE at BAR0 0x0400000. -/
def Reg.SEC_FUSE_STATE : Nat := 0x0400000
/-- SEC_SERIAL_LO at BAR0 0x0400004. -/
def Reg.SEC_SERIAL_LO : Nat := 0x0400004
/-- SEC_SERIAL_HI at BAR0 0x0400008. -/
def Reg.SEC_SERIAL_HI : Nat := 0x0400008
/-- SEC_IDENT at BAR0 0x040000C. -/
def Reg.SEC_IDENT : Nat := 0x040000C
/-- SEC_LOAD_STATUS at BAR0 0x0400100. -/
def Reg.SEC_LOAD_STATUS : Nat := 0x0400100
/-- SEC_LOAD_DETAIL at BAR0 0x0400104. -/
def Reg.SEC_LOAD_DETAIL : Nat := 0x0400104
/-- SEC_IMAGE_INFO at BAR0 0x0400108. -/
def Reg.SEC_IMAGE_INFO : Nat := 0x0400108
/-- SEC_IMAGE_BUILD_LO at BAR0 0x040010C. -/
def Reg.SEC_IMAGE_BUILD_LO : Nat := 0x040010C
/-- SEC_IMAGE_BUILD_HI at BAR0 0x0400110. -/
def Reg.SEC_IMAGE_BUILD_HI : Nat := 0x0400110
/-- SEC_FUSED_VERSION at BAR0 0x0400114. -/
def Reg.SEC_FUSED_VERSION : Nat := 0x0400114
/-- SEC_ALARM_STATUS at BAR0 0x0400200. -/
def Reg.SEC_ALARM_STATUS : Nat := 0x0400200
/-- SEC_ALARM_LATCH at BAR0 0x0400204. -/
def Reg.SEC_ALARM_LATCH : Nat := 0x0400204
/-- SEC_ALARM_GRADE at BAR0 0x0400210 + 4 x 4. -/
def Reg.SEC_ALARM_GRADE (i : Nat) : Nat := 0x0400210 + 0x4 * i
/-- SEC_ROOT_STAGE at BAR0 0x0400300 + 8 x 4. -/
def Reg.SEC_ROOT_STAGE (i : Nat) : Nat := 0x0400300 + 0x4 * i
/-- SEC_OTP_CMD at BAR0 0x0400320. -/
def Reg.SEC_OTP_CMD : Nat := 0x0400320
/-- TBE_STATUS at BAR0 0x0800000. -/
def Reg.TBE_STATUS : Nat := 0x0800000
/-- TBE_CFG at BAR0 0x0800004. -/
def Reg.TBE_CFG : Nat := 0x0800004
/-- TBE_PPS_CFG at BAR0 0x0800008. -/
def Reg.TBE_PPS_CFG : Nat := 0x0800008
/-- TBE_CTL at BAR0 0x080000C. -/
def Reg.TBE_CTL : Nat := 0x080000C
/-- TBE_SNAP_NT_NS at BAR0 0x0800010. -/
def Reg.TBE_SNAP_NT_NS : Nat := 0x0800010
/-- TBE_SNAP_NT_SEC_LO at BAR0 0x0800014. -/
def Reg.TBE_SNAP_NT_SEC_LO : Nat := 0x0800014
/-- TBE_SNAP_NT_SEC_HI at BAR0 0x0800018. -/
def Reg.TBE_SNAP_NT_SEC_HI : Nat := 0x0800018
/-- TBE_SNAP_ST_LO at BAR0 0x080001C. -/
def Reg.TBE_SNAP_ST_LO : Nat := 0x080001C
/-- TBE_SNAP_ST_HI at BAR0 0x0800020. -/
def Reg.TBE_SNAP_ST_HI : Nat := 0x0800020
/-- TBE_SNAP_EPOCH at BAR0 0x0800024. -/
def Reg.TBE_SNAP_EPOCH : Nat := 0x0800024
/-- TBE_OFFSET_LO at BAR0 0x0800028. -/
def Reg.TBE_OFFSET_LO : Nat := 0x0800028
/-- TBE_OFFSET_HI at BAR0 0x080002C. -/
def Reg.TBE_OFFSET_HI : Nat := 0x080002C
/-- TBE_PHASE_ERR at BAR0 0x0800030. -/
def Reg.TBE_PHASE_ERR : Nat := 0x0800030
/-- TBE_LAST_TOD at BAR0 0x0800040 + 4 x 4. -/
def Reg.TBE_LAST_TOD (i : Nat) : Nat := 0x0800040 + 0x4 * i
/-- TBE_TWIN_CFG at BAR0 0x0800100 + 8 x 4. -/
def Reg.TBE_TWIN_CFG (i : Nat) : Nat := 0x0800100 + 0x4 * i
/-- LPC_OCTET_CFG at BAR0 0x0C00000 + 4 x 4. -/
def Reg.LPC_OCTET_CFG (i : Nat) : Nat := 0x0C00000 + 0x4 * i
/-- LPC_DEBOUNCE at BAR0 0x0C00080. -/
def Reg.LPC_DEBOUNCE : Nat := 0x0C00080
/-- LPC_PORT_ADMIN at BAR0 0x0C00084. -/
def Reg.LPC_PORT_ADMIN : Nat := 0x0C00084
/-- LPC_PORT_STATUS at BAR0 0x0C00088. -/
def Reg.LPC_PORT_STATUS : Nat := 0x0C00088
/-- LPC_PORT_HOLD at BAR0 0x0C0008C. -/
def Reg.LPC_PORT_HOLD : Nat := 0x0C0008C
/-- LPC_PORT_CFG at BAR0 0x0C00100 + 32 x 4. -/
def Reg.LPC_PORT_CFG (i : Nat) : Nat := 0x0C00100 + 0x4 * i
/-- PRS_PORT_START at BAR0 0x1000000 + 8 x 4. -/
def Reg.PRS_PORT_START (i : Nat) : Nat := 0x1000000 + 0x4 * i
/-- PRS_GRAPH_INFO at BAR0 0x1000040. -/
def Reg.PRS_GRAPH_INFO : Nat := 0x1000040
/-- CLS_SET_STATUS at BAR0 0x1400000. -/
def Reg.CLS_SET_STATUS : Nat := 0x1400000
/-- CLS_CTL at BAR0 0x1400004. -/
def Reg.CLS_CTL : Nat := 0x1400004
/-- CLS_SWAP_EPOCH at BAR0 0x1400008. -/
def Reg.CLS_SWAP_EPOCH : Nat := 0x1400008
/-- CLS_SLOT_EPOCH at BAR0 0x140000C + 2 x 4. -/
def Reg.CLS_SLOT_EPOCH (i : Nat) : Nat := 0x140000C + 0x4 * i
/-- CLS_DRAIN_WIN at BAR0 0x1400014. -/
def Reg.CLS_DRAIN_WIN : Nat := 0x1400014
/-- ASA_CFG at BAR0 0x1800000. -/
def Reg.ASA_CFG : Nat := 0x1800000
/-- ASA_RUNNER_BANKS at BAR0 0x1800004. -/
def Reg.ASA_RUNNER_BANKS : Nat := 0x1800004
/-- ASA_BANK_PWR at BAR0 0x1800008. -/
def Reg.ASA_BANK_PWR : Nat := 0x1800008
/-- ASA_BANK_RETIRED at BAR0 0x180000C. -/
def Reg.ASA_BANK_RETIRED : Nat := 0x180000C
/-- ASA_RUNNER_CFG at BAR0 0x1800010. -/
def Reg.ASA_RUNNER_CFG : Nat := 0x1800010
/-- ASA_RUNNER_STATUS at BAR0 0x1800014. -/
def Reg.ASA_RUNNER_STATUS : Nat := 0x1800014
/-- ASA_TEST at BAR0 0x1800020. -/
def Reg.ASA_TEST : Nat := 0x1800020
/-- ASA_PROFILE_BANK at BAR0 0x1800100 + 32 x 8. -/
def Reg.ASA_PROFILE_BANK (i : Nat) : Nat := 0x1800100 + 0x8 * i
/-- ASA_PROFILE_CFG at BAR0 0x1800104 + 32 x 8. -/
def Reg.ASA_PROFILE_CFG (i : Nat) : Nat := 0x1800104 + 0x8 * i
/-- FWD_CFG at BAR0 0x1C00000. -/
def Reg.FWD_CFG : Nat := 0x1C00000
/-- FWD_L2_AGE at BAR0 0x1C00004. -/
def Reg.FWD_L2_AGE : Nat := 0x1C00004
/-- FWD_L2_RATE at BAR0 0x1C00008. -/
def Reg.FWD_L2_RATE : Nat := 0x1C00008
/-- FWD_LPM_STATUS4 at BAR0 0x1C00080. -/
def Reg.FWD_LPM_STATUS4 : Nat := 0x1C00080
/-- FWD_LPM_STATUS6 at BAR0 0x1C00084. -/
def Reg.FWD_LPM_STATUS6 : Nat := 0x1C00084
/-- FWD_LPM_ROUTES4 at BAR0 0x1C00088. -/
def Reg.FWD_LPM_ROUTES4 : Nat := 0x1C00088
/-- FWD_LPM_ROUTES6 at BAR0 0x1C0008C. -/
def Reg.FWD_LPM_ROUTES6 : Nat := 0x1C0008C
/-- FWD_L2_COUNT at BAR0 0x1C00090. -/
def Reg.FWD_L2_COUNT : Nat := 0x1C00090
/-- FWD_PORT_CFG at BAR0 0x1C00100 + 32 x 4. -/
def Reg.FWD_PORT_CFG (i : Nat) : Nat := 0x1C00100 + 0x4 * i
/-- FWD_DIRECT_CFG at BAR0 0x1C00200 + 8 x 4. -/
def Reg.FWD_DIRECT_CFG (i : Nat) : Nat := 0x1C00200 + 0x4 * i
/-- FWD_STEP_LO at BAR0 0x1C00400 + 16 x 32 + 4 x 8. -/
def Reg.FWD_STEP_LO (i : Nat) (j : Nat) : Nat := 0x1C00400 + 0x20 * i + 0x8 * j
/-- FWD_STEP_HI at BAR0 0x1C00404 + 16 x 32 + 4 x 8. -/
def Reg.FWD_STEP_HI (i : Nat) (j : Nat) : Nat := 0x1C00404 + 0x20 * i + 0x8 * j
/-- FSE_PART_CFG at BAR0 0x2000000 + 4 x 4. -/
def Reg.FSE_PART_CFG (i : Nat) : Nat := 0x2000000 + 0x4 * i
/-- FSE_PART_BASE at BAR0 0x2000010 + 4 x 4. -/
def Reg.FSE_PART_BASE (i : Nat) : Nat := 0x2000010 + 0x4 * i
/-- FSE_PART_CLOVES at BAR0 0x2000020 + 4 x 4. -/
def Reg.FSE_PART_CLOVES (i : Nat) : Nat := 0x2000020 + 0x4 * i
/-- FSE_PIN_MAX at BAR0 0x2000030 + 4 x 4. -/
def Reg.FSE_PIN_MAX (i : Nat) : Nat := 0x2000030 + 0x4 * i
/-- FSE_LEARN_RATE at BAR0 0x2000040 + 4 x 4. -/
def Reg.FSE_LEARN_RATE (i : Nat) : Nat := 0x2000040 + 0x4 * i
/-- FSE_PART_USED at BAR0 0x2000050 + 4 x 4. -/
def Reg.FSE_PART_USED (i : Nat) : Nat := 0x2000050 + 0x4 * i
/-- FSE_PART_PINNED at BAR0 0x2000060 + 4 x 4. -/
def Reg.FSE_PART_PINNED (i : Nat) : Nat := 0x2000060 + 0x4 * i
/-- FSE_SWEEP_POS at BAR0 0x2000070 + 4 x 4. -/
def Reg.FSE_SWEEP_POS (i : Nat) : Nat := 0x2000070 + 0x4 * i
/-- FSE_LEARN_SEQ at BAR0 0x2000080 + 4 x 4. -/
def Reg.FSE_LEARN_SEQ (i : Nat) : Nat := 0x2000080 + 0x4 * i
/-- FSE_EGR_CFG at BAR0 0x2000100 + 32 x 4. -/
def Reg.FSE_EGR_CFG (i : Nat) : Nat := 0x2000100 + 0x4 * i
/-- FSE_OWNER_CFG at BAR0 0x2000180 + 4 x 4. -/
def Reg.FSE_OWNER_CFG (i : Nat) : Nat := 0x2000180 + 0x4 * i
/-- FSE_NAT_CFG at BAR0 0x2000200 + 4 x 4. -/
def Reg.FSE_NAT_CFG (i : Nat) : Nat := 0x2000200 + 0x4 * i
/-- FSE_LB_SEED at BAR0 0x2000210. -/
def Reg.FSE_LB_SEED : Nat := 0x2000210
/-- FSE_LB_LATCH at BAR0 0x2000214. -/
def Reg.FSE_LB_LATCH : Nat := 0x2000214
/-- FSE_TEL_PEN at BAR0 0x2000218. -/
def Reg.FSE_TEL_PEN : Nat := 0x2000218
/-- FSE_TEL_CTL at BAR0 0x200021C. -/
def Reg.FSE_TEL_CTL : Nat := 0x200021C
/-- FSE_NAT_FREE at BAR0 0x2000220 + 4 x 4. -/
def Reg.FSE_NAT_FREE (i : Nat) : Nat := 0x2000220 + 0x4 * i
/-- ENG_CFG at BAR0 0x2400000. -/
def Reg.ENG_CFG : Nat := 0x2400000
/-- ENG_CLUSTER_CFG at BAR0 0x2400004. -/
def Reg.ENG_CLUSTER_CFG : Nat := 0x2400004
/-- ENG_TRAP_VEC at BAR0 0x2400010 + 4 x 4. -/
def Reg.ENG_TRAP_VEC (i : Nat) : Nat := 0x2400010 + 0x4 * i
/-- ENG_PREEMPT at BAR0 0x2400020. -/
def Reg.ENG_PREEMPT : Nat := 0x2400020
/-- ENG_RETIRED_LO at BAR0 0x2400030. -/
def Reg.ENG_RETIRED_LO : Nat := 0x2400030
/-- ENG_RETIRED_HI at BAR0 0x2400034. -/
def Reg.ENG_RETIRED_HI : Nat := 0x2400034
/-- ENG_TEST at BAR0 0x2400040. -/
def Reg.ENG_TEST : Nat := 0x2400040
/-- ENG_THREADS_BUSY at BAR0 0x2400050 + 4 x 4. -/
def Reg.ENG_THREADS_BUSY (i : Nat) : Nat := 0x2400050 + 0x4 * i
/-- ENG_SNAP at BAR0 0x2400100 + 40 x 4. -/
def Reg.ENG_SNAP (i : Nat) : Nat := 0x2400100 + 0x4 * i
/-- BPM_POOL_CFG at BAR0 0x2800000 + 4 x 4. -/
def Reg.BPM_POOL_CFG (i : Nat) : Nat := 0x2800000 + 0x4 * i
/-- BPM_POOL_BASE at BAR0 0x2800010 + 4 x 4. -/
def Reg.BPM_POOL_BASE (i : Nat) : Nat := 0x2800010 + 0x4 * i
/-- BPM_POOL_FREE at BAR0 0x2800020 + 4 x 4. -/
def Reg.BPM_POOL_FREE (i : Nat) : Nat := 0x2800020 + 0x4 * i
/-- BPM_POOL_WD at BAR0 0x2800030 + 4 x 4. -/
def Reg.BPM_POOL_WD (i : Nat) : Nat := 0x2800030 + 0x4 * i
/-- BPM_LAST_REJECT at BAR0 0x2800040. -/
def Reg.BPM_LAST_REJECT : Nat := 0x2800040
/-- BPM_LAST_REJECT_ADDR_LO at BAR0 0x2800044. -/
def Reg.BPM_LAST_REJECT_ADDR_LO : Nat := 0x2800044
/-- BPM_LAST_REJECT_ADDR_HI at BAR0 0x2800048. -/
def Reg.BPM_LAST_REJECT_ADDR_HI : Nat := 0x2800048
/-- BPM_RECLAIM_STATUS at BAR0 0x280004C. -/
def Reg.BPM_RECLAIM_STATUS : Nat := 0x280004C
/-- PBF_CELLS at BAR0 0x2C00000. -/
def Reg.PBF_CELLS : Nat := 0x2C00000
/-- PBF_RETURN_RES at BAR0 0x2C00004. -/
def Reg.PBF_RETURN_RES : Nat := 0x2C00004
/-- PBF_STAGE at BAR0 0x2C00040 + 12 x 4. -/
def Reg.PBF_STAGE (i : Nat) : Nat := 0x2C00040 + 0x4 * i
/-- PBF_LIMIT at BAR0 0x2C00100 + 12 x 32 + 8 x 4. -/
def Reg.PBF_LIMIT (i : Nat) (j : Nat) : Nat := 0x2C00100 + 0x20 * i + 0x4 * j
/-- PBF_USED at BAR0 0x2C00300 + 12 x 32 + 8 x 4. -/
def Reg.PBF_USED (i : Nat) (j : Nat) : Nat := 0x2C00300 + 0x20 * i + 0x4 * j
/-- PBF_QPROF at BAR0 0x2C00600 + 16 x 4. -/
def Reg.PBF_QPROF (i : Nat) : Nat := 0x2C00600 + 0x4 * i
/-- PBF_VOQ_PROF at BAR0 0x2C00680. -/
def Reg.PBF_VOQ_PROF : Nat := 0x2C00680
/-- TMS_WHEEL_FINE at BAR0 0x3000000. -/
def Reg.TMS_WHEEL_FINE : Nat := 0x3000000
/-- TMS_WHEEL_COARSE at BAR0 0x3000004. -/
def Reg.TMS_WHEEL_COARSE : Nat := 0x3000004
/-- TMS_PORT_BLOCKED at BAR0 0x3000008. -/
def Reg.TMS_PORT_BLOCKED : Nat := 0x3000008
/-- SWC_ID at BAR0 0x3400000. -/
def Reg.SWC_ID : Nat := 0x3400000
/-- SWC_CT_EN at BAR0 0x3400010 + 12 x 4. -/
def Reg.SWC_CT_EN (i : Nat) : Nat := 0x3400010 + 0x4 * i
/-- SWC_CT_CFG at BAR0 0x3400040. -/
def Reg.SWC_CT_CFG : Nat := 0x3400040
/-- SWC_RESEQ_CFG at BAR0 0x3400044. -/
def Reg.SWC_RESEQ_CFG : Nat := 0x3400044
/-- SWC_CLASS_WEIGHT at BAR0 0x3400048. -/
def Reg.SWC_CLASS_WEIGHT : Nat := 0x3400048
/-- SWC_CREDIT_LIMIT at BAR0 0x3400050 + 8 x 4. -/
def Reg.SWC_CREDIT_LIMIT (i : Nat) : Nat := 0x3400050 + 0x4 * i
/-- SWC_LANE_UP at BAR0 0x3400080 + 2 x 4. -/
def Reg.SWC_LANE_UP (i : Nat) : Nat := 0x3400080 + 0x4 * i
/-- SWC_LANE_RETIRED at BAR0 0x3400088 + 2 x 4. -/
def Reg.SWC_LANE_RETIRED (i : Nat) : Nat := 0x3400088 + 0x4 * i
/-- SWC_LANE_MISWIRED at BAR0 0x3400090 + 2 x 4. -/
def Reg.SWC_LANE_MISWIRED (i : Nat) : Nat := 0x3400090 + 0x4 * i
/-- HMC_CFG at BAR0 0x3800000. -/
def Reg.HMC_CFG : Nat := 0x3800000
/-- HMC_RETIRED at BAR0 0x3800010 + 3 x 4. -/
def Reg.HMC_RETIRED (i : Nat) : Nat := 0x3800010 + 0x4 * i
/-- HMC_TEST at BAR0 0x3800020. -/
def Reg.HMC_TEST : Nat := 0x3800020
/-- HMC_SWEEP_RESULT at BAR0 0x3800024. -/
def Reg.HMC_SWEEP_RESULT : Nat := 0x3800024
/-- HMC_DLY at BAR0 0x3800400 + 96 x 16 + 4 x 4. -/
def Reg.HMC_DLY (i : Nat) (j : Nat) : Nat := 0x3800400 + 0x10 * i + 0x4 * j
/-- XPR_STATUS at BAR0 0x3C00000. -/
def Reg.XPR_STATUS : Nat := 0x3C00000
/-- XPR_CTL at BAR0 0x3C00004. -/
def Reg.XPR_CTL : Nat := 0x3C00004
/-- XPR_TEST at BAR0 0x3C00008. -/
def Reg.XPR_TEST : Nat := 0x3C00008
/-- XPR_QLIMIT at BAR0 0x3C0000C. -/
def Reg.XPR_QLIMIT : Nat := 0x3C0000C
/-- XPR_LANE_HEALTH at BAR0 0x3C00010. -/
def Reg.XPR_LANE_HEALTH : Nat := 0x3C00010
/-- XPR_PORT_KEY at BAR0 0x3C00100 + 32 x 8. -/
def Reg.XPR_PORT_KEY (i : Nat) : Nat := 0x3C00100 + 0x8 * i
/-- XPR_PORT_LABEL at BAR0 0x3C00104 + 32 x 8. -/
def Reg.XPR_PORT_LABEL (i : Nat) : Nat := 0x3C00104 + 0x8 * i

/-- The registers of the MGT window. -/
def regsMgt : List RegGroup :=
  [{ base := 0x0, fields := [⟨31, 16, .ro, false, 12822⟩, ⟨15, 8, .ro, false, 1⟩, ⟨7, 0, .res, false, 0⟩] },
   { base := 0x4, fields := [⟨31, 24, .ro, true, 0⟩, ⟨23, 20, .ro, true, 0⟩, ⟨19, 12, .res, false, 0⟩, ⟨11, 3, .ro, true, 0⟩, ⟨2, 0, .ro, false, 0⟩] },
   { base := 0x8, fields := [⟨31, 17, .res, false, 0⟩, ⟨16, 16, .ro, false, 0⟩, ⟨15, 0, .ro, false, 3⟩] },
   { base := 0xC, fields := [⟨31, 0, .rw, false, 0⟩] },
   { base := 0x100, fields := [⟨31, 24, .res, false, 0⟩, ⟨23, 16, .ro, false, 0⟩, ⟨15, 12, .res, false, 0⟩, ⟨11, 11, .ro, false, 0⟩, ⟨10, 10, .res, false, 0⟩, ⟨9, 8, .ro, false, 0⟩, ⟨7, 3, .res, false, 0⟩, ⟨2, 0, .ro, false, 0⟩] },
   { base := 0x104, fields := [⟨31, 17, .res, false, 0⟩, ⟨16, 16, .ro, false, 0⟩, ⟨15, 10, .res, false, 0⟩, ⟨9, 8, .rw, false, 0⟩, ⟨7, 3, .res, false, 0⟩, ⟨2, 0, .wo, false, 0⟩] },
   { base := 0x108, fields := [⟨31, 0, .wo, false, 0⟩] },
   { base := 0x10C, fields := [⟨31, 16, .res, false, 0⟩, ⟨15, 0, .rwl, true, 0⟩] },
   { base := 0x110, fields := [⟨31, 16, .res, false, 0⟩, ⟨15, 0, .rwl, true, 0⟩] },
   { base := 0x180, fields := [⟨31, 22, .res, false, 0⟩, ⟨21, 21, .rwl, true, 0⟩, ⟨20, 20, .rwl, true, 0⟩, ⟨19, 8, .rwl, true, 0⟩, ⟨7, 0, .rwl, true, 0⟩] },
   { base := 0x184, fields := [⟨31, 16, .res, false, 0⟩, ⟨15, 0, .rwl, true, 0⟩] },
   { base := 0x190, fields := [⟨31, 24, .ro, false, 0⟩, ⟨23, 16, .ro, false, 0⟩, ⟨15, 8, .ro, false, 0⟩, ⟨7, 0, .ro, false, 0⟩] },
   { base := 0x200, n1 := 8, s1 := 4, fields := [⟨31, 21, .res, false, 0⟩, ⟨20, 16, .rwl, true, 0⟩, ⟨15, 0, .rwl, true, 0⟩] },
   { base := 0x300, fields := [⟨31, 0, .ro, false, 0⟩] },
   { base := 0x4000, n1 := 1024, s1 := 16, n2 := 4, s2 := 4, fields := [⟨31, 0, .ro, false, 0⟩] },
   { base := 0x8000, n1 := 8, s1 := 256, fields := [⟨31, 31, .w1s, false, 0⟩, ⟨30, 30, .w1s, false, 0⟩, ⟨29, 4, .res, false, 0⟩, ⟨3, 0, .rw, false, 0⟩] },
   { base := 0x8004, n1 := 8, s1 := 256, fields := [⟨31, 8, .res, false, 0⟩, ⟨7, 0, .rw, false, 0⟩] },
   { base := 0x8008, n1 := 8, s1 := 256, fields := [⟨31, 0, .rw, false, 0⟩] },
   { base := 0x8010, n1 := 8, s1 := 256, fields := [⟨31, 0, .ro, false, 0⟩] },
   { base := 0x800C, n1 := 8, s1 := 256, fields := [⟨31, 16, .res, false, 0⟩, ⟨15, 8, .ro, false, 0⟩, ⟨7, 3, .res, false, 0⟩, ⟨2, 2, .ro, false, 0⟩, ⟨1, 1, .ro, false, 0⟩, ⟨0, 0, .ro, false, 0⟩] },
   { base := 0x8080, n1 := 8, s1 := 256, n2 := 32, s2 := 4, fields := [⟨31, 0, .rw, false, 0⟩] },
   { base := 0x9000, n1 := 41, s1 := 64, fields := [⟨31, 0, .rw, false, 0⟩] },
   { base := 0x9004, n1 := 41, s1 := 64, fields := [⟨31, 0, .rw, false, 0⟩] },
   { base := 0x9008, n1 := 41, s1 := 64, fields := [⟨31, 0, .rw, false, 0⟩] },
   { base := 0x900C, n1 := 41, s1 := 64, fields := [⟨31, 0, .rw, false, 0⟩] },
   { base := 0x9010, n1 := 41, s1 := 64, fields := [⟨31, 31, .rw, false, 0⟩, ⟨30, 30, .rw, false, 0⟩, ⟨29, 21, .res, false, 0⟩, ⟨20, 16, .rw, false, 0⟩, ⟨15, 8, .rw, false, 0⟩, ⟨7, 0, .rw, false, 0⟩] },
   { base := 0x9014, n1 := 41, s1 := 64, fields := [⟨31, 0, .rw, false, 0⟩] },
   { base := 0x9018, n1 := 41, s1 := 64, fields := [⟨31, 0, .ro, false, 0⟩] },
   { base := 0x901C, n1 := 41, s1 := 64, fields := [⟨31, 27, .res, false, 0⟩, ⟨26, 16, .ro, false, 0⟩, ⟨15, 11, .res, false, 0⟩, ⟨10, 0, .ro, false, 0⟩] },
   { base := 0x9020, n1 := 41, s1 := 64, fields := [⟨31, 11, .res, false, 0⟩, ⟨10, 0, .ro, false, 0⟩] },
   { base := 0x9024, n1 := 41, s1 := 64, fields := [⟨31, 1, .res, false, 0⟩, ⟨0, 0, .w1s, false, 0⟩] },
   { base := 0xB000, n1 := 8, s1 := 4, fields := [⟨31, 0, .rwl, true, 0⟩] },
   { base := 0xB020, fields := [⟨31, 16, .res, false, 0⟩, ⟨15, 0, .rwl, true, 0⟩] },
   { base := 0xB040, fields := [⟨31, 0, .ro, false, 0⟩] },
   { base := 0xB044, fields := [⟨31, 0, .ro, false, 0⟩] },
   { base := 0xB048, fields := [⟨31, 0, .ro, false, 0⟩] },
   { base := 0xB04C, fields := [⟨31, 0, .ro, false, 0⟩] },
   { base := 0xA000, n1 := 32, s1 := 16, fields := [⟨31, 24, .res, false, 0⟩, ⟨23, 16, .rw, false, 255⟩, ⟨15, 10, .res, false, 0⟩, ⟨9, 8, .rw, false, 3⟩, ⟨7, 6, .res, false, 0⟩, ⟨5, 0, .rw, false, 63⟩] },
   { base := 0xA004, n1 := 32, s1 := 16, fields := [⟨31, 16, .res, false, 0⟩, ⟨15, 8, .rw, false, 255⟩, ⟨7, 0, .rw, false, 0⟩] },
   { base := 0xA008, n1 := 32, s1 := 16, fields := [⟨31, 0, .rw, false, 0⟩] },
   { base := 0xA00C, n1 := 32, s1 := 16, fields := [⟨31, 0, .rw, false, 4294967295⟩] }]

/-- The registers of the SEC window. -/
def regsSec : List RegGroup :=
  [{ base := 0x400000, fields := [⟨31, 27, .res, false, 0⟩, ⟨26, 26, .ro, false, 0⟩, ⟨25, 25, .ro, false, 0⟩, ⟨24, 24, .ro, false, 0⟩, ⟨23, 23, .ro, false, 0⟩, ⟨22, 22, .ro, false, 0⟩, ⟨21, 21, .ro, false, 0⟩, ⟨20, 11, .res, false, 0⟩, ⟨10, 0, .ro, false, 0⟩] },
   { base := 0x400004, fields := [⟨31, 0, .ro, false, 0⟩] },
   { base := 0x400008, fields := [⟨31, 0, .ro, false, 0⟩] },
   { base := 0x40000C, fields := [⟨31, 30, .ro, false, 0⟩, ⟨29, 16, .res, false, 0⟩, ⟨15, 0, .ro, false, 0⟩] },
   { base := 0x400100, fields := [⟨31, 24, .ro, false, 255⟩, ⟨23, 16, .res, false, 0⟩, ⟨15, 8, .ro, false, 0⟩, ⟨7, 4, .ro, false, 0⟩, ⟨3, 1, .res, false, 0⟩, ⟨0, 0, .ro, false, 0⟩] },
   { base := 0x400104, fields := [⟨31, 0, .ro, false, 0⟩] },
   { base := 0x400108, fields := [⟨31, 25, .res, false, 0⟩, ⟨24, 16, .ro, false, 0⟩, ⟨15, 8, .ro, false, 0⟩, ⟨7, 7, .res, false, 0⟩, ⟨6, 0, .ro, false, 0⟩] },
   { base := 0x40010C, fields := [⟨31, 0, .ro, false, 0⟩] },
   { base := 0x400110, fields := [⟨31, 0, .ro, false, 0⟩] },
   { base := 0x400114, fields := [⟨31, 0, .ro, false, 0⟩] },
   { base := 0x400200, fields := [⟨31, 17, .res, false, 0⟩, ⟨16, 16, .ro, false, 0⟩, ⟨15, 0, .ro, false, 0⟩] },
   { base := 0x400204, fields := [⟨31, 17, .res, false, 0⟩, ⟨16, 16, .w1c, false, 0⟩, ⟨15, 0, .w1c, false, 0⟩] },
   { base := 0x400210, n1 := 4, s1 := 4, fields := [⟨31, 26, .res, false, 0⟩, ⟨25, 24, .ro, false, 0⟩, ⟨23, 18, .res, false, 0⟩, ⟨17, 16, .ro, false, 0⟩, ⟨15, 10, .res, false, 0⟩, ⟨9, 8, .ro, false, 0⟩, ⟨7, 2, .res, false, 0⟩, ⟨1, 0, .ro, false, 0⟩] },
   { base := 0x400300, n1 := 8, s1 := 4, fields := [⟨31, 0, .rw, false, 0⟩] },
   { base := 0x400320, fields := [⟨31, 28, .res, false, 0⟩, ⟨27, 24, .ro, false, 0⟩, ⟨23, 16, .wo, false, 0⟩, ⟨15, 3, .res, false, 0⟩, ⟨2, 0, .wo, false, 0⟩] }]

/-- The registers of the TBE window. -/
def regsTbe : List RegGroup :=
  [{ base := 0x800000, fields := [⟨31, 12, .res, false, 0⟩, ⟨11, 11, .w1c, false, 0⟩, ⟨10, 10, .ro, false, 0⟩, ⟨9, 9, .ro, false, 0⟩, ⟨8, 8, .ro, false, 0⟩, ⟨7, 3, .res, false, 0⟩, ⟨2, 2, .ro, false, 0⟩, ⟨1, 0, .ro, false, 0⟩] },
   { base := 0x800004, fields := [⟨31, 25, .res, false, 0⟩, ⟨24, 20, .rwl, true, 0⟩, ⟨19, 16, .rwl, true, 0⟩, ⟨15, 0, .rwl, true, 0⟩] },
   { base := 0x800008, fields := [⟨31, 17, .res, false, 0⟩, ⟨16, 16, .rwl, true, 0⟩, ⟨15, 0, .rwl, true, 0⟩] },
   { base := 0x80000C, fields := [⟨31, 2, .res, false, 0⟩, ⟨1, 1, .w1s, false, 0⟩, ⟨0, 0, .w1s, false, 0⟩] },
   { base := 0x800010, fields := [⟨31, 0, .ro, false, 0⟩] },
   { base := 0x800014, fields := [⟨31, 0, .ro, false, 0⟩] },
   { base := 0x800018, fields := [⟨31, 16, .res, false, 0⟩, ⟨15, 0, .ro, false, 0⟩] },
   { base := 0x80001C, fields := [⟨31, 0, .ro, false, 0⟩] },
   { base := 0x800020, fields := [⟨31, 0, .ro, false, 0⟩] },
   { base := 0x800024, fields := [⟨31, 0, .ro, false, 0⟩] },
   { base := 0x800028, fields := [⟨31, 0, .ro, false, 0⟩] },
   { base := 0x80002C, fields := [⟨31, 0, .ro, false, 0⟩] },
   { base := 0x800030, fields := [⟨31, 0, .ro, false, 0⟩] },
   { base := 0x800040, n1 := 4, s1 := 4, fields := [⟨31, 0, .ro, false, 0⟩] },
   { base := 0x800100, n1 := 8, s1 := 4, fields := [⟨31, 9, .res, false, 0⟩, ⟨8, 8, .rwl, true, 0⟩, ⟨7, 5, .res, false, 0⟩, ⟨4, 0, .rwl, true, 0⟩] }]

/-- The registers of the LPC window. -/
def regsLpc : List RegGroup :=
  [{ base := 0xC00000, n1 := 4, s1 := 4, fields := [⟨31, 24, .res, false, 0⟩, ⟨23, 16, .rwl, true, 0⟩, ⟨15, 8, .rwl, true, 0⟩, ⟨7, 2, .res, false, 0⟩, ⟨1, 0, .rwl, true, 0⟩] },
   { base := 0xC00080, fields := [⟨31, 16, .rwl, true, 0⟩, ⟨15, 0, .rwl, true, 0⟩] },
   { base := 0xC00084, fields := [⟨31, 0, .rw, true, 0⟩] },
   { base := 0xC00088, fields := [⟨31, 0, .ro, false, 0⟩] },
   { base := 0xC0008C, fields := [⟨31, 0, .ro, false, 0⟩] },
   { base := 0xC00100, n1 := 32, s1 := 4, fields := [⟨31, 31, .rw, true, 0⟩, ⟨30, 30, .rw, true, 0⟩, ⟨29, 24, .rw, true, 0⟩, ⟨23, 14, .res, false, 0⟩, ⟨13, 0, .rwl, true, 0⟩] }]

/-- The registers of the PRS window. -/
def regsPrs : List RegGroup :=
  [{ base := 0x1000000, n1 := 8, s1 := 4, fields := [⟨31, 24, .rwl, true, 0⟩, ⟨23, 16, .rwl, true, 0⟩, ⟨15, 8, .rwl, true, 0⟩, ⟨7, 0, .rwl, true, 0⟩] },
   { base := 0x1000040, fields := [⟨31, 9, .res, false, 0⟩, ⟨8, 0, .ro, false, 0⟩] }]

/-- The registers of the CLS window. -/
def regsCls : List RegGroup :=
  [{ base := 0x1400000, fields := [⟨31, 18, .res, false, 0⟩, ⟨17, 16, .ro, false, 0⟩, ⟨15, 11, .res, false, 0⟩, ⟨10, 8, .ro, false, 0⟩, ⟨7, 5, .res, false, 0⟩, ⟨4, 4, .ro, false, 0⟩, ⟨3, 3, .ro, false, 0⟩, ⟨2, 2, .ro, false, 0⟩, ⟨1, 1, .ro, false, 0⟩, ⟨0, 0, .ro, false, 0⟩] },
   { base := 0x1400004, fields := [⟨31, 3, .res, false, 0⟩, ⟨2, 2, .w1s, false, 0⟩, ⟨1, 1, .w1s, false, 0⟩, ⟨0, 0, .w1s, false, 0⟩] },
   { base := 0x1400008, fields := [⟨31, 0, .rw, false, 0⟩] },
   { base := 0x140000C, n1 := 2, s1 := 4, fields := [⟨31, 0, .ro, false, 0⟩] },
   { base := 0x1400014, fields := [⟨31, 14, .res, false, 0⟩, ⟨13, 0, .rwl, true, 0⟩] }]

/-- The registers of the ASA window. -/
def regsAsa : List RegGroup :=
  [{ base := 0x1800000, fields := [⟨31, 16, .res, false, 0⟩, ⟨15, 0, .rwl, true, 0⟩] },
   { base := 0x1800004, fields := [⟨31, 0, .rwl, true, 0⟩] },
   { base := 0x1800008, fields := [⟨31, 0, .rwl, true, 0⟩] },
   { base := 0x180000C, fields := [⟨31, 0, .ro, false, 0⟩] },
   { base := 0x1800010, fields := [⟨31, 17, .res, false, 0⟩, ⟨16, 16, .rwl, true, 0⟩, ⟨15, 8, .rwl, true, 0⟩, ⟨7, 0, .res, false, 0⟩] },
   { base := 0x1800014, fields := [⟨31, 24, .ro, false, 0⟩, ⟨23, 16, .ro, false, 0⟩, ⟨15, 7, .res, false, 0⟩, ⟨6, 4, .ro, false, 0⟩, ⟨3, 2, .res, false, 0⟩, ⟨1, 0, .ro, false, 0⟩] },
   { base := 0x1800020, fields := [⟨31, 18, .res, false, 0⟩, ⟨17, 16, .ro, false, 0⟩, ⟨15, 10, .res, false, 0⟩, ⟨9, 9, .ro, false, 0⟩, ⟨8, 8, .w1s, false, 0⟩, ⟨7, 5, .res, false, 0⟩, ⟨4, 0, .rw, false, 0⟩] },
   { base := 0x1800100, n1 := 32, s1 := 8, fields := [⟨31, 0, .rwl, true, 0⟩] },
   { base := 0x1800104, n1 := 32, s1 := 8, fields := [⟨31, 3, .res, false, 0⟩, ⟨2, 2, .rwl, true, 0⟩, ⟨1, 1, .rwl, true, 0⟩, ⟨0, 0, .rwl, true, 0⟩] }]

/-- The registers of the FWD window. -/
def regsFwd : List RegGroup :=
  [{ base := 0x1C00000, fields := [⟨31, 2, .res, false, 0⟩, ⟨1, 1, .rwl, true, 0⟩, ⟨0, 0, .rwl, true, 0⟩] },
   { base := 0x1C00004, fields := [⟨31, 16, .rwl, true, 0⟩, ⟨15, 0, .rwl, true, 0⟩] },
   { base := 0x1C00008, fields := [⟨31, 16, .res, false, 0⟩, ⟨15, 0, .rwl, true, 0⟩] },
   { base := 0x1C00080, fields := [⟨31, 21, .res, false, 0⟩, ⟨20, 0, .ro, false, 0⟩] },
   { base := 0x1C00084, fields := [⟨31, 21, .res, false, 0⟩, ⟨20, 0, .ro, false, 0⟩] },
   { base := 0x1C00088, fields := [⟨31, 0, .ro, false, 0⟩] },
   { base := 0x1C0008C, fields := [⟨31, 0, .ro, false, 0⟩] },
   { base := 0x1C00090, fields := [⟨31, 0, .ro, false, 0⟩] },
   { base := 0x1C00100, n1 := 32, s1 := 4, fields := [⟨31, 20, .res, false, 0⟩, ⟨19, 16, .rwl, true, 0⟩, ⟨15, 0, .rwl, true, 0⟩] },
   { base := 0x1C00200, n1 := 8, s1 := 4, fields := [⟨31, 31, .rwl, true, 0⟩, ⟨30, 21, .res, false, 0⟩, ⟨20, 0, .rwl, true, 0⟩] },
   { base := 0x1C00400, n1 := 16, s1 := 32, n2 := 4, s2 := 8, fields := [⟨31, 28, .rwl, true, 0⟩, ⟨27, 20, .rwl, true, 0⟩, ⟨19, 19, .rwl, true, 0⟩, ⟨18, 14, .rwl, true, 0⟩, ⟨13, 12, .res, false, 0⟩, ⟨11, 0, .rwl, true, 0⟩] },
   { base := 0x1C00404, n1 := 16, s1 := 32, n2 := 4, s2 := 8, fields := [⟨31, 29, .res, false, 0⟩, ⟨28, 24, .rwl, true, 0⟩, ⟨23, 20, .res, false, 0⟩, ⟨19, 19, .rwl, true, 0⟩, ⟨18, 18, .res, false, 0⟩, ⟨17, 16, .rwl, true, 0⟩, ⟨15, 4, .res, false, 0⟩, ⟨3, 0, .rwl, true, 0⟩] }]

/-- The registers of the FSE window. -/
def regsFse : List RegGroup :=
  [{ base := 0x2000000, n1 := 4, s1 := 4, fields := [⟨31, 16, .ro, true, 0⟩, ⟨15, 12, .res, false, 0⟩, ⟨11, 8, .ro, true, 0⟩, ⟨7, 1, .res, false, 0⟩, ⟨0, 0, .ro, true, 0⟩] },
   { base := 0x2000010, n1 := 4, s1 := 4, fields := [⟨31, 28, .res, false, 0⟩, ⟨27, 0, .ro, true, 0⟩] },
   { base := 0x2000020, n1 := 4, s1 := 4, fields := [⟨31, 28, .res, false, 0⟩, ⟨27, 0, .ro, true, 0⟩] },
   { base := 0x2000030, n1 := 4, s1 := 4, fields := [⟨31, 28, .res, false, 0⟩, ⟨27, 0, .rwl, true, 0⟩] },
   { base := 0x2000040, n1 := 4, s1 := 4, fields := [⟨31, 16, .res, false, 0⟩, ⟨15, 0, .rwl, true, 0⟩] },
   { base := 0x2000050, n1 := 4, s1 := 4, fields := [⟨31, 28, .res, false, 0⟩, ⟨27, 0, .ro, false, 0⟩] },
   { base := 0x2000060, n1 := 4, s1 := 4, fields := [⟨31, 28, .res, false, 0⟩, ⟨27, 0, .ro, false, 0⟩] },
   { base := 0x2000070, n1 := 4, s1 := 4, fields := [⟨31, 28, .res, false, 0⟩, ⟨27, 0, .ro, false, 0⟩] },
   { base := 0x2000080, n1 := 4, s1 := 4, fields := [⟨31, 0, .ro, false, 0⟩] },
   { base := 0x2000100, n1 := 32, s1 := 4, fields := [⟨31, 8, .res, false, 0⟩, ⟨7, 0, .rwl, true, 0⟩] },
   { base := 0x2000180, n1 := 4, s1 := 4, fields := [⟨31, 8, .res, false, 0⟩, ⟨7, 0, .rwl, true, 0⟩] },
   { base := 0x2000200, n1 := 4, s1 := 4, fields := [⟨31, 16, .ro, true, 0⟩, ⟨15, 4, .res, false, 0⟩, ⟨3, 0, .rwl, true, 0⟩] },
   { base := 0x2000210, fields := [⟨31, 0, .rwl, true, 0⟩] },
   { base := 0x2000214, fields := [⟨31, 0, .w1c, false, 0⟩] },
   { base := 0x2000218, fields := [⟨31, 0, .rwl, true, 0⟩] },
   { base := 0x200021C, fields := [⟨31, 1, .res, false, 0⟩, ⟨0, 0, .w1s, false, 0⟩] },
   { base := 0x2000220, n1 := 4, s1 := 4, fields := [⟨31, 23, .res, false, 0⟩, ⟨22, 0, .ro, false, 0⟩] }]

/-- The registers of the ENG window. -/
def regsEng : List RegGroup :=
  [{ base := 0x2400000, fields := [⟨31, 12, .res, false, 0⟩, ⟨11, 0, .rwl, true, 0⟩] },
   { base := 0x2400004, fields := [⟨31, 26, .res, false, 0⟩, ⟨25, 16, .rwl, true, 0⟩, ⟨15, 10, .res, false, 0⟩, ⟨9, 0, .rwl, true, 0⟩] },
   { base := 0x2400010, n1 := 4, s1 := 4, fields := [⟨31, 16, .res, false, 0⟩, ⟨15, 0, .rwl, true, 0⟩] },
   { base := 0x2400020, fields := [⟨31, 31, .w1s, false, 0⟩, ⟨30, 30, .rw, false, 0⟩, ⟨29, 28, .ro, false, 0⟩, ⟨27, 18, .res, false, 0⟩, ⟨17, 16, .rw, false, 0⟩, ⟨15, 12, .rw, false, 0⟩, ⟨11, 6, .res, false, 0⟩, ⟨5, 0, .rw, false, 0⟩] },
   { base := 0x2400030, fields := [⟨31, 0, .ro, false, 0⟩] },
   { base := 0x2400034, fields := [⟨31, 0, .ro, false, 0⟩] },
   { base := 0x2400040, fields := [⟨31, 18, .res, false, 0⟩, ⟨17, 16, .ro, false, 0⟩, ⟨15, 10, .res, false, 0⟩, ⟨9, 9, .ro, false, 0⟩, ⟨8, 8, .w1s, false, 0⟩, ⟨7, 6, .res, false, 0⟩, ⟨5, 0, .rw, false, 0⟩] },
   { base := 0x2400050, n1 := 4, s1 := 4, fields := [⟨31, 11, .res, false, 0⟩, ⟨10, 0, .ro, false, 0⟩] },
   { base := 0x2400100, n1 := 40, s1 := 4, fields := [⟨31, 0, .ro, false, 0⟩] }]

/-- The registers of the BPM window. -/
def regsBpm : List RegGroup :=
  [{ base := 0x2800000, n1 := 4, s1 := 4, fields := [⟨31, 31, .ro, true, 0⟩, ⟨30, 26, .res, false, 0⟩, ⟨25, 0, .ro, true, 0⟩] },
   { base := 0x2800010, n1 := 4, s1 := 4, fields := [⟨31, 0, .ro, true, 0⟩] },
   { base := 0x2800020, n1 := 4, s1 := 4, fields := [⟨31, 0, .ro, false, 0⟩] },
   { base := 0x2800030, n1 := 4, s1 := 4, fields := [⟨31, 0, .ro, false, 0⟩] },
   { base := 0x2800040, fields := [⟨31, 7, .ro, false, 0⟩, ⟨6, 5, .ro, false, 0⟩, ⟨4, 4, .res, false, 0⟩, ⟨3, 0, .ro, false, 0⟩] },
   { base := 0x2800044, fields := [⟨31, 0, .ro, false, 0⟩] },
   { base := 0x2800048, fields := [⟨31, 0, .ro, false, 0⟩] },
   { base := 0x280004C, fields := [⟨31, 12, .res, false, 0⟩, ⟨11, 8, .ro, false, 0⟩, ⟨7, 5, .res, false, 0⟩, ⟨4, 4, .ro, false, 0⟩, ⟨3, 0, .ro, false, 0⟩] }]

/-- The registers of the PBF window. -/
def regsPbf : List RegGroup :=
  [{ base := 0x2C00000, fields := [⟨31, 19, .res, false, 0⟩, ⟨18, 0, .ro, false, 0⟩] },
   { base := 0x2C00004, fields := [⟨31, 16, .res, false, 0⟩, ⟨15, 0, .rwl, true, 0⟩] },
   { base := 0x2C00040, n1 := 12, s1 := 4, fields := [⟨31, 18, .res, false, 0⟩, ⟨17, 0, .rwl, true, 0⟩] },
   { base := 0x2C00100, n1 := 12, s1 := 32, n2 := 8, s2 := 4, fields := [⟨31, 19, .res, false, 0⟩, ⟨18, 0, .rwl, true, 0⟩] },
   { base := 0x2C00300, n1 := 12, s1 := 32, n2 := 8, s2 := 4, fields := [⟨31, 19, .res, false, 0⟩, ⟨18, 0, .ro, false, 0⟩] },
   { base := 0x2C00600, n1 := 16, s1 := 4, fields := [⟨31, 31, .rwl, true, 0⟩, ⟨30, 28, .res, false, 0⟩, ⟨27, 16, .rwl, true, 0⟩, ⟨15, 0, .rwl, true, 0⟩] },
   { base := 0x2C00680, fields := [⟨31, 0, .rwl, true, 0⟩] }]

/-- The registers of the TMS window. -/
def regsTms : List RegGroup :=
  [{ base := 0x3000000, fields := [⟨31, 18, .res, false, 0⟩, ⟨17, 0, .ro, false, 0⟩] },
   { base := 0x3000004, fields := [⟨31, 18, .res, false, 0⟩, ⟨17, 0, .ro, false, 0⟩] },
   { base := 0x3000008, fields := [⟨31, 0, .ro, false, 0⟩] }]

/-- The registers of the SWC window. -/
def regsSwc : List RegGroup :=
  [{ base := 0x3400000, fields := [⟨31, 16, .ro, false, 0⟩, ⟨15, 9, .res, false, 0⟩, ⟨8, 0, .ro, true, 0⟩] },
   { base := 0x3400010, n1 := 12, s1 := 4, fields := [⟨31, 8, .res, false, 0⟩, ⟨7, 0, .rwl, true, 0⟩] },
   { base := 0x3400040, fields := [⟨31, 6, .res, false, 0⟩, ⟨5, 0, .rwl, true, 0⟩] },
   { base := 0x3400044, fields := [⟨31, 16, .res, false, 0⟩, ⟨15, 0, .rwl, true, 0⟩] },
   { base := 0x3400048, fields := [⟨31, 0, .rwl, true, 0⟩] },
   { base := 0x3400050, n1 := 8, s1 := 4, fields := [⟨31, 19, .res, false, 0⟩, ⟨18, 0, .rwl, true, 0⟩] },
   { base := 0x3400080, n1 := 2, s1 := 4, fields := [⟨31, 0, .ro, false, 0⟩] },
   { base := 0x3400088, n1 := 2, s1 := 4, fields := [⟨31, 0, .ro, false, 0⟩] },
   { base := 0x3400090, n1 := 2, s1 := 4, fields := [⟨31, 0, .ro, false, 0⟩] }]

/-- The registers of the HMC window. -/
def regsHmc : List RegGroup :=
  [{ base := 0x3800000, fields := [⟨31, 16, .res, false, 0⟩, ⟨15, 0, .rwl, true, 0⟩] },
   { base := 0x3800010, n1 := 3, s1 := 4, fields := [⟨31, 0, .ro, false, 0⟩] },
   { base := 0x3800020, fields := [⟨31, 30, .ro, false, 0⟩, ⟨29, 29, .ro, false, 0⟩, ⟨28, 28, .w1s, false, 0⟩, ⟨27, 27, .rw, false, 0⟩, ⟨26, 26, .rw, false, 0⟩, ⟨25, 20, .res, false, 0⟩, ⟨19, 16, .rw, false, 0⟩, ⟨15, 7, .res, false, 0⟩, ⟨6, 0, .rw, false, 0⟩] },
   { base := 0x3800024, fields := [⟨31, 16, .res, false, 0⟩, ⟨15, 8, .ro, false, 0⟩, ⟨7, 0, .ro, false, 0⟩] },
   { base := 0x3800400, n1 := 96, s1 := 16, n2 := 4, s2 := 4, fields := [⟨31, 0, .rwl, true, 0⟩] }]

/-- The registers of the XPR window. -/
def regsXpr : List RegGroup :=
  [{ base := 0x3C00000, fields := [⟨31, 24, .ro, false, 0⟩, ⟨23, 19, .res, false, 0⟩, ⟨18, 16, .ro, false, 0⟩, ⟨15, 14, .res, false, 0⟩, ⟨13, 12, .ro, false, 0⟩, ⟨11, 10, .res, false, 0⟩, ⟨9, 8, .ro, false, 0⟩, ⟨7, 6, .res, false, 0⟩, ⟨5, 4, .ro, false, 0⟩, ⟨3, 2, .res, false, 0⟩, ⟨1, 0, .ro, false, 0⟩] },
   { base := 0x3C00004, fields := [⟨31, 9, .res, false, 0⟩, ⟨8, 8, .w1c, false, 0⟩, ⟨7, 3, .res, false, 0⟩, ⟨2, 0, .rw, false, 0⟩] },
   { base := 0x3C00008, fields := [⟨31, 18, .res, false, 0⟩, ⟨17, 16, .ro, false, 0⟩, ⟨15, 10, .res, false, 0⟩, ⟨9, 9, .ro, false, 0⟩, ⟨8, 8, .w1s, false, 0⟩, ⟨7, 2, .res, false, 0⟩, ⟨1, 0, .rw, false, 0⟩] },
   { base := 0x3C0000C, fields := [⟨31, 14, .res, false, 0⟩, ⟨13, 0, .rwl, true, 0⟩] },
   { base := 0x3C00010, fields := [⟨31, 24, .res, false, 0⟩, ⟨23, 16, .ro, false, 255⟩, ⟨15, 8, .ro, false, 255⟩, ⟨7, 0, .ro, false, 255⟩] },
   { base := 0x3C00100, n1 := 32, s1 := 8, fields := [⟨31, 18, .res, false, 0⟩, ⟨17, 16, .rw, true, 0⟩, ⟨15, 0, .rw, true, 0⟩] },
   { base := 0x3C00104, n1 := 32, s1 := 8, fields := [⟨31, 20, .res, false, 0⟩, ⟨19, 0, .rw, true, 0⟩] }]

/-- Every register of the map. -/
def regGroups : List RegGroup :=
  regsMgt ++ regsSec ++ regsTbe ++ regsLpc ++ regsPrs ++ regsCls ++ regsAsa ++ regsFwd ++ regsFse ++ regsEng ++ regsBpm ++ regsPbf ++ regsTms ++ regsSwc ++ regsHmc ++ regsXpr

/-- An array of counters: `offs` are the offsets of the low words from base + stride x i (R508). -/
structure CntGroup where
  base : Nat
  n : Nat := 1
  stride : Nat := 0x400
  offs : List Nat
deriving DecidableEq, Repr, Inhabited

def Cnt.TBE_PPS_GLITCH : Nat := 0x0800200
def Cnt.TBE_TOD_BAD : Nat := 0x0800208
def Cnt.TBE_TOD_MISSING : Nat := 0x0800210
def Cnt.TBE_TOD_MISMATCH : Nat := 0x0800218
def Cnt.TBE_STEP_FWD : Nat := 0x0800220
def Cnt.TBE_STEP_BACK : Nat := 0x0800228
def Cnt.TBE_HOLDOVER_ENTRY : Nat := 0x0800230
def Cnt.LPC_RX_FCS_ERR (i : Nat) : Nat := 0x0C01000 + 0x100 * i
def Cnt.LPC_RX_RUNT (i : Nat) : Nat := 0x0C01008 + 0x100 * i
def Cnt.LPC_RX_OVERSIZE (i : Nat) : Nat := 0x0C01010 + 0x100 * i
def Cnt.LPC_RX_MACCTL (i : Nat) : Nat := 0x0C01018 + 0x100 * i
def Cnt.LPC_RX_ADMIN_DROP (i : Nat) : Nat := 0x0C01020 + 0x100 * i
def Cnt.LPC_RX_MODE_DROP (i : Nat) : Nat := 0x0C01028 + 0x100 * i
def Cnt.LPC_RX_PIPE_DROP (i : Nat) : Nat := 0x0C01030 + 0x100 * i
def Cnt.LPC_XSEL_MATCH (i : Nat) : Nat := 0x0C01038 + 0x100 * i
def Cnt.LPC_TX_ABORT (i : Nat) : Nat := 0x0C01040 + 0x100 * i
def Cnt.LPC_TX_DOWN_DROP (i : Nat) : Nat := 0x0C01048 + 0x100 * i
def Cnt.LPC_TX_FLUSH (i : Nat) : Nat := 0x0C01050 + 0x100 * i
def Cnt.LPC_FEC_CORR (i : Nat) : Nat := 0x0C01058 + 0x100 * i
def Cnt.LPC_FEC_UNCORR (i : Nat) : Nat := 0x0C01060 + 0x100 * i
def Cnt.PRS_OK (i : Nat) : Nat := 0x1001000 + 0x400 * i
def Cnt.PRS_TOO_DEEP (i : Nat) : Nat := 0x1001008 + 0x400 * i
def Cnt.PRS_MALFORMED (i : Nat) : Nat := 0x1001010 + 0x400 * i
def Cnt.PRS_TRUNCATED (i : Nat) : Nat := 0x1001018 + 0x400 * i
/-- PRS_MAL_REASONr of pipeline i (R118). -/
def Cnt.PRS_MAL_REASON (i r : Nat) : Nat := 0x1001100 + 0x400 * i + 8 * r
def Cnt.CLS_DEFAULT_HIT (i : Nat) : Nat := 0x1401000 + 0x400 * i
def Cnt.CLS_RULE_DROP (i : Nat) : Nat := 0x1401008 + 0x400 * i
def Cnt.CLS_PUNT (i : Nat) : Nat := 0x1401010 + 0x400 * i
def Cnt.CLS_MALFORMED_ACT (i : Nat) : Nat := 0x1401018 + 0x400 * i
def Cnt.CLS_TOODEEP_ACT (i : Nat) : Nat := 0x1401020 + 0x400 * i
def Cnt.CLS_METER_GREEN (i : Nat) : Nat := 0x1401028 + 0x400 * i
def Cnt.CLS_METER_YELLOW (i : Nat) : Nat := 0x1401030 + 0x400 * i
def Cnt.CLS_METER_RED (i : Nat) : Nat := 0x1401038 + 0x400 * i
def Cnt.CLS_METER_DROP (i : Nat) : Nat := 0x1401040 + 0x400 * i
def Cnt.CLS_RECIRC (i : Nat) : Nat := 0x1401048 + 0x400 * i
def Cnt.CLS_RECIRC_DROP (i : Nat) : Nat := 0x1401050 + 0x400 * i
def Cnt.CLS_RECIRC_LIMIT (i : Nat) : Nat := 0x1401058 + 0x400 * i
def Cnt.CLS_EPOCH_STALE (i : Nat) : Nat := 0x1401060 + 0x400 * i
def Cnt.CLS_TREE_FAULT (i : Nat) : Nat := 0x1401068 + 0x400 * i
def Cnt.CLS_ASA_WIN (i : Nat) : Nat := 0x1401070 + 0x400 * i
def Cnt.ASA_SEARCH : Nat := 0x1801000
def Cnt.ASA_HIT : Nat := 0x1801008
def Cnt.ASA_MULTI : Nat := 0x1801010
def Cnt.ASA_STEP : Nat := 0x1801018
def Cnt.ASA_PARITY : Nat := 0x1801020
def Cnt.ASA_RUN_SEARCH : Nat := 0x1801028
def Cnt.ASA_RUN_TIMEOUT : Nat := 0x1801030
def Cnt.ASA_RUN_STALE : Nat := 0x1801038
def Cnt.ASA_RUN_DEGRADED : Nat := 0x1801040
def Cnt.FWD_LOOKUP (i : Nat) : Nat := 0x1C01000 + 0x400 * i
def Cnt.FWD_MISS_DROP (i : Nat) : Nat := 0x1C01008 + 0x400 * i
def Cnt.FWD_MISS_PUNT (i : Nat) : Nat := 0x1C01010 + 0x400 * i
def Cnt.FWD_RESULT_DROP (i : Nat) : Nat := 0x1C01018 + 0x400 * i
def Cnt.FWD_PUNT (i : Nat) : Nat := 0x1C01020 + 0x400 * i
def Cnt.FWD_NO_DEST (i : Nat) : Nat := 0x1C01028 + 0x400 * i
def Cnt.FWD_NH_INVALID (i : Nat) : Nat := 0x1C01030 + 0x400 * i
def Cnt.FWD_L2_GROUP (i : Nat) : Nat := 0x1C01038 + 0x400 * i
def Cnt.FWD_L2_FILTERED (i : Nat) : Nat := 0x1C01040 + 0x400 * i
def Cnt.FWD_L2_CHECK_SKIP (i : Nat) : Nat := 0x1C01048 + 0x400 * i
def Cnt.FWD_L2_LEARN_LIMIT (i : Nat) : Nat := 0x1C01050 + 0x400 * i
def Cnt.FWD_L2_LEARN : Nat := 0x1C02000
def Cnt.FWD_L2_MOVE : Nat := 0x1C02008
def Cnt.FWD_L2_MOVE_REFUSED : Nat := 0x1C02010
def Cnt.FWD_L2_EVICT : Nat := 0x1C02018
def Cnt.FWD_L2_FULL : Nat := 0x1C02020
def Cnt.FWD_L2_AGED : Nat := 0x1C02028
def Cnt.FWD_L2_AGE_RACE : Nat := 0x1C02030
def Cnt.FSE_LOOKUP (i : Nat) : Nat := 0x2001000 + 0x400 * i
def Cnt.FSE_HIT (i : Nat) : Nat := 0x2001008 + 0x400 * i
def Cnt.FSE_FILL (i : Nat) : Nat := 0x2001010 + 0x400 * i
def Cnt.FSE_MERGE (i : Nat) : Nat := 0x2001018 + 0x400 * i
def Cnt.FSE_RESTART (i : Nat) : Nat := 0x2001020 + 0x400 * i
def Cnt.FSE_LEARN (i : Nat) : Nat := 0x2001028 + 0x400 * i
def Cnt.FSE_EVICT (i : Nat) : Nat := 0x2001030 + 0x400 * i
def Cnt.FSE_INSERT_FAIL (i : Nat) : Nat := 0x2001038 + 0x400 * i
def Cnt.FSE_NOSTATE (i : Nat) : Nat := 0x2001040 + 0x400 * i
def Cnt.FSE_NO_KEY (i : Nat) : Nat := 0x2001048 + 0x400 * i
def Cnt.FSE_LEARN_LIMIT (i : Nat) : Nat := 0x2001050 + 0x400 * i
def Cnt.FSE_PIN_LIMIT (i : Nat) : Nat := 0x2001058 + 0x400 * i
def Cnt.FSE_AGE_IDLE (i : Nat) : Nat := 0x2001060 + 0x400 * i
def Cnt.FSE_AGE_LIFETIME (i : Nat) : Nat := 0x2001068 + 0x400 * i
def Cnt.FSE_AGE_SAVED (i : Nat) : Nat := 0x2001070 + 0x400 * i
def Cnt.FSE_AGE_RACE (i : Nat) : Nat := 0x2001078 + 0x400 * i
def Cnt.FSE_AGE_FUTURE (i : Nat) : Nat := 0x2001080 + 0x400 * i
def Cnt.FSE_LOCK_WAIT (i : Nat) : Nat := 0x2001088 + 0x400 * i
def Cnt.FSE_SET_FULL (i : Nat) : Nat := 0x2001090 + 0x400 * i
def Cnt.FSE_PMQ_FULL (i : Nat) : Nat := 0x2001098 + 0x400 * i
def Cnt.FSE_EXPORT_LOST (i : Nat) : Nat := 0x20010A0 + 0x400 * i
def Cnt.FSE_CLOVE_LOST (i : Nat) : Nat := 0x20010A8 + 0x400 * i
def Cnt.FSE_NO_BUCKET (i : Nat) : Nat := 0x20010B0 + 0x400 * i
def Cnt.FSE_POISON_MARK (i : Nat) : Nat := 0x20010B8 + 0x400 * i
def Cnt.FSE_WINDOW_RO (i : Nat) : Nat := 0x20010C0 + 0x400 * i
def Cnt.FSE_HOST_DELETE (i : Nat) : Nat := 0x20010C8 + 0x400 * i
def Cnt.FSE_NAT_MAP_NEW (i : Nat) : Nat := 0x2002000 + 0x400 * i
def Cnt.FSE_NAT_MAP_REUSE (i : Nat) : Nat := 0x2002008 + 0x400 * i
def Cnt.FSE_NAT_QUOTA (i : Nat) : Nat := 0x2002010 + 0x400 * i
def Cnt.FSE_NAT_PORTS (i : Nat) : Nat := 0x2002018 + 0x400 * i
def Cnt.FSE_NAT_ADDRESSES (i : Nat) : Nat := 0x2002020 + 0x400 * i
def Cnt.FSE_NAT_LOG_FULL (i : Nat) : Nat := 0x2002028 + 0x400 * i
def Cnt.FSE_NAT_STATE (i : Nat) : Nat := 0x2002030 + 0x400 * i
def Cnt.FSE_NAT_BLOCK_ALLOC (i : Nat) : Nat := 0x2002038 + 0x400 * i
def Cnt.FSE_NAT_BLOCK_RELEASE (i : Nat) : Nat := 0x2002040 + 0x400 * i
def Cnt.FSE_NAT_LOG_STALL (i : Nat) : Nat := 0x2002048 + 0x400 * i
def Cnt.FSE_NAT_TOOBIG (i : Nat) : Nat := 0x2002050 + 0x400 * i
def Cnt.FSE_NAT_FRAG_EARLY (i : Nat) : Nat := 0x2002058 + 0x400 * i
def Cnt.FSE_NAT_ICMP_DROP (i : Nat) : Nat := 0x2002060 + 0x400 * i
def Cnt.FSE_ADMIT_REFUSED (i : Nat) : Nat := 0x2002068 + 0x400 * i
def Cnt.FSE_TCP_OOS (i : Nat) : Nat := 0x2002070 + 0x400 * i
def Cnt.FSE_TCP_OOW (i : Nat) : Nat := 0x2002078 + 0x400 * i
def Cnt.FSE_LB_FALLBACK (i : Nat) : Nat := 0x2002080 + 0x400 * i
def Cnt.FSE_LB_NO_MEMBER (i : Nat) : Nat := 0x2002088 + 0x400 * i
def Cnt.FSE_TEL_END (i : Nat) : Nat := 0x2002090 + 0x400 * i
def Cnt.FSE_TEL_INTERVAL (i : Nat) : Nat := 0x2002098 + 0x400 * i
def Cnt.FSE_TEL_OVERRUN (i : Nat) : Nat := 0x20020A0 + 0x400 * i
def Cnt.FSE_TEL_NAT (i : Nat) : Nat := 0x20020A8 + 0x400 * i
def Cnt.ENG_RUNS (i : Nat) : Nat := 0x2401000 + 0x400 * i
def Cnt.ENG_UOPS (i : Nat) : Nat := 0x2401008 + 0x400 * i
def Cnt.ENG_NO_THREAD (i : Nat) : Nat := 0x2401010 + 0x400 * i
def Cnt.ENG_TRAP_FAR (i : Nat) : Nat := 0x2401018 + 0x400 * i
def Cnt.ENG_TRAP_HBM_UE (i : Nat) : Nat := 0x2401020 + 0x400 * i
def Cnt.ENG_TRAP_EPOCH (i : Nat) : Nat := 0x2401028 + 0x400 * i
def Cnt.ENG_TRAP_PREEMPT (i : Nat) : Nat := 0x2401030 + 0x400 * i
def Cnt.ENG_TRAP_WATCHDOG (i : Nat) : Nat := 0x2401038 + 0x400 * i
def Cnt.ENG_BUDGET_DROP (i : Nat) : Nat := 0x2401040 + 0x400 * i
def Cnt.ENG_TRAP_OVERRUN (i : Nat) : Nat := 0x2401048 + 0x400 * i
def Cnt.ENG_TRAP_WINDOW (i : Nat) : Nat := 0x2401050 + 0x400 * i
def Cnt.ENG_FAULT (i : Nat) : Nat := 0x2401058 + 0x400 * i
def Cnt.ENG_DESC_RO (i : Nat) : Nat := 0x2401060 + 0x400 * i
def Cnt.ENG_VERDICT_DROP (i : Nat) : Nat := 0x2401068 + 0x400 * i
def Cnt.ENG_EGR_RECIRC (i : Nat) : Nat := 0x2401070 + 0x400 * i
def Cnt.ENG_MAP_UNBOUND (i : Nat) : Nat := 0x2401078 + 0x400 * i
def Cnt.ENG_CTX_CORR (i : Nat) : Nat := 0x2401080 + 0x400 * i
def Cnt.ENG_CTX_UNCORR (i : Nat) : Nat := 0x2401088 + 0x400 * i
def Cnt.PBF_SPILL : Nat := 0x2C01000
def Cnt.PBF_RETURN : Nat := 0x2C01008
def Cnt.PBF_SPILL_FAIL : Nat := 0x2C01010
def Cnt.PBF_STAGE_DROP : Nat := 0x2C01018
def Cnt.PBF_LIMIT_DROP : Nat := 0x2C01020
def Cnt.PBF_NOBUF_DROP : Nat := 0x2C01028
def Cnt.PBF_CT_FALLBACK : Nat := 0x2C01030
def Cnt.PBF_RETURN_UE : Nat := 0x2C01038
def Cnt.PBF_CHAIN_BREAK : Nat := 0x2C01040
def Cnt.PBF_CHAIN_LOST : Nat := 0x2C01048
def Cnt.BPM_ALLOC (i : Nat) : Nat := 0x2801000 + 0x100 * i
def Cnt.BPM_FREE (i : Nat) : Nat := 0x2801008 + 0x100 * i
def Cnt.BPM_EMPTY (i : Nat) : Nat := 0x2801010 + 0x100 * i
def Cnt.BPM_BORROW_IN (i : Nat) : Nat := 0x2801018 + 0x100 * i
def Cnt.BPM_REJ_ALIGN (i : Nat) : Nat := 0x2801020 + 0x100 * i
def Cnt.BPM_REJ_DOUBLE (i : Nat) : Nat := 0x2801028 + 0x100 * i
def Cnt.BPM_REJ_OWNER (i : Nat) : Nat := 0x2801030 + 0x100 * i
def Cnt.BPM_CACHE_WAIT (i : Nat) : Nat := 0x2801038 + 0x100 * i
def Cnt.BPM_WITHDRAWN (i : Nat) : Nat := 0x2801040 + 0x100 * i
def Cnt.BPM_RECLAIM (i : Nat) : Nat := 0x2801048 + 0x100 * i
def Cnt.BPM_LEAKED (i : Nat) : Nat := 0x2801050 + 0x100 * i
def Cnt.BPM_REJ_RANGE : Nat := 0x2801400
def Cnt.SWC_LANE_CORR (i : Nat) : Nat := 0x3401000 + 0x40 * i
def Cnt.SWC_LANE_UNCORR (i : Nat) : Nat := 0x3401008 + 0x40 * i
def Cnt.SWC_LANE_CRC (i : Nat) : Nat := 0x3401010 + 0x40 * i
def Cnt.SWC_LANE_REPLAY (i : Nat) : Nat := 0x3401018 + 0x40 * i
def Cnt.SWC_CT_PKTS : Nat := 0x3402000
def Cnt.SWC_POISON_TX : Nat := 0x3402008
def Cnt.SWC_POISON_RX : Nat := 0x3402010
def Cnt.SWC_POISON_DROP : Nat := 0x3402018
def Cnt.SWC_STOMP : Nat := 0x3402020
def Cnt.SWC_CT_UNDERRUN : Nat := 0x3402028
def Cnt.SWC_CREDIT_WAIT : Nat := 0x3402030
def Cnt.SWC_BAD_DEST : Nat := 0x3402038
def Cnt.SWC_PEER_DOWN_DROP : Nat := 0x3402040
def Cnt.SWC_PEER_FLUSH : Nat := 0x3402048
def Cnt.SWC_EXP_DROP : Nat := 0x3402050
def Cnt.SWC_STALE : Nat := 0x3402058
def Cnt.SWC_MISROUTE : Nat := 0x3402060
def Cnt.SWC_DUP : Nat := 0x3402068
def Cnt.SWC_RESEQ_LOSS : Nat := 0x3402070
def Cnt.TMS_ENQ (i : Nat) : Nat := 0x3001000 + 0x400 * i
def Cnt.TMS_DEQ (i : Nat) : Nat := 0x3001008 + 0x400 * i
def Cnt.TMS_NO_SUB (i : Nat) : Nat := 0x3001010 + 0x400 * i
def Cnt.TMS_SUB_MISMATCH (i : Nat) : Nat := 0x3001018 + 0x400 * i
def Cnt.TMS_Q_OFF (i : Nat) : Nat := 0x3001020 + 0x400 * i
def Cnt.TMS_DROP_GREEN (i : Nat) : Nat := 0x3001028 + 0x400 * i
def Cnt.TMS_DROP_YELLOW (i : Nat) : Nat := 0x3001030 + 0x400 * i
def Cnt.TMS_DROP_RED (i : Nat) : Nat := 0x3001038 + 0x400 * i
def Cnt.TMS_WHEEL_STALE (i : Nat) : Nat := 0x3001040 + 0x400 * i
def Cnt.TMS_RETURN_WAIT (i : Nat) : Nat := 0x3001048 + 0x400 * i
def Cnt.XPR_STRIKE (i : Nat) : Nat := 0x3C01000 + 0x100 * i
def Cnt.XPR_PASS_CLEAN (i : Nat) : Nat := 0x3C01008 + 0x100 * i
def Cnt.XPR_PASS_FAIL (i : Nat) : Nat := 0x3C01010 + 0x100 * i
def Cnt.XPR_STALE_GEN (i : Nat) : Nat := 0x3C01018 + 0x100 * i
def Cnt.XPR_TBL_REPAIR (i : Nat) : Nat := 0x3C01020 + 0x100 * i
def Cnt.XPR_RETIRE (i : Nat) : Nat := 0x3C01028 + 0x100 * i
def Cnt.XPR_FRAMES : Nat := 0x3C02000
def Cnt.XPR_OVER_CAP : Nat := 0x3C02008
def Cnt.XPR_DOWN_DROP : Nat := 0x3C02010
def Cnt.XPR_KEY_MISS : Nat := 0x3C02018
def Cnt.XPR_ENTRY_DROP : Nat := 0x3C02020
def Cnt.XPR_TTL_DROP : Nat := 0x3C02028
def Cnt.XPR_VOTES : Nat := 0x3C02030
def Cnt.XPR_NO_MAJORITY : Nat := 0x3C02038
def Cnt.XPR_NO_RESERVE_DROP : Nat := 0x3C02040
def Cnt.XPR_VOTE_OVERRUN : Nat := 0x3C02048
def Cnt.XPR_BUF_DROP : Nat := 0x3C02050
def Cnt.XPR_BAD_PORT : Nat := 0x3C02058
def Cnt.XPR_BAD_TAIL : Nat := 0x3C02060
def Cnt.XPR_TBL_LOST : Nat := 0x3C02068
def Cnt.XPR_TO_FABRIC : Nat := 0x3C02070
def Cnt.XPR_FROM_FABRIC : Nat := 0x3C02078
def Cnt.HMC_CORR (i : Nat) : Nat := 0x3801000 + 0x40 * i
def Cnt.HMC_UNCORR (i : Nat) : Nat := 0x3801008 + 0x40 * i
def Cnt.HMC_RH_REFRESH (i : Nat) : Nat := 0x3801010 + 0x40 * i
def Cnt.HMC_ROWS_SPARED (i : Nat) : Nat := 0x3801018 + 0x40 * i
def Cnt.HMC_RETIRED_ACCESS (i : Nat) : Nat := 0x3801020 + 0x40 * i
def Cnt.HMC_PROMOTED (i : Nat) : Nat := 0x3801028 + 0x40 * i
def Cnt.HMC_POISON_DROP : Nat := 0x3803000
def Cnt.HMC_SPARE_FULL : Nat := 0x3803008
def Cnt.HMC_RETIRE_REFUSED : Nat := 0x3803010
def Cnt.MGT_EVENTS : Nat := 0x0003000
def Cnt.MGT_EVENTS_SUPPRESSED : Nat := 0x0003008
def Cnt.MGT_FLT_CROSSINGS : Nat := 0x0003010
def Cnt.MGT_FLT_REFUSED : Nat := 0x0003018
def Cnt.SEC_QUOTES : Nat := 0x0401000
def Cnt.SEC_QUOTE_UNSIGNED : Nat := 0x0401008
def Cnt.SEC_ALARMS : Nat := 0x0401010
def Cnt.SEC_JTAG_ATTEMPT : Nat := 0x0401018
def Cnt.SEC_TRNG_FAIL : Nat := 0x0401020
def Cnt.MGT_WR_IGNORED : Nat := 0x000C000
def Cnt.MGT_PCIE_BAD_ACCESS : Nat := 0x000C008
def Cnt.MGT_ECP_PRIV_REFUSED : Nat := 0x000C010
def Cnt.MGT_INJECT_BAD : Nat := 0x000C018
def Cnt.MGT_INJECT_MODE_DROP : Nat := 0x000C020
def Cnt.MGT_SB_PEC_ERR : Nat := 0x000C028
def Cnt.MGT_SB_NACK : Nat := 0x000C030
def Cnt.MGT_CDT_DROP (i : Nat) : Nat := 0x000D000 + 0x20 * i
def Cnt.MGT_CDT_FLUSHED (i : Nat) : Nat := 0x000D008 + 0x20 * i
def Cnt.MGT_CDT_CORR (i : Nat) : Nat := 0x000D010 + 0x20 * i
def Cnt.MGT_CDT_UNCORR (i : Nat) : Nat := 0x000D018 + 0x20 * i

/-- Every counter of the map, by the address of its low word. -/
def cntGroups : List CntGroup :=
  [{ base := 0x800000, n := 1, stride := 0x8, offs := [0x200, 0x208, 0x210, 0x218, 0x220, 0x228, 0x230] },
   { base := 0xC01000, n := 32, stride := 0x100, offs := [0x0, 0x8, 0x10, 0x18, 0x20, 0x28, 0x30, 0x38, 0x40, 0x48, 0x50, 0x58, 0x60] },
   { base := 0x1001000, n := 4, stride := 0x400, offs := [0x0, 0x8, 0x10, 0x18] },
   { base := 0x1001100, n := 4, offs := (List.range 32).map (fun r => 8 * r) },
   { base := 0x1401000, n := 4, stride := 0x400, offs := [0x0, 0x8, 0x10, 0x18, 0x20, 0x28, 0x30, 0x38, 0x40, 0x48, 0x50, 0x58, 0x60, 0x68, 0x70] },
   { base := 0x1800000, n := 1, stride := 0x8, offs := [0x1000, 0x1008, 0x1010, 0x1018, 0x1020, 0x1028, 0x1030, 0x1038, 0x1040] },
   { base := 0x1C01000, n := 4, stride := 0x400, offs := [0x0, 0x8, 0x10, 0x18, 0x20, 0x28, 0x30, 0x38, 0x40, 0x48, 0x50] },
   { base := 0x1C00000, n := 1, stride := 0x8, offs := [0x2000, 0x2008, 0x2010, 0x2018, 0x2020, 0x2028, 0x2030] },
   { base := 0x2001000, n := 4, stride := 0x400, offs := [0x0, 0x8, 0x10, 0x18, 0x20, 0x28, 0x30, 0x38, 0x40, 0x48, 0x50, 0x58, 0x60, 0x68, 0x70, 0x78, 0x80, 0x88, 0x90, 0x98, 0xA0, 0xA8, 0xB0, 0xB8, 0xC0, 0xC8] },
   { base := 0x2002000, n := 4, stride := 0x400, offs := [0x0, 0x8, 0x10, 0x18, 0x20, 0x28, 0x30, 0x38, 0x40, 0x48, 0x50, 0x58, 0x60, 0x68, 0x70, 0x78, 0x80, 0x88, 0x90, 0x98, 0xA0, 0xA8] },
   { base := 0x2401000, n := 4, stride := 0x400, offs := [0x0, 0x8, 0x10, 0x18, 0x20, 0x28, 0x30, 0x38, 0x40, 0x48, 0x50, 0x58, 0x60, 0x68, 0x70, 0x78, 0x80, 0x88] },
   { base := 0x2C00000, n := 1, stride := 0x8, offs := [0x1000, 0x1008, 0x1010, 0x1018, 0x1020, 0x1028, 0x1030, 0x1038, 0x1040, 0x1048] },
   { base := 0x2801000, n := 4, stride := 0x100, offs := [0x0, 0x8, 0x10, 0x18, 0x20, 0x28, 0x30, 0x38, 0x40, 0x48, 0x50] },
   { base := 0x2800000, n := 1, stride := 0x8, offs := [0x1400] },
   { base := 0x3401000, n := 48, stride := 0x40, offs := [0x0, 0x8, 0x10, 0x18] },
   { base := 0x3400000, n := 1, stride := 0x8, offs := [0x2000, 0x2008, 0x2010, 0x2018, 0x2020, 0x2028, 0x2030, 0x2038, 0x2040, 0x2048, 0x2050, 0x2058, 0x2060, 0x2068, 0x2070] },
   { base := 0x3001000, n := 4, stride := 0x400, offs := [0x0, 0x8, 0x10, 0x18, 0x20, 0x28, 0x30, 0x38, 0x40, 0x48] },
   { base := 0x3C01000, n := 3, stride := 0x100, offs := [0x0, 0x8, 0x10, 0x18, 0x20, 0x28] },
   { base := 0x3C00000, n := 1, stride := 0x8, offs := [0x2000, 0x2008, 0x2010, 0x2018, 0x2020, 0x2028, 0x2030, 0x2038, 0x2040, 0x2048, 0x2050, 0x2058, 0x2060, 0x2068, 0x2070, 0x2078] },
   { base := 0x3801000, n := 96, stride := 0x40, offs := [0x0, 0x8, 0x10, 0x18, 0x20, 0x28] },
   { base := 0x3800000, n := 1, stride := 0x8, offs := [0x3000, 0x3008, 0x3010] },
   { base := 0x0, n := 1, stride := 0x8, offs := [0x3000, 0x3008, 0x3010, 0x3018] },
   { base := 0x400000, n := 1, stride := 0x8, offs := [0x1000, 0x1008, 0x1010, 0x1018, 0x1020] },
   { base := 0x0, n := 1, stride := 0x8, offs := [0xC000, 0xC008, 0xC010, 0xC018, 0xC020, 0xC028, 0xC030] },
   { base := 0xD000, n := 41, stride := 0x20, offs := [0x0, 0x8, 0x10, 0x18] }]

/-- Whether an address is one of a register array's. -/
def RegGroup.holds (g : RegGroup) (a : Nat) : Bool :=
  let d := a - g.base
  decide (g.base ≤ a) && decide (d / g.s1 < g.n1 || (g.n1 == 1 && g.n2 == 1)) &&
    (if g.n1 == 1 && g.n2 == 1 then d == 0
     else decide (d % g.s1 / g.s2 < g.n2) && (d % g.s1) % g.s2 == 0)

/-- The register at a 4-byte aligned BAR0 address, if R549 assigns one. A counter is no register here, so that an LREG pair which names a
counter's address ends Load with CONTENT (R70; DESIGN CHOICE). -/
def regAt (a : Nat) : Option RegGroup := regGroups.find? (fun g => g.holds a)

/-- Whether an address is the low word of a counter (R508). -/
def CntGroup.holds (g : CntGroup) (a : Nat) : Bool :=
  let d := a - g.base
  decide (g.base ≤ a) && decide (d / g.stride < g.n || g.n == 1) &&
    g.offs.contains (if g.n == 1 then d else d % g.stride)

/-- Whether an address is the low word of a counter. -/
def isCounter (a : Nat) : Bool := cntGroups.any (fun g => g.holds a)

end Sys2Proof
end

