-- ==== Sys2Proof/Machine/StFlow.lean ====
section
/-! DEFINITION. The records of the flow engine's partitions: directory buckets, cache lines with their locks, the
pending-miss queue, the free-index cache and the scanner (R201 to R233). -/
namespace Sys2Proof

/-- A valid slot of a directory bucket (R210). -/
structure DirSlot where
  slot : Nat := 0
  idx : Nat := 0
  tag : Nat := 0
  pinned : Bool := false
deriving DecidableEq, Repr, Inhabited

/-- A directory bucket (R210): its valid slots in insertion order, so that a slot's ORDER rank is its place in
the list, OCC the list's length and OLDEST its first unpinned slot. -/
structure DirBucket where
  version : Nat := 0
  slots : List DirSlot := []
  /-- The bucket lies in a retired channel without spare (R233). -/
  gone : Bool := false
deriving DecidableEq, Repr, Inhabited

/-- A line's lock state (R213). -/
inductive Lock where
  | free | excl (t : Nat) | shared (ts : List Nat)
deriving DecidableEq, Repr, Inhabited

/-- A request that waits in a line's FIFO (R214). -/
structure LockReq where
  thread : Nat := 0
  shared : Bool := false
deriving DecidableEq, Repr, Inhabited

/-- A flow-cache line (R213). -/
structure Line where
  idx : Nat := 0
  set : Nat := 0
  clove : Dat := 0
  dirty : Bool := false
  lock : Lock := .free
  fifo : List LockReq := []
  /-- The clove is deleted at the last release, with this reason (R228, R242, R253). -/
  delAtRelease : Option Nat := none
deriving DecidableEq, Repr, Inhabited

/-- Where a pending miss stands (R217). -/
inductive MissStage where
  /-- Step 5: the buckets are being read. -/
  | reading
  /-- Step 6: clove indices whose tag matched, still to be read. -/
  | candidates (idx : List Nat)
  /-- A found or learned clove whose install waits for a way (R213): index, clove, whether it is dirty. -/
  | install (idx : Nat) (clove : Dat) (dirty : Bool) (learned : Bool)
deriving DecidableEq, Repr, Inhabited

/-- A pending miss (R217, R218). -/
structure Miss where
  key : BitVec 384 := 0
  profile : Nat := 0
  /-- The profile's entry as it stood when the lookup began (R207). -/
  prof : Dat := 0
  hash : Nat := 0
  b1 : Nat := 0
  b2 : Nat := 0
  v1 : Nat := 0
  v2 : Nat := 0
  stage : MissStage := .reading
  /-- Threads of the merged lookups in arrival order. -/
  threads : List Nat := []
deriving DecidableEq, Repr, Inhabited

/-- An entry of the end-record queue (R227). -/
structure EndRec where
  clove : Dat := 0
  idx : Nat := 0
  reason : Nat := 0
  /-- The record holds the clove index only (R233). -/
  bare : Bool := false
  /-- ST of the clove's end. -/
  at_ : Nat := 0
deriving DecidableEq, Repr, Inhabited

/-- A partition of the Bulb (R201). -/
structure Part where
  /-- Cached lines, the most recently used first. -/
  lines : List Line := []
  misses : List Miss := []
  /-- Lookups that lost the line they waited for while the miss queue was full: they enter it as places free (R218). -/
  held : List Nat := []
  /-- Buckets that the directory cache holds (R28, R201). -/
  dirCache : List Nat := []
  /-- The free-index cache, oldest first, as runs of first index and length (R552). -/
  freeCache : List (Nat × Nat) := []
  /-- Free indices of the bitmap, as rising runs. -/
  freeBits : List (Nat × Nat) := []
  /-- Where the next refill reads (R552). -/
  refillPos : Nat := 0
  used : Nat := 0
  pinned : Nat := 0
  /-- The scanner's place in the partition (R238), and the ST at which its last visit was due (R229). -/
  sweep : Nat := 0
  visitAt : Nat := 0
  learnSeq : Word32 := 0
  /-- ms index and learns admitted in it (R220). -/
  learnWin : Nat × Nat := (0, 0)
  endq : List EndRec := []
  /-- Poison marks on their way: clove index and GEN (R216). -/
  marks : List (Nat × Nat) := []
  /-- Pseudo-channels that have been withdrawn since Load (R233). -/
  withdrawn : List Nat := []
  /-- Buckets moved into the spare of the directory region (R233). -/
  spareChans : Nat := 0
deriving DecidableEq, Repr, Inhabited

end Sys2Proof
end

