-- ==== Sys2Proof/Machine/StSvc.lean ====
section
/-! DEFINITION. The records of the flow services: NAT blocks and the NAT log, telemetry messages, passes and
shadows (R239 to R282). -/
namespace Sys2Proof

/-- A NAT block record (R245). -/
structure NatBlock where
  owner : Nat := 0
  ownerGen : Nat := 0
  allocated : Bool := false
  used : Nat := 0
  next : Nat := 0
  /-- RELEASED; meaningful once the block has been released. -/
  released : Nat := 0
  /-- The block has been released since Load. -/
  wasReleased : Bool := false
  /-- What its release record carries (R280): the exporter, NAT64, and the subscriber's ZONE and SADDR. -/
  exporter : Nat := 0
  nat64 : Bool := false
  zone : Nat := 0
  saddr : BitVec 128 := 0
deriving DecidableEq, Repr, Inhabited

/-- An entry of the NAT log queue (R280). -/
structure NatRec where
  event : Nat := 0
  v6 : Bool := false
  zone : Nat := 0
  /-- SADDR of the subscriber key, network order. -/
  saddr : BitVec 128 := 0
  pubAddr : Nat := 0
  portLo : Nat := 0
  portHi : Nat := 0
  exporter : Nat := 0
  /-- ST of the event. -/
  at_ : Nat := 0
deriving DecidableEq, Repr, Inhabited

/-- A block release that waits for the NAT log queue (R253): block and subscriber clove with its GEN. -/
structure RelWait where
  block : Nat := 0
  sub : Nat := 0
  subGen : Nat := 0
deriving DecidableEq, Repr, Inhabited

/-- An open IPFIX message (R273): its data records by template, and ST of the first. -/
structure TelMsg where
  recs : List (Nat × List Byte) := []
  firstAt : Nat := 0
deriving DecidableEq, Repr, Inhabited

/-- A running interval pass (R278): next clove index and ST of the boundary. -/
structure TelPass where
  pos : Nat := 0
  instant : Nat := 0
  /-- It is the first to close after a forward step of ST (R279). -/
  unrel : Bool := false
deriving DecidableEq, Repr, Inhabited

/-- A telemetry shadow (R278). -/
structure Shadow where
  pkts : Nat := 0
  bytes : Nat := 0
  gen : Nat := 0
  win : Nat := 0
deriving DecidableEq, Repr, Inhabited

/-- What tracking keeps of a direction beside the clove's TCP tail (R271): it has sent a packet, it has sent an acknowledgement, and its
SYN carried a window scale option. -/
structure TcpTrack where
  sent : Bool := false
  acked : Bool := false
  opt : Bool := false
deriving DecidableEq, Repr, Inhabited

/-- The flow services of one partition. -/
structure SvcPart where
  /-- Block records by block number (R245). -/
  blocks : SMap NatBlock := {}
  /-- Public addresses, by position, whose ENABLED the host cleared (R244). -/
  disabled : SMap Bool := {}
  natq : List NatRec := []
  relWait : List RelWait := []
  /-- Second of the last record 3, 12 or 13 of a subscriber, plus 1, at key 16 x subscriber clove + natEvent (R252). -/
  subSec : SMap Nat := {}
  /-- The open message of exporter x (R273). -/
  msgs : SMap (Option TelMsg) := {}
  /-- Data records sent in the observation domain (R273). -/
  seq : Word32 := 0
  /-- ST at which exporter x last sent its templates (R275). -/
  tmplAt : SMap (Option Nat) := {}
  /-- RESEND asks exporter x for templates with its next message (R275). -/
  tmplAsk : SMap Bool := {}
  /-- The pass of window n (R278). -/
  passes : SMap (Option TelPass) := {}
  /-- The next pass of window n to close follows a forward step of ST (R279). -/
  unrel : SMap Bool := {}
  shadows : SMap Shadow := {}
  /-- TCP tracking of a clove (R271). -/
  track : SMap TcpTrack := {}
deriving DecidableEq, Repr, Inhabited

/-- The flow services (R239 to R282). -/
structure SvcSt where
  part : SMap SvcPart := {}
  /-- LB_SLOT: member and VALID at key 256 x group + slot (R263). -/
  slots : SMap (Option Nat) := {}
  /-- FSE_LB_LATCH (R266). -/
  latch : Word32 := 0
  /-- FSE_TEL_CTL.RESEND (R282). -/
  resend : Bool := false
deriving DecidableEq, Repr, Inhabited

end Sys2Proof
end

