-- ==== Sys2Proof/Machine/State.lean ====
section
/-! DEFINITION. The state of the block: everything the spec gives the device, plain data, and the queue of waiting
commands. -/
namespace Sys2Proof.Machine

/-- Faults of a step. No command of this model faults: an access the device does not accept has an answer of its own
in the spec (R10, R478, R541). -/
inductive Fault where
  /-- Raised by no command; safe. -/
  | none
deriving DecidableEq, Repr

/-- Refusals of a step. -/
inductive Refusal where
  /-- Raised by an arm of exec whose command has no meaning in the model yet; safe. -/
  | notModelled (mnemonic : String)
  /-- JTAG_INSTRUCTION with an instruction other than IDCODE or BYPASS while the port is open: R474 says what it never
  reaches and gives it no effect; safe. -/
  | jtagOpenInstruction
deriving DecidableEq, Repr

/-- The state of the device. -/
structure State where
  pins : Pins := {}
  isl : Island := {}
  otp : Otp := {}
  md : ModeSt := {}
  load : Load := {}
  tbe : Tbe := {}
  sec : Sec := {}
  /-- RW and RWL register contents by BAR0 address; read-only fields are computed where they are read. -/
  regs : SMap Word32 := {}
  /-- What a Maintenance write left in a layout register for reading back, at its BAR0 address (R544). -/
  back : SMap (Option Word32) := {}
  /-- Table entries at table x 2^32 + index. -/
  tbl : SMap Dat := {}
  /-- Counters by the BAR0 address of the low word (R508). -/
  cnt : SMap Word64 := {}
  hostShadow : CntShadow := {}
  sbShadow : CntShadow := {}
  hostStamp : Word64 := 0
  sbStamp : Word64 := 0
  flt : SMap FltCount := {}
  /-- HBM rows tracked by pseudo-channel n, at 64 n + entry: the row of a bank, and its count (R443). -/
  fltRow : SMap (Option (Nat × Nat × Nat)) := {}
  lim : SMap Limiter := {}
  ecp : SMap EcpPort := {}
  cdt : SMap Conduit := {}
  ring : SMap Ring := {}
  msix : SMap MsixEntry := {}
  /-- MGT_TEMP (R540). -/
  temp : Word32 := 0
  port : SMap PortSt := {}
  /-- The node records of the parse graph and their number (R110, R118). -/
  graph : SMap NodeRec := {}
  graphLen : Nat := 0
  /-- The 256 bytes of TOPO (R71). -/
  topo : BitVec 2048 := 0
  cls : ClsSt := {}
  asa : AsaSt := {}
  fwd : FwdSt := {}
  /-- Packets of pipeline i that wait for their forwarding read, with the step it serves and the walk's context
  (R181). -/
  fwdq : SMap (List (Pkt × Nat × Nat)) := {}
  /-- Packets of partition i ahead of their flow lookup: ingress at 2 i, egress at 2 i + 1. -/
  fseq : SMap (List Pkt) := {}
  part : SMap Part := {}
  /-- Directory buckets by global number, and cloves in HBM by global index (R201). -/
  dir : SMap DirBucket := {}
  clove : SMap Dat := {}
  svc : SvcSt := {}
  eng : EngSt := {}
  buf : BufSt := {}
  swc : SwcSt := {}
  tms : TmsSt := {}
  pod : PodSt := {}
  hmc : HmcSt := {}
  /-- The model's own field, not the spec's: how many free values have been used (Config). -/
  free : Nat := 0
  /-- What the command just executed put on the device's outputs; empty between commands that drive none. -/
  out : List Out := []
  /-- Commands that wait, first in first out. -/
  pending : List Instr := []
deriving DecidableEq, Repr

/-- The registers whose Reset column gives RW or RWL fields a value other than zero or "image" (R512): the filter
profiles of R510. -/
def resetRegs : SMap Word32 :=
  ⟨((List.range 32).map (fun k => [(0xA000 + 16 * k, (0x00FF033F : Word32)),
      (0xA004 + 16 * k, (0x0000FF00 : Word32)), (0xA00C + 16 * k, (0xFFFFFFFF : Word32))])).flatten⟩

/-- The first record of the log (R448, R451, R452): ISLAND_RESET, with no unit and detail 0. -/
def islandResetRec : EventRec := { block := 0, code := 7, unit := 0xFFFF }

/-- The device right after the power-on reset of the always-on island, RESET_N low (R11, R57, R452, R524): every block outside the
island is in reset, and the log holds ISLAND_RESET. Registers, tables and fuses that the spec gives no reset value are zero
(DESIGN CHOICE 1). -/
def State.reset : State :=
  { pins := { resetN := false }, isl := { log := ⟨[(0, islandResetRec)]⟩, total := 1, held := 1 }, regs := resetRegs }

end Sys2Proof.Machine
end

