-- ==== Sys2Proof/Machine/Ops.lean ====
section
/-! DEFINITION. The shared operations: which blocks run, schedule time, registers and tables as stores, counters
with their filter profiles (R508, R510), MSI-X (R500), conduits (R491, R492), the event log with its limiters
(R447 to R453), mode changes (R80) and the leaky-bucket counts (R438 to R440). -/
namespace Sys2Proof

/-! ### Conduits (R489 to R495) -/

/-- Words held (R491). -/
def Conduit.fill (c : Conduit) : Nat := (c.wr + 2048 - c.rd) % 2048

/-- Words of credit still to be had (R492). -/
def Conduit.credit (c : Conduit) : Nat := 1024 - c.fill - c.granted

/-- A conduit word from its CTRL bits and payload (R490). -/
def cdtWord (start fin : Bool) (payload : List Byte) : Word512 :=
  bvOfBytes 512 (BitVec.ofNat 8 (128 * b2n start + 64 * b2n fin) :: BitVec.ofNat 8 payload.length :: payload)

/-- The idle word (R490). -/
def idleWord : Word512 := 0x20

def wordStart (w : Word512) : Bool := bit w.toNat 7
def wordEnd (w : Word512) : Bool := bit w.toNat 6

/-- Cuts bytes into payloads of 62; the first argument bounds their number. -/
def payloads : Nat → List Byte → List (List Byte)
  | 0, _ => []
  | n + 1, bs => if bs.length ≤ 62 then [bs] else bs.take 62 :: payloads n (bs.drop 62)

/-- The words of a packet (R490). -/
def cdtWords (bs : List Byte) : List Word512 :=
  let ps := payloads (cdiv bs.length 62 + 1) bs
  ps.zipIdx.map (fun p => cdtWord (p.2 == 0) (p.2 + 1 == ps.length) p.1)

/-- A producer writes one word (R491). -/
def Conduit.push (c : Conduit) (w : Word512) : Conduit :=
  { c with words := c.words.set (c.wr % 1024) w, wr := (c.wr + 1) % 2048,
           pkts := c.pkts + b2n (wordEnd w), inPkt := if wordEnd w then 0 else c.inPkt + 1 }

/-- The word under the read pointer leaves the conduit (R491, R492). -/
def Conduit.pop (c : Conduit) : Conduit :=
  { c with words := c.words.set (c.rd % 1024) 0, rd := (c.rd + 1) % 2048,
           pkts := c.pkts - b2n (wordEnd (c.words.get (c.rd % 1024))) }

def Conduit.front (c : Conduit) : Word512 := c.words.get (c.rd % 1024)

/-- A conduit loses its words (R494, R497). -/
def Conduit.emptied (c : Conduit) : Conduit :=
  { c with words := {}, rd := c.wr, pkts := 0, granted := 0, inPkt := 0, partMoved := false }

/-- The 16 bytes of a record (R447). -/
def EventRec.bytes (r : EventRec) : List Byte :=
  bvBytes 8 r.st ++ [BitVec.ofNat 8 (r.block.toNat + 16 * b2n r.suppressed), r.code] ++ bvBytes 2 r.unit ++
    bvBytes 4 r.detail

end Sys2Proof
namespace Sys2Proof.Machine

/-- What a meaning answers. -/
abbrev Res := Host.Outcome State Fault Refusal

/-- The state with the outputs of the command before it taken away. -/
def State.fresh (s : State) : State := { s with out := [] }

/-- Drives an output. -/
def emit (o : Out) (s : State) : State := { s with out := s.out ++ [o] }

/-- Every block outside the always-on island is in reset (R57, R472, R526). -/
def State.coreHeld (s : State) : Bool :=
  !s.pins.resetN || !s.pins.coreRails || s.isl.railHold || s.isl.tripHold || s.isl.aonDown

/-- The blocks outside the island run: they are not in reset and their clocks are not gated (R472). -/
def State.live (s : State) : Bool := !s.coreHeld && !s.sec.gated

/-- ST in ns (R38). -/
def State.now (s : State) : Nat := s.tbe.st

/-- NT x 10^9 (R38, R40). -/
def State.nt (s : State) : Nat := if s.tbe.state = .unsync then 0 else s.tbe.st - s.tbe.off

/-- ST runs up to an instant that lies ahead. -/
def runTo (due : Nat) (s : State) : State := { s with tbe := { s.tbe with st := max s.tbe.st due } }

/-- The ST at which place k of a scan is due that visits n places at an even rate, each once in `period` ns, given the ST at which the
place before was due (R169, R196, R229, R403, R428). -/
def paceDue (period n k last : Nat) : Nat := last + (period * (k + 1) / max 1 n - period * k / max 1 n)

/-- The content of a register as stored. -/
def State.reg (s : State) (a : Nat) : Nat := (s.regs.get a).toNat

/-- A field of a register as stored. -/
def State.regF (s : State) (a hi lo : Nat) : Nat := bits (s.reg a) hi lo

def setReg (a v : Nat) (s : State) : State := { s with regs := s.regs.set a (BitVec.ofNat 32 v) }

/-- The key of an entry of a host table. -/
def tblKey (t i : Nat) : Nat := t * 2 ^ 32 + i

def State.tblGet (s : State) (t i : Nat) : Dat := s.tbl.get (tblKey t i)

def tblSet (t i : Nat) (d : Dat) (s : State) : State := { s with tbl := s.tbl.set (tblKey t i) d }

/-- A period of 2^k x u ns (R49). -/
def period (k u : Nat) : Nat := 2 ^ k * u

def State.epochPeriod (s : State) : Nat := period (s.regF Reg.TBE_CFG 24 20) 1000
def State.agePeriod (s : State) : Nat := period (s.regF Reg.TBE_CFG 19 16) 1000000
def State.twinPeriod (s : State) (n : Nat) : Nat := period (s.regF (Reg.TBE_TWIN_CFG n) 4 0) 1000000

/-- The epoch number E (R49). -/
def State.epoch (s : State) : Nat := s.now / s.epochPeriod % 2 ^ 32
/-- The age stamp (R49). -/
def State.ageStamp (s : State) : Nat := s.now / s.agePeriod % 2 ^ 16
/-- Whether an action armed for epoch e is reached (R49): at E in serial-number arithmetic, or within the epochs that passed in the
present period since the index `last`, however many they are (R44). -/
def State.epochReached (s : State) (last : Option Nat) (e : Nat) : Bool :=
  decide ((s.epoch + 2 ^ 32 - e % 2 ^ 32) % 2 ^ 32 < 2 ^ 31) ||
    last.any (fun l => decide ((e + 2 ^ 32 - l % 2 ^ 32) % 2 ^ 32 ≤ s.now / s.epochPeriod - l))
/-- The index W of telemetry window n (R49). -/
def State.twin (s : State) (n : Nat) : Nat := s.now / s.twinPeriod n % 2 ^ 32

/-- Time elapsed since a stamp of k bits; a stamp that lies ahead counts as the current one (R550). -/
def serialAge (k now stored : Nat) : Nat :=
  let d := (now + 2 ^ k - stored % 2 ^ k) % 2 ^ k
  if 2 ^ (k - 1) ≤ d then 0 else d

/-- The attributes that an event of a counter carries (R510). -/
structure Attr where
  cls : Option Nat := none
  /-- Bit number of R510: 0 host, 1 side-band, 2 engine, 3 learning hardware, 4 ageing scanner, 5 Pod. -/
  master : Option Nat := none
  win : Option Window := none
  tbl : Option Nat := none
  idx : Option Nat := none
deriving DecidableEq, Repr, Inhabited

/-- A test of an attribute; one that the event does not carry passes (R510). -/
def passes {α : Type} (o : Option α) (p : α → Bool) : Bool := match o with | none => true | some a => p a

/-- Whether an event passes filter profile k (R510). -/
def profilePass (s : State) (k : Nat) (a : Attr) : Bool :=
  k == 0 ||
    (passes a.cls (fun c => bit (s.regF (Reg.MGT_CNT_PROF_CFG k) 23 16) c) &&
     passes a.master (fun m => bit (s.regF (Reg.MGT_CNT_PROF_CFG k) 5 0) m) &&
     passes a.win (fun w => bit (s.regF (Reg.MGT_CNT_PROF_CFG k) 9 8) (match w with | .bar0 => 0 | .bar4 => 1)) &&
     passes a.tbl (fun t => decide (s.regF (Reg.MGT_CNT_PROF_TBL k) 7 0 ≤ t) &&
       decide (t ≤ s.regF (Reg.MGT_CNT_PROF_TBL k) 15 8)) &&
     passes a.idx (fun i => decide (s.reg (Reg.MGT_CNT_PROF_IDX_LO k) ≤ i) &&
       decide (i ≤ s.reg (Reg.MGT_CNT_PROF_IDX_HI k))))

/-- The filter profile to which a counter is bound (R511). -/
def State.binding (s : State) (a : Nat) : Nat := datU (s.tblGet 0x5D (a / 8)) 0 1 % 32

/-- A counter counts n events with the given attributes (R508, R510). -/
def countA (at_ : Attr) (a n : Nat) (s : State) : State :=
  if profilePass s (s.binding a) at_ then { s with cnt := s.cnt.upd a (fun c => c + BitVec.ofNat 64 n) } else s

/-- A counter counts one event that carries no attribute. -/
def count (a : Nat) (s : State) : State := countA {} a 1 s

/-- A counter counts one packet event of a class. -/
def countC (c a : Nat) (s : State) : State := countA { cls := some c } a 1 s

/-- MSI-X vector v is raised: the message is sent, or the vector stays pending while it is masked (R500). -/
def msixRaise (v : Nat) (s : State) : State :=
  if s.pins.perstN then
    if (s.msix.get v).unmasked then emit (.msix v) s
    else { s with msix := s.msix.upd v (fun e => { e with pend := true }) }
  else s

/-- A producer writes a whole packet if its credit covers it (R492); otherwise nothing is written. -/
def cdtOffer (c : Nat) (bs : List Byte) (s : State) : Option State :=
  let ws := cdtWords bs
  if ws.length ≤ (s.cdt.get c).credit then some { s with cdt := s.cdt.upd c (fun k => ws.foldl Conduit.push k) }
  else none

/-- A punt or event producer: a packet without credit is dropped whole and counted (R492), with the class of a punt (R510). -/
def cdtPush (c : Nat) (at_ : Attr) (bs : List Byte) (s : State) : State :=
  match cdtOffer c bs s with
  | some t => t
  | none => countA at_ (Cnt.MGT_CDT_DROP c) 1 s

/-! ### Events (R447 to R453) -/

/-- Records that assert ALERT_N whatever the mask (R507): MODE_CHANGE, LOAD_FAIL, HB_EXPIRED, ALARM, ZEROISED and
KILL_BURNED. -/
def alertAlways (block code : Nat) : Bool :=
  (block == 0 && (code == 1 || code == 2)) || (block == 1 && (code == 2 || code == 4 || code == 5 || code == 6))

/-- The island writes a record into its ring (R452, R453). -/
def logPut (r : EventRec) (s : State) : State :=
  { s with isl := { s.isl with log := s.isl.log.set (s.isl.total.toNat % 1024) r, total := s.isl.total + 1,
                               held := min 1024 (s.isl.held + 1) } }

/-- A record is written: the log, ALERT_N, MGT_EVENTS, MSI-X vector 49 and the event conduit (R449, R500, R507). -/
def recPut (r : EventRec) (s : State) : State :=
  let s := logPut r s
  let mask := s.reg Reg.MGT_SB_ALERT_MASK
  let s := if alertAlways r.block.toNat r.code.toNat || bit mask r.block.toNat then
    { s with isl := { s.isl with alert := true } } else s
  if s.coreHeld then s else
    let s := cdtPush 40 {} r.bytes (count Cnt.MGT_EVENTS s)
    if (r.block == 0 && r.code == 1) || (r.block == 1 && r.code == 4) then msixRaise 49 s else s

/-- A record is written, with LOG_WRAPPED at the first overwrite (R451). -/
def recWrite (r : EventRec) (s : State) : State :=
  let full := s.isl.held == 1024 && !s.isl.wrapped
  let s := recPut r s
  if full then
    recPut { st := BitVec.ofNat 64 s.now, block := 0, code := 6, unit := 0xFFFF, detail := s.isl.total }
      { s with isl := { s.isl with wrapped := true } }
  else s

/-- The UNIT of an event whose detail names no unit (R448). -/
def noUnit : Nat := 0xFFFF

/-- An event without a limit is raised (R447). -/
def raise (block code unit detail : Nat) (s : State) : State :=
  recWrite { st := BitVec.ofNat 64 s.now, block := BitVec.ofNat 4 block, code := BitVec.ofNat 8 code,
             unit := BitVec.ofNat 16 unit, detail := BitVec.ofNat 32 detail } s

/-- An event limited to n records per second in a scope is raised (R449); `scope` tells the limiters of one block
and code apart. -/
def raiseLim (n scope block code unit detail : Nat) (s : State) : State :=
  let k := (block * 256 + code) * 2 ^ 32 + scope
  let sec := s.now / 1000000000
  let l := s.lim.get k
  let l := if l.used && l.sec == sec then l else { l with sec := sec, n := 0, used := true }
  if l.n < n then
    recWrite { st := BitVec.ofNat 64 s.now, block := BitVec.ofNat 4 block, code := BitVec.ofNat 8 code,
               suppressed := l.suppressed, unit := BitVec.ofNat 16 unit, detail := BitVec.ofNat 32 detail }
      { s with lim := s.lim.set k { l with n := l.n + 1, suppressed := false } }
  else
    let s := { s with lim := s.lim.set k { l with suppressed := true } }
    if s.coreHeld then s else count Cnt.MGT_EVENTS_SUPPRESSED s

/-- Whether a limiter of n per second would record an event now (R449). -/
def limOpen (n scope block code : Nat) (s : State) : Bool :=
  let l := s.lim.get ((block * 256 + code) * 2 ^ 32 + scope)
  !(l.used && l.sec == s.now / 1000000000) || decide (l.n < n)

/-- A number as a 32-bit detail that saturates. -/
def sat32 (n : Nat) : Nat := min n 0xFFFFFFFF

/-! ### Modes (R80) -/

/-- The mode changes, with its cause (R80, R92, R94). The end of a Load arms LOG_WRAPPED again (R451). -/
def changeMode (m : Mode) (cause : Nat) (s : State) : State :=
  let old := s.md.mode
  let leaving := old == .drain && m != .drain
  let s := { s with isl := { s.isl with wrapped := s.isl.wrapped && old != Mode.load } }
  raise 0 1 noUnit (m.code + 256 * old.code + 65536 * cause)
    { s with md := { s.md with mode := m, cause := cause, drained := if leaving then false else s.md.drained } }

/-! ### Fault counts (R438 to R440) -/

/-- THRESH of a class (R438, R455). -/
def State.thresh (s : State) (cls : Nat) : Nat :=
  if cls = 4 then 3 else if cls = 7 then 0 else s.regF (Reg.MGT_FLT_CFG cls) 15 0

/-- W of a class (R438, R455). -/
def State.leakW (s : State) (cls : Nat) : Nat :=
  if cls = 4 ∨ cls = 7 then 0 else s.regF (Reg.MGT_FLT_CFG cls) 20 16

/-- The key of a unit's count: class and unit as IDX of table 0x5B holds them (R454). -/
def fltKey (cls unit : Nat) : Nat := cls * 8192 + unit

/-- The count of a Pod lane, class 4 (R407, R438): its strikes of the last 1,000,000 ns. -/
def recentStrikes (now : Nat) (strikes : List Nat) : Nat := (strikes.filter (fun a => decide (now ≤ a + 1000000))).length

/-- An error enters a unit's count (R439); the Bool says that the count crosses (R440). An engine that is retiring has crossed already. -/
def enterError (cls unit weight : Nat) (s : State) : Bool × State :=
  let f := s.flt.get (fltKey cls unit)
  if f.retired then (false, s) else
    let n := min 65535 (f.count + weight)
    let crossed := decide (f.count < s.thresh cls) && decide (s.thresh cls ≤ n) && !(cls == 5 && s.eng.retiring.getLsbD unit)
    let s := { s with flt := s.flt.set (fltKey cls unit) { f with count := n, peak := max f.peak n } }
    (crossed, if crossed then count Cnt.MGT_FLT_CROSSINGS s else s)

/-- A unit's RETIRED flag is set (R454). -/
def markRetired (cls unit : Nat) (s : State) : State :=
  { s with flt := s.flt.upd (fltKey cls unit) (fun f => { f with retired := true }) }

/-- A retirement is refused (R444, R454). -/
def markRefused (cls unit : Nat) (s : State) : State :=
  { s with flt := s.flt.upd (fltKey cls unit) (fun f => { f with refused := true }) }

/-- A write of a self-test register whose unit field the write gives as `unit` (R446): without START it sets the field. A START for a
unit in service is rejected with IN_SERVICE, which `reject` sets, and changes nothing else; any other sets the field and starts the
test, or while a test runs is not taken (DESIGN CHOICE, assumption 71). -/
def testWrite (addr unit : Nat) (start ok busy : Bool) (accept reject : State → State) (s : State) : State :=
  if !start then setReg addr unit s
  else if !ok then reject s
  else if busy then s
  else accept (setReg addr unit s)

/-! ### Writes of the outside masters (R10, R59, R551) -/

/-- A write is ignored and counted (R10). -/
def ignoreWrite (m : Nat) (w : Option Window) (s : State) : State :=
  countA { master := some m, win := w } Cnt.MGT_WR_IGNORED 1 s

/-- Whether the host's writes to a register of a window take place in the mode (R59, R83, R90, R91, R551);
`win` is the window's number of R5. -/
def State.hostMayWrite (s : State) (win : Nat) : Bool :=
  match s.md.mode with
  | .load => win ≤ 1
  | .service | .drain => true
  | .headless | .lockdown => false
  | .maintenance => !s.md.loadFailed || win ≤ 1

/-- The PCI Express endpoint serves the host (R58). -/
def State.hostUp (s : State) : Bool := s.live && s.pins.perstN

/-! ### The next free value -/

/-- Draws the next free value of the model (DESIGN CHOICE 2). -/
def draw (s : State) : Nat × State := (s.free, { s with free := s.free + 1 })

end Sys2Proof.Machine
end

