-- ==== Sys2Proof/Machine/Flash.lean ====
section
/-! DEFINITION. The board directory as bytes (R65) and the commands that the device drives on the xSPI pins (R61, R66). -/
namespace Sys2Proof

/-- The little-endian field of a byte list. -/
def fieldU (bs : List Byte) (off size : Nat) : Nat := leVal (slice bs off size)

/-! ### The board directory (R65, R66) -/

/-- The command record that starts at an offset has an ADDR_BYTES of 0, 3 or 4 (R66). -/
def cmdRecOk (d : List Byte) (off : Nat) : Bool :=
  let n := fieldU d (off + 2) 1
  n == 0 || n == 3 || n == 4

/-- OFFSET and LENGTH of a position's entry (R65). -/
def dirOffset (d : List Byte) (bpos : Nat) : Nat := fieldU d (40 + 16 * bpos) 4
def dirLength (d : List Byte) (bpos : Nat) : Nat := fieldU d (44 + 16 * bpos) 4

/-- ENTER_COUNT and EXIT_COUNT of the profile (R66). -/
def enterCount (d : List Byte) : Nat := fieldU d 12 1
def exitCount (d : List Byte) : Nat := fieldU d 13 1

/-- The directory is valid for a position (R65). -/
def dirOk (d : List Byte) (bpos : Nat) : Bool :=
  fieldU d 0 4 == 0x44424C46 && fieldU d 4 2 == 1 && crc32 (slice d 0 508) == fieldU d 508 4 &&
    dirLength d bpos != 0 && 1 ≤ fieldU d 6 1 && fieldU d 6 1 ≤ 8 &&
    fieldU d 8 1 ≤ 4 && 4 ≤ fieldU d 9 1 && fieldU d 9 1 ≤ 30 && enterCount d ≤ 2 && exitCount d ≤ 1 &&
    (List.range (enterCount d)).all (fun k => cmdRecOk d (16 + 8 * k)) && (exitCount d == 0 || cmdRecOk d 32)

/-! ### Commands on the xSPI pins -/

/-- A command without address, data or dummy cycles, in 8D-8D-8D form or 1S-1S-1S. -/
def xspiOp (octal : Bool) (op : Byte) : Out := .xspi octal none [op] 0 0

/-- The soft-reset pair, first in 8D form and then in 1S form (R61). -/
def softReset : List Out := [true, false].flatMap (fun o => [xspiOp o 0x66, xspiOp o 0x99])

/-- The read of the 512-byte directory at flash address 0 (R61). -/
def dirRead : Out := .xspi false (some 25) (0x13 :: List.replicate 4 0) 0 512

/-- A command record of the profile (R66): write-enable first where FLAGS asks for it, in the same form as the command (DESIGN CHOICE,
assumption 75: R66 gives the form of the command only), then OPCODE, the address bytes, most significant first (PRESUMED, JESD251), and DATA where
FLAGS has it. -/
def cmdRec (d : List Byte) (off : Nat) : List Out :=
  let fl := fieldU d (off + 1) 1
  let n := fieldU d (off + 2) 1
  let octal := bit fl 1
  (if bit fl 0 then [xspiOp octal 0x06] else []) ++
    [.xspi octal none (byteAt d off :: beBytes n (fieldU d (off + 4) 4) ++ (if bit fl 2 then [byteAt d (off + 3)] else [])) 0 0]

/-- The profile's enter and exit commands (R61, R66). -/
def enterCmds (d : List Byte) : List Out := (List.range (enterCount d)).flatMap (fun k => cmdRec d (16 + 8 * k))
def exitCmds (d : List Byte) : List Out := (List.range (exitCount d)).flatMap (fun _ => cmdRec d 32)

/-- FREQ in MHz (R66). -/
def flashMhz (d : List Byte) : Nat :=
  match fieldU d 8 1 with | 0 => 50 | 1 => 100 | 2 => 133 | 3 => 166 | _ => 200

/-- An octal read of n bytes at a flash address: READ_CMD, first byte first, and 4 address bytes, most significant first (R61, R66;
DESIGN CHOICE,
assumption 75: the spec gives READ_CMD no address width and no order). -/
def octalRead (d : List Byte) (addr n : Nat) : Out :=
  .xspi true (some (flashMhz d)) (slice d 10 2 ++ beBytes 4 addr) (fieldU d 9 1) n

end Sys2Proof
namespace Sys2Proof.Machine

/-- Drives several outputs in order. -/
def emitAll (l : List Out) (s : State) : State := { s with out := s.out ++ l }

/-- The directory held, if it is valid for the device's position (R65). -/
def State.goodDir (s : State) : Option (List Byte) :=
  match s.load.dir with
  | some d => if dirOk d s.pins.bpos then some d else none
  | none => none

/-- A holder of the token that has entered octal mode issues the profile's exit commands before it releases the pins (R61, R62). -/
def flashExit (s : State) : State :=
  match s.load.phase, s.goodDir with
  | .reading, some d => emitAll (exitCmds d) s
  | _, _ => s

end Sys2Proof.Machine
end

