-- ==== Sys2Proof/Machine/RunnerCore.lean ====
section
/-! DEFINITION. What ends a cascaded search (R156, R157, R167), and the ring held down at a change of mode (R158, R168). -/
namespace Sys2Proof.Machine

/-- RUNNER_POS of TOPO (R71). -/
def State.runnerPos (s : State) : Nat := datU s.topo 3 1
/-- RUNNER_COUNT of TOPO (R71). -/
def State.runnerCount (s : State) : Nat := datU s.topo 4 1

/-- Modes in which the ring runs (R158), on a device that is a member with its ring powered (R519, R527). -/
def State.ringAllowed (s : State) : Bool :=
  (s.md.mode == .service || s.md.mode == .headless || s.md.mode == .drain) && s.runnerPos != 0xFF &&
    !bit (s.reg Reg.MGT_PWR_OFF0) 21

/-- The Runner changes. -/
def updRun (f : Runner → Runner) (s : State) : State := { s with asa := { s.asa with run := f s.asa.run } }

/-- An owner's step handle is replaced (R157). -/
def setHandle (o : AsaOwner) (h : AsaHandle) (s : State) : State :=
  { s with asa := { s.asa with handles := s.asa.handles.set o.key h } }

/-- A search is counted by its result (R173). -/
def countHit (r : AsaRes) (s : State) : State :=
  let s := if r.hit then count Cnt.ASA_HIT s else s
  if r.multi then count Cnt.ASA_MULTI s else s

/-- The answer of a cascaded search reaches its owner, with the handle it leaves (R156, R157). A thread's answer is
result code 0 with the 12-byte block; a port's is RESULT OK with the 12 bytes in DAT. -/
def casDeliver (q : CasReq) (r : AsaRes) (s : State) : State :=
  let s := setHandle q.owner (r.handle q.key q.profile 0) s
  match q.owner with
  | .port n =>
    { s with ecp := s.ecp.upd n (fun p =>
        if p.sent then { p with outcome := some { result := 0, idx := p.lidx, cnt := 1, dat := BitVec.ofNat 1024 r.bytes } } else p) }
  | .thread t =>
    { s with eng := { s.eng with th := s.eng.th.upd t (fun h =>
        { h with far := h.far.map (fun f => { f with answer := some (0, 12, BitVec.ofNat 1024 r.bytes) }) }) } }

/-- A member of the ring is bypassed in the membership in force (R156, R165); none is before the ring first came up. -/
def State.memberOut (s : State) : Bool := s.asa.run.members != 0 && s.asa.run.members != 2 ^ s.runnerCount - 1

/-- A cascaded search that completes with a member bypassed is counted (R173). -/
def countDegraded (s : State) : State := if s.memberOut then count Cnt.ASA_RUN_DEGRADED s else s

/-- DEGRADED of a cascaded search: a member is bypassed, or it selected a retired bank (R156). -/
def State.runnerDegraded (s : State) : Bool := s.memberOut || s.reg Reg.ASA_RUNNER_BANKS &&& s.asa.retired != 0

/-- A cascaded search completes with a result (R156, R173). -/
def casComplete (q : CasReq) (r : AsaRes) (s : State) : State :=
  casDeliver q { r with degraded := s.runnerDegraded } (countHit r (countDegraded s))

/-- A cascaded search completes with HIT 0 and TIMEOUT (R167, R442). -/
def casTimeout (q : CasReq) (s : State) : State :=
  casDeliver q { cascaded := true, timeout := true, degraded := s.runnerDegraded }
    (count Cnt.ASA_RUN_TIMEOUT (countDegraded s))

/-- Every cascaded search, waiting or in flight, completes with TIMEOUT (R167). -/
def casAbandon (s : State) : State :=
  let qs := s.asa.run.flight ++ s.asa.run.waiting
  qs.foldl (fun s q => casTimeout q s) (updRun (fun r => { r with flight := [], waiting := [], matched := [] }) s)

/-- The ring is held down (R158, R168). -/
def runnerHold (s : State) : State := casAbandon (updRun (fun r => { r with state := .down, rejoin := none }) s)

/-- A change to a mode in which the ring does not run holds a ring that runs or trains (R91, R158, R168). -/
def moveMode (m : Mode) (cause : Nat) (s : State) : State :=
  let s := changeMode m cause s
  if s.ringAllowed = true ∨ s.asa.run.state = .down then s else runnerHold s

end Sys2Proof.Machine
end

