-- ==== Sys2Proof/Machine/Modes.lean ====
section
/-! DEFINITION. The boot token (R61), what a Load begins with and how it fails (R63, R77, R89), and the end of Drain
(R87, R88). -/
namespace Sys2Proof.Machine

/-! ### The boot token (R61, R62) -/

/-- BOOT_TKN_OUT is high while the device is done with the flash and its BOOT_TKN_IN is high (R61). -/
def tokenOut (s : State) : State :=
  let v := s.load.done && s.pins.tknIn && !s.coreHeld
  if v = s.pins.tknOut then s else { s with pins := { s.pins with tknOut := v, tknOutSince := s.now } }

/-- The device releases the flash and is done with it (R61, R62). -/
def flashDone (s : State) : State :=
  tokenOut { s with load := { s.load with done := true }, pins := { s.pins with xspiDriven := false } }

/-! ### Reset of the blocks (R77, R89) -/

/-- The window of a BAR0 address (R5). -/
def window (a : Nat) : Nat := a / 0x400000

/-- Every block outside MGT, SEC and TBE is in its cold-reset state, and every table is zero (R77). That no pass of a window has closed since
a forward step of ST stays known: TBE goes on (R279). -/
def resetBlocks (s : State) : State :=
  { s with regs := s.regs.keep (fun a _ => decide (window a ≤ 2)), cnt := s.cnt.keep (fun a _ => decide (window a ≤ 2)),
           tbl := {}, back := {}, flt := {}, fltRow := {}, port := {}, graph := {}, graphLen := 0, topo := 0, cls := {}, asa := {}, fwd := {},
           fwdq := {}, fseq := {}, part := {}, dir := {}, clove := {},
           svc := { part := s.svc.part.mapAll (fun p => { unrel := p.unrel }) }, eng := {}, buf := {}, swc := {}, tms := {},
           pod := {}, hmc := {} }

/-- A side-band request that executes ends, and its standing response is REFUSED (R556). -/
def sbStop (s : State) : State :=
  match s.isl.busy with
  | some q => { s with isl := { s.isl with busy := none, resp := { seq := q, status := 0x02 } } }
  | none => s

/-- What a warm reload resets in MGT and SEC besides (R89): TBE, the alarm monitors and the always-on island go on. -/
def resetHost (s : State) : State :=
  let s := sbStop s
  let tbe := fun (m : SMap Word32) => m.keep (fun a _ => decide (window a = 2))
  { s with regs := ⟨resetRegs.cells ++ (tbe s.regs).cells⟩, cnt := s.cnt.keep (fun a _ => decide (window a = 2)),
           lim := {}, ecp := {}, cdt := {}, ring := {}, msix := {}, hostShadow := {}, sbShadow := {}, hostStamp := 0, sbStamp := 0,
           temp := 0,
           sec := { s.sec with policy := false, ident := .none, leaf := none, topRoot := false, idKey := [], seed := 0, tree := 0,
                               topSig := 0, sigs := 0, exhaustedRaised := false, queue := [], attest := {}, keys := {} } }

/-! ### Load (R63, R77) -/

/-- Load ends in failure (R77, R93, R94): the device is in Maintenance and done with the flash. -/
def loadFail (code step sect detail : Nat) (s : State) : State :=
  let s := { s with load := { s.load with phase := .idle, ok := false, code := code, step := step, sect := sect, detail := detail,
                                          applied := false, image := {}, dir := none, sig := [],
                                          devId := 0, flags := 0, secVersion := 0, buildId := 0 },
                    sec := { s.sec with policy := false }, md := { s.md with loadFailed := true } }
  let s := raise 1 2 noUnit (code * 2 ^ 24 + detail % 2 ^ 24) s
  flashDone (changeMode .maintenance 2 s)

/-- Step 1 of R77; then the device waits for the token, which is part of step 2. -/
def loadStep1 (s : State) : State :=
  if s.otp.rootHash = 0 then loadFail 1 1 0xFF 0 s
  else { s with load := { s.load with phase := .wait, step := 2 } }

/-- A Load begins (R63, R470): with SCORCH_PENDING set KILL is burned before step 1. -/
def beginLoad (s : State) : State :=
  let s := tokenOut { s with load := { entered := s.now, phase := .idle } }
  if s.isl.scorchPending then { s with sec := { s.sec with burning := true } } else loadStep1 s

/-- A warm reload (R64, R89). -/
def warmReload (cause : Nat) (s : State) : State :=
  let s := changeMode .load cause s
  let s := resetHost (resetBlocks s)
  beginLoad { s with md := { s.md with target := 0, drainStart := 0, hbLast := 0, refused := false, loadFailed := false, drained := false } }

/-! ### Service (R82) -/

/-- Entry into Service arms the watchdog (R82, R85). -/
def enterService (cause : Nat) (s : State) : State :=
  let s := changeMode .service cause s
  { s with md := { s.md with hbLast := s.now } }

/-! ### Drain (R86 to R88) -/

/-- A queue of PBF, BPM or TMS holds a packet (R46). -/
def State.queuesHold (s : State) : Bool :=
  s.buf.voq.cells.any (fun c => !c.2.items.isEmpty) || s.buf.leaf.cells.any (fun c => !c.2.items.isEmpty) ||
    !s.buf.staged.isEmpty || s.buf.pools.cells.any (fun c => !c.2.reqs.isEmpty) ||
    s.swc.recirc.cells.any (fun c => !c.2.isEmpty) || s.swc.rxq.cells.any (fun c => !c.2.isEmpty)

/-- PBF, BPM, TMS or the Pod's express buffer holds a packet (R87); the transmit FIFOs count with TMS, buffers of a broken chain that
wait for their sweep with BPM (R339, R341), and express packets not yet in cells with the express buffer (R414). -/
def State.holdsPackets (s : State) : Bool :=
  s.queuesHold || s.tms.fifo.cells.any (fun c => !c.2.isEmpty) || !s.pod.frames.isEmpty || s.pod.exq.cells.any (fun c => !c.2.isEmpty) ||
    !s.buf.sweeps.isEmpty || s.swc.peers.cells.any (fun p => !(p.2.tx.get 8).pkts.isEmpty)

/-- A drained device moves to its target at once (R88), with cause 6 drained or 7 drain timeout. -/
def drainTarget (cause : Nat) (s : State) : State :=
  if s.md.mode = .drain ∧ s.md.drained = true then
    (if s.md.target = 1 then moveMode .maintenance cause s else if s.md.target = 2 then warmReload cause s else s)
  else s

/-- A device in Drain whose last packet has left is drained (R87). -/
def settle (s : State) : State :=
  if s.md.mode = .drain ∧ s.md.drained = false ∧ s.holdsPackets = false ∧ s.live = true then
    let s := { s with md := { s.md with drained := true } }
    drainTarget 6 (raise 0 3 noUnit (sat32 ((s.now - s.md.drainStart) / 1000)) s)
  else s

/-- Entry into Drain, or a new target in it (R84, R86, R88). A device that is drained already, also by the timeout, moves to the new
target with cause 6, drained (DESIGN CHOICE). -/
def startDrain (target cause : Nat) (s : State) : State :=
  if s.md.mode = .drain then drainTarget 6 { s with md := { s.md with target := target } }
  else
    let s := changeMode .drain cause s
    { s with md := { s.md with target := target, drainStart := s.now, drained := false } }

end Sys2Proof.Machine
end

