-- ==== Sys2Proof/Machine/Cmd.lean ====
section
/-! DEFINITION. The frames in which every command runs: a command of a block, of the always-on island, and a host write. After
each of them a drained device is noticed (R87), and no command touches the queue of those that wait. -/
namespace Sys2Proof.Machine

/-- The answer of a command whose effect on s is t. -/
def finish (s t : State) : Res := .next { settle t with pending := s.pending }

/-- A command of a block outside the island: nothing happens while that block does not run. -/
def coreCmd (f : State → State) (s : State) : Res := if s.live then finish s (f s.fresh) else .next s.fresh

/-- A command of TBE, which runs on the timebase clock and so goes on while the core clocks are gated (R32, R472, R530). -/
def tbeCmd (f : State → State) (s : State) : Res := if s.coreHeld then .next s.fresh else finish s (f s.fresh)

/-- A command of the always-on island. -/
def islandCmd (f : State → State) (s : State) : Res := finish s (f s.fresh)

/-- A command that is a host write to a register of window `win`: without effect while the endpoint is in reset,
ignored and counted where the mode does not allow it. -/
def hostCmd (win : Nat) (f : State → State) (s : State) : Res :=
  if s.hostUp then finish s (if s.hostMayWrite win then f s.fresh else ignoreWrite 0 (some .bar0) s.fresh) else .next s.fresh

end Sys2Proof.Machine
end

