-- ==== Sys2Proof/Machine/Alarms.lean ====
section
/-! DEFINITION. Alarm sources, their grades and responses (R468 to R470), with entry into Lockdown (R91, R497). -/
namespace Sys2Proof.Machine

/-- The floor of a source (R468). -/
def alarmFloor (src : Nat) : Nat := if src = 3 ∨ src = 8 ∨ src = 10 ∨ src = 11 then 1 else 0

/-- The grade in force for a source (R469): the floor until POLICY is applied. -/
def State.grade (s : State) (src : Nat) : Nat :=
  if s.sec.policy then s.regF (Reg.SEC_ALARM_GRADE (src / 4)) (8 * (src % 4) + 1) (8 * (src % 4))
  else alarmFloor src

/-- Packets waiting in the inject conduits are discarded and counted at entry into Lockdown (R497). -/
def dropInject (s : State) : State :=
  ((List.range 16).map (· + 16)).foldl (fun s c =>
    let k := s.cdt.get c
    countA {} Cnt.MGT_INJECT_MODE_DROP k.pkts { s with cdt := s.cdt.set c k.emptied }) s

/-- Entry into Lockdown (R62, R80, R91, R497). -/
def enterLockdown (s : State) : State :=
  if s.md.mode = .lockdown then s
  else
    let s := flashExit s
    dropInject (flashDone (moveMode .lockdown 8 { s with load := { s.load with phase := .idle } }))

/-- The event of an alarm, at most once per second and source (R470, R475). -/
def raiseAlarm (src grade : Nat) (s : State) : State :=
  let opens := limOpen 1 src 1 4 s && !s.coreHeld
  let s := raiseLim 1 src 1 4 src (src + 256 * grade) s
  if opens then count Cnt.SEC_ALARMS s else s

/-- What Guard does beyond Note (R470): Lockdown, zeroisation, and the secret's read path closed. -/
def guardResponse (s : State) : State :=
  let s := enterLockdown s
  { s with sec := { s.sec with secretClosed := true, zeroStart := some s.now } }

/-- The response to a source at a grade (R470). -/
def answerAlarm (src grade : Nat) (s : State) : State :=
  let s := { s with isl := { s.isl with latch := s.isl.latch ||| ((1 : BitVec 17) <<< src) },
                    sec := { s.sec with status := s.sec.status ||| ((1 : BitVec 17) <<< src),
                                        answered := s.sec.answered.set src grade } }
  let s := raiseAlarm src grade s
  let s := if 1 ≤ grade then guardResponse s else s
  if grade = 2 then
    { s with isl := { s.isl with scorchPending := true }, sec := { s.sec with burning := true } } else s

/-- The island notes a source while the blocks outside it are in reset: the record and the latch (DEDUCED). -/
def noteHeld (src : Nat) (s : State) : State :=
  raiseAlarm src (alarmFloor src) { s with isl := { s.isl with latch := s.isl.latch ||| ((1 : BitVec 17) <<< src) } }

/-- A source's condition holds from now on (R468). -/
def holdSource (src : Nat) (s : State) : State :=
  { s with pins := { s.pins with sources := s.pins.sources ||| ((1 : BitVec 17) <<< src) } }

/-- A source becomes active (R468 to R470). While the blocks outside the island are in reset the island logs it and
latches it, and it is answered in the Load that follows if its condition then still holds (R473). -/
def doAlarm (src : Nat) (s : State) : State :=
  if 12 ≤ src then s
  else
    let was := bit s.pins.sources.toNat src
    let s := holdSource src s
    if s.isl.aonDown then s
    else if s.coreHeld then (if was then s else noteHeld src s)
    else
      let s := if src = 11 then count Cnt.SEC_TRNG_FAIL s else s
      if bit s.sec.status.toNat src then s else answerAlarm src (s.grade src) s

/-- The sources whose condition still holds are answered, the lowest first (R473). -/
def answerSources (s : State) : State :=
  (List.range 12).foldl (fun s src => if bit s.pins.sources.toNat src then answerAlarm src (s.grade src) s else s) s

/-- ALARM (R470). -/
def execAlarm (src : Nat) (s : State) : Res := islandCmd (doAlarm src) s

/-! ### TRNG output after zeroisation (R471) -/

/-- The volatile keys and seeds from eight draws of the TRNG (R471). -/
def freshKeys (v : Nat → Nat) : Keys :=
  { flow := (List.range 4).foldl (fun m p => m.set p (v p)) ({} : SMap Nat), l2 := v 4, nat := v 5, evict := v 6, firstBlock := v 7 }

/-- What zeroisation overwrites, all from one source of values (R471): the keys and seeds, SEC_ROOT_STAGE, the working state, the nine
ATTEST response buffers and the TRNG's internal state. -/
def overwrite (v : Nat → Nat) (s : State) : State :=
  let s := (List.range 8).foldl (fun s n => setReg (Reg.SEC_ROOT_STAGE n) (v (8 + n)) s) s
  { s with sec := { s.sec with keys := freshKeys v, seed := v 16, tree := v 17, topSig := v 18,
                               attest := ⟨(List.range 9).map (fun p => (p, { resp := leBytes 5492 (v (19 + p)) }))⟩, trng := v 28 } }

/-- The zeros that zeroisation leaves are overwritten with TRNG output once the TRNG passes its health tests (R471). -/
def trngRefill (s : State) : State :=
  let k := s.free
  let s := overwrite (fun n => Config.trng (k + n)) { s with free := k + 29 }
  { s with sec := { s.sec with refill := false } }

/-- A source's condition ends (R468); with source 11 the TRNG passes its health tests again (R471). -/
def doSourceInactive (src : Nat) (s : State) : State :=
  if 12 ≤ src then s else
    let s := { s with pins := { s.pins with sources := s.pins.sources &&& ~~~((1 : BitVec 17) <<< src) } }
    if s.coreHeld then s
    else
      let s := { s with sec := { s.sec with status := s.sec.status &&& ~~~((1 : BitVec 17) <<< src), answered := s.sec.answered.set src 0 } }
      if src = 11 ∧ s.sec.refill = true then trngRefill s else s

/-- SOURCE_INACTIVE (R468). -/
def execSourceInactive (src : Nat) (s : State) : Res := islandCmd (doSourceInactive src) s

end Sys2Proof.Machine
end

