-- ==== Sys2Proof/Machine/Asa.lean ====
section
/-! DEFINITION. The associative search array at work: parity and retirement (R169, R170), the scope of a search
(R151, R152, R168), local searches and steps (R154 to R157), and bank tests (R171). -/
namespace Sys2Proof.Machine

/-- The array runs in its fixed geometry (R168). -/
def State.asaFixed (s : State) : Bool := s.md.mode == .load || s.md.mode == .maintenance

/-- Banks powered and not retired (R146, R170). -/
def State.asaUsable (s : State) : Nat :=
  s.reg Reg.ASA_BANK_PWR - (s.reg Reg.ASA_BANK_PWR &&& s.asa.retired)

/-- A bank whose count crossed is retired (R170). -/
def retireBank (b : Nat) (s : State) : State :=
  raise 6 1 b b (markRetired 6 b { s with asa := { s.asa with retired := s.asa.retired ||| 2 ^ b } })

/-- Banks 2 b and 2 b + 1 form a pair (R147); the fixed geometry ignores PAIR (R168). -/
def State.asaPaired (s : State) (bank : Nat) : Bool := !s.asaFixed && bit (s.reg Reg.ASA_CFG) (bank / 2)

/-- The entry whose attribute record governs entry n: the even bank's for a paired row (R147). -/
def State.asaHead (s : State) (n : Nat) : Nat := if s.asaPaired (n / 2048) && (n / 2048) % 2 == 1 then n - 2048 else n

/-- A parity error in row n (R169): the entry that holds the row is lost, and the error counts for the row's bank. -/
def asaParityError (n : Nat) (s : State) : State :=
  let e := s.asaHead n
  let s := { s with asa := { s.asa with
    ents := s.asa.ents.upd e (fun e => { e with attr := BitVec.ofNat 64 (setBit e.attr.toNat 48 false) }) } }
  let s := raiseLim 1000 0 6 2 noUnit e (count Cnt.ASA_PARITY s)
  let r := enterError 6 (n / 2048) 1 s
  if r.1 then retireBank (n / 2048) r.2 else r.2

/-- Parity errors that a search finds among the entries it reads (R169), bank after bank in ascending order (R445). -/
def asaParity (banks : Nat) (bad : List Nat) (s : State) : State :=
  ((List.range 32).filter (fun b => bit banks b)).foldl (fun s b =>
    (bad.filter (fun n => n / 2048 == b)).foldl (fun s n => asaParityError n s) s) s

/-- What a search with profile k for a tag slot examines (R151, R152, R168). -/
def State.asaScope (s : State) (k slot : Nat) : AsaScope :=
  if s.asaFixed then { banks := s.asaUsable, degraded := s.asa.retired != 0 }
  else
    let mask := s.reg (Reg.ASA_PROFILE_BANK k)
    let cfg := s.reg (Reg.ASA_PROFILE_CFG k)
    { banks := mask &&& s.asaUsable, key640 := bit cfg 0, untagged := bit cfg 1,
      slot := if bit cfg 1 then none else some slot, width := if bit cfg 0 then 640 else 320,
      degraded := mask &&& s.asa.retired != 0 }

/-- Whether profile k searches the Runner chain now (R151, R168). -/
def State.asaCascade (s : State) (k : Nat) : Bool := !s.asaFixed && bit (s.reg (Reg.ASA_PROFILE_CFG k)) 2

/-- A local search (R154 to R156); `after` is the rank after which a STEP goes on (R157). A bank that its own parity errors retire is
left out, and the result carries DEGRADED for it (R170). -/
def asaLocal (sc : AsaScope) (key : Nat) (after : Option (Nat × Nat)) (bad : List Nat) (s : State) :
    AsaRes × State :=
  let s := asaParity sc.banks bad s
  let sc := { sc with banks := sc.banks &&& s.asaUsable, degraded := sc.degraded || sc.banks &&& s.asa.retired != 0 }
  let r := asaSearch s.asa.ents sc key after
  (r, countHit r (count (if after.isSome then Cnt.ASA_STEP else Cnt.ASA_SEARCH) s))

/-- The scrubber reads its next entry (R169). -/
def doAsaScrub (bad : Bool) (s : State) : State :=
  let n := s.asa.scrub
  let due := paceDue 10000000 65536 n s.asa.scrubAt
  let s := { runTo due s with asa := { s.asa with scrub := (n + 1) % 65536, scrubAt := due } }
  if bad ∧ bit s.asaUsable (n / 2048) = true then asaParityError n s else s

/-- ASA_SCRUB (R169). -/
def execAsaScrub (bad : Bool) (s : State) : Res := coreCmd (doAsaScrub bad) s

/-- A write to ASA_TEST (R171, R173, R446). -/
def doAsaTest (value : Word32) (s : State) : State :=
  let b := value.toNat % 32
  testWrite Reg.ASA_TEST b (bit value.toNat 8) (s.md.mode == .maintenance || bit s.asa.retired b) s.asa.testBusy
    (fun s => { s with asa := { s.asa with testBusy := true, testBank := b, testResult := 0 } })
    (fun s => { s with asa := { s.asa with testResult := 3 } }) s

/-- ASA_TEST (R171). -/
def execAsaTest (value : Word32) (s : State) : Res := hostCmd 6 (doAsaTest value) s

/-- A bank test ends (R171, R172). -/
def doAsaTestDone (pass : Bool) (s : State) : State :=
  if s.asa.testBusy then
    let r := if pass then 1 else 2
    raise 6 8 s.asa.testBank (s.asa.testBank + 256 * r)
      { s with asa := { s.asa with testBusy := false, testResult := r } }
  else s

/-- ASA_TEST_DONE (R171). -/
def execAsaTestDone (pass : Bool) (s : State) : Res := coreCmd (doAsaTestDone pass) s

end Sys2Proof.Machine
end

