-- ==== Sys2Proof/Machine/Packet.lean ====
section
/-! DEFINITION. Packets between the blocks: ports (R95), the QOS byte (R361), the punt header (R496), and the
punts of ingress and egress. -/
namespace Sys2Proof.Machine

/-- Big-endian bytes of a frame. -/
def beAt (bs : List Byte) (off n : Nat) : Nat := beVal (slice bs off n)

/-- Whether port p exists in its octet's mode (R95). -/
def State.portExists (s : State) (p : Nat) : Bool :=
  decide (p < 32) && (p % 8) % 2 ^ (s.regF (Reg.LPC_OCTET_CFG (p / 8)) 1 0) == 0

/-- The device ID of the image header (R67). -/
def State.devId (s : State) : Nat := s.load.devId

/-- SYSTEM_DEVICES of TOPO (R71). -/
def State.systemDevices (s : State) : Nat := datU s.topo 0 2

/-- The QOS byte (R361). -/
def qosByte (p : Pkt) : Nat := p.cls % 8 + 8 * (p.colour % 4) + 32 * (p.queue % 8)

/-- The CLOVE field of a descriptor or a punt header (R361, R496). -/
def cloveField (c : Option (Nat × Nat)) : Nat :=
  match c with
  | none => 0
  | some (part, idx) => idx % 2 ^ 27 + 2 ^ 28 * (part % 4) + 2 ^ 31

/-- The 32-byte punt header (R496). -/
def puntHeader (source : Nat) (p : Pkt) (s : State) : List Byte :=
  leBytes 1 source ++ leBytes 1 (if p.fabric then 0xFF else p.inPort) ++ leBytes 2 p.bytes.length ++
    leBytes 4 p.epoch ++ leBytes 8 s.now ++ leBytes 4 (cloveField p.clove) ++
    leBytes 1 (if p.clove.isSome then p.gen else 0) ++ leBytes 1 (qosByte p) ++
    leBytes 2 (p.parse.outcome % 4 + 256 * (p.parse.reason % 32)) ++ leBytes 4 p.aux ++
    leBytes 2 (p.originDev % 512) ++ leBytes 2 0

/-- A punt packet enters its conduit (R492, R496). -/
def puntNow (conduit source : Nat) (p : Pkt) (s : State) : State :=
  cdtPush (conduit % 16) { cls := some p.cls } (puntHeader source p s ++ p.bytes) s

/-- A punt of ingress pipeline i waits for switch-core output 10 (R347). -/
def puntIngress (i conduit source : Nat) (p : Pkt) (s : State) : State :=
  { s with swc := { s.swc with punts := s.swc.punts.upd i (fun l => l ++ [{ conduit := conduit % 16, source, pkt := p }]) } }

/-! ### Tails that still arrive (R354, R356) -/

/-- The tail of a packet; of one that did not go on before it was whole, nothing is to come. -/
def State.tailOf (s : State) (t : Option Nat) : TailSt := match t with | none => { state := .whole } | some n => s.swc.tails.get n

/-- The tail of a packet is still arriving. -/
def State.tailOpen (s : State) (p : Pkt) : Bool := (s.tailOf p.tail).state == .arriving

/-- Frame bytes of a packet that have arrived, without FCS. -/
def State.pktLen (s : State) (p : Pkt) : Nat := p.bytes.length + (s.tailOf p.tail).rest.length

/-- A packet with what its tail brought; POISON makes it bad (R357). -/
def State.joined (s : State) (p : Pkt) : Pkt :=
  { p with bytes := p.bytes ++ (s.tailOf p.tail).rest, bad := p.bad || (s.tailOf p.tail).state == .poisoned, tail := none }

end Sys2Proof.Machine
end

