-- ==== Sys2Proof/Machine/Classify.lean ====
section
/-! DEFINITION. The classifier at work: set selection (R136), matching (R126 to R128, R132), actions and meters (R131,
R134), and the life of a swap (R137 to R143). -/
namespace Sys2Proof.Machine

def updCls (f : ClsSt → ClsSt) (s : State) : State := { s with cls := f s.cls }

/-- The image of a slot (R121). -/
def State.slotImg (s : State) (k : Nat) : SetImg :=
  ⟨(s.cls.img.pairsIn (k * 65536) (k * 65536 + 65536)).map (fun c => (c.1 - k * 65536, c.2))⟩

def State.shadowSlot (s : State) : Nat := 1 - s.cls.active

/-- The slot that a pass uses, if any (R136). -/
def selectSlot (s : State) (stamp : Nat) : Option Nat :=
  let age := (s.epoch + 2 ^ 32 - stamp % 2 ^ 32) % 2 ^ 32
  if age ≤ s.cls.sinceAct then some s.cls.active
  else if s.cls.draining && age ≤ s.cls.sinceDrain then some (1 - s.cls.active)
  else none

/-- Key bits 319:0 from F0 to F9 (R128, R148). -/
def clsSearchKey (key : List (Option Nat)) : Nat :=
  ((List.range 10).map (fun i => ((key.getD i none).getD 0) <<< (32 * i))).sum

/-- The action index a pass takes, with its counters (R126 to R128, R132). -/
def clsMatch (pipe slot : Nat) (m : SetImg) (p : Pkt) (bad : List Nat) (s : State) : Nat × State :=
  let o := p.parse.outcome
  if o = 2 ∨ o = 3 then (setU m 26 2, count (Cnt.CLS_MALFORMED_ACT pipe) s)
  else if o = 1 ∧ bit (setU m 30 1) 0 = false then (setU m 28 2, count (Cnt.CLS_TOODEEP_ACT pipe) s)
  else
    let key := setKey m { parse := p.parse, bytes := p.bytes, port := p.inPort, pass := p.pass }
    let tree := treeSearch m key
    let r : Option AsaRes × State :=
      if bit (setU m 30 1) 1 then
        let t := asaLocal (s.asaScope (setU m 31 1 % 32) slot) (clsSearchKey key) none bad s
        (if t.1.hit then some t.1 else none, t.2)
      else (none, s)
    let s := r.2
    match tree, r.1 with
    | .fault, _ =>
      (setU m 24 2, raiseLim 1 pipe 5 5 pipe pipe (count (Cnt.CLS_TREE_FAULT pipe) s))
    | .none, none => (setU m 24 2, count (Cnt.CLS_DEFAULT_HIT pipe) s)
    | .rule _ a, none => (a, s)
    | .rule q a, some w =>
      if w.prio ≤ q then (a, s)
      else (if w.action < setActions m then w.action else Config.straysAction w.action % (max 1 (setActions m)),
            count (Cnt.CLS_ASA_WIN pipe) s)
    | .none, some w =>
      (if w.action < setActions m then w.action else Config.straysAction w.action % (max 1 (setActions m)),
       count (Cnt.CLS_ASA_WIN pipe) s)

/-- The meter of an action (R134): the packet's colour, whether it is discarded red, and the state after. -/
def applyMeter (pipe : Nat) (a : ActEntry) (len : Nat) (s : State) : Nat × Bool × State :=
  let idx := pipe * 65536 + a.meter
  let e := s.tblGet 0x4F idx
  let fl := datU e 0 1
  if bit fl 0 = false then (a.colour, false, s) else
    let rfc4115 := bit fl 1
    let cir := datU e 16 6
    let pir := datU e 22 6
    let dt := s.now - datU e 40 8
    let fr := s.cls.frac.get idx
    let c := refill (datU e 32 4) fr.1 dt cir (datU e 4 4)
    let p := refill (datU e 36 4) fr.2 dt pir (datU e 8 4)
    let m := meterColour rfc4115 (bit fl 2) a.colour len c.1 p.1
    let e' := datPut (datPut (datPut e 32 4 m.2.1) 36 4 m.2.2) 40 8 s.now
    let s := updCls (fun k => { k with frac := k.frac.set idx (c.2, p.2) }) (tblSet 0x4F idx e' s)
    let s := countC a.cls (match m.1 with | 0 => Cnt.CLS_METER_GREEN pipe | 1 => Cnt.CLS_METER_YELLOW pipe
                                          | _ => Cnt.CLS_METER_RED pipe) s
    (m.1, m.1 == 2 && bit fl 3, s)

/-- What the classifier decides about a pass (R131, R135). -/
inductive ClsOut where
  | drop
  | punt (conduit : Nat) (p : Pkt)
  /-- On to forwarding. -/
  | forward (p : Pkt)
  /-- NO_FLOW with RECIRC: recirculated at the end of CLS. -/
  | recirc (p : Pkt)
deriving DecidableEq, Repr

/-- The classifier on one pass (R122 to R136). -/
def classify (pipe : Nat) (p : Pkt) (bad : List Nat) (s : State) : ClsOut × State :=
  let p := if p.pass = 0 then { p with epoch := s.epoch } else p
  match selectSlot s p.epoch with
  | none => (.drop, count (Cnt.CLS_EPOCH_STALE pipe) s)
  | some slot =>
    let m := s.slotImg slot
    let r := clsMatch pipe slot m p bad s
    let a := setAct m r.1
    let s := r.2
    if a.drop then (.drop, countC a.cls (Cnt.CLS_RULE_DROP pipe) s) else
      let t : Nat × Bool × State := if a.metered then applyMeter pipe a (p.bytes.length + 4) s else (a.colour, false, s)
      let s := t.2.2
      let p := { p with cls := a.cls, colour := t.1, queue := a.queue, noFlow := a.noFlow,
                        flowProfile := a.flowProfile, recirc := if a.recirc then some a.recircNode else none }
      if t.2.1 then (.drop, countC a.cls (Cnt.CLS_METER_DROP pipe) s)
      else if a.punt then (.punt a.conduit p, countC a.cls (Cnt.CLS_PUNT pipe) s)
      else if a.recirc && a.noFlow then (.recirc p, s)
      else (.forward p, s)

/-! ### Swaps -/

/-- The header checks of an arm (R138) and the profile check of R152, which holds whether or not ASA_EN is set. -/
def State.setOk (s : State) (slot : Nat) : Bool :=
  let m := s.slotImg slot
  setChecks m && (decide (31 < setU m 31 1) || bits (s.reg (Reg.ASA_PROFILE_CFG (setU m 31 1))) 2 1 == 0)

/-- Host writes to the shadow and COPY are refused (R121, R137). -/
def State.shadowBusy (s : State) : Bool := s.cls.draining || s.cls.armed.isSome || s.cls.copyBusy

/-- CLS_CTL.DISARM (R141). It reads FIRED when no swap is armed and the last one armed has fired. -/
def doDisarm (s : State) : State :=
  match s.cls.armed with
  | some e => raise 5 4 noUnit e (updCls (fun c => { c with armed := none, lastDisarm := 1 }) s)
  | none => if s.cls.fired then updCls (fun c => { c with lastDisarm := 2 }) s else s

/-- DISARM (R141). -/
def execDisarm (s : State) : Res := hostCmd 5 doDisarm s

/-- CLS_CTL.COPY (R137). The shadow takes the image when the copy is done. -/
def doCopy (s : State) : State :=
  if s.shadowBusy then updCls (fun c => { c with copyRefused := true }) s
  else updCls (fun c => { c with copyRefused := false, copyBusy := true, copyStart := s.now }) s

/-- COPY (R137). -/
def execCopy (s : State) : Res := hostCmd 5 doCopy s

/-- The copy completes (R137). -/
def doCopyDone (s : State) : State :=
  if s.cls.copyBusy then
    let sh := s.shadowSlot
    let img := (s.slotImg s.cls.active).cells.foldr (fun x m => m.set (x.1 + sh * 65536) x.2)
      (s.cls.img.clearIn (sh * 65536) (sh * 65536 + 65536))
    updCls (fun c => { c with copyBusy := false, img := img }) s
  else s

/-- COPY_DONE (R137). -/
def execCopyDone (s : State) : Res := coreCmd doCopyDone s

/-- CLS_CTL.ARM (R138). -/
def doArm (s : State) : State :=
  let e := s.reg Reg.CLS_SWAP_EPOCH
  let d := (e + 2 ^ 32 - s.epoch) % 2 ^ 32
  let res := if s.cls.draining || s.cls.copyBusy then 3
    else if s.cls.armed.isSome then 4
    else if d = 0 ∨ 2 ^ 31 ≤ d then 1
    else if s.setOk s.shadowSlot = false then 2 else 0
  let s := updCls (fun c => { c with lastArm := res }) s
  if res = 0 then raise 5 1 noUnit e (updCls (fun c => { c with armed := some e, fired := false }) s) else s

/-- ARM (R138). -/
def execArm (s : State) : Res := hostCmd 5 doArm s

/-- Swaps fire in these modes (R143). -/
def State.swapMode (s : State) : Bool := s.md.mode != .lockdown && s.md.mode != .load

/-- The epoch boundary at CLS (R136, R139): the epoch counts advance by the epochs that have passed, and an armed swap whose
epoch is reached fires. -/
def clsEpoch (passed : Nat) (last : Option Nat) (s : State) : State :=
  let bump := fun n => min (n + passed) (2 ^ 31 - 1)
  let s := updCls (fun c => { c with sinceAct := bump c.sinceAct, sinceDrain := if c.draining then bump c.sinceDrain else c.sinceDrain }) s
  match s.cls.armed with
  | some e =>
    if s.epochReached last e = true ∧ s.swapMode = true then
      let n := 1 - s.cls.active
      raise 5 2 noUnit s.epoch (updCls (fun c =>
        { c with active := n, sinceDrain := c.sinceAct, sinceAct := 0, draining := true, drainSt := s.now, armed := none, fired := true,
                 slotEpoch0 := if n = 0 then e else c.slotEpoch0, slotEpoch1 := if n = 1 then e else c.slotEpoch1 }) s)
    else s
  | none => s

/-- The draining slot is released (R140). -/
def releaseSet (s : State) : State :=
  if s.cls.draining ∧ s.swapMode = true then
    raise 5 3 noUnit (1 - s.cls.active) (updCls (fun c => { c with draining := false }) s)
  else s

/-- The drain window ends (R140). -/
def doSetReleased (s : State) : State :=
  if s.cls.draining ∧ s.swapMode = true then
    releaseSet (runTo (s.cls.drainSt + s.regF Reg.CLS_DRAIN_WIN 13 0 * 1000) s)
  else s

/-- SET_RELEASED (R140). -/
def execSetReleased (s : State) : Res := coreCmd doSetReleased s

end Sys2Proof.Machine
end

