-- ==== Sys2Proof/Machine/HbmMap.lean ====
section
/-! DEFINITION. Where HBM bytes live: the regions (R29) and the address map of the pseudo-channels (R421). -/
namespace Sys2Proof.Machine

/-- Regions of HBM in the order of R29. Together they fill the 48 GiB. -/
inductive HbmRegion where
  | clove | directory | forwarding | pools | rings | telemetry | spare
deriving DecidableEq, Repr

/-- The size of a region (R29). -/
def HbmRegion.size : HbmRegion → Nat
  | .clove => 0x400000000 | .directory => 0x60000000 | .forwarding => 0x80000000 | .pools => 0x600000000
  | .rings => 0x20000000 | .telemetry => 0x80000000 | .spare => 0x80000000

/-- The regions in an order that open choices make; the first argument bounds their number. -/
def orderRegions : Nat → List HbmRegion → List HbmRegion
  | 0, _ => []
  | n + 1, l =>
    match l[Config.hbmBase n % l.length]? with
    | some r => r :: orderRegions n (l.erase r)
    | none => []

/-- The regions in ascending address (R29). The image places them, the spec gives no place in the image for their bases, and the
sizes fill the 48 GiB, so only their order is open. -/
def hbmRegions : List HbmRegion := orderRegions 7 [.clove, .directory, .forwarding, .pools, .rings, .telemetry, .spare]

/-- The base address of a region: what lies below it (R29). -/
def HbmRegion.base (r : HbmRegion) : Nat := ((hbmRegions.takeWhile (fun x => x != r)).map HbmRegion.size).sum

/-- Bytes of a part of the forwarding region (R176): 0 the IPv4 route buckets, 1 the IPv6 ones, 2 the L2 buckets, and 3 + t direct
table t + 1. -/
def fwdPartSize (k : Nat) : Nat := if k < 2 then 0x4000000 else if k = 2 then 0x2000000 else 0x1000000

/-- Offsets in the forwarding region that the device chooses at Load (R176), from free value f on: the parts in an open order with
open gaps. The first argument bounds the parts, `at_` is the first free byte and `slack` the bytes that gaps may take. -/
def placeParts : Nat → List Nat → Nat → Nat → Nat → SMap Nat → SMap Nat
  | 0, _, _, _, _, m => m
  | n + 1, ps, at_, slack, f, m =>
    match ps[Config.pick f % ps.length]? with
    | some k =>
      let gap := Config.pick (f + 1) % (slack / 64 + 1) * 64
      placeParts n (ps.erase k) (at_ + gap + fwdPartSize k) (slack - gap) (f + 2) (m.set k (at_ + gap))
    | none => m

/-- The device places the parts of the forwarding region (R176). -/
def placeFwd (s : State) : State :=
  { s with fwd := { s.fwd with place := placeParts 11 (List.range 11) 0 (0x80000000 - 0x12000000) s.free {} }, free := s.free + 22 }

/-- The HBM address of a byte of a part of the forwarding region (R176). -/
def State.fwdAddr (s : State) (part off : Nat) : Nat := HbmRegion.forwarding.base + s.fwd.place.get part + off

/-- The pseudo-channel of an HBM byte address (R421). -/
def hbmPc (a : Nat) : Nat :=
  let k := a / 2048 % 96
  let j := k / 3
  32 * (k % 3) + 2 * (j % 16) + j / 16

/-- The local address L of an HBM byte address (R421). -/
def hbmLocal (a : Nat) : Nat := a / 2048 / 96 * 2048 + a % 2048

/-- Bank (bank group, bank address and stack ID, 0 to 31) and row of a local address (R421). -/
def hbmBank (l : Nat) : Nat :=
  let bg := b2n (bit l 10) + 2 * b2n (bit l 11 != bit l 25)
  let ba := bits l 13 12 ^^^ bits l 27 26
  bg + 4 * ba + 16 * b2n (bit l 14)
def hbmRow (l : Nat) : Nat := bits l 28 15

/-- The pseudo-channel of a clove and of a directory bucket (R201). -/
def clovePc (idx : Nat) : Nat := hbmPc (HbmRegion.clove.base + 128 * idx)
def bucketPc (b : Nat) : Nat := hbmPc (HbmRegion.directory.base + 64 * b)

/-- Whether HMC has retired pseudo-channel n (R432). -/
def State.pcRetired (s : State) (n : Nat) : Bool := (s.hmc.pcs.get n).retired

/-! ### Regions of a retired pseudo-channel (R29, R432) -/

/-- An address of the clove, directory or pool regions, which a retirement does not relocate. -/
def unrelocated (a : Nat) : Bool :=
  let in_ := fun (r : HbmRegion) (n : Nat) => decide (r.base ≤ a) && decide (a < r.base + n)
  in_ .clove 0x400000000 || in_ .directory 0x60000000 || in_ .pools 0x600000000

/-- The HBM address of a local address of pseudo-channel n (R421). -/
def hbmAddr (n l : Nat) : Nat := (l / 2048 * 96 + 3 * (16 * (n % 2) + n / 2 % 16) + n / 32) * 2048 + l % 2048

/-- The regions whose chunks a retirement relocates (R432), with the number of the first chunk of each in a pseudo-channel; the spare
region may hold chunks of a pseudo-channel retired before. -/
def movedRegions : List (HbmRegion × Nat) := [(.rings, 32775), (.spare, 21850), (.telemetry, 10925), (.forwarding, 0)]

/-- The chunk numbers of a relocation. -/
def movedChunks : Nat := 35506

/-- The number of the chunk of an address among those of its pseudo-channel that a retirement relocates. -/
def chunkNo (a : Nat) : Option Nat :=
  movedRegions.findSome? (fun r =>
    if r.1.base ≤ a ∧ a < r.1.base + r.1.size then some (r.2 + (a / 196608 - r.1.base / 196608)) else none)

/-- The local address of a chunk by its number. -/
def chunkLocal (k : Nat) : Nat :=
  match movedRegions.find? (fun r => decide (r.2 ≤ k)) with
  | some r => (r.1.base / 196608 + (k - r.2)) * 2048
  | none => 0

/-- Local chunk j of a pseudo-channel's share of the spare region: 0 to 255 hold the 512 spare rows, and 512 follow for each relocation
(DESIGN CHOICE, assumption 74: the spec does not lay the share out). -/
def spareChunk (j : Nat) : Nat := (HbmRegion.spare.base / 196608 + 1 + j) * 2048

/-- The new place of chunk k of a retired pseudo-channel (R432): the pseudo-channels in service take the chunks in turn (DESIGN CHOICE,
assumption 74). -/
def movedTo (p : Pc) (k : Nat) : Nat × Nat :=
  (p.homes.getD (k % p.homes.length) 0, spareChunk (256 + 512 * p.relocNo + k / p.homes.length))

/-- Where a local address of a pseudo-channel lies now (R432); the first argument bounds the relocations. -/
def State.hbmGo (s : State) : Nat → Nat → Nat → Nat × Nat
  | 0, n, l => (n, l)
  | f + 1, n, l =>
    if (s.hmc.pcs.get n).copied = 0 then (n, l)
    else
      match chunkNo (hbmAddr n l) with
      | some k => if k < (s.hmc.pcs.get n).copied then s.hbmGo f (movedTo (s.hmc.pcs.get n) k).1 ((movedTo (s.hmc.pcs.get n) k).2 + l % 2048) else (n, l)
      | none => (n, l)

/-- The pseudo-channel and local address of an HBM address as it lies now (R421, R432). -/
def State.hbmAt (s : State) (a : Nat) : Nat × Nat := s.hbmGo 17 (hbmPc a) (hbmLocal a)

/-- An HBM address lies in the clove, directory or pool region of a retired pseudo-channel, which answers reads with poisoned data and
discards writes (R432). -/
def State.hbmLost (s : State) (a : Nat) : Bool := s.pcRetired (hbmPc a) && unrelocated a

/-- A burst reads as poisoned (R429, R432). -/
def State.burstBad (s : State) (a : Nat) : Bool :=
  s.hbmLost a || (let x := s.hbmAt a; (s.hmc.pcs.get x.1).poisoned.get (x.2 / 32))

/-- A read of n bytes from an HBM address returns poisoned data (R429, R432). -/
def State.hbmBad (s : State) (a n : Nat) : Bool := (List.range (cdiv n 32)).any (fun j => s.burstBad (a + 32 * j))

/-- The whole bursts of a write of n bytes stay poisoned no longer (R429). -/
def cleanBursts (a n : Nat) (s : State) : State :=
  if !s.hbmBad a n then s
  else
    { s with hmc := { s.hmc with pcs := ((List.range (n / 32)).filter (fun j => !s.hbmLost (a + 32 * j))).foldl (fun m j =>
        let x := s.hbmAt (a + 32 * j)
        m.upd x.1 (fun p => { p with poisoned := p.poisoned.set (x.2 / 32) false })) s.hmc.pcs } }

end Sys2Proof.Machine
end

