-- ==== Sys2Proof/Machine/Flow.lean ====
section
/-! DEFINITION. The Bulb's stores: cloves (R203), keys (R209), the directory and its hash (R210, R211), the flow cache
(R213), free indices (R228, R552), the end-record queue (R227) and the removal of a clove (R231, R232). -/
namespace Sys2Proof.Machine

/-! ### Cloves -/

abbrev Clove := Dat

def cvKey (c : Clove) : BitVec 384 := BitVec.ofNat 384 c.toNat
def cvFmt (c : Clove) : Nat := datU c 0 1
def cvValid (c : Clove) : Bool := datB c 48 0 1 == 1
def cvPinned (c : Clove) : Bool := datB c 48 1 1 == 1
def cvHost (c : Clove) : Bool := datB c 48 2 1 == 1
def cvGen (c : Clove) : Nat := datU c 49 1
def cvProfile (c : Clove) : Nat := datU c 51 1
def cvProgram (c : Clove) : Nat := datU c 52 2 % 4096
def cvAge (c : Clove) : Nat := datU c 54 2
def cvCreated (c : Clove) : Nat := datU c 56 4
def cvDirSlot (c : Clove) : Nat := datU c 60 4 % 2 ^ 28

/-- A clove of a key, with the other bytes zero. -/
def cvOfKey (k : BitVec 384) : Clove := BitVec.ofNat 1024 k.toNat

/-! ### Partitions (R201) -/

def State.cloveBase (s : State) (i : Nat) : Nat := s.regF (Reg.FSE_PART_BASE i) 27 0
def State.cloves (s : State) (i : Nat) : Nat := s.regF (Reg.FSE_PART_CLOVES i) 27 0
/-- NB_i (R201). -/
def State.bucketCount (s : State) (i : Nat) : Nat := s.cloves i * 5 / 32
/-- BB_i (R201). -/
def State.bucketBase (s : State) (i : Nat) : Nat := ((List.range i).map s.bucketCount).sum

/-- Whether a global clove index lies in partition i. -/
def State.inPart (s : State) (i idx : Nat) : Bool :=
  decide (s.cloveBase i ≤ idx) && decide (idx < s.cloveBase i + s.cloves i)

/-- The partition of a global clove index. -/
def State.partOf (s : State) (idx : Nat) : Nat := ((List.range 4).find? (fun i => s.inPart i idx)).getD 0

def updPart (i : Nat) (f : Part → Part) (s : State) : State := { s with part := s.part.upd i f }

def profValid (p : Dat) : Bool := datB p 0 0 1 == 1
/-- An entry of the service profile table (R207): nothing of one whose VALID is clear is read. -/
def State.profile (s : State) (k : Nat) : Dat := let d := s.tblGet 0x24 k; if profValid d then d else 0
def profLearn (p : Dat) : Bool := datB p 0 1 1 == 1
def profPin (p : Dat) : Bool := datB p 0 2 1 == 1
def profCount (p : Dat) : Bool := datB p 0 3 1 == 1
def profShared (p : Dat) : Bool := datB p 0 4 1 == 1
def profInner (p : Dat) : Bool := datB p 0 5 1 == 1

/-! ### Keys (R209) -/

/-- The stack from the header after the chosen IP header on, past the run of extension headers, and the last of that
run. -/
def skipExt (ext : List Nat) : List (Nat × Nat) → Option (Nat × Nat) → Option (Nat × Nat) × List (Nat × Nat)
  | [], last => (last, [])
  | h :: r, last => if h.1 ≠ 0 ∧ ext.contains h.1 = true then skipExt ext r (some h) else (last, h :: r)

/-- The position in the stack of the IP header that keys the packet (R209). -/
def ipHeader (p : Dat) (r : ParseRes) : Option Nat :=
  let t4 := datU p 12 1
  let t6 := datU p 13 1
  let is := r.hdrs.zipIdx.filter (fun h => h.1.1 == t4 || h.1.1 == t6)
  (if profInner p then is.getLast? else is.head?).map Prod.snd

/-- A write of entry k of table 0x24 takes effect for lookups that begin after it (R207): those that are under way keep what they would
have read. -/
def keepProfile (k : Nat) (s : State) : State :=
  let old := s.profile k
  { s with eng := { s.eng with th := s.eng.th.mapAll (fun h =>
      if (h.wait == .miss || h.wait == .lock) && !h.started && (h.profs.lookup k).isNone then { h with profs := (k, old) :: h.profs }
      else h) } }

/-- The flow key of a packet under a profile, as 48 bytes; none when it has no IP header (R204, R205, R209). -/
def buildKey (p : Dat) (k : Pkt) (egress : Bool) : Option (BitVec 384) :=
  match ipHeader p k.parse with
  | none => none
  | some n =>
    let h := k.parse.hdrs.getD n (0, 0)
    let v4 := h.1 == datU p 12 1
    let at_ := h.2
    let rest := k.parse.hdrs.drop (n + 1)
    let e := if v4 then (none, rest) else skipExt [datU p 14 1, datU p 15 1, datU p 16 1, datU p 17 1] rest none
    let proto := if v4 then byteAt k.bytes (at_ + 9)
      else match e.1 with | some x => byteAt k.bytes x.2 | none => byteAt k.bytes (at_ + 6)
    let saddr := if v4 then List.replicate 10 0 ++ [0xFF, 0xFF] ++ slice k.bytes (at_ + 12) 4 else slice k.bytes (at_ + 8) 16
    let daddr := if v4 then List.replicate 10 0 ++ [0xFF, 0xFF] ++ slice k.bytes (at_ + 16) 4 else slice k.bytes (at_ + 24) 16
    let l4 := e.2.head?
    let ports : Option (List Byte × List Byte) := match l4 with
      | none => none
      | some x =>
        let ty := (byteAt k.bytes x.2).toNat
        if x.1 ≠ 0 ∧ (x.1 = datU p 18 1 ∨ x.1 = datU p 19 1 ∨ x.1 = datU p 20 1) then
          some (slice k.bytes x.2 2, slice k.bytes (x.2 + 2) 2)
        else if x.1 ≠ 0 ∧ ((x.1 = datU p 21 1 ∧ (ty = 8 ∨ ty = 0)) ∨ (x.1 = datU p 22 1 ∧ (ty = 128 ∨ ty = 129))) then
          some (slice k.bytes (x.2 + 4) 2, [0, 0])
        else none
    let fmt := datU p 1 1
    let usesPorts := fmt == 1 || fmt == 3 || fmt == 4
    let zone := match datU p 8 1 with | 0 => datU p 10 2 | 1 => k.context % 65536 | _ => k.aux % 65536
    let pp := ports.getD ([0, 0], [0, 0])
    let flags := b2n v4 + 2 * b2n egress + 4 * b2n (usesPorts && ports.isNone)
    some (bvOfBytes 384 ([BitVec.ofNat 8 fmt, proto] ++ leBytes 2 zone ++
      padTo 16 (if fmt = 4 then [] else saddr) ++ padTo 16 (if fmt = 3 then [] else daddr) ++
      padTo 2 (if fmt = 1 ∨ fmt = 3 then pp.1 else []) ++ padTo 2 (if fmt = 1 ∨ fmt = 4 then pp.2 else []) ++
      leBytes 1 flags))

/-! ### The flow hash (R211) -/

def State.hashOf (s : State) (i : Nat) (k : BitVec 384) : Nat := Config.flowHash (s.sec.keys.flow.get i) i k.toNat % 2 ^ 64

/-- b1, b2 of a hash (R211). -/
def State.candidates (s : State) (i h : Nat) : Nat × Nat :=
  let nb := s.bucketCount i
  let bb := s.bucketBase i
  let b1 := bb + bits h 31 0 * nb / 2 ^ 32
  let b2 := bb + bits h 63 32 * nb / 2 ^ 32
  (b1, if b2 = b1 then bb + (b1 - bb + 1) % max 1 nb else b2)

def hashTag (h : Nat) : Nat := bits h 19 0 ^^^ bits h 51 32
def hashSet (h : Nat) : Nat := bits h 47 16 * 5120 / 2 ^ 32

/-! ### The directory (R210) -/

/-- A committed change of a bucket (R210). -/
def updBucket (b : Nat) (f : DirBucket → DirBucket) (s : State) : State :=
  { s with dir := s.dir.upd b (fun d => let e := f d; { e with version := (d.version + 1) % 2 ^ 32 }) }

/-- OCC (R210). -/
def DirBucketOcc (d : DirBucket) : Nat := d.slots.length

/-- The lowest free slot of a bucket. -/
def freeSlot (d : DirBucket) : Option Nat := (List.range 8).find? (fun k => !d.slots.any (fun x => x.slot == k))

/-- The 64 bytes of a bucket (R210). -/
def bucketBytes (d : DirBucket) : List Byte :=
  let pin := (d.slots.map (fun x => b2n x.pinned * 2 ^ x.slot)).sum
  let oldest := match d.slots.find? (fun x => !x.pinned) with | some x => x.slot | none => 128
  let rank := fun k => match d.slots.findIdx? (fun x => x.slot == k) with | some r => r | none => 15
  leBytes 1 d.slots.length ++ leBytes 1 pin ++ leBytes 1 oldest ++ leBytes 1 0 ++ leBytes 4 d.version ++
    leBytes 4 (((List.range 8).map (fun k => rank k * 16 ^ k)).sum) ++ leBytes 4 0 ++
    ((List.range 8).map (fun k => match d.slots.find? (fun x => x.slot == k) with
      | some x => leBytes 6 (x.idx + x.tag * 2 ^ 27 + 2 ^ 47)
      | none => leBytes 6 0)).flatten

/-! ### The flow cache (R213) -/

/-- The cached line of a clove. -/
def State.line (s : State) (i idx : Nat) : Option Line := (s.part.get i).lines.find? (fun l => l.idx == idx)

/-- Changes the cached line of a clove. -/
def updLine (i idx : Nat) (f : Line → Line) (s : State) : State :=
  updPart i (fun p => { p with lines := p.lines.map (fun l => if l.idx == idx then f l else l) }) s

/-- The line becomes the most recently used. -/
def touchLine (i idx : Nat) (s : State) : State :=
  updPart i (fun p => { p with lines := p.lines.filter (fun l => l.idx == idx) ++ p.lines.filter (fun l => l.idx != idx) }) s

/-- The clove as every reader sees it (R212): the line's value when it is cached. -/
def State.cloveNow (s : State) (i idx : Nat) : Clove :=
  match s.line i idx with | some l => l.clove | none => s.clove.get idx

/-- A commit of a clove's new value (R212). -/
def setClove (i idx : Nat) (c : Clove) (s : State) : State :=
  match s.line i idx with
  | some _ => updLine i idx (fun l => { l with clove := c, dirty := true }) s
  | none => { s with clove := s.clove.set idx c }

/-- Whether a thread holds a lock on the clove's line. -/
def State.locked (s : State) (i idx : Nat) : Bool :=
  match s.line i idx with | some l => l.lock != .free | none => false

/-- The cached line leaves without write-back. -/
def dropLine (i idx : Nat) (s : State) : State :=
  updPart i (fun p => { p with lines := p.lines.filter (fun l => l.idx != idx) }) s

/-- A way of a set that can be replaced: the least recently used that is free with an empty FIFO (R213). -/
def victimWay (p : Part) (set : Nat) : Option Line :=
  (p.lines.filter (fun l => l.set == set && l.lock == .free && l.fifo.isEmpty)).getLast?

/-- Installs a line, writing back the way it replaces (R213); none when no way can be replaced. -/
def installLine (i : Nat) (l : Line) (s : State) : Option State :=
  let p := s.part.get i
  if (p.lines.filter (fun x => x.set == l.set)).length < 16 then
    some (updPart i (fun p => { p with lines := l :: p.lines }) s)
  else match victimWay p l.set with
    | none => none
    | some v =>
      let s := if v.dirty then
          cleanBursts (HbmRegion.clove.base + 128 * v.idx) 128 { s with clove := s.clove.set v.idx v.clove } else s
      some (updPart i (fun p => { p with lines := l :: p.lines.filter (fun x => x.idx != v.idx) }) s)

/-! ### Free indices (R228, R552) -/

def runsLen (rs : List (Nat × Nat)) : Nat := (rs.map Prod.snd).sum

/-- The next index of a list of runs. -/
def runsPop : List (Nat × Nat) → Option (Nat × List (Nat × Nat))
  | [] => none
  | (a, n) :: r => if n ≤ 1 then some (a, r) else some (a, (a + 1, n - 1) :: r)

/-- An index at the end of a list of runs. -/
def runsPush (rs : List (Nat × Nat)) (k : Nat) : List (Nat × Nat) :=
  match rs.getLast? with
  | some (a, n) => if a + n = k then rs.dropLast ++ [(a, n + 1)] else rs ++ [(k, 1)]
  | none => [(k, 1)]

/-- An index added to rising runs. -/
def runsAdd : List (Nat × Nat) → Nat → List (Nat × Nat)
  | [], k => [(k, 1)]
  | (a, n) :: r, k =>
    if k + 1 < a then (k, 1) :: (a, n) :: r
    else if k + 1 = a then (k, n + 1) :: r
    else if k < a + n then (a, n) :: r
    else if k = a + n then
      (match r with
       | (b, m) :: t => if k + 1 = b then (a, n + 1 + m) :: t else (a, n + 1) :: r
       | [] => [(a, n + 1)])
    else (a, n) :: runsAdd r k

/-- The directory slot that points to a clove index of partition i: its bucket and the slot (R210). -/
def State.slotOf (s : State) (i idx : Nat) : Option (Nat × DirSlot) :=
  (s.dir.pairsIn (s.bucketBase i) (s.bucketBase i + s.bucketCount i)).findSome? (fun c =>
    (c.2.slots.find? (fun x => x.idx == idx)).map (fun x => (c.1, x)))

/-- The runs without the indices of a range. -/
def runsCut (rs : List (Nat × Nat)) (lo hi : Nat) : List (Nat × Nat) :=
  (rs.map (fun r =>
    let e := r.1 + r.2
    [(r.1, min e lo - r.1), (max r.1 hi, e - max r.1 hi)])).flatten.filter (fun r => r.2 != 0)

/-- The parts of runs that lie in a range. -/
def runsIn (rs : List (Nat × Nat)) (lo hi : Nat) : List (Nat × Nat) :=
  (rs.map (fun r => (max r.1 lo, min (r.1 + r.2) hi - max r.1 lo))).filter (fun r => r.2 != 0)

/-- A learn or a host INSERT takes the index that has been in the cache longest (R552). -/
def takeIndex (i : Nat) (s : State) : Option (Nat × State) :=
  match runsPop (s.part.get i).freeCache with
  | none => none
  | some (k, r) => some (k, updPart i (fun p => { p with freeCache := r }) s)

/-- A deletion returns an index (R228, R552): to the cache's tail, or to the bitmap when the cache overflows. One in a retired channel
counts as used (R233). -/
def returnIndex (i k : Nat) (s : State) : State :=
  if s.pcRetired (clovePc k) then s
  else updPart i (fun p =>
    if runsLen p.freeCache < 4096 then { p with freeCache := runsPush p.freeCache k }
    else { p with freeBits := runsAdd p.freeBits k }) s

/-- A bitmap read of 64 bytes returns (R552, R430): its free indices are appended to the cache, or on uncorrectable
data every one of them counts as used. -/
def doFreeIndexRefill (i : Nat) (ue : Bool) (s : State) : State :=
  let p := s.part.get i
  if runsLen p.freeCache + 512 > 4096 then s else
    let base := s.cloveBase i
    let n := s.cloves i
    let lo := base + p.refillPos % max 1 n
    let hi := min (lo + 512) (base + n)
    let got := runsIn p.freeBits lo hi
    updPart i (fun p =>
      { p with freeBits := runsCut p.freeBits lo hi, refillPos := (hi - base) % max 1 n,
               freeCache := if ue then p.freeCache else p.freeCache ++ got }) s

/-- FREE_INDEX_REFILL (R552). -/
def execFreeIndexRefill (part : Nat) (ue : Bool) (s : State) : Res :=
  coreCmd (fun s => if part < 4 ∧ s.md.mode ≠ .load ∧ s.md.mode ≠ .lockdown then doFreeIndexRefill part ue s else s) s

/-! ### The end of a clove -/

/-- A clove enters the end-record queue (R227). -/
def endRecord (i : Nat) (r : EndRec) (s : State) : State :=
  if (s.part.get i).endq.length < 512 then updPart i (fun p => { p with endq := p.endq ++ [r] }) s
  else raiseLim 1 i 8 3 i i (count (Cnt.FSE_EXPORT_LOST i) s)

/-- The directory slot of a clove is cleared, if it still points to the clove (R231). -/
def clearSlot (dslot idx : Nat) (s : State) : State :=
  let d := s.dir.get (dslot / 8)
  if d.slots.any (fun x => x.slot == dslot % 8 && x.idx == idx) then
    updBucket (dslot / 8) (fun d => { d with slots := d.slots.filter (fun x => x.slot != dslot % 8) }) s
  else s

/-- An index counts as used until the next Load (R232). -/
def markUsed (i k : Nat) (s : State) : State :=
  updPart i (fun p => { p with freeCache := runsCut p.freeCache k (k + 1), freeBits := runsCut p.freeBits k (k + 1) }) s

/-- A lookup enters the pending-miss queue, or merges into a miss of its key (R217 steps 3 and 4). One that finds the queue full waits
for a place (R218). -/
def enterMiss (i t : Nat) (s : State) : State :=
  let h := s.eng.th.get t
  let s := { s with eng := { s.eng with th := s.eng.th.set t { h with wait := .miss } } }
  if (s.part.get i).misses.any (fun m => m.key == h.key) then
    updPart i (fun p => { p with misses := p.misses.map (fun m =>
      if m.key == h.key then { m with threads := m.threads ++ [t] } else m) }) (countC h.pkt.cls (Cnt.FSE_MERGE i) s)
  else if 1024 ≤ (s.part.get i).misses.length then updPart i (fun p => { p with held := p.held ++ [t] }) s
  else
    let b := s.candidates i h.hash
    updPart i (fun p => { p with misses := p.misses ++
      [{ key := h.key, profile := h.profile, prof := h.prof, hash := h.hash, b1 := b.1, b2 := b.2, threads := [t] }] }) s

/-- A place of the miss queue has become free for the lookup that has waited longest (R218). -/
def admitHeld (i : Nat) (s : State) : State :=
  match (s.part.get i).held with
  | [] => s
  | t :: rest => enterMiss i t (updPart i (fun p => { p with held := rest }) s)

/-- A clove ends (R231): its slot and VALID are cleared, its line dropped, its end recorded, and its index returned unless
a learn takes it. The record of a withdrawn clove holds its index only (R233). Lookups that waited for its line begin again as misses. -/
def removeClove (i idx reason : Nat) (give : Bool) (s : State) : State :=
  let c := s.cloveNow i idx
  let waiting := match s.line i idx with | some l => l.fifo.map LockReq.thread | none => []
  let s := dropLine i idx (clearSlot (cvDirSlot c) idx s)
  let s := { s with clove := s.clove.set idx (datPutB c 48 0 1 0) }
  let s := updPart i (fun p => { p with used := p.used - 1, pinned := p.pinned - b2n (cvPinned c) }) s
  let s := endRecord i { clove := if reason = 8 then 0 else c, idx := idx, reason := reason, bare := reason == 8, at_ := s.now }
    (if give then returnIndex i idx s else s)
  waiting.foldl (fun s t => enterMiss i t s) s

/-- A clove read returns uncorrectable data (R232): the slot that points to the clove goes, its index counts as used, and a clove that
holds only the key of the lookup ends with reason LOST. The scanner and a host operation by index have no key, and their record holds the
index only (DESIGN CHOICE). -/
def loseClove (i idx : Nat) (key : Option (BitVec 384)) (s : State) : State :=
  let s := raiseLim 1000 0 8 4 noUnit idx (count (Cnt.FSE_CLOVE_LOST i) (markUsed i idx { s with clove := s.clove.set idx 0 }))
  match s.slotOf i idx with
  | none => s
  | some (b, x) =>
    let s := updPart i (fun p => { p with used := p.used - 1, pinned := p.pinned - b2n x.pinned }) (clearSlot (8 * b + x.slot) idx s)
    endRecord i { clove := (key.map cvOfKey).getD 0, idx := idx, reason := 7, bare := key.isNone, at_ := s.now } s

/-- HBM reads a clove as poisoned (R429, R432); one whose channel FSE has withdrawn is not read again (R233). -/
def State.cloveBad (s : State) (i idx : Nat) : Bool :=
  !(s.part.get i).withdrawn.contains (clovePc idx) && s.hbmBad (HbmRegion.clove.base + 128 * idx) 128

/-- HBM reads a bucket as poisoned (R429, R432), unless a withdrawal has moved it (R233). -/
def State.bucketBad (s : State) (i b : Nat) : Bool :=
  !(s.part.get i).withdrawn.contains (bucketPc b) && s.hbmBad (HbmRegion.directory.base + 64 * b) 64

/-- A read of a clove for its data fails (R232): HBM answers with uncorrectable data, and the flow cache does not hold the clove. -/
def State.readFails (s : State) (i idx : Nat) (ue : Bool) : Bool := (ue || s.cloveBad i idx) && (s.line i idx).isNone

/-- A clove is lost where its read fails (R232). -/
def cloveReadLoss (i idx : Nat) (key : Option (BitVec 384)) (ue : Bool) (s : State) : State :=
  if s.readFails i idx ue then loseClove i idx key s else s

/-- A bucket is read through the directory cache (R28, R201): one that it holds needs no HBM read, so that its data cannot be
uncorrectable; another takes a place in it, from a bucket that the device chooses where the cache is full. An uncorrectable bucket is
rewritten empty (R232). -/
def readBucket (i b : Nat) (ue : Bool) (s : State) : State :=
  let p := s.part.get i
  if p.dirCache.contains b then s
  else
    let d := if p.dirCache.length < 32768 then (0, s) else draw s
    let kept := if p.dirCache.length < 32768 then p.dirCache else p.dirCache.eraseIdx (Config.pick d.1 % p.dirCache.length)
    let s := updPart i (fun p => { p with dirCache := b :: kept }) d.2
    if ue || s.bucketBad i b then
      updBucket b (fun d => { d with slots := [] }) (cleanBursts (HbmRegion.directory.base + 64 * b) 64 s)
    else s

/-- The index of a clove by its full key: the valid slot of its candidate buckets whose clove holds the key. -/
def findClove (s : State) (i : Nat) (key : BitVec 384) : Option Nat :=
  let h := s.hashOf i key
  let b := s.candidates i h
  (((s.dir.get b.1).slots ++ (s.dir.get b.2).slots).find? (fun x =>
    x.tag == hashTag h && (let c := s.cloveNow i x.idx; cvValid c && cvKey c == key))).map DirSlot.idx

end Sys2Proof.Machine
end

