-- ==== Sys2Proof/Machine/Tree.lean ====
section
/-! DEFINITION. The traffic manager's tree: its nodes, shaped length, shapers and calendar wheels (R51, R379, R384 to
R389). A node's number is its index in TM_SHAPER_STATE: subscriber s, service 65,536 + v, port 69,632 + p (R383). -/
namespace Sys2Proof.Machine

def updTms (f : TmsSt → TmsSt) (s : State) : State := { s with tms := f s.tms }

def State.tmQueue (s : State) (q : Nat) : Dat := s.tblGet 0x40 q
def State.tmSub (s : State) (k : Nat) : Dat := s.tblGet 0x41 k
def State.tmService (s : State) (v : Nat) : Dat := s.tblGet 0x42 v
def State.tmPort (s : State) (p : Nat) : Dat := s.tblGet 0x43 p

def svcNode (v : Nat) : Nat := 65536 + v
def portNode (p : Nat) : Nat := 69632 + p

/-- VALID of a subscriber or service, and PARENT of each. -/
def tmValid (d : Dat) : Bool := datB d 0 0 1 == 1
def subParent (d : Dat) : Nat := datU d 2 2 % 4096
def svcParent (d : Dat) : Nat := datU d 2 2 % 32

/-- The service and the port of a subscriber. -/
def State.subService (s : State) (k : Nat) : Nat := subParent (s.tmSub k)
def State.subPort (s : State) (k : Nat) : Nat := svcParent (s.tmService (s.subService k))

/-- Line rate of a port in b/s (R95). -/
def State.lineRate (s : State) (p : Nat) : Nat := 100000000000 * 2 ^ s.regF (Reg.LPC_OCTET_CFG (p / 8)) 1 0

/-- A node's shaping profile number. -/
def State.nodeProf (s : State) (n : Nat) : Nat :=
  if n < 65536 then datU (s.tmSub n) 1 1 else if n < 69632 then datU (s.tmService (n - 65536)) 1 1
  else datU (s.tmPort (n - 69632)) 6 1

/-- The shaped length S of a frame of B bytes at a node (R384). -/
def State.shaped (s : State) (n b : Nat) : Nat :=
  (max ((b : Int) + sext 8 (datU (s.tblGet 0x44 (s.nodeProf n)) 0 1)) 1).toNat

/-- CIR, PIR, CBS and PBS of a node (R382, R385); a port's one rate stands for both. -/
structure NodeRate where
  cir : Nat := 0
  pir : Nat := 0
  cbs : Nat := 0
  pbs : Nat := 0
  port : Bool := false
deriving DecidableEq, Repr, Inhabited

def nodeRateOf (d : Dat) : NodeRate :=
  { cir := datU d 8 6, pir := datU d 16 6, cbs := datU d 24 4, pbs := datU d 28 4 }

def State.nodeRate (s : State) (n : Nat) : NodeRate :=
  if n < 65536 then nodeRateOf (s.tmSub n)
  else if n < 69632 then nodeRateOf (s.tmService (n - 65536))
  else
    let d := s.tmPort (n - 69632)
    let r := if datU d 0 6 = 0 then s.lineRate (n - 69632) else datU d 0 6
    { cir := r, pir := r, cbs := datU d 12 4, pbs := datU d 12 4, port := true }

/-- A bucket after dt ns at a rate up to a cap, with its fraction in 1/(8 x 10^9) bytes (R385). -/
def bucketFill (b : Int) (frac dt rate cap : Nat) : Int × Nat :=
  let t := frac + dt * rate
  let v := b + ((t / 8000000000 : Nat) : Int)
  if (cap : Int) ≤ v then (cap, 0) else (v, t % 8000000000)

/-- Step 1 of an update (R385), with the rules for a rate of 0. -/
def nodeAdvance (x : NodeSt) (r : NodeRate) (now : Nat) : NodeSt :=
  let dt := now - x.last
  let p := if r.pir = 0 then ((r.pbs : Int), 0) else bucketFill x.tp x.fracP dt r.pir r.pbs
  let c := if r.port then p else if r.cir = 0 then (-1, 0) else bucketFill x.tc x.fracC dt r.cir r.cbs
  { x with tp := p.1, fracP := p.2, tc := c.1, fracC := c.2, last := now }

/-- The band of a node (R386): 0 committed, 1 excess, 2 ineligible. -/
def nodeBand (x : NodeSt) : Nat := if x.tp < 0 then 2 else if x.tc < 0 then 1 else 0

def State.node (s : State) (n : Nat) : NodeSt := s.tms.nodes.get n

def setNode (n : Nat) (x : NodeSt) (s : State) : State := updTms (fun t => { t with nodes := t.nodes.set n x }) s

/-- A wheel entry for an instant T, placed at `now` (R51). -/
def wheelEntry (now due node : Nat) (peak : Bool) (gen : Nat) : WheelEnt :=
  let slot := cdiv due 256 * 256
  if due - now < 1048576 then { due := due, slot := slot, node := node, peak := peak, gen := gen }
  else
    let per := due / 262144
    let ins := now / 262144
    { due := due, slot := slot, node := node, peak := peak, gen := gen, coarse := true,
      laps := (per - ins - 1) / 4096, ins := ins }

/-- ST at which a negative bucket reaches 0 (R387). -/
def refillAt (now : Nat) (b : Int) (frac rate : Nat) : Nat := now + cdiv ((-b) * 8000000000 - frac).toNat rate

/-- Fresh entries for the negative buckets of a node that have none (R387). A port's one bucket has one entry. -/
def placeEntries (n : Nat) (s : State) : State :=
  let x := s.node n
  let r := s.nodeRate n
  let s := if x.tp < 0 ∧ x.pendP = false ∧ r.pir ≠ 0 then
      updTms (fun t => { t with
        wheel := t.wheel ++ [wheelEntry s.now (refillAt s.now x.tp x.fracP r.pir) n true x.gen],
        nodes := t.nodes.upd n (fun x => { x with pendP := true }) }) s
    else s
  if x.tc < 0 ∧ x.pendC = false ∧ r.cir ≠ 0 ∧ r.port = false then
    updTms (fun t => { t with
      wheel := t.wheel ++ [wheelEntry s.now (refillAt s.now x.tc x.fracC r.cir) n false x.gen],
      nodes := t.nodes.upd n (fun x => { x with pendC := true }) }) s
  else s

/-- The buckets of a node are updated at the current ST (R385, R387). -/
def updateNode (n : Nat) (s : State) : State :=
  placeEntries n (setNode n (nodeAdvance (s.node n) (s.nodeRate n) s.now) s)

/-- The buckets of a node lose z bytes (R385); at a rate of 0 the peak bucket stays at its cap and the committed one at -1. -/
def nodeDebit (x : NodeSt) (r : NodeRate) (z : Int) : NodeSt :=
  let p : Int := if r.pir = 0 then r.pbs else x.tp - z
  { x with tp := p, tc := if r.port then p else if r.cir = 0 then -1 else x.tc - z }

/-- A frame of B bytes is debited at a node (R385, R393). -/
def debitNode (n b : Nat) (s : State) : State :=
  placeEntries n (setNode n (nodeDebit (s.node n) (s.nodeRate n) (s.shaped n b : Nat)) s)

/-- A write to a node (R389): the buckets are updated under the old rates, the entry replaced by `write`, and where a
rate or burst changed GEN advances, the caps apply and fresh entries are placed. -/
def writeNode (n : Nat) (write : State → State) (s : State) : State :=
  let old := s.nodeRate n
  let s := write (setNode n (nodeAdvance (s.node n) old s.now) s)
  let r := s.nodeRate n
  if r = old then placeEntries n s else
    let x := s.node n
    placeEntries n (setNode n (nodeAdvance { x with gen := (x.gen + 1) % 256, pendC := false, pendP := false } r s.now) s)

/-- The earliest entry of the fine wheel: by slot, then T, then entry index (R51). Which index an entry has is the model's choice
(DESIGN CHOICE): twice its node's number in table 0x47, and one more for a peak entry. -/
def wheelNext (w : List WheelEnt) : Option WheelEnt :=
  (w.filter (fun e => !e.coarse)).foldl (fun a e =>
    match a with
    | none => some e
    | some b =>
      if e.slot < b.slot ∨ (e.slot = b.slot ∧ (e.due < b.due ∨
        (e.due = b.due ∧ 2 * e.node + b2n e.peak < 2 * b.node + b2n b.peak))) then some e else a) none

/-- The pipeline whose octet holds a node. -/
def State.nodePipe (s : State) (n : Nat) : Nat :=
  if n < 65536 then s.subPort n / 8 else if n < 69632 then svcParent (s.tmService (n - 65536)) / 8
  else (n - 69632) / 8

/-- A wheel entry fires (R387, R389). -/
def fireEntry (e : WheelEnt) (s : State) : State :=
  let s := updTms (fun t => { t with wheel := t.wheel.erase e }) s
  if e.gen ≠ (s.node e.node).gen then count (Cnt.TMS_WHEEL_STALE (s.nodePipe e.node)) s
  else
    updateNode e.node (updTms (fun t => { t with nodes := t.nodes.upd e.node (fun x =>
      if e.peak then { x with pendP := false } else { x with pendC := false }) }) s)

/-- The next slot of the coarse wheel is visited (R51): entries inserted in an earlier period lose a lap, or move to the
fine wheel. -/
def doCoarseSlotVisit (s : State) : State :=
  let p := s.tms.coarseSeen + 1
  let s := runTo (p * 262144) s
  updTms (fun t => { t with coarseSeen := p, wheel := t.wheel.map (fun e =>
    if e.coarse && decide (e.due / 262144 % 4096 = p % 4096) && decide (e.ins < p) then
      (if e.laps = 0 then { e with coarse := false } else { e with laps := e.laps - 1 })
    else e) }) s

/-- COARSE_SLOT_VISIT (R51). -/
def execCoarseSlotVisit (s : State) : Res := coreCmd doCoarseSlotVisit s

end Sys2Proof.Machine
end

