-- ==== Sys2Proof/Machine/Buffers.lean ====
section
/-! DEFINITION. The packet buffer and the buffer pools (R322 to R346). A queue is named by whether it is a leaf queue, and
its number: of a virtual output queue its key in BufSt.voq. -/
namespace Sys2Proof.Machine

def updBuf (f : BufSt → BufSt) (s : State) : State := { s with buf := f s.buf }

/-- The modes in which packets move (R91, R92): in Load nothing is queued, and Lockdown stops transmission and frees no
buffer. -/
def State.moves (s : State) : Bool := s.md.mode != .load && s.md.mode != .lockdown

/-- On-chip cells of a packet (R322). -/
def pktCells (p : Pkt) : Nat := cdiv p.bytes.length 256

/-! ### Tails and their reservations (R326, R354, R356) -/

/-- The cells of its reservation that a packet has kept after it left its queue are released (R326). -/
def freeReserve (n : Nat) (s : State) : State :=
  let x := s.swc.tails.get n
  if x.resv = 0 then s else
    { s with buf := { s.buf with used := s.buf.used.upd (8 * x.inp + x.resvCls) (· - x.resv) },
             swc := { s.swc with tails := s.swc.tails.set n { x with resv := 0 } } }

/-- Nothing more is wanted of a tail: its cells are given up and what still comes of it is discarded (R356). -/
def dropTail (t : Option Nat) (s : State) : State :=
  match t with
  | none => s
  | some n =>
    let s := freeReserve n s
    let x := s.swc.tails.get n
    { s with buf := { s.buf with stage := s.buf.stage.upd x.inp (· - x.held) }, swc := { s.swc with tails := s.swc.tails.set n {} } }

def State.pqueue (s : State) (leaf : Bool) (q : Nat) : PQueue := if leaf then s.buf.leaf.get q else s.buf.voq.get q

def updQueue (leaf : Bool) (q : Nat) (f : PQueue → PQueue) (s : State) : State :=
  updBuf (fun b => if leaf then { b with leaf := b.leaf.upd q f } else { b with voq := b.voq.upd q f }) s

/-- The buffer profile of a queue (R323). -/
def State.bufProfile (s : State) (leaf : Bool) (q cls : Nat) : Nat :=
  s.reg (Reg.PBF_QPROF (if leaf then datB (s.tmQueue q) 0 0 4 else s.regF Reg.PBF_VOQ_PROF (4 * (cls % 8) + 3) (4 * (cls % 8))))

/-- Cells charged to an internal port and class (R324). -/
def State.pbfUsed (s : State) (p c : Nat) : Nat := s.buf.used.get (8 * p + c)

/-- PBF_CELLS.FREE (R322, R346). -/
def State.freeCells (s : State) : Nat :=
  393216 - (s.buf.used.cells.map Prod.snd).sum - (s.buf.stage.cells.map Prod.snd).sum - s.buf.retCells

def chargeCells (p c n : Nat) (s : State) : State := updBuf (fun b => { b with used := b.used.upd (8 * p + c) (· + n) }) s
def freeCharge (p c n : Nat) (s : State) : State := updBuf (fun b => { b with used := b.used.upd (8 * p + c) (· - n) }) s
def addStage (p n : Nat) (s : State) : State := updBuf (fun b => { b with stage := b.stage.upd p (· + n) }) s
def subStage (p n : Nat) (s : State) : State := updBuf (fun b => { b with stage := b.stage.upd p (· - n) }) s

/-- Whether n cells under reception may be taken at an internal port (R325). -/
def State.stageRoom (s : State) (p n : Nat) : Bool :=
  decide (s.buf.stage.get p + n ≤ s.regF (Reg.PBF_STAGE p) 17 0) &&
    decide (s.regF Reg.PBF_RETURN_RES 15 0 + n ≤ s.freeCells)

/-! ### Pools (R330 to R333) -/

/-- Buffer size and data bytes of a pool (R330). -/
def poolSize (k : Nat) : Nat := if k = 0 then 384 else if k = 1 then 1536 else if k = 2 then 3072 else 12288
def poolData (k : Nat) : Nat := poolSize k - 64

def State.poolCount (s : State) (k : Nat) : Nat := s.regF (Reg.BPM_POOL_CFG k) 25 0
def State.poolBorrow (s : State) (k : Nat) : Bool := bit (s.reg (Reg.BPM_POOL_CFG k)) 31
/-- Base address of a pool (R332). -/
def State.poolBase (s : State) (k : Nat) : Nat :=
  HbmRegion.pools.base + ((List.range k).map (fun j => s.poolCount j * poolSize j)).sum
/-- First global index of a pool (R332). -/
def State.poolFirst (s : State) (k : Nat) : Nat := ((List.range k).map s.poolCount).sum
/-- BPM_POOL_FREEk (R333). -/
def State.poolFree (s : State) (k : Nat) : Nat :=
  runsLen (s.buf.pools.get k).cache + runsLen (s.buf.pools.get k).ring

def updPool (k : Nat) (f : Pool → Pool) (s : State) : State := updBuf (fun b => { b with pools := b.pools.upd k f }) s

/-- The pseudo-channels in which a buffer has a byte (R340, R421). -/
def State.bufPcs (s : State) (k i : Nat) : List Nat :=
  let a := s.poolBase k + i * poolSize k
  (List.range ((a + poolSize k - 1) / 2048 + 1 - a / 2048)).map (fun n => hbmPc ((a / 2048 + n) * 2048))

/-- A buffer of which BPM has withdrawn the channel (R340). -/
def State.bufWithdrawn (s : State) (k i : Nat) : Bool := (s.bufPcs k i).any (fun n => s.buf.wdPcs.getLsbD n)

/-- A buffer in a channel that HMC has retired, which is never granted (R340). -/
def State.bufBarred (s : State) (k i : Nat) : Bool := (s.bufPcs k i).any (fun n => s.pcRetired n)

/-- The first index of a list of runs that passes a test, and the runs without it; the first argument bounds the search. -/
def runsFirst (p : Nat → Bool) : Nat → List (Nat × Nat) → Option (Nat × List (Nat × Nat))
  | 0, _ => none
  | _ + 1, [] => none
  | n + 1, (i, l) :: r =>
    if l = 0 then runsFirst p n r
    else if p i then some (i, if l = 1 then r else (i + 1, l - 1) :: r)
    else
      match runsFirst p n (if l = 1 then r else (i + 1, l - 1) :: r) with
      | some (k, r') => some (k, (i, 1) :: r')
      | none => none

/-- The first n indices of a list of runs, and the rest. -/
def runsTake : Nat → List (Nat × Nat) → List (Nat × Nat) × List (Nat × Nat)
  | _, [] => ([], [])
  | n, (i, l) :: r =>
    if n = 0 then ([], (i, l) :: r)
    else if l ≤ n then ((i, l) :: (runsTake (n - l) r).1, (runsTake (n - l) r).2)
    else ([(i, n)], (i + n, l - n) :: r)

/-- A cache refill takes 256 indices of the ring (R333). -/
def poolRefill (k : Nat) (s : State) : State :=
  updPool k (fun p =>
    let t := runsTake 256 p.ring
    { p with cache := p.cache ++ t.1, ring := t.2 }) s

/-- The local indices of a pool with a byte in a pseudo-channel, as runs (R340). -/
def State.pcRuns (s : State) (k pc : Nat) : List (Nat × Nat) :=
  let base := s.poolBase k
  let top := base + s.poolCount k * poolSize k
  (List.range (top / 2048 + 1 - base / 2048)).filterMap (fun n =>
    let q := base / 2048 + n
    if hbmPc (q * 2048) = pc then
      let lo := max base (q * 2048)
      let hi := min top (q * 2048 + 2048)
      if lo < hi then some ((lo - base) / poolSize k, (hi - 1 - base) / poolSize k + 1 - (lo - base) / poolSize k) else none
    else none)

/-- A ring rebuilt from the allocation bitmap: the free indices that are neither withdrawn nor in the cache (R340, R430). One that was
freed after its channel had been retired is withdrawn too. -/
def rebuildRing (k : Nat) (s : State) : State :=
  let first := s.poolFirst k
  let all := [(0, s.poolCount k)]
  let r := (s.buf.bufs.pairsIn first (first + s.poolCount k)).foldl (fun r c =>
    if c.2.alloc || c.2.out then runsCut r (c.1 - first) (c.1 - first + 1) else r) all
  let r := (s.buf.pools.get k).cache.foldl (fun r c => runsCut r c.1 (c.1 + c.2)) r
  let r := ((List.range 96).filter (fun n => s.buf.wdPcs.getLsbD n)).foldl (fun r n =>
    (s.pcRuns k n).foldl (fun r c => runsCut r c.1 (c.1 + c.2)) r) r
  updPool k (fun p => { p with ring := r.filter (fun c => c.2 != 0) }) s

/-- A free-ring read returns (R333), or is poisoned (R430). -/
def doRingRefill (k : Nat) (ue : Bool) (s : State) : State :=
  if 3 < k ∨ 512 < runsLen (s.buf.pools.get k).cache ∨ runsLen (s.buf.pools.get k).ring = 0 then s
  else if ue then rebuildRing k s else poolRefill k s

/-- RING_REFILL (R333). -/
def execRingRefill (pool : Nat) (ue : Bool) (s : State) : Res := coreCmd (doRingRefill pool ue) s

/-- A freed index returns to the cache, and 256 indices to the ring when the cache holds 1,792 (R333). -/
def poolReturn (k i : Nat) (s : State) : State :=
  updPool k (fun p =>
    let c := runsPush p.cache i
    if 1792 ≤ runsLen c then
      let t := runsTake 256 c
      { p with cache := t.2, ring := p.ring ++ t.1 }
    else { p with cache := c }) s

/-! ### Headers (R342) -/

/-- The 32-byte packet descriptor (R361). -/
def pktDesc (p : Pkt) (len : Nat) : List Byte :=
  leBytes 2 len ++ leBytes 1 (if p.natOwner then p.port % 4 + 128 else p.port % 32) ++ leBytes 1 (qosByte p) ++
    leBytes 4 (p.subscriber % 65536) ++ leBytes 4 (p.rewrite % 2 ^ 20) ++ leBytes 1 (p.egrProfile.getD 0) ++
    leBytes 1 (b2n p.egrProfile.isSome + 2 * b2n p.skipEgr + 4 * b2n p.bridged) ++
    leBytes 2 (p.originDev % 512 + 512 * (p.originPort % 32)) ++ leBytes 4 p.epoch ++ leBytes 4 (cloveField p.clove) ++
    leBytes 1 (if p.clove.isSome then p.gen else 0) ++ [0] ++ leBytes 2 p.context ++ leBytes 4 p.stEntry

/-- NEXT of a header at the end of its chain (R342). -/
def nextEnd : Nat := 2 ^ 63

/-- A header as its client writes it (R335, R342). -/
def bufHeader (client k : Nat) (leaf : Bool) (q gen inp cls : Nat) (p : Pkt) (st : Nat) : Word512 :=
  bvOfBytes 512 (leBytes 1 client ++ leBytes 1 k ++ leBytes 1 (b2n leaf + 2 * b2n p.bad) ++ leBytes 1 gen ++
    leBytes 2 p.bytes.length ++ leBytes 2 0 ++ leBytes 8 nextEnd ++ leBytes 4 q ++ leBytes 1 inp ++ leBytes 1 cls ++
    leBytes 2 0 ++ pktDesc p p.bytes.length ++ leBytes 8 st)

/-- Pool and local index of an address that passes checks 1 and 2 of R336: a reason on failure. -/
def State.bufAt (s : State) (addr : Nat) : Nat ⊕ (Nat × Nat) :=
  match (List.range 4).find? (fun k => decide (s.poolBase k ≤ addr) && decide (addr < s.poolBase k + s.poolCount k * poolSize k)) with
  | none => .inl 0
  | some k => .inr (k, (addr - s.poolBase k) / poolSize k)

/-- The next link of the tail buffer of a queue names the new packet (R323, R342). The on-chip descriptor index of a packet
that stays on chip is a free value. -/
def linkTail (leaf : Bool) (q : Nat) (tier : Tier) (s : State) : State :=
  match (s.pqueue leaf q).items.getLast? with
  | some { tier := .spilled a, .. } =>
    match s.bufAt a with
    | .inl _ => s
    | .inr (k, i) =>
      let d := draw s
      let v := match tier with | .spilled b => b % 2 ^ 36 | _ => 2 ^ 62 + Config.pick d.1 % 2 ^ 20
      updBuf (fun b => { b with bufs := b.bufs.upd (s.poolFirst k + i) (fun h => { h with hdr := datPut h.hdr 8 8 v }) }) d.2
  | _ => s

/-! ### Allocation and frees (R331, R335, R336) -/

/-- A pool grants a buffer to a client (R335): its local index. None when the cache holds no index that may be granted. -/
def bpmGrant (client k : Nat) (s : State) : Option (Nat × State) :=
  match runsFirst (fun i => !s.bufBarred k i) 2048 (s.buf.pools.get k).cache with
  | none => none
  | some (i, c) =>
    some (i, count (Cnt.BPM_ALLOC k) (updBuf (fun b =>
      { b with pools := b.pools.upd k (fun p => { p with cache := c, last := client }),
               bufs := b.bufs.set (s.poolFirst k + i) { alloc := true, hdr := BitVec.ofNat 512 (client + 256 * k) } }) s))

/-- A rejected free (R336): latched, counted and reported. -/
def rejectFree (client addr reason cnt pool idx : Nat) (s : State) : State :=
  let s := count cnt (updBuf (fun b => { b with
    lastReject := BitVec.ofNat 32 (client % 16 + 32 * reason + 128 * idx),
    lastRejLo := BitVec.ofNat 32 addr, lastRejHi := BitVec.ofNat 32 (addr / 2 ^ 32 % 16 + 16 * pool) }) s)
  raiseLim 1000 0 0xA 1 (if reason = 0 then noUnit else pool)
    ((if reason = 0 then addr / 64 % 2 ^ 25 else idx) + 2 ^ 25 * reason + 2 ^ 27 * (client % 16)) s

/-- The index of a buffer becomes free (R336, R340). -/
def clearBuf (k i : Nat) (s : State) : State :=
  let s := updBuf (fun b => { b with bufs := b.bufs.upd (s.poolFirst k + i) (fun h => { h with alloc := false }) }) s
  let s := count (Cnt.BPM_FREE k) s
  if s.bufWithdrawn k i then count (Cnt.BPM_WITHDRAWN k) s
  else if s.bufBarred k i then
    count (Cnt.BPM_WITHDRAWN k) (updPool k (fun p => { p with wd := p.wd + 1 })
      (updBuf (fun b => { b with bufs := b.bufs.upd (s.poolFirst k + i) (fun h => { h with out := true }) }) s))
  else poolReturn k i s

/-- A client frees a buffer (R336); the result is 0, or the reason plus 1. A buffer whose header a sweep could not read names no
owner, and so stays allocated (R341). -/
def bpmFree (client addr : Nat) (s : State) : Nat × State :=
  match s.bufAt addr with
  | .inl _ => (1, rejectFree client addr 0 Cnt.BPM_REJ_RANGE 0 0 s)
  | .inr (k, i) =>
    let h := s.buf.bufs.get (s.poolFirst k + i)
    if (addr - s.poolBase k) % poolSize k ≠ 0 then (2, rejectFree client addr 1 (Cnt.BPM_REJ_ALIGN k) k i s)
    else if !h.alloc then (3, rejectFree client addr 2 (Cnt.BPM_REJ_DOUBLE k) k i s)
    else if datU h.hdr 0 1 % 16 ≠ client ∨ h.leaked = true then (4, rejectFree client addr 3 (Cnt.BPM_REJ_OWNER k) k i s)
    else (0, clearBuf k i s)

/-- A free by a client (R336): Lockdown frees no buffer (R91). -/
def doBufferFree (client addr : Nat) (s : State) : State :=
  if 15 < client ∨ 2 ^ 36 ≤ addr ∨ s.moves = false then s else (bpmFree client addr s).2

/-- BUFFER_FREE (R336). -/
def execBufferFree (client : Nat) (addr : Nat) (s : State) : Res := coreCmd (doBufferFree client addr) s

/-- The client of a queue's packet (R334). -/
def State.bufClient (s : State) (leaf : Bool) (q inp : Nat) : Nat :=
  if leaf then 4 + s.nodePipe (q / 8) % 4 else if inp < 4 then inp else 0

/-! ### Placement (R327) -/

/-- Spilled packets and on-chip cells of a queue (R327). -/
def isSpilled (i : QItem) : Bool := match i.tier with | .spilled _ => true | _ => false
def spilledCount (q : PQueue) : Nat := (q.items.filter isSpilled).length
def chipCells (q : PQueue) : Nat := ((q.items.filter (fun i => !isSpilled i)).map (fun i => i.cells)).sum

/-- A packet is linked at the tail of its queue; TMS counts one that enters a leaf queue (R327, R396). -/
def linkPkt (leaf : Bool) (q : Nat) (it : QItem) (s : State) : State :=
  let s := updQueue leaf q (fun k => { k with items := k.items ++ [it] }) (linkTail leaf q it.tier s)
  if leaf then countC it.cls (Cnt.TMS_ENQ (s.nodePipe (q / 8) % 4)) s else s

/-- A packet that is not spilled stays on chip, or is dropped (R327). -/
def placeOnChip (t : Staged) (spill : Bool) (s : State) : State :=
  let s := subStage t.inp t.cells s
  if s.pbfUsed t.inp t.cls + t.cells ≤ s.regF (Reg.PBF_LIMIT t.inp t.cls) 18 0 then
    linkPkt t.leaf t.queue { pkt := t.pkt, cells := t.cells, inp := t.inp, cls := t.cls, stIn := s.now }
      (chargeCells t.inp t.cls t.cells s)
  else countC t.cls (if spill then Cnt.PBF_NOBUF_DROP else Cnt.PBF_LIMIT_DROP) s

/-- The smallest pool that serves a length (R331). -/
def State.smallestPool (s : State) (len : Nat) : Option Nat :=
  (List.range 4).find? (fun k => s.poolCount k != 0 && decide (len ≤ poolData k))

/-- A spill failed (R327). -/
def spillFails (t : Staged) (s : State) : State := placeOnChip t true (countC t.cls Cnt.PBF_SPILL_FAIL s)

/-- A buffer request of a queue stands unanswered. -/
def State.asking (s : State) (leaf : Bool) (q : Nat) : Bool :=
  (List.range 4).any (fun k => (s.buf.pools.get k).reqs.any (fun r => r.item.leaf == leaf && r.item.queue == q))

/-- The decision at the tail (R327). A packet whose queue still waits for a buffer of a packet before it waits too, so that
the queue keeps its order (R323). -/
def placeStaged (t : Staged) (s : State) : State :=
  let f := s.bufProfile t.leaf t.queue t.cls
  let q := s.pqueue t.leaf t.queue
  if bit f 31 && (decide (0 < spilledCount q) || decide (bits f 15 0 < chipCells q + t.cells)) then
    match s.smallestPool t.pkt.bytes.length with
    | none => spillFails t s
    | some k => updPool k (fun p => { p with reqs := p.reqs ++ [{ client := s.bufClient t.leaf t.queue t.inp, item := t }] }) s
  else placeOnChip t false s

/-- The last byte of the oldest packet under reception at an internal port has arrived (R327). -/
def doTailPlacement (inp : Nat) (s : State) : State :=
  match s.buf.staged.find? (fun t => t.inp == inp && !s.tailOpen t.pkt) with
  | none => s
  | some t =>
    if s.moves = false ∨ s.asking t.leaf t.queue = true then s
    else
      let w := { t with pkt := s.joined t.pkt, cells := cdiv (s.pktLen t.pkt) 256 }
      placeStaged w (addStage t.inp w.cells (subStage t.inp t.cells
        (dropTail t.pkt.tail (updBuf (fun b => { b with staged := b.staged.erase t }) s))))

/-- TAIL_PLACEMENT (R327). -/
def execTailPlacement (inp : Nat) (s : State) : Res := coreCmd (doTailPlacement inp) s

/-- A store-and-forward packet comes under reception for a queue (R325), with the cells of it that have come through the core. -/
def stagePkt (leaf : Bool) (q inp : Nat) (p : Pkt) (s : State) : State :=
  let n := cdiv (s.pktLen p) 256 - (s.tailOf p.tail).held
  if s.stageRoom inp n then
    updBuf (fun b => { b with staged := b.staged ++ [{ pkt := p, leaf := leaf, queue := q, inp := inp, cls := p.cls % 8, cells := n }] })
      (addStage inp n s)
  else countC (p.cls % 8) Cnt.PBF_STAGE_DROP (dropTail p.tail s)

/-- The request of a client is taken off a pool's list. -/
def dropReq (k : Nat) (r : BufReq) (s : State) : State := updPool k (fun p => { p with reqs := p.reqs.erase r }) s

/-- A request that a pool answers EMPTY goes to the next larger pool once, or the spill fails (R331). -/
def answerEmpty (k : Nat) (r : BufReq) (s : State) : State :=
  let s := raiseLim 1 k 0xA 2 k k (count (Cnt.BPM_EMPTY k) (dropReq k r s))
  if !r.borrowed && s.poolBorrow k && decide (k < 3) then
    updPool (k + 1) (fun p => { p with reqs := p.reqs ++ [{ r with borrowed := true, waited := false }] }) s
  else spillFails r.item s

/-- A granted packet is written and linked as spilled (R327, R335). -/
def spillTo (k i : Nat) (r : BufReq) (s : State) : State :=
  let t := r.item
  let a := s.poolBase k + i * poolSize k
  let gen := (s.pqueue t.leaf t.queue).chainGen
  let hdr := bufHeader r.client k t.leaf t.queue gen t.inp t.cls t.pkt s.now
  let s := updBuf (fun b => { b with bufs := b.bufs.set (s.poolFirst k + i) { alloc := true, hdr := hdr } })
    (cleanBursts a (64 + t.pkt.bytes.length) s)
  let s := if r.borrowed then count (Cnt.BPM_BORROW_IN k) s else s
  linkPkt t.leaf t.queue { pkt := t.pkt, cells := t.cells, inp := t.inp, cls := t.cls, tier := .spilled a, stIn := s.now }
    (countC t.cls Cnt.PBF_SPILL (subStage t.inp t.cells (dropReq k r s)))

/-- One core cycle of a pool's grants: the clients in round-robin order, at most four grants (R335). -/
def grantClients (k : Nat) : List Nat → Nat → State → State
  | [], _, s => s
  | c :: rest, left, s =>
    match (s.buf.pools.get k).reqs.find? (fun r => r.client == c) with
    | none => grantClients k rest left s
    | some r =>
      if s.poolFree k = 0 then grantClients k rest left (answerEmpty k r s)
      else
        match (if left = 0 then none else bpmGrant c k s) with
        | some (i, t) => grantClients k rest (left - 1) (spillTo k i r t)
        | none =>
          let s := if left = 0 ∨ r.waited = true then s else
            count (Cnt.BPM_CACHE_WAIT k) (updPool k (fun p => { p with reqs := p.reqs.map (fun x =>
              if x = r then { x with waited := true } else x) }) s)
          grantClients k rest left s

/-- A pool answers its requests for one core cycle (R335). -/
def doBufferGrant (k : Nat) (s : State) : State :=
  if 3 < k ∨ s.moves = false then s
  else grantClients k ((List.range 16).map (fun n => ((s.buf.pools.get k).last + 1 + n) % 16)) 4 s

/-- BUFFER_GRANT (R335). -/
def execBufferGrant (pool : Nat) (s : State) : Res := coreCmd (doBufferGrant pool) s

/-! ### Returns (R328, R329, R341) -/

/-- A leaf queue that empties loses its deficit (R391). -/
def emptiedQueue (leaf : Bool) (q : Nat) (s : State) : State :=
  if leaf && (s.pqueue true q).items.isEmpty then updTms (fun t => { t with deficit := t.deficit.set q 0 }) s else s

/-- A packet leaves its queue and gives up its on-chip cells (R324, R328). -/
def leaveQueue (leaf : Bool) (q : Nat) (it : QItem) (s : State) : State :=
  let s := updQueue leaf q (fun k => { k with items := k.items.erase it }) s
  let s := match it.tier with
    | .chip => freeCharge it.inp it.cls it.cells s
    | .returned => updBuf (fun b => { b with retCells := b.retCells - it.cells }) s
    | .spilled _ => s
  emptiedQueue leaf q s

/-- The chain of a queue is broken at a buffer whose header cannot be read (R341). One sweep is started for each client
that owns a lost buffer. -/
def breakChain (leaf : Bool) (q : Nat) (s : State) : State :=
  let k := s.pqueue leaf q
  let lost := k.items.filter isSpilled
  let clients := (lost.map (fun i => s.bufClient leaf q i.inp)).eraseDups
  let s := updQueue leaf q (fun k => { k with items := k.items.filter (fun i => !isSpilled i), chainGen := (k.chainGen + 1) % 256 }) s
  let s := emptiedQueue leaf q s
  let s := countA {} Cnt.PBF_CHAIN_LOST lost.length (count Cnt.PBF_CHAIN_BREAK s)
  let s := raise 0xB 1 noUnit (q % 2 ^ 19 + 2 ^ 19 * b2n leaf + 2 ^ 24 * min 255 lost.length) s
  updBuf (fun b => { b with sweeps := b.sweeps ++ clients.map (fun c => { client := c, leaf := leaf, queue := q, gen := k.chainGen }) }) s

/-- A spilled packet lies in a buffer that the retirement of a channel has withdrawn (R340). -/
def State.itemWithdrawn (s : State) (it : QItem) : Bool :=
  match it.tier with
  | .spilled a => (match s.bufAt a with | .inr (k, i) => s.bufBarred k i | .inl _ => false)
  | _ => false

/-- The header of a spilled packet reads as uncorrectable (R341): a burst of it was marked poisoned (R430), or its channel is retired
(R432). -/
def State.headerPoisoned (s : State) (it : QItem) : Bool :=
  match it.tier with
  | .spilled a => s.hbmBad a 64
  | _ => false

/-- The data of a spilled packet reads as uncorrectable (R329): its buffer is withdrawn (R340), or a burst was marked poisoned. -/
def State.dataPoisoned (s : State) (it : QItem) : Bool :=
  match it.tier with
  | .spilled a => s.itemWithdrawn it || s.hbmBad (a + 64) it.pkt.bytes.length
  | _ => false

/-- The oldest spilled packet of a queue is read back (R328), while the returned packets are short of RETURN_CELLS, the return reserve has
room, and the cells are free (R28). The data of a withdrawn buffer reads as poisoned (R340), its header with it. -/
def doReturnRead (leaf : Bool) (q : Nat) (o : ReadOutcome) (s : State) : State :=
  let k := s.pqueue leaf q
  match k.items.find? isSpilled with
  | none => s
  | some it =>
    let held := ((k.items.filter (fun i => i.tier == .returned)).map (fun i => i.cells)).sum
    let goal := bits (s.bufProfile leaf q it.cls) 27 16
    if s.moves = false ∨ goal ≤ held ∨ s.regF Reg.PBF_RETURN_RES 15 0 < s.buf.retCells + it.cells ∨ s.freeCells < it.cells then s else
      let addr := match it.tier with | .spilled a => a | _ => 0
      let client := s.bufClient leaf q it.inp
      let lost := fun (s : State) => (bpmFree client addr (leaveQueue leaf q it (countC it.cls Cnt.PBF_RETURN_UE s))).2
      match o with
      | .header => breakChain leaf q s
      | .data => lost s
      | .ok =>
        if s.headerPoisoned it && !s.itemWithdrawn it then breakChain leaf q s
        else if s.dataPoisoned it then lost s else
        let s := updBuf (fun b => { b with retCells := b.retCells + it.cells }) s
        let s := updQueue leaf q (fun k => { k with items := k.items.map (fun i => if i = it then { i with tier := .returned } else i) }) s
        (bpmFree client addr (countC it.cls Cnt.PBF_RETURN s)).2

/-- RETURN_READ (R328). -/
def execReturnRead (leaf : Bool) (queue : Nat) (outcome : ReadOutcome) (s : State) : Res :=
  coreCmd (doReturnRead leaf queue outcome) s

/-! ### Flushes (R338) -/

/-- Every packet of a queue is discarded in its order (R338). A header that cannot be read breaks the chain (R341), and the spilled
packets after it are lost. The first argument bounds the packets. -/
def flushItems (leaf : Bool) (q : Nat) : Nat → State → State
  | 0, s => s
  | n + 1, s =>
    match (s.pqueue leaf q).items.head? with
    | none => s
    | some it =>
      if s.headerPoisoned it then flushItems leaf q n (breakChain leaf q s) else
        let s := dropTail it.pkt.tail (leaveQueue leaf q it s)
        flushItems leaf q n (match it.tier with | .spilled a => (bpmFree (s.bufClient leaf q it.inp) a s).2 | _ => s)

def flushQueue (leaf : Bool) (q : Nat) (s : State) : State := flushItems leaf q (s.pqueue leaf q).items.length s

/-- The packets under reception for a queue are discarded, with those that wait for a buffer. -/
def flushStaged (leaf : Bool) (p : Nat → Bool) (s : State) : State :=
  let hit := fun (t : Staged) => t.leaf == leaf && p t.queue
  let s := (s.buf.staged.filter hit).foldl (fun s t => dropTail t.pkt.tail (subStage t.inp t.cells s)) s
  let s := updBuf (fun b => { b with staged := b.staged.filter (fun t => !hit t) }) s
  (List.range 4).foldl (fun s k =>
    let s := ((s.buf.pools.get k).reqs.filter (fun r => hit r.item)).foldl (fun s r => subStage r.item.inp r.item.cells s) s
    updPool k (fun p => { p with reqs := p.reqs.filter (fun r => !hit r.item) }) s) s

/-! ### Withdrawal and reclaim (R340, R341) -/

/-- BPM finishes withdrawing the buffers of a retired pseudo-channel (R340). -/
def doBuffersWithdrawn (pc : Nat) (s : State) : State :=
  if 95 < pc ∨ s.pcRetired pc = false ∨ s.buf.wdPcs.getLsbD pc = true then s else
    let fresh := (List.range 4).map (fun k =>
      (((s.pcRuns k pc).map (fun c => (List.range c.2).map (fun n => c.1 + n))).flatten.filter (fun i =>
        !s.bufWithdrawn k i && !(s.buf.bufs.get (s.poolFirst k + i)).out)).length)
    let s := updBuf (fun b => { b with wdPcs := b.wdPcs ||| ((1 : BitVec 96) <<< pc) }) s
    let s := (List.range 4).foldl (fun s k =>
      let cut := fun (r : List (Nat × Nat)) => ((s.pcRuns k pc).foldl (fun r c => runsCut r c.1 (c.1 + c.2)) r).filter (fun c => c.2 != 0)
      rebuildRing k (updPool k (fun p => { p with cache := cut p.cache, wd := p.wd + fresh.getD k 0 }) s)) s
    raise 0xA 3 pc (pc + 256 * min (2 ^ 24 - 1) fresh.sum) s

/-- BUFFERS_WITHDRAWN (R340). -/
def execBuffersWithdrawn (pc : Nat) (s : State) : Res := coreCmd (doBuffersWithdrawn pc) s

/-- Pool of a global buffer index. -/
def State.poolOf (s : State) (j : Nat) : Nat := ((List.range 4).find? (fun k => decide (j < s.poolFirst (k + 1)))).getD 3

/-- The HBM address of a buffer by its global index. -/
def State.bufAddr (s : State) (j : Nat) : Nat := let k := s.poolOf j; s.poolBase k + (j - s.poolFirst k) * poolSize k

/-- The oldest reclaim sweep ends (R341): the broken chain's buffers are freed, and those of the engine whose header cannot be read (R429,
R432) stay allocated until the next Load. -/
def doReclaimDone (unread : List Nat) (s : State) : State :=
  match s.buf.sweeps with
  | [] => s
  | w :: rest =>
    if s.moves = false then s else
      let s := updBuf (fun b => { b with sweeps := rest }) s
      let mute := fun (j : Nat) => unread.contains j || s.hbmBad (s.bufAddr j) 64
      let hit := s.buf.bufs.cells.filter (fun c => c.2.alloc && !c.2.leaked && !mute c.1 && datU c.2.hdr 0 1 % 16 == w.client &&
        datU c.2.hdr 16 4 % 2 ^ 19 == w.queue && datB c.2.hdr 2 0 1 == b2n w.leaf && datU c.2.hdr 3 1 == w.gen)
      let bad := s.buf.bufs.cells.filter (fun c => c.2.alloc && !c.2.leaked && mute c.1 && datU c.2.hdr 0 1 % 16 == w.client)
      let s := hit.foldl (fun s c => let k := s.poolOf c.1; count (Cnt.BPM_RECLAIM k) (clearBuf k (c.1 - s.poolFirst k) s)) s
      let s := bad.foldl (fun s c => count (Cnt.BPM_LEAKED (s.poolOf c.1))
        (updBuf (fun b => { b with bufs := b.bufs.upd c.1 (fun h => { h with leaked := true }) }) s)) s
      raise 0xA 4 noUnit (w.client + 256 * min (2 ^ 24 - 1) hit.length) s

/-- RECLAIM_DONE (R341). -/
def execReclaimDone (unread : List Nat) (s : State) : Res := coreCmd (doReclaimDone unread) s

end Sys2Proof.Machine
end

