-- ==== Sys2Proof/Machine/Services.lean ====
section
/-! DEFINITION. The flow services at a partition's controller: clove insertion (R221, R235, R242), NAT blocks (R244,
R245, R250, R251), the release chain (R253), the deletion of cloves (R228, R231), admission (R272), MAP (R248) and
load-balancing groups (R263 to R267). -/
namespace Sys2Proof.Machine

def updSvc (i : Nat) (f : SvcPart → SvcPart) (s : State) : State :=
  { s with svc := { s.svc with part := s.svc.part.upd i f } }

/-- SVC_PARAM of a profile (R239). -/
def State.svcParam (s : State) (k : Nat) : Dat := s.tblGet 0x26 k
def spService (d : Dat) : Nat := datU d 0 1
def spFlag (d : Dat) (k : Nat) : Bool := datB d 1 k 1 == 1

/-- floor(ST / 10^6) mod 2^32. -/
def State.ms (s : State) : Nat := s.now / 1000000 % 2 ^ 32

/-! ### Changing and inserting cloves -/

/-- A commit that changes one clove (R212). -/
def updClove (i idx : Nat) (f : Clove → Clove) (s : State) : State := setClove i idx (f (s.cloveNow i idx)) s

/-- Whether the clove of an index and GEN stands (R242). -/
def State.cloveIs (s : State) (i idx gen : Nat) : Bool :=
  s.inPart i idx && (let c := s.cloveNow i idx; cvValid c && cvGen c == gen)

/-- The learn sequence advances by one learn or host INSERT; GEN of the new clove (R222). -/
def nextGen (i : Nat) (s : State) : Nat × State :=
  let s := updPart i (fun p => { p with learnSeq := p.learnSeq + 1 }) s
  ((s.part.get i).learnSeq.toNat % 256, s)

/-- The bucket in which a flow takes a free slot: that of the lower OCC, b1 on equal OCC (R221). -/
def freeBucket (s : State) (b1 b2 : Nat) : Option (Nat × Nat) :=
  let d1 := s.dir.get b1
  let d2 := s.dir.get b2
  let f := fun (b : Nat) (d : DirBucket) => if d.gone then none else (freeSlot d).map (fun k => (b, k))
  match f b1 d1, f b2 d2 with
  | some x, some y => some (if d2.slots.length < d1.slots.length then y else x)
  | some x, none => some x
  | none, o => o

/-- A clove enters a free slot: bucket, counts and the fields the device sets (R221, R235). -/
def placeClove (i b k idx tag gen : Nat) (c : Clove) (s : State) : State :=
  let c := datPut (datPut (datPutB c 48 0 1 1) 49 1 gen) 60 4 (8 * b + k)
  let s := updBucket b (fun d => { d with slots := d.slots ++ [{ slot := k, idx := idx, tag := tag, pinned := cvPinned c }] }) s
  updPart i (fun p => { p with used := p.used + 1, pinned := p.pinned + b2n (cvPinned c) })
    (updSvc i (fun p => { p with track := p.track.set idx {} }) { s with clove := s.clove.set idx c })

/-- The pinned cap admits one more pinned clove (R219, R235). -/
def State.pinRoom (s : State) (i : Nat) : Bool := decide ((s.part.get i).pinned < s.regF (Reg.FSE_PIN_MAX i) 27 0)

/-- How an insertion without eviction ends (R235). -/
inductive InsRes where
  | ok (idx gen : Nat)
  | taken
  | tableFull
  | pinLimit
deriving DecidableEq, Repr

/-- A refusal by PIN_MAX is counted and reported (R219, R237). -/
def pinRefused (i : Nat) (s : State) : State :=
  raiseLim 1 i 8 6 i i (count (Cnt.FSE_PIN_LIMIT i) s)

/-- Inserts a clove without eviction (R235, R242): the device sets GEN, DIR_SLOT, CREATED and FIRST, and AGE where the
given one is zero. -/
def insertClove (i : Nat) (c : Clove) (s : State) : InsRes × State :=
  let key := cvKey c
  if (findClove s i key).isSome then (.taken, s)
  else if cvPinned c && !s.pinRoom i then (.pinLimit, pinRefused i s)
  else
    let h := s.hashOf i key
    let b := s.candidates i h
    match freeBucket s b.1 b.2, takeIndex i s with
    | some (bk, k), some (idx, s) =>
      let g := nextGen i s
      let s := g.2
      let c := datPut (datPut c 56 4 s.ms) 108 6 (s.now / 1000)
      let c := if cvAge c = 0 then datPut c 54 2 s.ageStamp else c
      (.ok idx g.1, placeClove i bk k idx (hashTag h) g.1 c s)
    | _, _ => (.tableFull, s)

/-- A clove of a key under a profile with a service area (R221, R247). -/
def serviceClove (s : State) (key : BitVec 384) (prof : Nat) (svc : List Byte) : Clove :=
  let p := s.profile prof
  let c := datPutB (cvOfKey key) 48 1 1 (b2n (profPin p))
  datPut (datPut (datPut c 51 1 prof) 52 2 (datU p 2 2 % 4096)) 64 32 (leVal (padTo 32 svc))

/-! ### Ageing guards and the release chain -/

/-- The NAT log queue is full (R280). -/
def State.natLogFull (s : State) (i : Nat) : Bool := decide (1024 ≤ (s.svc.part.get i).natq.length)

def natLog (i : Nat) (r : NatRec) (s : State) : State := updSvc i (fun p => { p with natq := p.natq ++ [r] }) s

/-- NAT_SLICE of a partition (R71): first address and count. -/
def State.natFirst (s : State) (i : Nat) : Nat := beVal (leBytes 4 (datU s.topo (16 + 12 * i) 4))
def State.natCount (s : State) (i : Nat) : Nat := datU s.topo (20 + 12 * i) 4
/-- L (R244). -/
def State.blockLog (s : State) (i : Nat) : Nat := s.regF (Reg.FSE_NAT_CFG i) 3 0
/-- BPA (R244). -/
def State.bpa (s : State) (i : Nat) : Nat := 64512 / 2 ^ s.blockLog i
/-- The index of a partition's first address in table 0x27 (R244). -/
def State.natBase (s : State) (i : Nat) : Nat := ((List.range i).map s.natCount).sum
/-- The public address of block b and its first port (R244). -/
def State.blockAddr (s : State) (i b : Nat) : Nat := (s.natFirst i + b / max 1 (s.bpa i)) % 2 ^ 32
def State.blockPort (s : State) (i b : Nat) : Nat := 1024 + b % max 1 (s.bpa i) * 2 ^ s.blockLog i

def State.natBlock (s : State) (i b : Nat) : NatBlock := (s.svc.part.get i).blocks.get b

def updBlock (i b : Nat) (f : NatBlock → NatBlock) (s : State) : State :=
  updSvc i (fun p => { p with blocks := p.blocks.upd b f }) s

/-- FREE of the address at a position (R244). -/
def State.addrFree (s : State) (i a : Nat) : Nat :=
  s.bpa i - (((s.svc.part.get i).blocks.pairsIn (a * s.bpa i) ((a + 1) * s.bpa i)).filter (fun c => c.2.allocated)).length

/-- The BLK entries of a subscriber (R246). -/
def subBlocks (c : Clove) : List Nat := (List.range (min 4 (datU c 65 1))).map (fun k => datU c (68 + 4 * k) 4 % 2 ^ 22)

/-- A subscriber's BLK entries, NBLK and ADDR are written (R246, R253). -/
def setSubBlocks (bs : List Nat) (addr : Nat) (c : Clove) : Clove :=
  let c := datPut c 65 1 bs.length
  let c := (List.range 4).foldl (fun c k => datPut c (68 + 4 * k) 4 (match bs[k]? with | some b => b + 2 ^ 31 | none => 0)) c
  datPut c 92 2 (if bs.isEmpty then 0xFFFF else addr)

/-- A block is released with its record (R253 step 4). -/
def releaseBlock (i b sub subGen : Nat) (s : State) : State :=
  let k := s.natBlock i b
  let lo := s.blockPort i b
  let s := updBlock i b (fun k => { k with allocated := false, released := s.ms, wasReleased := true }) s
  let s := if s.cloveIs i sub subGen then
      updClove i sub (fun c =>
        let bs := (subBlocks c).filter (fun x => x != b)
        let c := setSubBlocks bs (datU c 92 2) c
        if bs.isEmpty then datPut c 54 2 s.ageStamp else c) s
    else s
  natLog i { event := 17, v6 := k.nat64, zone := k.zone, saddr := k.saddr, pubAddr := s.blockAddr i b, portLo := lo,
             portHi := lo + 2 ^ s.blockLog i - 1, exporter := k.exporter, at_ := s.now }
    (count (Cnt.FSE_NAT_BLOCK_RELEASE i) s)

/-- A mapping ends on its block and its subscriber (R253 steps 3 and 4). -/
def mappingEnds (i : Nat) (c : Clove) (s : State) : State :=
  let b := datU c 76 4 % 2 ^ 22
  let sub := datU c 88 4 % 2 ^ 27
  let subGen := datU c 85 1
  let s := updBlock i b (fun k => { k with used := k.used - 1 }) s
  let s := if s.cloveIs i sub subGen then updClove i sub (fun c => datPut c 66 2 (datU c 66 2 - 1)) s else s
  let k := s.natBlock i b
  if k.allocated && k.used == 0 then
    if s.natLogFull i then
      raiseLim 1 i 8 8 i i (count (Cnt.FSE_NAT_LOG_STALL i)
        (updSvc i (fun p => { p with relWait := p.relWait ++ [{ block := b, sub, subGen }] }) s))
    else releaseBlock i b sub subGen s
  else s

/-- REFS − 1 on a mapping (R253 step 1, R302). -/
def unrefMapping (i m gen : Nat) (s : State) : State :=
  if s.cloveIs i m gen then
    updClove i m (fun c =>
      let r := datU c 66 2 - 1
      let c := datPut c 66 2 r
      if r = 0 then datPut c 54 2 s.ageStamp else c) s
  else s

/-- A clove ends and the release chain runs (R231, R253). A clove under a lock is ended when its last holder releases
it (R228). `give` says that its index returns to the free indices. Of a withdrawn clove only a cached line is known to the chain, since
the retired channel answers no read (R432; DEDUCED). The first argument bounds the chain, which never passes three cloves. -/
def deleteClove : Nat → Nat → Nat → Nat → Bool → State → State
  | 0, _, _, _, _, s => s
  | n + 1, i, idx, reason, give, s =>
    if s.locked i idx then updLine i idx (fun l => { l with delAtRelease := some reason }) s
    else
      let c := if reason = 8 ∧ (s.line i idx).isNone = true then 0 else s.cloveNow i idx
      let s := removeClove i idx reason give s
      let fmt := datU c 64 1
      if fmt = 1 ∨ fmt = 2 then
        if datB c 75 7 1 = 1 then unrefMapping i (datU c 72 4 % 2 ^ 27) (datU c 76 1) s else s
      else if fmt = 3 ∨ fmt = 4 then
        if datB c 81 7 1 = 1 ∧ s.cloveIs i (datU c 78 4 % 2 ^ 27) (datU c 82 1) = true then
          deleteClove n i (datU c 78 4 % 2 ^ 27) reason true s else s
      else if fmt = 0x11 then
        let s := if s.cloveIs i (datU c 80 4 % 2 ^ 27) (datU c 84 1) then
          deleteClove n i (datU c 80 4 % 2 ^ 27) reason true s else s
        if datB c 65 0 1 = 1 then s else mappingEnds i c s
      else s

/-- The end of a valid clove for a reason of R227. -/
def endClove (i idx reason : Nat) (s : State) : State :=
  if cvValid (s.cloveNow i idx) then deleteClove 3 i idx reason true s else s

/-- Whether an ageing delete of a clove is admitted by R254. -/
def ageAdmits (c : Clove) : Bool :=
  if datU c 64 1 = 0x11 then datU c 66 2 == 0 else if datU c 64 1 = 0x10 then datU c 65 1 == 0 else true

/-- A stalled release whose record can now be entered (R253); a block taken into use again is not released. -/
def doBlockRelease (i : Nat) (s : State) : State :=
  match (s.svc.part.get i).relWait with
  | [] => s
  | w :: rest =>
    if s.natLogFull i then s else
      let s := updSvc i (fun p => { p with relWait := rest }) s
      let k := s.natBlock i w.block
      if k.allocated && k.used == 0 then releaseBlock i w.block w.sub w.subGen s else s

/-- BLOCK_RELEASE (R253). -/
def execBlockRelease (part : Nat) (s : State) : Res := coreCmd (fun s => if part < 4 then doBlockRelease part s else s) s

/-! ### Subscribers and admission (R241, R272) -/

/-- The SUBSCRIBER key of a flow key (R241). -/
def subscriberKey (key : BitVec 384) (sub6 : Nat) : BitVec 384 :=
  let sa := beVal (leBytes 16 (datU key 4 16))
  let sa := if datB key 40 0 1 = 1 then sa else sa / 2 ^ (128 - min 128 sub6) * 2 ^ (128 - min 128 sub6)
  bvOfBytes 384 ([0x10, 0] ++ leBytes 2 (datU key 2 2) ++ beBytes 16 sa)

/-- The subscriber clove of a flow, found or inserted (R272): its index, or a result code of R298. -/
def findSubscriber (i : Nat) (key : BitVec 384) (sp : Dat) (s : State) : (Nat ⊕ Nat) × State :=
  let sk := subscriberKey key (datU sp 9 1)
  match findClove s i sk with
  | some idx => (.inl idx, s)
  | none =>
    let svc := [0x10, 0, 0, 0] ++ List.replicate 16 0 ++ leBytes 4 (datU sp 20 4 * 1000) ++ leBytes 4 s.ms ++ [0xFF, 0xFF]
    match insertClove i (serviceClove s sk (datU sp 6 1) svc) s with
    | (.ok idx _, s) => (.inl idx, s)
    | (.pinLimit, s) => (.inr 2, s)
    | (_, s) => (.inr 7, s)

/-- The new-flow bucket of a subscriber is updated (R272, R550); the Bool says that the flow is admitted. -/
def admitBucket (i sub : Nat) (sp : Dat) (s : State) : Bool × State :=
  let c := s.cloveNow i sub
  let t := min (datU c 84 4 + serialAge 32 s.ms (datU c 88 4) * datU sp 16 4) (datU sp 20 4 * 1000)
  let ok := decide (1000 ≤ t)
  let c := datPut (datPut c 84 4 (if ok then t - 1000 else t)) 88 4 s.ms
  let s := setClove i sub c s
  (ok, if ok then s else count (Cnt.FSE_ADMIT_REFUSED i) s)

/-- ADMIT (R272, R239): a rate of 0 sets no limit. -/
def flowAdmit (i : Nat) (key : BitVec 384) (sp : Dat) (s : State) : Nat × State :=
  match findSubscriber i key sp s with
  | (.inr r, s) => (r, s)
  | (.inl sub, s) =>
    if datU sp 16 4 = 0 then (0, s) else
      let a := admitBucket i sub sp s
      (if a.1 then 0 else 1, a.2)

/-! ### MAP (R248 to R252) -/

/-- A permutation of a list made of choices (R251): every permutation is some sequence of choices. -/
def permList (choice : Nat → Nat) : Nat → List Nat → List Nat
  | 0, _ => []
  | n + 1, l => let x := l.getD (choice n % l.length) 0; x :: permList choice n (l.erase x)

/-- perm(b, x) over 0 to n − 1 (R251). -/
def State.natPerm (s : State) (i b n x : Nat) : Nat :=
  (permList (Config.natPerm s.sec.keys.nat i b) n (List.range n)).getD x 0

/-- The record of R252 for a failed MAP, at most one per subscriber and second. No record is dropped (R280): one that finds the queue full
waits behind its 1,024. -/
def mapFailRecord (i : Nat) (key : BitVec 384) (sp : Dat) (event sub : Nat) (s : State) : State :=
  let sec := s.now / 1000000000 + 1
  if (s.svc.part.get i).subSec.get sub = sec then s else
    let sk := subscriberKey key (datU sp 9 1)
    natLog i { event, v6 := spService sp == 2, zone := datU key 2 2, saddr := BitVec.ofNat 128 (datU sk 4 16),
               exporter := datU sp 3 1, at_ := s.now } (updSvc i (fun p => { p with subSec := p.subSec.set sub sec }) s)

/-- A MAP that fails is counted by its result (R252, R281). -/
def mapFails (i : Nat) (key : BitVec 384) (sp : Dat) (sub r : Nat) (s : State) : State :=
  match r with
  | 3 => mapFailRecord i key sp 13 sub (count (Cnt.FSE_NAT_QUOTA i) s)
  | 4 => raiseLim 1 i 8 7 i i (mapFailRecord i key sp 12 sub (count (Cnt.FSE_NAT_PORTS i) s))
  | 5 => raiseLim 1 i 8 7 i (i + 256) (mapFailRecord i key sp 3 sub (count (Cnt.FSE_NAT_ADDRESSES i) s))
  | 6 => count (Cnt.FSE_NAT_LOG_FULL i) s
  | 7 => count (Cnt.FSE_NAT_STATE i) s
  | _ => s

/-- Whether block b may be allocated (R250). -/
def State.blockReady (s : State) (i b hold : Nat) : Bool :=
  let k := s.natBlock i b
  !k.allocated && (!k.wasReleased || decide (hold * 1000 ≤ serialAge 32 s.ms k.released))

/-- The lowest-numbered ready block of the address at a position (R250). -/
def State.readyBlock (s : State) (i a hold : Nat) : Option Nat :=
  if (s.svc.part.get i).disabled.get a then none
  else ((List.range (s.bpa i)).find? (fun k => s.blockReady i (a * s.bpa i + k) hold)).map (fun k => a * s.bpa i + k)

/-- A new block for a subscriber (R250): the block, or PORTS, ADDRESSES or LOG_FULL. -/
def newBlock (i sub : Nat) (key : BitVec 384) (sp : Dat) (s : State) : (Nat ⊕ Nat) × State :=
  let c := s.cloveNow i sub
  let hold := datU sp 12 2
  let count_ := s.natCount i
  let pick : Nat ⊕ Nat :=
    if datU c 65 1 ≠ 0 then
      (match (if datU c 92 2 < count_ then s.readyBlock i (datU c 92 2) hold else none) with
       | some b => .inl b | none => .inr 4)
    else
      let start := Config.firstBlock s.sec.keys.firstBlock (cvKey c).toNat % 2 ^ 32 * count_ / 2 ^ 32
      match (List.range count_).findSome? (fun t => s.readyBlock i ((start + t) % count_) hold) with
      | some b => .inl b
      | none => .inr 5
  match pick with
  | .inr r => (.inr r, s)
  | .inl b =>
    if s.natLogFull i then (.inr 6, s) else
      let zone := datU key 2 2
      let saddr := BitVec.ofNat 128 (datU (cvKey c) 4 16)
      let nat64 := spService sp == 2
      let a := b / max 1 (s.bpa i)
      let lo := s.blockPort i b
      let s := updBlock i b (fun k => { k with owner := sub, ownerGen := cvGen c, allocated := true, used := 0, next := 0,
                                               exporter := datU sp 3 1, nat64, zone, saddr }) s
      let s := setClove i sub (setSubBlocks (subBlocks c ++ [b]) a c) s
      (.inl b, natLog i { event := 16, v6 := nat64, zone, saddr, pubAddr := s.blockAddr i b, portLo := lo,
                          portHi := lo + 2 ^ s.blockLog i - 1, exporter := datU sp 3 1, at_ := s.now }
        (count (Cnt.FSE_NAT_BLOCK_ALLOC i) s))

/-- What MAP maps: the flow's key, its service parameters, and the IN_PORT and AUX of the packet. -/
structure MapReq where
  key : BitVec 384 := 0
  sp : Dat := 0
  inPort : Nat := 0
  aux : Nat := 0
deriving Repr

/-- The SOURCE_ENDPOINT key of a flow's endpoint (R204, R205). -/
def mappingKey (key : BitVec 384) : BitVec 384 :=
  bvOfBytes 384 ([3] ++ leBytes 19 (datU key 1 19) ++ List.replicate 16 0 ++ leBytes 2 (datU key 36 2) ++ [0, 0] ++
    leBytes 1 (datU key 40 1 &&& 5))

/-- The DEST_ENDPOINT key of a public address and port, with the zone of its lookups (R204, R205, R207). -/
def reverseKey (s : State) (q : MapReq) (addr port : Nat) : BitVec 384 :=
  let rp := s.profile (datU q.sp 5 1)
  let zone := if datU rp 8 1 = 0 then datU rp 10 2 else datU q.key 2 2
  bvOfBytes 384 ([4] ++ leBytes 1 (datU q.key 1 1) ++ leBytes 2 zone ++ List.replicate 16 0 ++
    List.replicate 10 0 ++ [0xFF, 0xFF] ++ beBytes 4 addr ++ [0, 0] ++ beBytes 2 port ++ [3])

/-- The NAT flow service area that MAP answers (R299), with byte 160's flags above it. -/
def mapImage (c : Clove) (m gen : Nat) (nat64 : Bool) (flags : Nat) : Dat :=
  let d : Dat := BitVec.ofNat 1024 (if nat64 then 2 else 1)
  let d := datPut (datPut d 2 2 (datU c 72 2)) 4 4 (datU c 68 4)
  let d := datPut (datPut d 8 4 (m + 2 ^ 31)) 12 1 gen
  let d := datPut (datPut d 14 4 (datU c 80 4 % 2 ^ 27 + 2 ^ 31)) 18 1 (datU c 84 1)
  datPut d 32 1 flags

/-- One candidate port (R248): the reverse and mapping cloves are inserted. It answers none when the port is taken,
and otherwise a result code with the mapping's index and GEN. -/
def mapTry (i sub b port : Nat) (q : MapReq) (s : State) : Option (Nat × Nat × Nat) × State :=
  let nat64 := spService q.sp == 2
  let addr := s.blockAddr i b
  let rev := [0x12, BitVec.ofNat 8 (2 * b2n nat64)] ++ leBytes 2 (datU q.key 36 2) ++ leBytes 16 (datU q.key 4 16) ++
    [0, 0, 0, 0, 0, BitVec.ofNat 8 (q.inPort % 32 + 128)] ++ leBytes 2 (datU q.key 2 2) ++
    leBytes 2 (if spFlag q.sp 5 then q.aux / 65536 % 65536 else 0)
  match insertClove i (serviceClove s (reverseKey s q addr port) (datU q.sp 5 1) rev) s with
  | (.taken, s) => (none, s)
  | (.pinLimit, s) => (some (2, 0, 0), s)
  | (.tableFull, s) => (some (7, 0, 0), s)
  | (.ok r rg, s) =>
    let map := [0x11, BitVec.ofNat 8 (2 * b2n nat64)] ++ leBytes 2 1 ++ beBytes 4 addr ++ beBytes 2 port ++ [0, 0] ++
      leBytes 4 b ++ leBytes 4 r ++ leBytes 1 rg ++ leBytes 1 (cvGen (s.cloveNow i sub)) ++ [0, 0] ++ leBytes 4 sub
    match insertClove i (serviceClove s (mappingKey q.key) (datU q.sp 4 1) map) s with
    | (.ok m mg, s) =>
      let s := updClove i r (fun c => datPut (datPut c 84 4 m) 88 1 mg) s
      let s := updBlock i b (fun k => { k with used := k.used + 1 }) s
      let s := updClove i sub (fun c => datPut c 66 2 (datU c 66 2 + 1)) s
      (some (0, m, mg), s)
    | (_, s) => (some (7, 0, 0), endClove i r 4 s)

/-- Up to t candidates of a block (R248). -/
def mapBlock (i sub b : Nat) (q : MapReq) : Nat → State → Option (Nat × Nat × Nat) × State
  | 0, s => (none, s)
  | t + 1, s =>
    let parity := spFlag q.sp 1
    let n := 2 ^ (s.blockLog i - b2n parity)
    let c := s.natPerm i b n ((s.natBlock i b).next)
    let s := updBlock i b (fun k => { k with next := (k.next + 1) % n }) s
    let base := s.blockPort i b
    let sport := beVal (leBytes 2 (datU q.key 36 2))
    match mapTry i sub b (if parity then base + 2 * c + sport % 2 else base + c) q s with
    | (none, s) => mapBlock i sub b q t s
    | r => r

/-- New blocks while the subscriber may take one (R248): a result code, the mapping, and whether a block was taken. The
first argument bounds them. -/
def mapNewBlocks (i sub : Nat) (q : MapReq) : Nat → Bool → State → (Nat × Nat × Nat × Bool) × State
  | 0, fresh, s => ((4, 0, 0, fresh), s)
  | n + 1, fresh, s =>
    if datU (s.cloveNow i sub) 65 1 < datU q.sp 8 1 then
      match newBlock i sub q.key q.sp s with
      | (.inr r, s) => ((r, 0, 0, fresh), s)
      | (.inl b, s) =>
        match mapBlock i sub b q 16 s with
        | (some (r, m, g), s) => ((r, m, g, true), s)
        | (none, s) => mapNewBlocks i sub q n true s
    else ((4, 0, 0, fresh), s)

/-- The blocks that a subscriber holds, in allocation order, then new ones (R248). -/
def mapBlocks (i sub : Nat) (q : MapReq) : List Nat → State → (Nat × Nat × Nat × Bool) × State
  | [], s => mapNewBlocks i sub q 4 false s
  | b :: bs, s =>
    match mapBlock i sub b q 16 s with
    | (some (r, m, g), s) => ((r, m, g, false), s)
    | (none, s) => mapBlocks i sub q bs s

/-- MAP (R248): the result code, the block of R299 and the mapping with its GEN. -/
def mapOp (i : Nat) (q : MapReq) (s : State) : (Nat × Dat × Nat × Nat) × State :=
  let rate := datU q.sp 16 4
  let nat64 := spService q.sp == 2
  match findClove s i (mappingKey q.key) with
  | some m =>
    let a : Nat × State := if rate = 0 then (0, s) else flowAdmit i q.key q.sp s
    if a.1 ≠ 0 then ((a.1, 0, 0, 0), mapFails i q.key q.sp 0 a.1 a.2) else
      let s := updClove i m (fun c => datPut c 66 2 (datU c 66 2 + 1)) a.2
      let c := s.cloveNow i m
      ((0, mapImage c m (cvGen c) nat64 0, m, cvGen c), count (Cnt.FSE_NAT_MAP_REUSE i) s)
  | none =>
    match findSubscriber i q.key q.sp s with
    | (.inr r, s) => ((r, 0, 0, 0), mapFails i q.key q.sp 0 r s)
    | (.inl sub, s) =>
      let a : Bool × State := if rate = 0 then (true, s) else admitBucket i sub q.sp s
      let s := a.2
      if !a.1 then ((1, 0, 0, 0), s)
      else if datU q.sp 10 2 ≤ datU (s.cloveNow i sub) 66 2 then ((3, 0, 0, 0), mapFails i q.key q.sp sub 3 s)
      else
        match mapBlocks i sub q (subBlocks (s.cloveNow i sub)) s with
        | ((0, m, g, fresh), s) =>
          ((0, mapImage (s.cloveNow i m) m g nat64 (1 + 2 * b2n fresh), m, g), count (Cnt.FSE_NAT_MAP_NEW i) s)
        | ((r, _, _, _), s) => ((r, 0, 0, 0), mapFails i q.key q.sp sub r s)

/-! ### Load balancing (R263 to R267) -/

/-- LB_MEMBER m of a group (R263): its weight and next hop. -/
def State.lbWeight (s : State) (g m : Nat) : Nat := bits (s.tblGet 0x2A (64 * g + m)).toNat 25 18
def State.lbNextHop (s : State) (g m : Nat) : Nat := bits (s.tblGet 0x2A (64 * g + m)).toNat 17 0

/-- The targets of the members (R264). -/
def lbTargets (w : List Nat) : List Nat :=
  let tot := w.sum
  let rem := w.map (fun x => 256 * x % tot)
  let base := w.map (fun x => 256 * x / tot)
  let extra := 256 - base.sum
  (List.range w.length).map (fun m =>
    let rank := ((List.range w.length).filter (fun k =>
      decide (rem.getD m 0 < rem.getD k 0) || (rem.getD k 0 == rem.getD m 0 && decide (k < m)))).length
    base.getD m 0 + (if rank < extra then 1 else 0))

/-- Slots in ascending order: a member keeps its lowest slots up to its target (R264). -/
def lbKeep (t : List Nat) : List (Option Nat) → List Nat → List (Option Nat)
  | [], _ => []
  | none :: r, have_ => none :: lbKeep t r have_
  | some m :: r, have_ =>
    if have_.getD m 0 < t.getD m 0 then some m :: lbKeep t r (have_.set m (have_.getD m 0 + 1)) else none :: lbKeep t r have_

/-- Free slots in ascending order go to the lowest-numbered member below its target (R264). -/
def lbGive (t : List Nat) : List (Option Nat) → List Nat → List (Option Nat)
  | [], _ => []
  | some m :: r, have_ => some m :: lbGive t r have_
  | none :: r, have_ =>
    match (List.range t.length).find? (fun m => decide (have_.getD m 0 < t.getD m 0)) with
    | some m => some m :: lbGive t r (have_.set m (have_.getD m 0 + 1))
    | none => none :: lbGive t r have_

/-- The slot table of a group after a change of its members (R264). -/
def lbRecompute (w : List Nat) (slots : List (Option Nat)) : List (Option Nat) :=
  if w.sum = 0 then slots.map (fun _ => none) else
    let t := lbTargets w
    let kept := lbKeep t slots (w.map (fun _ => 0))
    lbGive t kept ((List.range w.length).map (fun m => (kept.filter (fun x => x == some m)).length))

/-- A group's slots are recomputed from its members (R263, R264). -/
def lbUpdate (g : Nat) (s : State) : State :=
  let new := lbRecompute ((List.range 64).map (s.lbWeight g)) ((List.range 256).map (fun k => s.svc.slots.get (256 * g + k)))
  { s with svc := { s.svc with slots := new.zipIdx.foldl (fun m x => m.set (256 * g + x.2) x.1) s.svc.slots } }

/-- Whether a PORT next hop is live (R266); `auto` is the group's AUTO_RESTORE. -/
def State.nhLive (s : State) (nh : Nat) (auto : Bool) : Bool :=
  let e := s.tblGet 0x13 nh
  datU e 0 1 == 1 &&
    (if datB e 2 0 9 = s.devId then
      (s.port.get (datB e 4 0 5)).up && (auto || !bit s.svc.latch.toNat (datB e 4 0 5))
     else (s.swc.peers.get (datB e 2 0 9)).state == .alive)

/-- Whether a member of a group is live (R266). -/
def State.lbLive (s : State) (g m : Nat) : Bool :=
  s.lbWeight g m != 0 && s.nhLive (s.lbNextHop g m) (datB (s.tblGet 0x29 g) 0 0 1 == 1)

/-- The member that R267 selects, whether it is a fallback. -/
def State.lbChoose (s : State) (g h : Nat) : Option (Nat × Bool) :=
  match s.svc.slots.get (256 * g + h % 256) with
  | none => none
  | some m =>
    if s.lbLive g m then some (m, false)
    else
      let live := (List.range 64).filter (s.lbLive g)
      if live.isEmpty then none else some (live.getD (h / 256 % 256 % live.length) 0, true)

/-- A selection without a member for a packet of class c is counted and reported (R267, R281). -/
def lbNoMember (i g c : Nat) (s : State) : State := raiseLim 1000 0 8 10 g g (countC c (Cnt.FSE_LB_NO_MEMBER i) s)

/-- The load-balancing hash of a flow key (R265). -/
def State.lbHash (s : State) (key : BitVec 384) : Nat :=
  crc32cAdvance (s.reg Reg.FSE_LB_SEED)
    (leBytes 1 (datU key 1 1) ++ leBytes 16 (datU key 4 16) ++ leBytes 16 (datU key 20 16) ++ leBytes 4 (datU key 36 4))
    ^^^ 0xFFFFFFFF

end Sys2Proof.Machine
end

