-- ==== Sys2Proof/Machine/Thread.lean ====
section
/-! DEFINITION. Threads of the action engines: their assignment (R284), the descriptor window (R290), the start of a run
(R286, R306), faults (R316) and the end of a run (R301, R302). -/
namespace Sys2Proof.Machine

def State.th (s : State) (t : Nat) : Thread := s.eng.th.get t

def updEng (f : EngSt → EngSt) (s : State) : State := { s with eng := f s.eng }

def updTh (t : Nat) (f : Thread → Thread) (s : State) : State := updEng (fun e => { e with th := e.th.upd t f }) s

def setTh (t : Nat) (h : Thread) (s : State) : State := updEng (fun e => { e with th := e.th.set t h }) s

def updLive (t : Nat) (f : Live → Live) (s : State) : State := updTh t (fun h => { h with live := f h.live }) s

/-- The cluster of a thread, which is its partition (R16, R283). -/
def thCluster (t : Nat) : Nat := t / 1024
/-- The engine of a thread in the device (R283). -/
def thEngine (t : Nat) : Nat := t / 64

/-! ### Assignment (R284) -/

/-- Threads of an engine that hold a run. -/
def State.engineBusy (s : State) (e : Nat) : Nat :=
  ((s.eng.th.pairsIn (64 * e) (64 * e + 64)).filter (fun c => c.2.wait != .free)).length

/-- Threads of a cluster that hold a run of a direction. -/
def State.clusterBusy (s : State) (c : Nat) (egress : Bool) : Nat :=
  ((s.eng.th.pairsIn (1024 * c) (1024 * c + 1024)).filter (fun x => x.2.wait != .free && x.2.egress == egress)).length

/-- An engine that takes new runs: not retired, and its quad is on (R318, R527, R528). -/
def State.engineOpen (s : State) (e : Nat) : Bool :=
  !s.eng.retired.getLsbD e && !s.eng.retiring.getLsbD e && !bit (s.reg Reg.MGT_PWR_OFF1) (e / 4)

/-- Threads of the engines of a cluster that take runs. -/
def State.clusterThreads (s : State) (c : Nat) : Nat :=
  64 * ((List.range 16).filter (fun e => s.engineOpen (16 * c + e))).length

/-- The reserves of ingress and egress, reduced in proportion when the threads do not cover them (R284, R318). -/
def State.reserves (s : State) (c : Nat) : Nat × Nat :=
  let ri := s.regF Reg.ENG_CLUSTER_CFG 25 16
  let re := s.regF Reg.ENG_CLUSTER_CFG 9 0
  let n := s.clusterThreads c
  if n < ri + re then (ri * n / (ri + re), re * n / (ri + re)) else (ri, re)

/-- Whether a run of a direction may take one more thread of a cluster (R284). -/
def State.threadRoom (s : State) (c : Nat) (egress : Bool) : Bool :=
  let r := s.reserves c
  let ui := s.clusterBusy c false
  let ue := s.clusterBusy c true
  let own := if egress then decide (ue < r.2) else decide (ui < r.1)
  own || decide ((ui - r.1) + (ue - r.2) < s.clusterThreads c - r.1 - r.2)

/-- The thread that a lookup takes: of the engine with the fewest threads in use, the lower on a tie (R284). -/
def State.freeThread (s : State) (c : Nat) (egress : Bool) : Option Nat :=
  if !s.threadRoom c egress then none else
    let es := ((List.range 16).map (fun e => 16 * c + e)).filter (fun e => s.engineOpen e && decide (s.engineBusy e < 64))
    match es with
    | [] => none
    | e0 :: rest =>
      let e := rest.foldl (fun a b => if s.engineBusy b < s.engineBusy a then b else a) e0
      ((List.range 64).map (fun k => 64 * e + k)).find? (fun t => (s.th t).wait == .free)

/-! ### The descriptor window (R290) -/

/-- KEY_L3 and KEY_L4 (R209, R290). -/
def keyHeaders (p : Dat) (k : Pkt) : Nat × Nat :=
  match ipHeader p k.parse with
  | none => (0xFF, 0xFF)
  | some n =>
    let h := k.parse.hdrs.getD n (0, 0)
    let rest := k.parse.hdrs.drop (n + 1)
    let e := if h.1 = datU p 12 1 then rest else (skipExt [datU p 14 1, datU p 15 1, datU p 16 1, datU p 17 1] rest none).2
    match e.head? with
    | none => (n, 0xFF)
    | some x =>
      let ty := (byteAt k.bytes x.2).toNat
      let ports := x.1 = datU p 18 1 ∨ x.1 = datU p 19 1 ∨ x.1 = datU p 20 1
      let icmp := (x.1 = datU p 21 1 ∧ (ty = 8 ∨ ty = 0)) ∨ (x.1 = datU p 22 1 ∧ (ty = 128 ∨ ty = 129))
      (n, if x.1 ≠ 0 ∧ (ports ∨ icmp) then k.parse.hdrs.length - e.length else 0xFF)

/-- The flags byte of a packet's TCP header, if it has one (R215). -/
def tcpFlags (p : Dat) (k : Pkt) (key : BitVec 384) : Option Nat :=
  let l4 := (keyHeaders p k).2
  if l4 = 0xFF ∨ datU key 1 1 ≠ 6 then none else some (byteAt k.bytes ((k.parse.hdrs.getD l4 (0, 0)).2 + 13)).toNat

/-- The shift of a window scale option among the options of a TCP header; the first argument bounds the options. -/
def tcpScale : Nat → List Byte → Option Nat
  | 0, _ => none
  | n + 1, os =>
    match os with
    | [] => none
    | k :: r =>
      if k = 0 then none
      else if k = 1 then tcpScale n r
      else match r with
        | [] => none
        | l :: d =>
          if l.toNat < 2 then none
          else if k = 3 then d.head?.map (fun x => min 14 x.toNat)
          else tcpScale n (d.drop (l.toNat - 2))

/-- The TCP segment of a packet, if its key's header is one (R209, R271). -/
def tcpSeg (p : Dat) (k : Pkt) (key : BitVec 384) : Option TcpSeg :=
  match tcpFlags p k key with
  | none => none
  | some f =>
    let kh := keyHeaders p k
    let ip := k.parse.hdrs.getD kh.1 (0, 0)
    let l4 := (k.parse.hdrs.getD kh.2 (0, 0)).2
    let stop := ip.2 + (if ip.1 = datU p 12 1 then beAt k.bytes (ip.2 + 2) 2 else 40 + beAt k.bytes (ip.2 + 4) 2)
    let hl := 4 * ((byteAt k.bytes (l4 + 12)).toNat / 16)
    some { syn := bit f 1, fin := bit f 0, rst := bit f 2, ackFlag := bit f 4, seq := beAt k.bytes (l4 + 4) 4,
           ack := beAt k.bytes (l4 + 8) 4, win := beAt k.bytes (l4 + 14) 2,
           len := stop - l4 - hl + b2n (bit f 1) + b2n (bit f 0), scale := tcpScale 40 (slice k.bytes (l4 + 20) (hl - 20)) }

/-- The descriptor window of a run as it starts (R286, R290). -/
def State.buildDesc (s : State) (t : Nat) (h : Thread) : BitVec 2048 :=
  let p := h.pkt
  let kh := if h.keyed then keyHeaders h.prof p else (0xFF, 0xFF)
  let cl := h.clove.getD 0
  let gen := match h.clove with | some i => cvGen (s.cloveNow (thCluster t) i) | none => 0
  let verdict := if h.egress then 0 else if p.recirc.isSome then 3 else 0
  bvOfBytes 2048 (parseBytes p.parse ++ leBytes 1 p.pass ++ leBytes 1 p.inPort ++ leBytes 2 (p.bytes.length + 4) ++
    leBytes 4 p.epoch ++ leBytes 1 p.cls ++ leBytes 1 p.colour ++ leBytes 1 p.queue ++
    leBytes 1 (b2n h.egress + 2 * b2n h.learned + 4 * b2n h.clove.isNone + 8 * b2n h.shared) ++
    leBytes 4 p.nexthop ++ leBytes 2 p.dev ++ leBytes 1 p.port ++ [0] ++ leBytes 4 p.subscriber ++ leBytes 4 p.rewrite ++
    leBytes 4 p.aux ++ leBytes 2 p.context ++ leBytes 1 (thCluster t) ++ leBytes 1 gen ++ leBytes 4 cl ++
    leBytes 1 verdict ++ leBytes 1 (if verdict = 3 then p.recirc.getD 0 else 0) ++ leBytes 1 (p.egrProfile.getD 0) ++
    leBytes 1 (b2n p.egrProfile.isSome + 2 * b2n p.skipEgr) ++ leBytes 1 kh.1 ++ leBytes 1 kh.2 ++ [0, 0] ++
    leBytes 4 p.stEntry)

/-- The packet as its run's descriptor leaves it (R290, R301). A written egress port clears NAT_OWNER. -/
def takeDesc (h : Thread) : Pkt :=
  let d := h.desc
  let p := { h.pkt with cls := datB d 88 0 3, colour := datB d 89 0 2, queue := datB d 90 0 3,
                        egrProfile := if datB d 123 0 1 = 1 then some (datU d 122 1) else none,
                        skipEgr := datB d 123 1 1 == 1 }
  if h.egress then { p with port := datU d 98 1, subscriber := datU d 100 4 % 65536 }
  else { p with nexthop := datU d 92 4 % 2 ^ 18 }

/-! ### The end of a run -/

/-- Locks of a line held by a thread are given up (R214); a deletion asked for at the release is made by the last holder
(R228). -/
def releaseLock (i idx t : Nat) (s : State) : State :=
  match s.line i idx with
  | none => s
  | some l =>
    let k := match l.lock with
      | .free => .free
      | .excl x => if x = t then .free else .excl x
      | .shared ts => let r := ts.erase t; if r.isEmpty then .free else .shared r
    let s := updLine i idx (fun l => { l with lock := k }) s
    match k, l.delAtRelease with
    | .free, some reason => endClove i idx reason s
    | _, _ => s

/-- Whether a clove names a mapping with MAP_VALID (R302). -/
def namesMapping (c : Clove) (m : Nat × Nat) : Bool :=
  datB c 75 7 1 == 1 && datU c 72 4 % 2 ^ 27 == m.1 && datU c 76 1 == m.2

/-- The mappings of a run that its clove does not name are let go (R302). -/
def unbindMaps (t : Nat) (h : Thread) (s : State) : State :=
  let i := thCluster t
  let c : Clove := match h.clove with | some idx => s.cloveNow i idx | none => 0
  h.maps.foldl (fun s m => if namesMapping c m then s
    else count (Cnt.ENG_MAP_UNBOUND i) (unrefMapping i m.1 m.2 s)) s

/-- A pre-emption of a thread whose run ends first (R315). -/
def dropPreempt (t : Nat) (s : State) : State :=
  match s.eng.pre with
  | some (k, _, _) => if k = t then updEng (fun e => { e with pre := none, preResult := 2 }) s else s
  | none => s

/-- A run ends with a verdict (R301): DELETE, unbinding, the release of the lock; the packet then waits to leave in order
(R303). -/
def endRun (t : Nat) (delete : Bool) (verdict varg : Nat) (s : State) : State :=
  let h := s.th t
  let i := thCluster t
  let s := match h.clove with
    | some idx => if delete then updLine i idx (fun l => { l with delAtRelease := some 4 }) s else s
    | none => s
  let s := unbindMaps t h s
  let s := match h.clove with | some idx => releaseLock i idx t s | none => s
  updTh t (fun h => { h with wait := .ended, verdict := verdict, varg := varg, pkt := takeDesc h, far := none })
    (dropPreempt t s)

/-- A run ends with DROP for a cause of its own (R310, R312, R314, R316, R318). -/
def dropRun (t : Nat) (s : State) : State := endRun t false 1 0 s

/-- FAULT (R316, R320). -/
def faultRun (t : Nat) (s : State) : State :=
  let l := (s.th t).live
  let c := thCluster t
  dropRun t (raiseLim 1000 0 9 1 c (l.fipc % 4096 + 65536 * c + 2 ^ 20 * (l.upc % 4096)) (count (Cnt.ENG_FAULT c) s))

/-! ### Dispatch and the start of a run -/

/-- The FI at a FIPC (R293). -/
def State.fiAt (s : State) (fipc : Nat) : Word32 := BitVec.ofNat 32 (datU (s.tblGet 0x5E fipc) 0 4)

/-- DISP NEXT and DISP JUMP (R295, R306): the FI is fetched and its routine started. Opcode 0x00 has none, whatever the image holds. -/
def dispatchFi (t fipc : Nat) (s : State) : State :=
  if 4095 < fipc then faultRun t s else
    let fi := s.fiAt fipc
    let s := updLive t (fun l => { l with fipc := fipc, fi := fi }) s
    match (if fi.toNat / 2 ^ 24 = 0 then none else s.eng.disp.get (fi.toNat / 2 ^ 24)) with
    | none => faultRun t s
    | some u => updLive t (fun l => { l with upc := u }) s

/-- The service parameters of a run's clove (R239): those of its PROFILE, or zeros without a clove. -/
def State.runParam (s : State) (t : Nat) (h : Thread) : Dat :=
  match h.clove with
  | some idx => s.svcParam (cvProfile (s.cloveNow (thCluster t) idx))
  | none => 0

/-- A pre-emption of a thread that has been accepted and not yet taken (R315). -/
def State.preempts (s : State) (t : Nat) : Bool :=
  match s.eng.pre with
  | some (k, _, taken) => k == t && !taken
  | none => false

/-- A run starts (R286). A pre-emption accepted before it stays pending (R315). -/
def startRun (t fipc : Nat) (s : State) : State :=
  let s := updTh t (fun h => { h with wait := .ready, started := true, live := {}, save := {}, tm := false, cause := 0,
                                      pending := if s.preempts t then 4 else 0, trapUsed := 0, maps := [], pushed := 0, pulled := 0 }) s
  let s := updTh t (fun h => { h with desc := s.buildDesc t h, sp := s.runParam t h,
                                      seg := if h.keyed then tcpSeg h.prof h.pkt h.key else none }) s
  dispatchFi t fipc (count (Cnt.ENG_RUNS (thCluster t)) s)

/-! ### The no-state action (R225) -/

/-- A packet takes the partition's no-state action: ACT 3 runs a program without a clove, and the others decide the
packet at once (R131, R225), so that a pre-emption accepted for its thread finds no run (R315). -/
def noState (i t : Nat) (s : State) : State :=
  let e := s.tblGet 0x25 (s.regF (Reg.FSE_PART_CFG i) 11 8)
  let h := s.th t
  let s := countC h.pkt.cls (Cnt.FSE_NOSTATE i) s
  let fin := fun (v a : Nat) => updTh t (fun h => { h with wait := .ended, verdict := v, varg := a }) (dropPreempt t s)
  match datB e 0 0 2 with
  | 0 => fin 1 0
  | 1 => fin 2 (datB e 1 0 4)
  | 2 => if !h.egress && h.pkt.recirc.isSome then fin 3 (h.pkt.recirc.getD 0) else fin 0 0
  | _ => startRun t (datU e 2 2 % 4096) s

end Sys2Proof.Machine
end

