-- ==== Sys2Proof/Machine/Bulb.lean ====
section
/-! DEFINITION. The flow engine at work: lookups (R217), locks (R214, R215), learning and eviction (R219 to R226), ageing
(R229, R230), poison marks (R216) and the withdrawal of a retired channel (R233). -/
namespace Sys2Proof.Machine

/-- The attributes of an event on a clove (R510). -/
def flowAttr (i master idx : Nat) : Attr := { master := some master, tbl := some (0x20 + i), idx := some idx }

/-! ### Locks -/

/-- A request for a clove's line (R214). -/
def lockRequest (i idx t : Nat) (shared : Bool) (s : State) : State :=
  let wait : Bool := match s.line i idx with
    | some l => !(l.fifo.isEmpty && (l.lock == .free || (shared && (match l.lock with | .shared _ => true | _ => false))))
    | none => false
  let s := updLine i idx (fun l => { l with fifo := l.fifo ++ [{ thread := t, shared }] }) s
  let s := updTh t (fun h => { h with wait := .lock, shared }) s
  if wait then countC (s.th t).pkt.cls (Cnt.FSE_LOCK_WAIT i) s else s

/-- The profile of a clove as a lookup sees it (R207): the entry that stood when the lookup began. -/
def State.profileFor (s : State) (h : Thread) (k : Nat) : Dat :=
  if k = h.profile then h.prof else (h.profs.lookup k).getD (s.profile k)

/-- Whether the profile of a clove shares its lock for a lookup (R214). -/
def State.cloveShared (s : State) (h : Thread) (i idx : Nat) : Bool := profShared (s.profileFor h (cvProfile (s.cloveNow i idx)))

/-- The hit update (R215). The length of a packet that came whole or whose tail still arrives is that of its bytes so far. -/
def hitUpdate (s : State) (h : Thread) (c : Clove) : Clove :=
  let prof := s.profileFor h (cvProfile c)
  let c := datPut c 54 2 s.ageStamp
  if !profCount prof then c else
    let c := datPut (datPut c 96 5 ((datU c 96 5 + 1) % 2 ^ 40)) 101 6 ((datU c 101 6 + s.pktLen h.pkt + 4) % 2 ^ 48)
    let c := datPut c 114 6 (s.now / 1000 % 2 ^ 48)
    match tcpFlags prof h.pkt h.key with
    | some f => datPut c 107 1 (datU c 107 1 ||| f)
    | none => c

/-- The first request of a line is granted: hit update, and the run starts (R214, R215, R286). -/
def doLockGrant (i idx : Nat) (s : State) : State :=
  match s.line i idx with
  | none => s
  | some l =>
    match l.fifo with
    | [] => s
    | r :: rest =>
      let k : Option Lock := match l.lock with
        | .free => some (if r.shared then .shared [r.thread] else .excl r.thread)
        | .shared ts => if r.shared then some (.shared (ts ++ [r.thread])) else none
        | .excl _ => none
      match k with
      | none => s
      | some k =>
        let t := r.thread
        let c := hitUpdate s (s.th t) l.clove
        let s := updLine i idx (fun l => { l with lock := k, fifo := rest, clove := c, dirty := true }) (touchLine i idx s)
        let counted := profCount (s.profileFor (s.th t) (cvProfile c))
        let s := updTh t (fun h => { h with
          clove := some idx, shared := r.shared,
          pkt := if h.egress then
              (if counted then { h.pkt with egrClove := some (i, idx), egrGen := cvGen c } else h.pkt)
            else { h.pkt with clove := some (i, idx), gen := cvGen c, counted := counted } }) s
        startRun t (cvProgram c) s

/-- LOCK_GRANT (R214). -/
def execLockGrant (part : Nat) (idx : Nat) (s : State) : Res :=
  coreCmd (fun s => if part < 4 then doLockGrant part idx s else s) s

/-! ### The start of a lookup -/

/-- The profile of a lookup (R208). -/
def State.lookupProfile (s : State) (i : Nat) (egress : Bool) (p : Pkt) : Nat :=
  if !egress then p.flowProfile
  else match p.egrProfile with
    | some k => k
    | none => if p.natOwner then s.regF (Reg.FSE_OWNER_CFG i) 7 0 else s.regF (Reg.FSE_EGR_CFG (p.port % 32)) 7 0

/-- The FRAGMENT key of a packet (R241). -/
def fragmentKey (k : Pkt) (key : BitVec 384) (at_ : Nat) : BitVec 384 :=
  bvOfBytes 384 ([0x11] ++ leBytes 1 (datU key 1 1) ++ leBytes 2 (datU key 2 2) ++
    padTo 16 (List.replicate 10 0 ++ [0xFF, 0xFF] ++ slice k.bytes (at_ + 12) 4) ++
    padTo 16 (List.replicate 10 0 ++ [0xFF, 0xFF] ++ slice k.bytes (at_ + 16) 4) ++ [0, 0, 0, 0, 0] ++
    slice k.bytes (at_ + 4) 2)

/-- The IPv4 header that keys a packet, where the packet is a non-first fragment (R258). -/
def nonFirst (prof : Dat) (k : Pkt) : Option Nat :=
  match ipHeader prof k.parse with
  | none => none
  | some n =>
    let x := k.parse.hdrs.getD n (0, 0)
    if x.1 == datU prof 12 1 && beVal (slice k.bytes (x.2 + 6) 2) % 8192 != 0 then some x.2 else none

/-- An inbound non-first fragment of a NAT44 profile without its FRAGMENT clove is counted (R258). -/
def countEarlyFragment (i t : Nat) (s : State) : State :=
  let h := s.th t
  match nonFirst h.prof h.pkt with
  | none => s
  | some at_ =>
    if h.egress && h.keyed && spService (s.svcParam h.profile) == 1 && (findClove s i (fragmentKey h.pkt h.key at_)).isNone then
      countC h.pkt.cls (Cnt.FSE_NAT_FRAG_EARLY i) s
    else s

/-- Whether an IPv6 packet carries a fragment header that fragments it: the walk of the headers after the IPv6 header, by their Next
Header bytes; the first argument is the byte that names the next of them. -/
def v6Fragment (bs : List Byte) : Nat → List (Nat × Nat) → Bool
  | _, [] => false
  | nh, h :: r =>
    if nh = 44 then beVal (slice bs (h.2 + 2) 2) / 8 != 0 || beVal (slice bs (h.2 + 2) 2) % 2 == 1
    else if nh = 0 ∨ nh = 43 ∨ nh = 60 then v6Fragment bs (byteAt bs h.2).toNat r else false

/-- The packet is an IP fragment, the first one included. -/
def isFragment (prof : Dat) (k : Pkt) : Bool :=
  match ipHeader prof k.parse with
  | none => false
  | some n =>
    let x := k.parse.hdrs.getD n (0, 0)
    if x.1 = datU prof 12 1 then beVal (slice k.bytes (x.2 + 6) 2) % 16384 != 0
    else v6Fragment k.bytes (byteAt k.bytes (x.2 + 6)).toNat (k.parse.hdrs.drop (n + 1))

/-- Protocol and offset of what follows the headers of an IPv6 packet; the first argument bounds the extension headers. -/
def v6Upper (bs : List Byte) : Nat → Nat → Nat → Nat × Nat
  | 0, nh, o => (nh, o)
  | n + 1, nh, o =>
    if nh = 0 ∨ nh = 43 ∨ nh = 60 then v6Upper bs n (byteAt bs o).toNat (o + 8 * ((byteAt bs (o + 1)).toNat + 1))
    else if nh = 44 then v6Upper bs n (byteAt bs o).toNat (o + 8)
    else (nh, o)

/-- The packet is an inbound ICMP error (R259): IPv4 types 3, 11 and 12, or under NAT64 ICMPv6 types 1 to 4. Whether it is ICMPv6, and
where its embedded packet begins. -/
def icmpError (nat64 : Bool) (prof : Dat) (k : Pkt) : Option (Bool × Nat) :=
  match ipHeader prof k.parse with
  | none => none
  | some n =>
    let x := k.parse.hdrs.getD n (0, 0)
    if x.1 = datU prof 12 1 then
      let l4 := x.2 + 4 * ((byteAt k.bytes x.2).toNat % 16)
      let ty := (byteAt k.bytes l4).toNat
      if (byteAt k.bytes (x.2 + 9)).toNat = 1 ∧ (nonFirst prof k).isNone ∧ (ty = 3 ∨ ty = 11 ∨ ty = 12) then some (false, l4 + 8)
      else none
    else
      let u := v6Upper k.bytes 8 (byteAt k.bytes (x.2 + 6)).toNat (x.2 + 40)
      let ty := (byteAt k.bytes u.2).toNat
      if nat64 = true ∧ u.1 = 58 ∧ 1 ≤ ty ∧ ty ≤ 4 then some (true, u.2 + 8) else none

/-- The reverse clove's key for the packet that an ICMP error embeds at an offset (R259): its protocol, source address and source port, or
the identifier of an embedded ICMP query. -/
def embeddedKey (key : BitVec 384) (k : Pkt) (v6 : Bool) (e : Nat) : BitVec 384 :=
  let u := if v6 then v6Upper k.bytes 8 (byteAt k.bytes (e + 6)).toNat (e + 40)
    else ((byteAt k.bytes (e + 9)).toNat, e + 4 * ((byteAt k.bytes e).toNat % 16))
  let saddr := if v6 then slice k.bytes (e + 8) 16 else List.replicate 10 0 ++ [0xFF, 0xFF] ++ slice k.bytes (e + 12) 4
  bvOfBytes 384 ([4, BitVec.ofNat 8 u.1] ++ leBytes 2 (datU key 2 2) ++ List.replicate 16 0 ++ padTo 16 saddr ++ [0, 0] ++
    padTo 2 (slice k.bytes (if u.1 = 1 ∨ u.1 = 58 then u.2 + 4 else u.2) 2) ++ leBytes 1 (b2n (!v6) + 2))

/-- The clove that the no-state program of a NAT profile looks up at egress (R258, R259): the key of the reverse clove for an ICMP error, of
the FRAGMENT clove for an inbound non-first fragment, and of the SUBSCRIBER clove for an outbound one. The device makes the lookup, since no
micro-operation looks a clove up by its key (DESIGN CHOICE, assumption 57). -/
def State.programKey (s : State) (h : Thread) : Option (BitVec 384) :=
  let sv := spService (s.svcParam h.profile)
  if !h.egress || !h.keyed then none
  else match (if sv = 1 ∨ sv = 2 then icmpError (sv == 2) h.prof h.pkt else none), nonFirst h.prof h.pkt with
    | some e, _ => some (embeddedKey h.key h.pkt e.1 e.2)
    | none, some at_ =>
      let sp := s.svcParam h.pkt.flowProfile
      if sv = 1 then some (fragmentKey h.pkt h.key at_)
      else if !h.pkt.fabric && spService sp == 1 then
        (buildKey (s.profile h.pkt.flowProfile) h.pkt false).map (fun k => subscriberKey k (datU sp 9 1))
      else none
    | none, none => none

/-- An inbound ICMP error under a NAT profile whose embedded packet matches no mapping (R259). -/
def State.icmpUnmatched (s : State) (i : Nat) (h : Thread) : Bool :=
  let sv := spService (s.svcParam h.profile)
  h.egress && h.keyed && (sv == 1 || sv == 2) && datB (s.tblGet 0x25 (s.regF (Reg.FSE_PART_CFG i) 11 8)) 0 0 2 == 3 &&
    (icmpError (sv == 2) h.prof h.pkt).isSome && ((s.programKey h).bind (findClove s i)).isNone

/-- The no-state program finds bytes 48 to 127 of the clove it looks up at scratch byte 128, where PEEK leaves them, and zeros where there
is none (R258, R259; DESIGN CHOICE, assumption 57). -/
def giveClove (i t : Nat) (c : Option Nat) (s : State) : State :=
  match c with
  | some idx => updTh t (fun h => if h.started then { h with scratch := datPut h.scratch 128 80 ((s.cloveNow i idx) >>> 384).toNat } else h) s
  | none => s

/-- A lookup takes the no-state action (R225); an ICMP error that matches no mapping is dropped (R259). -/
def lookupNoState (i t : Nat) (s : State) : State :=
  if s.icmpUnmatched i (s.th t) then
    updTh t (fun h => { h with wait := .ended, verdict := 1 })
      (dropPreempt t (countC (s.th t).pkt.cls (Cnt.FSE_NAT_ICMP_DROP i) (countC (s.th t).pkt.cls (Cnt.FSE_NOSTATE i) s)))
  else giveClove i t ((s.programKey (s.th t)).bind (findClove s i)) (noState i t (countEarlyFragment i t s))

/-- A fragment under a NAT64 profile is punted to FAIL_CONDUIT (R257). -/
def puntFragment (t : Nat) (s : State) : State :=
  updTh t (fun h => { h with wait := .ended, verdict := 2, varg := datU (s.svcParam h.profile) 25 1 % 16 }) (dropPreempt t s)

/-- The line that a key hits (R217 step 2). -/
def State.cacheHit (s : State) (i : Nat) (key : BitVec 384) (h : Nat) : Option Line :=
  (s.part.get i).lines.find? (fun l => l.set == hashSet h && cvValid l.clove && cvKey l.clove == key)

/-- A packet's flow lookup begins (R217, R218, R284). An outbound non-first fragment of a NAT44 profile takes the no-state path (R258). -/
def doFseLookup (i : Nat) (egress : Bool) (s : State) : State :=
  let q := 2 * i + b2n egress
  match s.fseq.get q with
  | [] => s
  | p :: rest =>
    match s.freeThread i egress with
    | none => countC p.cls (Cnt.ENG_NO_THREAD i) s
    | some t =>
      let pn := s.lookupProfile i egress p
      let prof := s.profile pn
      let key := if profValid prof then buildKey prof p egress else none
      let hash := match key with | some k => s.hashOf i k | none => 0
      let hit := key.bind (fun k => s.cacheHit i k hash)
      if key.isSome && hit.isNone && decide (1024 ≤ (s.part.get i).misses.length) then countC p.cls (Cnt.FSE_PMQ_FULL i) s
      else
        let p := { p with stEntry := s.now % 2 ^ 32 }
        let th : Thread := { wait := .miss, egress, order := s.eng.nextOrder, pkt := p, key := key.getD 0,
                             keyed := key.isSome, profile := pn, prof := prof, hash := hash }
        let s := updEng (fun e => { e with th := e.th.set t th, nextOrder := e.nextOrder + 1 })
          { s with fseq := s.fseq.set q rest }
        let s := countC p.cls (Cnt.FSE_LOOKUP i) s
        if !profValid prof then lookupNoState i t s
        else if spService (s.svcParam pn) = 2 ∧ isFragment prof p = true then puntFragment t s
        else if egress = false ∧ spService (s.svcParam pn) = 1 ∧ (nonFirst prof p).isSome = true then lookupNoState i t s
        else match key with
          | none => lookupNoState i t (countC p.cls (Cnt.FSE_NO_KEY i) s)
          | some _ =>
            match hit with
            | some l => lockRequest i l.idx t (s.cloveShared th i l.idx) (countC p.cls (Cnt.FSE_HIT i) s)
            | none => enterMiss i t s

/-- FSE_LOOKUP (R217). -/
def execFseLookup (part : Nat) (egress : Bool) (s : State) : Res :=
  coreCmd (fun s => if part < 4 then doFseLookup part egress s else s) s

/-! ### Misses -/

def updMiss (i k : Nat) (f : Miss → Miss) (s : State) : State :=
  updPart i (fun p => { p with misses := p.misses.modify k f }) s

/-- A miss leaves the queue, and the lookup that has waited longest for a place enters it (R218). -/
def dropMiss (i k : Nat) (s : State) : State := admitHeld i (updPart i (fun p => { p with misses := p.misses.eraseIdx k }) s)

/-- A miss that cannot be learned: every merged lookup takes the no-state action (R226). -/
def missFails (i k : Nat) (m : Miss) (s : State) : State :=
  m.threads.foldl (fun s t => lookupNoState i t s) (dropMiss i k s)

/-- A bucket of the miss has changed since it was read (R217). -/
def missStale (s : State) (m : Miss) : Bool :=
  (s.dir.get m.b1).version != m.v1 || (s.dir.get m.b2).version != m.v2

/-- The miss begins again at step 5 (R217). -/
def missRestart (i k : Nat) (s : State) : State :=
  updMiss i k (fun m => { m with stage := .reading }) (count (Cnt.FSE_RESTART i) s)

/-- The lock requests of the merged lookups in arrival order; the one that learned is exclusive (R214, R217). -/
def missGrants (i idx : Nat) (m : Miss) (learned : Bool) (s : State) : State :=
  m.threads.zipIdx.foldl (fun s x =>
    let first := learned && x.2 == 0
    let s := if first then updTh x.1 (fun h => { h with learned := true }) s else s
    lockRequest i idx x.1 (!first && s.cloveShared (s.th x.1) i idx) s) s

/-- A found or learned clove is installed, or waits for a way (R213, R217). -/
def missInstall (i k : Nat) (m : Miss) (idx : Nat) (c : Clove) (dirty learned : Bool) (s : State) : State :=
  let there := (s.line i idx).isSome
  match (if there then some s else installLine i { idx := idx, set := hashSet m.hash, clove := c, dirty := dirty } s) with
  | some s => missGrants i idx m learned (dropMiss i k s)
  | none =>
    let fresh := match m.stage with | .install .. => false | _ => true
    let s := updMiss i k (fun m => { m with stage := .install idx c dirty learned }) s
    if fresh then count (Cnt.FSE_SET_FULL i) s else s

/-- Whether the partition's learn limit admits one more learn in this ms (R220). -/
def State.learnRoom (s : State) (i : Nat) : Bool :=
  let w := (s.part.get i).learnWin
  decide ((if w.1 = s.now / 1000000 then w.2 else 0) < min 62500 (s.regF (Reg.FSE_LEARN_RATE i) 15 0))

/-- A learn is charged to the limit (R220). -/
def chargeLearn (i : Nat) (s : State) : State :=
  let ms := s.now / 1000000
  updPart i (fun p => { p with learnWin := (ms, (if p.learnWin.1 = ms then p.learnWin.2 else 0) + 1) }) s

/-- The slots of a bucket that may be evicted (R223). -/
def State.eligible (s : State) (i b : Nat) : List DirSlot :=
  (s.dir.get b).slots.filter (fun x => !x.pinned && !s.locked i x.idx)

/-- The victim of an eviction: its bucket and slot (R223). -/
def chooseVictim (i b1 b2 : Nat) (s : State) : Option (Nat × DirSlot) × State :=
  let e1 := s.eligible i b1
  let e2 := s.eligible i b2
  let all := e1.map (fun x => (b1, x)) ++ e2.map (fun x => (b2, x))
  match all with
  | [] => (none, s)
  | v :: _ =>
    if bit (s.reg (Reg.FSE_PART_CFG i)) 0 then
      (if e1.length < e2.length then (e2.head?.map (fun x => (b2, x)), s) else (e1.head?.map (fun x => (b1, x)), s))
    else
      let d := draw s
      (some (all.getD (Config.pick d.1 % all.length) v), d.2)

/-- The clove that a learn writes (R221), by the profile's entry as the lookup read it. -/
def learnedClove (s : State) (key : BitVec 384) (profile : Nat) (p : Dat) : Clove :=
  let c := datPutB (cvOfKey key) 48 1 1 (b2n (profPin p))
  let c := datPut (datPut (datPut c 51 1 profile) 52 2 (datU p 2 2 % 4096)) 54 2 s.ageStamp
  datPut (datPut c 56 4 s.ms) 108 6 (s.now / 1000 % 2 ^ 48)

/-- A flow takes a slot and an index (R221). -/
def learnAt (i k : Nat) (m : Miss) (b slot idx : Nat) (s : State) : State :=
  let g := nextGen i s
  let c := learnedClove g.2 m.key m.profile m.prof
  let s := placeClove i b slot idx (hashTag m.hash) g.1 c g.2
  let s := countA (flowAttr i 3 idx) (Cnt.FSE_LEARN i) 1 (chargeLearn i s)
  let s := (m.threads.filter (fun t => (s.th t).raced)).foldl (fun s t => countC (s.th t).pkt.cls (Cnt.FSE_AGE_RACE i) s) s
  missInstall i k m idx (s.clove.get idx) true true s

/-- A miss that matched nothing is learned, or fails (R219 to R226, R233). Each of its packets counts in the counter of the cause
(R225). A victim whose clove cannot be read is lost, and the lookup begins again (R232). -/
def missLearn (i k : Nat) (m : Miss) (ue : Bool) (s : State) : State :=
  let cause := fun (c : Nat) => countA { master := some 3, tbl := some (0x20 + i) } c m.threads.length
  if (s.dir.get m.b1).gone && (s.dir.get m.b2).gone then missFails i k m (cause (Cnt.FSE_NO_BUCKET i) s)
  else if !profLearn m.prof || !(s.md.mode == .service || s.md.mode == .headless) then missFails i k m s
  else if !s.learnRoom i then missFails i k m (raiseLim 1 i 8 1 i i (cause (Cnt.FSE_LEARN_LIMIT i) s))
  else if profPin m.prof && !s.pinRoom i then missFails i k m (raiseLim 1 i 8 6 i i (cause (Cnt.FSE_PIN_LIMIT i) s))
  else
    match freeBucket s m.b1 m.b2, takeIndex i s with
    | some (b, slot), some (idx, s) => learnAt i k m b slot idx s
    | _, _ =>
      match chooseVictim i m.b1 m.b2 s with
      | (none, s) => missFails i k m (raiseLim 1 i 8 2 i i (cause (Cnt.FSE_INSERT_FAIL i) s))
      | (some (b, x), s) =>
        if s.readFails i x.idx ue then updMiss i k (fun m => { m with stage := .reading }) (loseClove i x.idx none s)
        else
          let s := countA (flowAttr i 3 x.idx) (Cnt.FSE_EVICT i) 1 (deleteClove 3 i x.idx 3 false s)
          learnAt i k m b x.slot x.idx s

/-- A clove whose tag matched is compared by its full key, the next one is read, or the flow is learned (R217 steps 6
to 8). -/
def missCandidates (i k : Nat) (m : Miss) (rest : List Nat) (ue : Bool) (s : State) : State :=
  if !rest.isEmpty then updMiss i k (fun m => { m with stage := .candidates rest }) s
  else if missStale s m then missRestart i k s else missLearn i k m ue s

/-- The candidate buckets of a miss arrive (R217 step 5, R232); the last argument is the outcome of the read of an evicted clove. -/
def doDirectoryRead (i k : Nat) (ue1 ue2 ue : Bool) (s : State) : State :=
  match (s.part.get i).misses[k]? with
  | some m =>
    if m.stage ≠ .reading then s else
      let s := readBucket i m.b2 ue2 (readBucket i m.b1 ue1 s)
      let d1 := s.dir.get m.b1
      let d2 := s.dir.get m.b2
      let m := { m with v1 := d1.version, v2 := d2.version }
      let s := updMiss i k (fun _ => m) s
      let cs := ((d1.slots ++ d2.slots).filter (fun x => x.tag == hashTag m.hash)).map DirSlot.idx
      missCandidates i k m cs ue s
  | none => s

/-- DIRECTORY_READ (R217). -/
def execDirectoryRead (part : Nat) (k : Nat) (ue1 : Bool) (ue2 : Bool) (ue : Bool) (s : State) : Res :=
  coreCmd (fun s => if part < 4 then doDirectoryRead part k ue1 ue2 ue s else s) s

/-- A clove read of a miss returns (R217 steps 6 and 7, R232); `victim` is the outcome of the read of an evicted clove. -/
def doCloveRead (i k : Nat) (ue victim : Bool) (s : State) : State :=
  match (s.part.get i).misses[k]? with
  | some m =>
    (match m.stage with
    | .candidates (idx :: rest) =>
      if s.readFails i idx ue then updMiss i k (fun m => { m with stage := .reading }) (loseClove i idx (some m.key) s)
      else
        let c := s.cloveNow i idx
        if cvValid c && cvKey c == m.key then
          (if missStale s m then missRestart i k s
           else missInstall i k m idx c false false (count (Cnt.FSE_FILL i) s))
        else missCandidates i k m rest victim s
    | _ => s)
  | none => s

/-- CLOVE_READ (R217). -/
def execCloveRead (part : Nat) (k : Nat) (ue : Bool) (victim : Bool) (s : State) : Res :=
  coreCmd (fun s => if part < 4 then doCloveRead part k ue victim s else s) s

/-- A waiting install finds a way (R213); a found clove whose buckets have changed is looked up again (R217), and one that
a learn wrote is installed as it now stands. -/
def doLineInstall (i k : Nat) (s : State) : State :=
  match (s.part.get i).misses[k]? with
  | some m =>
    (match m.stage with
    | .install idx _ dirty learned =>
      let c := s.cloveNow i idx
      if (!learned && missStale s m) || !(cvValid c && cvKey c == m.key) then missRestart i k s
      else missInstall i k m idx c dirty learned s
    | _ => s)
  | none => s

/-- LINE_INSTALL (R213). -/
def execLineInstall (part : Nat) (k : Nat) (s : State) : Res :=
  coreCmd (fun s => if part < 4 then doLineInstall part k s else s) s

/-! ### Ageing -/

/-- The scanner's modes (R231). -/
def State.scanRuns (s : State) : Bool := s.md.mode == .service || s.md.mode == .headless || s.md.mode == .drain

/-- The lookups that an ageing delete of a clove turns into learns (R231, R238): those of its key that had read the buckets, and those that
waited for its line. -/
def State.agedLookups (s : State) (i idx : Nat) : List Nat :=
  let key := cvKey (s.cloveNow i idx)
  (((s.part.get i).misses.filter (fun m => m.key == key && m.stage != .reading)).map Miss.threads).flatten ++
    (match s.line i idx with | some l => l.fifo.map LockReq.thread | none => [])

/-- An ageing delete commits (R230, R231, R254), or fails and is counted. -/
def ageDelete (i idx reason cnt : Nat) (ok : Bool) (s : State) : State :=
  let c := s.cloveNow i idx
  let at_ := flowAttr i 4 idx
  if ok && !s.locked i idx && ageAdmits c then
    (s.agedLookups i idx).foldl (fun s t => updTh t (fun h => { h with raced := true }) s) (countA at_ cnt 1 (endClove i idx reason s))
  else countA at_ (Cnt.FSE_AGE_SAVED i) 1 s

/-- The scanner visits its next clove (R229, R230, R232, R550). A clove that a rewritten bucket no longer names is reclaimed (R232). Of a
clove that stands in the flow cache, uncorrectable HBM data are discarded and the clove is kept (DEDUCED). -/
def doFseAgeVisit (i : Nat) (ue : Bool) (s : State) : State :=
  let n := s.cloves i
  let off := (s.part.get i).sweep
  let idx := s.cloveBase i + off
  if !s.scanRuns then s else
    let due := paceDue (s.regF (Reg.FSE_PART_CFG i) 31 16 * 1000000000) n off (s.part.get i).visitAt
    let s := updPart i (fun p => { p with sweep := (off + 1) % max 1 n, visitAt := due }) (runTo due s)
    let c := s.clove.get idx
    if s.readFails i idx ue then loseClove i idx none s
    else if ue || s.cloveBad i idx || !cvValid c then s else
      let d := cvDirSlot c
      let back := (s.dir.get (d / 8)).slots.any (fun x => x.slot == d % 8 && x.idx == idx)
      if !back then endClove i idx 7 s
      else
        let prof := s.profile (cvProfile c)
        let cur := s.cloveNow i idx
        let same := cvValid cur && cvGen cur == cvGen c
        let q := s.ageStamp
        let a := (q + 65536 - cvAge c) % 65536
        let l := (s.ms + 2 ^ 32 - cvCreated c) % 2 ^ 32
        let at_ := flowAttr i 4 idx
        let cond := same && cvAge cur == cvAge c
        let s := if 2 ^ 31 ≤ l then
            (if cond && !s.locked i idx then
              countA at_ (Cnt.FSE_AGE_FUTURE i) 1 (updClove i idx (fun c => datPut c 56 4 s.ms) s) else s)
          else s
        if 32768 ≤ a then
          (if cond && !s.locked i idx then
            countA at_ (Cnt.FSE_AGE_FUTURE i) 1 (updClove i idx (fun c => datPut c 54 2 q) s) else s)
        else if datU prof 4 2 ≠ 0 ∧ datU prof 4 2 < a then ageDelete i idx 1 (Cnt.FSE_AGE_IDLE i) cond s
        else if datU prof 6 2 ≠ 0 ∧ datU prof 6 2 * 1000 ≤ l ∧ l < 2 ^ 31 then
          ageDelete i idx 2 (Cnt.FSE_AGE_LIFETIME i) same s
        else s

/-- FSE_AGE_VISIT (R229). -/
def execFseAgeVisit (part : Nat) (ue : Bool) (s : State) : Res :=
  coreCmd (fun s => if part < 4 then doFseAgeVisit part ue s else s) s

/-! ### Poison marks and withdrawal -/

/-- A poison mark leaves for the controller (R216). -/
def sendMark (c : Option (Nat × Nat)) (gen : Nat) (s : State) : State :=
  match c with
  | some (i, idx) => if i < 4 then updPart i (fun p => { p with marks := p.marks ++ [(idx, gen)] }) s else s
  | none => s

/-- The oldest mark reaches the controller (R216). -/
def doPoisonMark (i : Nat) (s : State) : State :=
  match (s.part.get i).marks with
  | [] => s
  | (idx, gen) :: rest =>
    let s := count (Cnt.FSE_POISON_MARK i) (updPart i (fun p => { p with marks := rest }) s)
    if s.cloveIs i idx gen then updClove i idx (fun c => datPut c 124 2 (min 0xFFFF (datU c 124 2 + 1))) s else s

/-- POISON_MARK (R216). -/
def execPoisonMark (part : Nat) (s : State) : Res :=
  coreCmd (fun s => if part < 4 then doPoisonMark part s else s) s

/-- A slot whose clove lies in the retired channel is deleted with its clove, or at the release of its lock (R228, R233). -/
def withdrawSlot (i b : Nat) (x : DirSlot) (s : State) : State :=
  clearSlot (8 * b + x.slot) x.idx (deleteClove 3 i x.idx 8 false s)

/-- The part of a withdrawal that falls on one partition; the number of its cloves. -/
def withdrawPart (pc i : Nat) (s : State) : Nat × State :=
  let lo := s.bucketBase i
  let hi := lo + s.bucketCount i
  let ds := (s.dir.pairsIn lo hi).map (fun c => (c.1, c.2.slots.filter (fun x => clovePc x.idx == pc)))
  let n := (ds.map (fun d => d.2.length)).sum
  let s := ds.foldl (fun s d => d.2.foldl (fun s x => withdrawSlot i d.1 x s) s) s
  -- The channel's free indices count as used from now on, and its buckets move to the spare while that lasts.
  let cut := fun (rs : List (Nat × Nat)) =>
    ((rs.map (fun r => (List.range r.2).map (fun k => r.1 + k))).flatten.filter (fun k => clovePc k != pc)).foldl runsPush []
  let spare := decide ((s.part.get i).spareChans < 19)
  let s := updPart i (fun p => { p with freeCache := cut p.freeCache, freeBits := cut p.freeBits,
                                        dirCache := p.dirCache.filter (fun b => bucketPc b != pc),
                                        spareChans := p.spareChans + b2n spare, withdrawn := pc :: p.withdrawn }) s
  let bs := ((List.range (hi - lo)).map (fun k => lo + k)).filter (fun b => bucketPc b == pc)
  (n, bs.foldl (fun s b => updBucket b (fun d => { d with slots := [], gone := !spare }) s) s)

/-- FSE finishes withdrawing the cloves and buckets of a channel that HMC has retired (R233, R237). -/
def doChannelWithdrawn (pc : Nat) (s : State) : State :=
  if s.pcRetired pc && !(s.part.get 0).withdrawn.contains pc then
    let r := (List.range 4).foldl (fun r i => let q := withdrawPart pc i r.2; (r.1 + q.1, q.2)) (0, s)
    raise 8 5 pc (pc + 256 * min r.1 0xFFFFFF) r.2
  else s

/-- CHANNEL_WITHDRAWN (R233). -/
def execChannelWithdrawn (pc : Nat) (s : State) : Res := coreCmd (doChannelWithdrawn pc) s

end Sys2Proof.Machine
end

