-- ==== Sys2Proof/Machine/Sched.lean ====
section
/-! DEFINITION. The traffic manager's admission and selection (R380, R381, R390 to R394), and cut-through into a queue
(R326, R354). -/
namespace Sys2Proof.Machine

/-! ### Entering a queue (R326, R354) -/

/-- MAX_FRAME for a reservation (R326): the ingress port's, or 9,216 for another input. -/
def State.reserveFrame (s : State) (inp : Nat) (p : Pkt) : Nat :=
  if inp < 4 then s.regF (Reg.LPC_PORT_CFG p.inPort) 13 0 else 9216

/-- Whether SWC_CT_EN enables cut-through and the queue holds no packet (R326, R354). -/
def State.wantsCut (s : State) (leaf : Bool) (q inp cls : Nat) : Bool :=
  bit (s.reg (Reg.SWC_CT_EN inp)) (cls % 8) && (s.pqueue leaf q).items.isEmpty && !s.asking leaf q &&
    !s.buf.staged.any (fun t => t.leaf == leaf && t.queue == q)

/-- Cells that a cut-through packet reserves at its head (R326). -/
def State.reserveCells (s : State) (inp : Nat) (p : Pkt) : Nat := cdiv (s.reserveFrame inp p) 256

/-- The reservation of a cut-through packet fits under the static limit and into the free cells (R324, R326). -/
def State.reserveFits (s : State) (inp : Nat) (p : Pkt) : Bool :=
  decide (s.pbfUsed inp (p.cls % 8) + s.reserveCells inp p ≤ s.regF (Reg.PBF_LIMIT inp (p.cls % 8)) 18 0) &&
    decide (s.reserveCells inp p ≤ s.freeCells)

/-- A poisoned packet is discarded before its transmission, and the clove that counted it at egress is marked (R357). -/
def poisonDrop (p : Pkt) (s : State) : State := sendMark p.egrClove p.egrGen (countC (p.cls % 8) Cnt.SWC_POISON_DROP s)

/-- The tail of a packet that a queue links cut-through takes no staging cells any more: the reservation holds it (R326). -/
def linkTailCut (t : Option Nat) (s : State) : State :=
  match t with
  | none => s
  | some n =>
    let x := s.swc.tails.get n
    subStage x.inp x.held { s with swc := { s.swc with tails := s.swc.tails.set n { x with held := 0, linked := true } } }

/-- A packet is linked cut-through (R326, R354). The cells that it reserves at its head are released at its tail, here at once where
the tail has arrived. -/
def linkCut (leaf : Bool) (q inp : Nat) (p : Pkt) (s : State) : State :=
  let c := p.cls % 8
  let n := if s.tailOpen p then s.reserveCells inp p else pktCells p
  let s := if s.tailOpen p then linkTailCut p.tail s else s
  linkPkt leaf q { pkt := { p with cut := true }, cells := n, inp := inp, cls := c, stIn := s.now }
    (countC c Cnt.SWC_CT_PKTS (chargeCells inp c n s))

/-- A packet enters a queue through internal port `inp` (R325 to R327): cut-through where that is admitted, else it is received whole
for its placement. Of a bad packet only one whose head left cut-through goes on; others are discarded (R97, R357). -/
def enterQueue (leaf : Bool) (q inp : Nat) (p : Pkt) (s : State) : State :=
  let c := p.cls % 8
  let st := (s.tailOf p.tail).state
  if st = .gone ∨ st = .lost then dropTail p.tail s
  else
    let (p, s) := if st = .arriving then (p, s) else (s.joined p, dropTail p.tail s)
    let p := { p with inp := inp }
    let whole := fun (s : State) => if p.bad then s else stagePkt leaf q inp { p with cut := false } s
    if p.bad && p.fabric then poisonDrop p s
    else if !s.wantsCut leaf q inp c then whole s
    else if s.reserveFits inp p then linkCut leaf q inp p s
    else whole (countC c Cnt.PBF_CT_FALLBACK s)

def updExq (p : Nat) (f : List ExpFrame → List ExpFrame) (s : State) : State :=
  { s with pod := { s.pod with exq := s.pod.exq.upd p f } }

/-- The item of a leaf queue whose tail is record n, with its queue. -/
def State.leafOfTail (s : State) (n : Nat) : Option (Nat × QItem) :=
  s.buf.leaf.cells.findSome? (fun c => (c.2.items.find? (fun i => i.pkt.tail == some n)).map (fun i => (c.1, i)))

/-- The tail of a packet that went on while it arrived is whole: the cells that it reserved and does not use are released (R326). -/
def tailWhole (n : Nat) (s : State) : State :=
  match s.leafOfTail n with
  | none => s
  | some (q, it) =>
    let k := cdiv (s.pktLen it.pkt) 256
    updQueue true q (fun x => { x with items := x.items.map (fun i => if i = it then { i with cells := k } else i) })
      (chargeCells it.inp it.cls k (freeCharge it.inp it.cls it.cells s))

/-- The express frame whose tail is record n, with its port and whether it is being transmitted: the first of its port, with no
bulk frame in the transmit FIFO (R415). -/
def State.expOfTail (s : State) (n : Nat) : Option (Nat × ExpFrame × Bool) :=
  s.pod.exq.cells.findSome? (fun c => (c.2.find? (fun f => f.tail == some n)).map (fun f =>
    (c.1, f, c.2.head? == some f && (s.tms.fifo.get c.1).isEmpty && (s.port.get c.1).up)))

/-- The tail of a packet that went on while it arrived is poisoned or will not come: the packet is discarded unless it is being
transmitted (R357, R374). A packet still on its way to a queue is discarded there. -/
def tailFails (n : Nat) (poison : Bool) (s : State) : State :=
  let drop := fun (p : Pkt) (s : State) => dropTail (some n) (if poison then poisonDrop p s else s)
  match s.leafOfTail n, s.buf.staged.find? (fun t => t.pkt.tail == some n), s.expOfTail n with
  | some (q, it), _, _ => drop it.pkt (leaveQueue true q it s)
  | none, some t, _ => drop t.pkt (subStage t.inp t.cells (updBuf (fun b => { b with staged := b.staged.erase t }) s))
  | none, none, some (p, f, false) =>
    dropTail (some n) (if poison then count Cnt.SWC_POISON_DROP (updExq p (fun l => l.erase f) s) else updExq p (fun l => l.erase f) s)
  | none, none, _ => s

/-- The tail of record n ends (R356, R357). -/
def endTail (n : Nat) (st : TailState) (s : State) : State :=
  let s := { s with swc := { s.swc with tails := s.swc.tails.upd n (fun t => if t.state = .gone then t else { t with state := st }) } }
  let s := freeReserve n s
  if (s.swc.tails.get n).state = .gone then s
  else if st = .whole then tailWhole n s
  else tailFails n (st == .poisoned) s

/-! ### Admission (R380, R381) -/

/-- The leaf queue of a packet (R380): the subscriber or none, the port, and the outcome 0 OK, 1 NO_SUB, 2 MISMATCH. A frame for a
port of another octet never passed that octet's egress pipeline (R16); the spec names no counter for it, and it counts as a mismatch
(DESIGN CHOICE). -/
def State.resolveLeaf (s : State) (pipe : Nat) (p : Pkt) : Nat × Nat × Nat :=
  let sub0 := p.subscriber % 65536
  if sub0 = 0 ∧ p.natOwner = true then (0, 0, 1) else
    let sub := if sub0 = 0 then datU (s.tmPort (p.port % 32)) 8 2 else sub0
    let port := s.subPort sub
    if !(tmValid (s.tmSub sub) && tmValid (s.tmService (s.subService sub)) && datB (s.tmPort port) 7 0 1 == 1) then (sub, p.port % 32, 1)
    else if !p.natOwner && decide (p.port % 32 ≠ port) then (sub, p.port % 32, 2)
    else if port / 8 ≠ pipe then (sub, port, 2)
    else (sub, port, 0)

/-- Byte limit of a colour in a drop profile (R381); colour 3 counts as red. -/
def dropLimit (d : Dat) (colour : Nat) : Nat := datU d (4 * min 2 colour) 4

/-- Bytes queued in a leaf queue, including FCS (R381, R382). -/
def State.depthBytes (s : State) (q : PQueue) : Nat := (q.items.map (fun i => s.pktLen i.pkt + 4)).sum

/-- TM_QSTATS of a queue changes: sent packets and bytes, or dropped packets (R383). -/
def addStats (q tx bytes drop : Nat) (s : State) : State :=
  let d := s.tblGet 0x46 q
  tblSet 0x46 q (datPut (datPut (datPut d 0 5 (datU d 0 5 + tx)) 5 6 (datU d 5 6 + bytes)) 11 5 (datU d 11 5 + drop)) s

/-- A packet arrives at TMS from its egress run (R380, R381). One whose subscriber names its port meets a port that is down
here (R104). -/
def tmsEnqueue (pipe : Nat) (p : Pkt) (s : State) : State :=
  let c := p.cls % 8
  match s.resolveLeaf pipe p with
  | (sub, _, 1) => raiseLim 1 pipe 0xC 2 pipe sub (countC c (Cnt.TMS_NO_SUB pipe) s)
  | (sub, port, 2) => raiseLim 1 pipe 0xC 1 pipe (sub + 65536 * (port % 32)) (countC c (Cnt.TMS_SUB_MISMATCH pipe) s)
  | (sub, port, _) =>
    let q := 8 * sub + p.queue % 8
    let e := s.tmQueue q
    if p.natOwner && !(s.port.get (port % 32)).up then countC c (Cnt.LPC_TX_DOWN_DROP (port % 32)) s
    else if datB e 2 0 1 = 0 then countC c (Cnt.TMS_Q_OFF pipe) s else
      let d := s.tblGet 0x45 (datB e 0 4 4)
      let k := s.pqueue true q
      if dropLimit d p.colour < s.depthBytes k + (s.pktLen p + 4) ∨ datU d 12 4 < k.items.length + 1 then
        addStats q 0 0 1 (countC c (if p.colour = 0 then Cnt.TMS_DROP_GREEN pipe
          else if p.colour = 1 then Cnt.TMS_DROP_YELLOW pipe else Cnt.TMS_DROP_RED pipe) s)
      else enterQueue true q p.inp { p with port := port, natOwner := false } s

/-! ### Selection (R390 to R393) -/

/-- The first child at or after a pointer, cyclically. -/
def nextKid (kids : List Nat) (ptr : Nat) : Nat := ((kids.find? (fun k => decide (ptr ≤ k))).getD (kids.headD 0))

/-- A deficit round robin (R391, R392): the child that sends, the deficits, the pointer and the turn. The first argument
bounds the turns taken. -/
def drrPick (kids : List Nat) (key : Nat → Nat) (quantum size : Nat → Nat) :
    Nat → SMap Int → Nat → Nat → Option (Nat × SMap Int × Nat × Nat)
  | 0, _, _, _ => none
  | n + 1, def_, ptr, turn =>
    let k := nextKid kids ptr
    let def_ := if turn = k + 1 then def_ else def_.upd (key k) (fun d => d + (quantum k : Nat))
    if ((size k : Nat) : Int) ≤ def_.get (key k) then
      some (k, def_.upd (key k) (fun d => d - (size k : Nat)), k, k + 1)
    else drrPick kids key quantum size n def_ (k + 1) 0

/-- Keys of the deficits of the subscribers of a band and of the services of a band. -/
def subKey (band k : Nat) : Nat := 524288 + 2 * k + band
def svcKey (band v : Nat) : Nat := 655360 + 2 * v + band

/-- Frame length with FCS at the head of a leaf queue. -/
def State.headLen (s : State) (q : Nat) : Nat :=
  match (s.pqueue true q).items.head? with | some i => s.pktLen i.pkt + 4 | none => 0

/-- A packet whose tail is still arriving may start on Ethernet: START_CELLS of its cells have arrived (R356). -/
def State.startable (s : State) (t : Option Nat) (len : Nat) : Bool :=
  (s.tailOf t).state != .arriving || decide (256 * s.regF Reg.SWC_CT_CFG 5 0 ≤ len)

/-- The head of a queue lies wholly on chip (R390), or may start cut-through (R356). -/
def State.headReady (s : State) (q : Nat) : Bool :=
  match (s.pqueue true q).items.head? with
  | some i => !isSpilled i && s.startable i.pkt.tail (s.pktLen i.pkt)
  | none => false

/-- A selection at one level: the child, and the traffic manager after it. -/
abbrev Pick := Nat × TmsSt

/-- Turns that certainly reach a frame: 64 quanta of 256 bytes exceed every shaped length. -/
def drrFuel (kids : List Nat) : Nat := 64 * (kids.length + 1)

/-- A subscriber's choice of queue (R391). -/
def State.pickQueue (s : State) (t : TmsSt) (sub : Nat) : Option Pick :=
  let ready := (List.range 8).filter (fun k => s.headReady (8 * sub + k))
  if ready.contains 7 then some (7, t)
  else if ready.contains 6 then some (6, t)
  else if ready.isEmpty then none
  else
    match drrPick ready (fun k => 8 * sub + k) (fun k => 256 * datU (s.tmQueue (8 * sub + k)) 1 1)
        (fun k => s.shaped sub (s.headLen (8 * sub + k))) (drrFuel ready) t.deficit (t.ptr.get sub) (t.turn.get sub) with
    | some (k, d, p, u) => some (k, { t with deficit := d, ptr := t.ptr.set sub p, turn := t.turn.set sub u })
    | none => none

/-- The frame length a subscriber would send. -/
def State.subLen (s : State) (sub : Nat) : Nat :=
  match s.pickQueue s.tms sub with | some (k, _) => s.headLen (8 * sub + k) | none => 0

/-- Subscribers of a service with a ready queue that are eligible (R390). -/
def State.readySubs (s : State) (v : Nat) : List Nat :=
  let subs := (s.buf.leaf.cells.map (fun c => c.1 / 8)).eraseDups
  subs.filter (fun k => s.subService k == v && tmValid (s.tmSub k) && nodeBand (s.node k) != 2 &&
    (List.range 8).any (fun n => s.headReady (8 * k + n)))

/-- The committed children, else all the others in the excess band (R392): the band and the children. -/
def bandKids (band : Nat → Nat) (kids : List Nat) : Nat × List Nat :=
  let com := kids.filter (fun k => band k == 0)
  if com.isEmpty then (1, kids) else (0, com)

/-- A service's choice of subscriber (R392). -/
def State.pickSub (s : State) (t : TmsSt) (v : Nat) : Option Pick :=
  let (b, kids) := bandKids (fun k => nodeBand (s.node k)) (s.readySubs v)
  if kids.isEmpty then none else
    let key := 65536 + 2 * v + b
    match drrPick kids (subKey b) (fun k => 256 * datU (s.tmSub k) 4 1) (fun k => s.shaped (svcNode v) (s.subLen k))
        (drrFuel kids) t.deficit (t.ptr.get key) (t.turn.get key) with
    | some (k, d, p, u) => some (k, { t with deficit := d, ptr := t.ptr.set key p, turn := t.turn.set key u })
    | none => none

/-- The frame length a service would send. -/
def State.svcLen (s : State) (v : Nat) : Nat := match s.pickSub s.tms v with | some (k, _) => s.subLen k | none => 0

/-- Services of a port with a ready subscriber that are eligible. -/
def State.readySvcs (s : State) (p : Nat) : List Nat :=
  let svcs := (s.buf.leaf.cells.map (fun c => s.subService (c.1 / 8))).eraseDups
  svcs.filter (fun v => svcParent (s.tmService v) == p && tmValid (s.tmService v) && nodeBand (s.node (svcNode v)) != 2 &&
    !(s.readySubs v).isEmpty)

/-- A port's choice of service (R392). -/
def State.pickSvc (s : State) (t : TmsSt) (p : Nat) : Option Pick :=
  let (b, kids) := bandKids (fun v => nodeBand (s.node (svcNode v))) (s.readySvcs p)
  if kids.isEmpty then none else
    let key := 73728 + 2 * p + b
    match drrPick kids (svcKey b) (fun v => 256 * datU (s.tmService v) 4 1) (fun v => s.shaped (portNode p) (s.svcLen v))
        (drrFuel kids) t.deficit (t.ptr.get key) (t.turn.get key) with
    | some (k, d, q, u) => some (k, { t with deficit := d, ptr := t.ptr.set key q, turn := t.turn.set key u })
    | none => none

/-- A queue of the port's tree whose head is still being returned (R390). -/
def State.returnWaits (s : State) (p : Nat) : Bool :=
  s.buf.leaf.cells.any (fun c => s.subPort (c.1 / 8) == p &&
    (match c.2.items.head? with | some i => isSpilled i | none => false))

/-- A node is updated and debited for a frame of B bytes (R385, R393). -/
def chargeNode (n b : Nat) (s : State) : State := debitNode n b (updateNode n s)

/-- The conditions under which a port asks its tree (R393). The transmit FIFO has room while it is empty. -/
def State.portAsks (s : State) (p : Nat) : Bool :=
  (s.tms.fifo.get p).isEmpty && decide (0 ≤ (s.node (portNode p)).tp) && (s.port.get p).up && !(s.port.get p).holding &&
    (s.pod.exq.get p).isEmpty

/-- A packet that leaves its queue before its tail has come keeps its reservation until then (R326). -/
def keepReserve (it : QItem) (s : State) : State :=
  match it.pkt.tail with
  | none => s
  | some n => chargeCells it.inp it.cls it.cells
      { s with swc := { s.swc with tails := s.swc.tails.upd n (fun t => { t with resv := it.cells, resvCls := it.cls }) } }

/-- The head of a leaf queue leaves for the port's transmit FIFO, with its debits and counts (R393). -/
def sendHead (p v sub k : Nat) (s : State) : State :=
  let q := 8 * sub + k
  match (s.pqueue true q).items.head? with
  | none => s
  | some it =>
    let b := s.pktLen it.pkt + 4
    let s := chargeNode (portNode p) b (chargeNode (svcNode v) b (chargeNode sub b s))
    let s := if s.returnWaits p then count (Cnt.TMS_RETURN_WAIT (p / 8)) s else s
    let s := countC it.cls (Cnt.TMS_DEQ (p / 8)) (addStats q 1 b 0 (leaveQueue true q it s))
    let (k, s) := if s.tailOpen it.pkt then (it.pkt, keepReserve it s) else (s.joined it.pkt, dropTail it.pkt.tail s)
    updTms (fun t => { t with fifo := t.fifo.upd p (fun l => l ++ [k]) }) s

/-- A port selects a frame (R390 to R393). -/
def doPortSelect (p : Nat) (s : State) : State :=
  if 31 < p ∨ s.moves = false ∨ s.portExists p = false then s
  else if (s.node (portNode p)).tp < 0 then placeEntries (portNode p) s
  else if !s.portAsks p then s
  else
    match s.pickSvc s.tms p with
    | none => s
    | some (v, t1) =>
      match s.pickSub t1 v with
      | none => s
      | some (sub, t2) =>
        match s.pickQueue t2 sub with
        | none => s
        | some (k, t3) => sendHead p v sub k { s with tms := t3 }

/-- PORT_SELECT (R393). -/
def execPortSelect (port : Nat) (s : State) : Res := coreCmd (doPortSelect port) s

/-- Leaf queues of a port that hold packets. -/
def State.portQueues (s : State) (p : Nat) : List Nat :=
  (s.buf.leaf.cells.filter (fun c => s.subPort (c.1 / 8) == p && !c.2.items.isEmpty)).map Prod.fst

end Sys2Proof.Machine
end

