-- ==== Sys2Proof/Machine/Peers.lean ====
section
/-! DEFINITION. Malmin cells, lanes and peers (R358 to R374): the cell layout, the lanes' sequence numbers and replay, the
peer states, joins and credits. -/
namespace Sys2Proof

/-- A CRC-32C of a cell (R359). -/
def crc32c (bs : List Byte) : Nat := crc32cAdvance 0xFFFFFFFF bs ^^^ 0xFFFFFFFF

/-- Bytes 0 to 11 of a cell's header (R359). -/
def cellHead (c : Cell) : List Byte :=
  leBytes 1 (c.type.code + 8 * b2n c.poison + 16 * (c.lseq / 256 % 16)) ++ leBytes 1 (c.lseq % 256) ++ leBytes 1 c.len ++
    leBytes 1 (if c.type = .idle then 0 else c.fpo) ++ leBytes 2 (c.dst % 512 + 512 * (c.cls % 8) + 4096 * b2n c.fin) ++
    leBytes 2 (c.src % 512 + 512 * (c.pgen % 16)) ++ leBytes 2 c.inc ++ leBytes 2 c.seq

/-- The 256 bytes of a cell (R359). -/
def cellBytes (c : Cell) : List Byte :=
  let p := padTo 240 c.payload
  cellHead c ++ leBytes 4 (crc32c (cellHead c ++ p)) ++ p

/-- A cell numbered on a lane (R359). -/
def Cell.numbered (c : Cell) : Bool := c.type == .bulk || c.type == .express || c.type == .peer

end Sys2Proof
namespace Sys2Proof.Machine

def updSwc (f : SwcSt → SwcSt) (s : State) : State := { s with swc := f s.swc }
def State.lane (s : State) (l : Nat) : Lane := s.swc.lanes.get l
def updLane (l : Nat) (f : Lane → Lane) (s : State) : State := updSwc (fun w => { w with lanes := w.lanes.upd l f }) s
def State.peer (s : State) (d : Nat) : Peer := s.swc.peers.get d
def updPeer (d : Nat) (f : Peer → Peer) (s : State) : State := updSwc (fun w => { w with peers := w.peers.upd d f }) s

/-- PEER_DEVICE, PEER_LANE and the fabric-element flag of a lane (R71). -/
def State.topoPeer (s : State) (l : Nat) : Nat := datU s.topo (64 + 4 * l) 2
def State.topoLane (s : State) (l : Nat) : Nat := datU s.topo (66 + 4 * l) 1
def State.topoElement (s : State) (l : Nat) : Bool := datB s.topo (67 + 4 * l) 0 1 == 1
/-- A lane that TOPO declares wired (R358). -/
def State.laneWired (s : State) (l : Nat) : Bool := s.topoPeer l != 0x200

/-- Device IDs for which a peer state is kept (R369). -/
def State.isPeer (s : State) (d : Nat) : Bool := decide (d < s.systemDevices) && d != s.devId

/-- A lane reaches D (R372). -/
def State.laneReaches (s : State) (l d : Nat) : Bool :=
  let n := s.lane l
  n.up && (if s.topoElement l then
      n.reach.getLsbD d && (match n.reachAt with | some t => decide (s.now - t ≤ 64000) | none => false)
    else s.topoPeer l == d)

/-- The groups with a lane that reaches D (R352, R377). -/
def State.groupReaches (s : State) (g d : Nat) : Bool := (List.range 8).any (fun k => s.laneReaches (8 * g + k) d)
def State.reachable (s : State) (d : Nat) : Bool := (List.range 6).any (fun g => s.groupReaches g d)

/-! ### Lanes going down (R363, R366, R440) -/

/-- The kept cells of a lane go to the outgoing queues of their destinations while another live lane reaches them; others
are lost (R366). EXPRESS cells for a peer that is not ALIVE are dropped (R364). -/
def resendKept (l : Nat) (s : State) : State :=
  let k := (s.lane l).kept
  let s := updLane l (fun n => { n with kept := [], replay := [], replays := {} }) s
  k.foldl (fun s c =>
    if c.type = .express ∧ (s.peer c.dst).state ≠ .alive then count Cnt.SWC_EXP_DROP s
    else if s.reachable c.dst then updPeer c.dst (fun p => { p with outq := p.outq ++ [c] }) s else s) s

/-- A lane goes down; training is retried from now (R363, R366). -/
def dropLane (l : Nat) (s : State) : State :=
  resendKept l (updLane l (fun n => { n with up := false, training := false, trainAt := s.now, gap := none, lockLost := none,
                                             linkDue := false, nakDue := false, reachAt := none }) s)

/-- A lane is taken down with a cause of LANE_DOWN (R366, R376). -/
def laneFails (l cause : Nat) (s : State) : State := raiseLim 1 l 0xD 2 l (l + 256 * cause) (dropLane l s)

/-- A lane is retired (R366, R440, R376). -/
def retireMalmin (l : Nat) (s : State) : State :=
  raise 0xD 3 l l (dropLane l (updLane l (fun n => { n with retired := true }) (markRetired 0 l s)))

/-- A cell of the lane fails its CRC and enters its count (R365, R438). -/
def laneError (l : Nat) (s : State) : State :=
  let (x, s) := enterError 0 l 1 s
  if x then retireMalmin l s else s

/-- A lane that can send and receive. -/
def State.laneLive (s : State) (l : Nat) : Bool := decide (l < 48) && s.moves && (s.lane l).up

/-- A cell with a passing CRC is heard on a lane: it shows a directly joined peer (R371). -/
def laneHeard (l : Nat) (s : State) : State :=
  let s := updLane l (fun n => { n with heard := s.now }) s
  if s.topoElement l then s else updPeer (s.topoPeer l) (fun p => { p with seenAt := s.now }) s

/-- A gap is noticed: the failure is counted and a NAK sent at once (R365). -/
def noticeGap (l : Nat) (s : State) : State :=
  count (Cnt.SWC_LANE_CRC l) (updLane l (fun n => { n with nakDue := true, gap := some s.now }) s)

/-- A numbered cell is accepted in order, or discarded (R365). -/
def acceptNumbered (l : Nat) (c : Cell) (s : State) : Bool × State :=
  let s := laneHeard l s
  if c.lseq % 4096 = (s.lane l).rxSeq then
    (true, updLane l (fun n => { n with rxSeq := (n.rxSeq + 1) % 4096, rxAny := true, gap := none }) s)
  else (false, if (s.lane l).gap.isSome then s else noticeGap l s)

/-- A cell fails its CRC (R365). -/
def doCellCrcFail (l : Nat) (s : State) : State := if s.laneLive l then laneError l (noticeGap l s) else s

/-- CELL_CRC_FAIL (R365). -/
def execCellCrcFail (lane : Nat) (s : State) : Res := coreCmd (doCellCrcFail lane) s

/-- The NAK is repeated while the gap lasts (R365). -/
def doNakRepeat (l : Nat) (s : State) : State :=
  match (s.lane l).gap with
  | some t => if s.laneLive l then
      (fun s => updLane l (fun n => { n with nakDue := true, gap := some s.now }) s) (runTo (t + 1000) s) else s
  | none => s

/-- NAK_REPEAT (R365). -/
def execNakRepeat (lane : Nat) (s : State) : Res := coreCmd (doNakRepeat lane) s

/-- The receiver of a lane loses or regains FEC or cell lock (R366). -/
def doCellLockChange (l : Nat) (locked : Bool) (s : State) : State :=
  if l < 48 ∧ s.laneWired l = true then
    updLane l (fun n => { n with lock := locked,
                                 lockLost := if locked then none else some (n.lockLost.getD s.now) }) s
  else s

/-- CELL_LOCK_CHANGE (R366). -/
def execCellLockChange (lane : Nat) (locked : Bool) (s : State) : Res := coreCmd (doCellLockChange lane locked) s

/-- A lane has been without lock for 10,000 ns, or its kept cells without an ACK for 100,000 ns (R366). -/
def doLaneDown (l : Nat) (s : State) : State :=
  if !s.laneLive l then s else
    match (s.lane l).lockLost, (s.lane l).kept with
    | some t, [] => laneFails l 0 (runTo (t + 10000) s)
    | some t, _ => if t + 10000 ≤ (s.lane l).ackAt + 100000 then laneFails l 0 (runTo (t + 10000) s)
        else laneFails l 2 (runTo ((s.lane l).ackAt + 100000) s)
    | none, [] => s
    | none, _ => laneFails l 2 (runTo ((s.lane l).ackAt + 100000) s)

/-- LANE_DOWN (R366). -/
def execLaneDown (lane : Nat) (s : State) : Res := coreCmd (doLaneDown lane) s

/-- Training of a down or miswired lane is retried after 100 ms (R363). -/
def doLaneTraining (l : Nat) (s : State) : State :=
  let n := s.lane l
  if 47 < l ∨ s.moves = false ∨ n.up = true ∨ n.retired = true ∨ s.laneWired l = false then s else
    (fun s => updLane l (fun n => { n with training := true, trainAt := s.now }) s) (runTo (n.trainAt + 100000000) s)

/-- LANE_TRAINING (R363). -/
def execLaneTraining (lane : Nat) (s : State) : Res := coreCmd (doLaneTraining lane) s

/-- A lane takes cell lock and comes up (R358). Its sequence numbers start from 0. -/
def doLaneUp (l : Nat) (s : State) : State :=
  let n := s.lane l
  if 47 < l ∨ s.moves = false ∨ n.up = true ∨ n.retired = true ∨ s.laneWired l = false then s else
    raise 0xD 1 l l (updLane l (fun _ => { up := true, lock := true, ackAt := s.now, linkAt := s.now, heard := s.now,
                                           trainAt := n.trainAt }) s)

/-- LANE_UP (R358). -/
def execLaneUp (lane : Nat) (s : State) : Res := coreCmd (doLaneUp lane) s

/-! ### LINK cells (R362, R363, R365, R372) -/

/-- An ACK frees the kept cells that it covers (R365). -/
def applyAck (l : Nat) (ack : Option Nat) (s : State) : State :=
  match ack with
  | none => s
  | some a =>
    let n := s.lane l
    match n.kept.findIdx? (fun c => c.lseq == a % 4096) with
    | none => s
    | some k => updLane l (fun n => { n with kept := n.kept.drop (k + 1), ackAt := s.now,
                                             replays := (n.kept.take (k + 1)).foldl (fun m c => m.set c.lseq 0) n.replays,
                                             replay := n.replay.filter (fun c => (n.kept.drop (k + 1)).contains c) }) s

/-- A LINK cell whose sender differs from TOPO takes its lane down (R363). -/
def checkSender (l : Nat) (c : LinkCell) (s : State) : Bool × State :=
  if c.sender = s.topoPeer l ∧ c.lane = s.topoLane l then (true, s)
  else (false, raise 0xD 4 l (l + 65536 * (c.sender % 512)) (updLane l (fun n => { n with miswired := true }) (dropLane l s)))

/-- The codewords that a lane's FEC decoder has corrected, and found uncorrectable, since the last LINK cell (R378). -/
def countFec (l : Nat) (c : LinkCell) (s : State) : State :=
  countA {} (Cnt.SWC_LANE_UNCORR l) c.uncorr (countA {} (Cnt.SWC_LANE_CORR l) c.corr s)

/-- A LINK cell arrives: its sender is checked and its ACK applied. -/
def takeLink (l : Nat) (c : LinkCell) (f : State → State) (s : State) : State :=
  if !s.laneLive l then s else
    let (ok, s) := checkSender l c (laneHeard l (countFec l c s))
    if ok then f (applyAck l c.ack s) else s

/-- KEEPALIVE_CELL (R363). -/
def execKeepaliveCell (lane : Nat) (c : LinkCell) (s : State) : Res := coreCmd (takeLink lane c id) s

/-- A NAK starts a replay from NAK_SEQ (R365): every kept cell from there on is replayed once more. The eighth replay of one LSEQ
takes the lane down (R366). -/
def startReplay (l nak : Nat) (s : State) : State :=
  let n := s.lane l
  match n.kept.findIdx? (fun c => c.lseq == nak % 4096) with
  | none => s
  | some k =>
    let again := n.kept.drop k
    let r := again.foldl (fun m c => m.upd c.lseq (· + 1)) n.replays
    let s := count (Cnt.SWC_LANE_REPLAY l) (updLane l (fun n => { n with replay := again, replays := r }) s)
    if again.any (fun c => decide (8 ≤ r.get c.lseq)) then laneFails l 1 s else s

/-- NAK (R365). -/
def execNakCell (lane : Nat) (c : LinkCell) (s : State) : Res := coreCmd (takeLink lane c (startReplay lane c.nakSeq)) s

/-- A REACH from a fabric element (R371, R372). -/
def takeReach (l : Nat) (c : LinkCell) (s : State) : State :=
  if !s.topoElement l then s else
    let s := updLane l (fun n => { n with reach := c.reach, reachAt := some s.now }) s
    ((List.range 512).filter (fun d => c.reach.getLsbD d && s.isPeer d)).foldl
      (fun s d => updPeer d (fun p => { p with seenAt := s.now }) s) s

/-- REACH (R372). -/
def execReachCell (lane : Nat) (c : LinkCell) (s : State) : Res := coreCmd (takeLink lane c (takeReach lane c)) s

/-- A LINK cell is due (R363). -/
def doLinkCellDue (l : Nat) (s : State) : State :=
  if s.laneLive l then updLane l (fun n => { n with linkDue := true }) (runTo ((s.lane l).linkAt + 1000) s) else s

/-- LINK_CELL_DUE (R363). -/
def execLinkCellDue (lane : Nat) (s : State) : Res := coreCmd (doLinkCellDue lane) s

/-! ### Peers (R368 to R373) -/

/-- A PEER cell for D (R368). -/
def State.peerCell (s : State) (d sub cnt pgen : Nat) (body : List Byte) : Cell :=
  { type := .peer, len := 68, dst := d, cls := 7, src := s.devId, pgen := pgen, inc := s.swc.inc,
    payload := padTo 68 (leBytes 1 sub ++ leBytes 1 cnt ++ leBytes 2 0 ++ body) }

def sendPeer (d : Nat) (c : Cell) (s : State) : State := updPeer d (fun p => { p with outq := p.outq ++ [c] }) s

/-- JOIN, JOIN_ACK and RESYNC (R368, R370, R373). -/
def sendJoin (sub d pgen : Nat) (s : State) : State :=
  sendPeer d (s.peerCell d sub 0 (s.peer d).pgen (leBytes 2 s.swc.inc ++ leBytes 1 pgen)) s
def sendResync (d pgen : Nat) (s : State) : State := sendPeer d (s.peerCell d 5 0 pgen []) s

/-- An entry of REQUEST or CREDIT (R368). -/
def peerEntry (cls : Nat) (ret : Bool) (v : Nat) : List Byte := leBytes 1 (cls + 128 * b2n ret) ++ leBytes 3 0 ++ leBytes 4 v

/-- Cells of a virtual output queue (R368). -/
def State.voqCells (s : State) (d c : Nat) : Nat := ((s.buf.voq.get (8 * d + c)).items.map (fun i => i.cells)).sum

/-- The uncovered backlog of (D, c) in on-chip cells (R368). A head under transfer has its credits already (R367). -/
def State.uncovered (s : State) (d c : Nat) : Nat :=
  let head := if s.swc.xfers.any (fun x => x.queue == 8 * d + c) then
      (match (s.buf.voq.get (8 * d + c)).items.head? with | some i => i.cells | none => 0) else 0
  s.voqCells d c - head - (s.peer d).credit.get c

/-- A REQUEST for some classes is sent (R368). -/
def sendRequest (d : Nat) (cs : List Nat) (s : State) : State :=
  let body := (cs.map (fun c => peerEntry c false (s.uncovered d c))).flatten
  let s := sendPeer d (s.peerCell d 1 cs.length (s.peer d).pgen body) s
  updPeer d (fun p => { p with reportAt := cs.foldl (fun m c => m.set c s.now) p.reportAt,
                               reported := cs.foldl (fun m c => m.set c (s.uncovered d c)) p.reported }) s

/-- A REQUEST is sent when the backlog has changed by 16 or more since the last report (R368). -/
def maybeRequest (d c : Nat) (s : State) : State :=
  let r := (s.peer d).reported.get c
  let u := s.uncovered d c
  if s.isPeer d && (s.peer d).state == .alive && (decide (r + 16 ≤ u) || decide (u + 16 ≤ r)) then sendRequest d [c] s else s

/-- Credits that a flush has left without use are given back to their peer, in entries with RETURN set (R368). -/
def returnCredits (d : Nat) (s : State) : State :=
  let p := s.peer d
  let cs := (List.range 8).filter (fun c => p.credit.get c != 0 && s.voqCells d c == 0)
  if !(s.isPeer d && p.state == .alive) || cs.isEmpty then s else
    let body := (cs.map (fun c => peerEntry c true (p.credit.get c))).flatten
    sendPeer d (s.peerCell d 1 cs.length p.pgen body) (updPeer d (fun p => { p with credit := cs.foldl (fun m c => m.set c 0) p.credit }) s)

/-- The classes with a backlog for a peer, and the ST at which the first of them is to be reported again (R368). -/
def State.backlogged (s : State) (d : Nat) : List Nat := (List.range 8).filter (fun c => s.uncovered d c != 0)
def State.requestDue (s : State) (d : Nat) : Nat := (((s.backlogged d).map (fun c => (s.peer d).reportAt.get c + 10000)).min?).getD 0

/-- 10,000 ns have passed since the last report of a class with a backlog (R368): every class of which this is so is reported. -/
def doCreditRequestDue (d : Nat) (s : State) : State :=
  if s.isPeer d && s.moves && (s.peer d).state == .alive && !(s.backlogged d).isEmpty then
    let s := runTo (s.requestDue d) s
    sendRequest d ((s.backlogged d).filter (fun c => decide ((s.peer d).reportAt.get c + 10000 ≤ s.now))) s
  else s

/-- CREDIT_REQUEST_DUE (R368). -/
def execCreditRequestDue (peer : Nat) (s : State) : Res := coreCmd (doCreditRequestDue peer) s

/-- Staging cells that a stream's early cells hold, per fabric input (R374). -/
def dropEarly (r : RxStream) (s : State) : State := r.early.foldl (fun s e => if e.lost then s else subStage (4 + e.grp) 1 s) s

/-- The packet in assembly in stream k is given up: its staging cells are released, and where it has gone on its tail will not come
(R374). -/
def dropPart (k : Nat) (r : RxStream) (s : State) : State :=
  match r.tail with
  | some n => endTail n .lost s
  | none => if k = 8 then s else subStage (4 + r.grp) (cdiv r.got 256) s

/-- A packet of a stream is in assembly. -/
def RxStream_busy (r : RxStream) : Bool := r.tail.isSome || !r.part.isEmpty

/-- Packets that start in the bytes of a cell from its FPO on; the first argument bounds them. -/
def startsIn : Nat → List Byte → Nat
  | 0, _ => 0
  | n + 1, bs => if bs.isEmpty then 0 else 1 + (if leVal (bs.take 2) = 0 then 0 else startsIn n (bs.drop (32 + leVal (bs.take 2))))

/-- Packets of a stream that are in assembly or touched by its early cells: that in assembly, every packet that starts in an early
cell, and the end of a packet before the first start of an early cell whose forerunner is missing (DESIGN CHOICE). -/
def RxStream_packets (r : RxStream) : Nat :=
  let early := (r.early.filter (fun e => !e.lost)).map EarlyCell.cell
  b2n (RxStream_busy r) + (early.map (fun e =>
    (if e.fpo = 0xFF then 0 else startsIn 8 ((e.payload.take (min 240 e.len)).drop e.fpo)) +
      b2n (e.fpo != 0 && !early.any (fun x => (x.seq + 1) % 65536 == e.seq)))).sum

/-- Reassembly of a peer's streams is discarded (R371). -/
def dropStreams (d : Nat) (s : State) : State :=
  let s := (s.peer d).rx.cells.foldl (fun s c =>
    countA {} Cnt.SWC_RESEQ_LOSS (RxStream_packets c.2) (dropPart c.1 c.2 (dropEarly c.2 s))) s
  updPeer d (fun p => { p with rx := {} }) s

/-- Cells that the bytes of EXPRESS packets still to be sent would take (R360). -/
def txCells (l : List TxPkt) : Nat := (l.map (fun t => cdiv t.bytes.length 240)).sum

/-- Packets under reception for virtual output queues that pass a test, with those that wait for a buffer. -/
def State.stagedFor (s : State) (p : Nat → Bool) : Nat :=
  let hit := fun (t : Staged) => !t.leaf && p t.queue
  (s.buf.staged.filter hit).length + ((List.range 4).map (fun k => ((s.buf.pools.get k).reqs.filter (fun r => hit r.item)).length)).sum

/-- The virtual output queues for a peer are flushed (R338, R371), with what has already been moved to its streams. Its EXPRESS
cells are dropped (R364). -/
def flushPeer (d : Nat) (s : State) : State :=
  let mine := fun q => decide (8 * d ≤ q) && decide (q < 8 * d + 8)
  let n := ((List.range 8).map (fun c => (s.buf.voq.get (8 * d + c)).items.length)).sum + s.stagedFor mine
  let t := ((List.range 8).map (fun c => ((s.peer d).tx.get c).pkts.length)).sum
  let e := txCells ((s.peer d).tx.get 8).pkts + ((s.peer d).outq.filter (fun c => c.type == .express)).length
  let s := (List.range 8).foldl (fun s c => flushQueue false (8 * d + c) s) (flushStaged false mine s)
  let s := updSwc (fun w => { w with xfers := w.xfers.filter (fun x => !mine x.queue) }) s
  countA {} Cnt.SWC_EXP_DROP e (countA {} Cnt.SWC_PEER_FLUSH (n + t) (updPeer d (fun p => { p with tx := {}, outq := [] }) s))

/-- A peer is declared dead (R371); the event is PEER_DEAD, or PEER_RESTARTED with the new INC (R370). -/
def declareDead (d : Nat) (restarted : Option Nat) (s : State) : State :=
  let s := updPeer d (fun p => { p with state := .dead, change := s.ms, credit := {}, granted := {}, backlog := {}, reported := {} }) s
  let s := match restarted with
    | none => raise 0xD 5 d d s
    | some i => raise 0xD 7 d (d + 65536 * (i % 65536)) s
  dropStreams d (flushPeer d s)

/-- A peer has been silent for 64,000 ns (R371). -/
def doPeerDead (d : Nat) (s : State) : State :=
  if s.isPeer d && s.moves && (s.peer d).state == .alive then declareDead d none (runTo ((s.peer d).seenAt + 64000) s) else s

/-- PEER_DEAD (R371). -/
def execPeerDead (peer : Nat) (s : State) : Res := coreCmd (doPeerDead peer) s

/-- A peer becomes ALIVE (R373): the streams restart from 0. -/
def peerAlive (d pgen inc : Nat) (s : State) : State :=
  let s := updPeer d (fun p => { p with state := .alive, pgen := pgen % 16, inc := inc, change := s.ms, joinedAt := some s.now,
                                        seenAt := s.now, tx := {}, rx := {}, credit := {}, granted := {}, backlog := {}, reported := {} }) s
  raise 0xD 6 d (d + 4096 * (pgen % 16) + 65536 * (inc % 65536)) s

/-- A first JOIN to a reachable peer that is NEW or DEAD (R373). -/
def doJoinSend (d : Nat) (s : State) : State :=
  let p := s.peer d
  if !(s.isPeer d && s.moves && (p.state == .new || p.state == .dead) && s.reachable d) then s else
    let s := match p.joinedAt with | some t => runTo (t + 64000) s | none => s
    let g := (p.pgen + 1) % 16
    sendJoin 3 d g (updPeer d (fun p => { p with state := .joining, change := s.ms, proposed := g, joinAt := s.now }) s)

/-- JOIN_SEND (R373). -/
def execJoinSend (peer : Nat) (s : State) : Res := coreCmd (doJoinSend peer) s

/-- An unanswered JOIN is resent (R373). -/
def doJoinResend (d : Nat) (s : State) : State :=
  let p := s.peer d
  if !(s.isPeer d && s.moves && p.state == .joining) then s else
    (fun s => sendJoin 3 d p.proposed (updPeer d (fun p => { p with joinAt := s.now }) s)) (runTo (p.joinAt + 10000) s)

/-- JOIN_RESEND (R373). -/
def execJoinResend (peer : Nat) (s : State) : Res := coreCmd (doJoinResend peer) s

/-- A stale cell is discarded, counted and answered with RESYNC (R370). -/
def staleCell (d pgen : Nat) (answer : Bool) (s : State) : State :=
  let s := raiseLim 1 d 0xD 8 d d (count Cnt.SWC_STALE s)
  let due := match (s.peer d).resyncAt with | some t => decide (t + 10000 ≤ s.now) | none => true
  if answer && s.isPeer d && due then sendResync d pgen (updPeer d (fun p => { p with resyncAt := some s.now }) s) else s

/-- Whether a cell is accepted from its source (R353, R370). -/
def acceptSource (c : Cell) (s : State) : Bool × State :=
  if c.dst ≠ s.devId then (false, count Cnt.SWC_MISROUTE s) else
    let d := c.src % 512
    let p := s.peer d
    if !s.isPeer d then (false, staleCell d c.pgen false s)
    else if p.state == .alive && decide (c.inc ≠ p.inc) then
      (false, staleCell d c.pgen true (declareDead d (some c.inc) s))
    else if p.state == .alive && decide (c.pgen % 16 = p.pgen) then (true, s)
    else (false, staleCell d c.pgen true s)

/-- A cell from an ALIVE peer with another INC shows that the peer has restarted (R370). -/
def noticeRestart (c : Cell) (d : Nat) (s : State) : State :=
  if (s.peer d).state = .alive ∧ c.inc ≠ (s.peer d).inc then declareDead d (some c.inc) s else s

/-- A numbered PEER cell for this device reaches its meaning. -/
def takePeer (l : Nat) (c : Cell) (f : Nat → State → State) (s : State) : State :=
  if !s.laneLive l then s else
    let (ok, s) := acceptNumbered l c s
    if !ok then s
    else if c.dst ≠ s.devId then count Cnt.SWC_MISROUTE s
    else if s.isPeer (c.src % 512) then f (c.src % 512) s else s

/-- INC and PGEN of a JOIN or JOIN_ACK (R368). -/
def joinInc (c : Cell) : Nat := leVal (slice c.payload 4 2)
def joinGen (c : Cell) : Nat := (byteAt c.payload 6).toNat % 16

/-- A JOIN is received (R370, R373). -/
def takeJoin (c : Cell) (d : Nat) (s : State) : State :=
  let p := s.peer d
  if p.state = .joining ∧ s.devId < d then s
  else if p.state = .alive ∧ p.inc = joinInc c ∧ p.pgen = joinGen c then sendJoin 4 d (joinGen c) s
  else
    let s := if p.state = .alive then declareDead d (if p.inc = joinInc c then none else some (joinInc c)) s else s
    peerAlive d (joinGen c) (joinInc c) (sendJoin 4 d (joinGen c) (updPeer d (fun p => { p with pgen := joinGen c }) s))

/-- JOIN (R373). -/
def execPeerJoin (lane : Nat) (cell : Cell) (s : State) : Res := coreCmd (takePeer lane cell (takeJoin cell)) s

/-- A JOIN_ACK is received (R373). -/
def takeJoinAck (c : Cell) (d : Nat) (s : State) : State :=
  if (s.peer d).state = .joining ∧ joinGen c = (s.peer d).proposed then peerAlive d (joinGen c) (joinInc c) s else s

/-- JOIN_ACK (R373). -/
def execPeerJoinAck (lane : Nat) (cell : Cell) (s : State) : Res :=
  coreCmd (takePeer lane cell (fun d s => takeJoinAck cell d (noticeRestart cell d s))) s

/-- A RESYNC is received (R371). -/
def takeResync (c : Cell) (d : Nat) (s : State) : State :=
  if (s.peer d).state = .alive ∧ c.pgen % 16 = (s.peer d).pgen then declareDead d none s else staleCell d c.pgen false s

/-- RESYNC (R371). -/
def execPeerResync (lane : Nat) (cell : Cell) (s : State) : Res :=
  coreCmd (takePeer lane cell (fun d s => takeResync cell d (noticeRestart cell d s))) s

/-- The entries of a REQUEST or CREDIT: class, RETURN and VALUE (R368). -/
def peerEntries (c : Cell) : List (Nat × Bool × Nat) :=
  (List.range (min 8 (byteAt c.payload 1).toNat)).map (fun k =>
    ((byteAt c.payload (4 + 8 * k)).toNat % 8, bit (byteAt c.payload (4 + 8 * k)).toNat 7, leVal (slice c.payload (8 + 8 * k) 4)))

/-- Cells of class c charged to fabric inputs, and credits outstanding to all sources (R368). -/
def State.creditUse (s : State) (c : Nat) : Nat :=
  ((List.range 6).map (fun g => s.pbfUsed (4 + g) c)).sum + (s.swc.peers.cells.map (fun p => p.2.granted.get c)).sum

/-- Sources with a reported backlog of a class, in round-robin order after the one granted last (R368). -/
def State.creditSource (s : State) (c : Nat) : Option Nat :=
  let ds := (s.swc.peers.cells.filter (fun p => p.2.state == .alive && p.2.backlog.get c != 0)).map Prod.fst
  (ds.find? (fun d => decide (s.swc.srcRr.get c ≤ d))).or ds.head?

/-- A class with a source to grant and room within its limit (R368). -/
def State.grantable (s : State) (c : Nat) : Bool :=
  (s.creditSource c).isSome && decide (s.creditUse c < s.regF (Reg.SWC_CREDIT_LIMIT c) 18 0)

/-- One grant of up to 16 credits to the next source of a class (R368). -/
def grantCredit (c : Nat) (s : State) : State :=
  match s.creditSource c with
  | none => s
  | some d =>
    let n := min 16 (min ((s.peer d).backlog.get c) (s.regF (Reg.SWC_CREDIT_LIMIT c) 18 0 - s.creditUse c))
    let s := updPeer d (fun p => { p with granted := p.granted.upd c (· + n), backlog := p.backlog.upd c (· - n) }) s
    sendPeer d (s.peerCell d 2 1 (s.peer d).pgen (peerEntry c false n)) (updSwc (fun w => { w with srcRr := w.srcRr.set c (d + 1) }) s)

/-- Grants in weighted round robin over the classes (R368); the first argument bounds their number. -/
def grantCredits : Nat → State → State
  | 0, s => s
  | n + 1, s =>
    let w := s.regF Reg.SWC_CLASS_WEIGHT (4 * (s.swc.clsRr % 8) + 3) (4 * (s.swc.clsRr % 8))
    if !(List.range 8).any s.grantable then s
    else if s.swc.clsUsed < w ∧ s.grantable (s.swc.clsRr % 8) = true then
      grantCredits n (updSwc (fun k => { k with clsUsed := k.clsUsed + 1 }) (grantCredit (s.swc.clsRr % 8) s))
    else
      match ((List.range 8).map (fun k => (s.swc.clsRr + 1 + k) % 8)).find? s.grantable with
      | none => s
      | some c => grantCredits n (updSwc (fun k => { k with clsRr := c, clsUsed := 1 }) (grantCredit c s))

/-- A REQUEST is received (R368); in Drain no credits are granted (R86). -/
def takeRequest (c : Cell) (d : Nat) (s : State) : State :=
  let (ok, s) := acceptSource c s
  if !ok then s else
    let s := (peerEntries c).foldl (fun s e => updPeer d (fun p =>
      if e.2.1 then { p with granted := p.granted.upd e.1 (· - e.2.2) } else { p with backlog := p.backlog.set e.1 e.2.2 }) s) s
    if s.md.mode = .drain then s else grantCredits 32768 s

/-- REQUEST (R368). -/
def execPeerRequest (lane : Nat) (cell : Cell) (s : State) : Res := coreCmd (takePeer lane cell (takeRequest cell)) s

/-- A CREDIT is received (R368). -/
def takeCredit (c : Cell) (d : Nat) (s : State) : State :=
  let (ok, s) := acceptSource c s
  if !ok then s else
    (peerEntries c).foldl (fun s e => updPeer d (fun p => { p with credit := p.credit.upd e.1 (· + e.2.2) }) s) s

/-- CREDIT (R368). -/
def execPeerCredit (lane : Nat) (cell : Cell) (s : State) : Res := coreCmd (takePeer lane cell (takeCredit cell)) s

end Sys2Proof.Machine
end

