-- ==== Sys2Proof/Machine/Fabric.lean ====
section
/-! DEFINITION. The switch core (R347 to R353): virtual output queues, matching and core transfers, and the lanes' transmit
order (R364). -/
namespace Sys2Proof

/-- A conduit that carries inject packets (R489). -/
def isInject (c : Nat) : Bool := decide (16 ≤ c) && decide (c < 32)

end Sys2Proof

namespace Sys2Proof.Machine

/-! ### Virtual output queues (R351, R352) -/

/-- The egress pipeline of a packet for this device (R352). -/
def egrPipe (p : Pkt) : Nat := if p.natOwner then p.port % 4 else p.port % 32 / 8

/-- The key of a packet's virtual output queue (R351). -/
def State.voqKey (s : State) (p : Pkt) : Nat :=
  if p.dev = s.devId then 4096 + 8 * egrPipe p + p.cls % 8 else 8 * p.dev + p.cls % 8

/-- A packet arrives at the tail of its virtual output queue through an internal port (R352). -/
def voqEnter (inp : Nat) (p : Pkt) (s : State) : State :=
  if s.systemDevices ≤ p.dev then countC p.cls Cnt.SWC_BAD_DEST s
  else if p.dev ≠ s.devId ∧ (s.peer p.dev).state ≠ .alive then countC p.cls Cnt.SWC_PEER_DOWN_DROP s
  else
    let s := enterQueue false (s.voqKey p) inp p s
    if p.dev = s.devId then s else maybeRequest p.dev (p.cls % 8) s

/-! ### Inject packets (R497) -/

/-- The words of the packet at the head of a conduit, up to its END word; the first argument bounds their number. -/
def headWords (k : Conduit) : Nat → Nat → List Word512
  | 0, _ => []
  | n + 1, i =>
    let w := k.words.get ((k.rd + i) % 1024)
    if wordEnd w then [w] else w :: headWords k n (i + 1)

/-- Payload bytes of conduit words (R490). -/
def wordsBytes (ws : List Word512) : List Byte := (ws.map (fun w => slice (bvBytes 64 w) 2 (min 62 (datU w 1 1)))).flatten

/-- The bytes of the inject packet at a conduit's head; none when it must be discarded (R495, R497). -/
def injectBytes (ws : List Word512) : Option (List Byte) :=
  if !(ws.headD 0 |> wordStart) || ws.any (fun w => bit w.toNat 4) || (ws.drop 1).any wordStart then none else
    let bs := (ws.map (fun w => slice (bvBytes 64 w) 2 62)).flatten
    let n := 32 + leVal (slice bs 6 2)
    if ws.length ≠ cdiv n 62 then none else some (bs.take n)

/-- The header checks of R497. -/
def injectOk (s : State) (h : List Byte) : Bool :=
  let b := fun k => (byteAt h k).toNat
  decide (b 0 ≤ 2) && b 1 / 32 == 0 && decide (leVal (slice h 2 2) < 512) && (b 5 / 2 == 0) &&
    decide (1 ≤ leVal (slice h 6 2)) && decide (leVal (slice h 6 2) ≤ 9340) && leVal (slice h 10 2) == 0 &&
    leVal (slice h 12 20) == 0 && (b 0 == 2 || s.portExists (b 1))

/-- An inject packet from its bytes (R361, R497). Its epoch stamp is the current epoch. -/
def injectPkt (s : State) (bs : List Byte) : Pkt :=
  let q := (byteAt bs 4).toNat
  { bytes := bs.drop 32, inPort := (byteAt bs 1).toNat % 32, inp := 10, originDev := s.devId,
    originPort := (byteAt bs 1).toNat % 32, epoch := s.epoch,
    cls := q % 8, colour := q / 8 % 4, queue := q / 32,
    dev := if byteAt bs 0 = 2 then leVal (slice bs 2 2) else s.devId, port := (byteAt bs 1).toNat % 32,
    subscriber := leVal (slice bs 8 2), skipEgr := bit (byteAt bs 5).toNat 0 }

/-- The words of a packet leave a conduit, and their credit returns (R492). -/
def takeWords (c n : Nat) (s : State) : State :=
  { s with cdt := s.cdt.upd c (fun k => (List.range n).foldl (fun k _ => k.pop) k) }

/-- What the packet at the head of an inject conduit is: its words, its mode and the packet; the mode is none when it is
discarded as bad, and 3 when the mode of the device discards it (R86, R90, R497). -/
def State.injectHead (s : State) (c : Nat) : Option (Nat × Option Nat × Pkt) :=
  let k := s.cdt.get c
  if k.pkts = 0 then none else
    let ws := headWords k k.fill 0
    match injectBytes ws with
    | none => some (ws.length, if s.md.mode = .drain then some 3 else none, {})
    | some bs =>
      let p := injectPkt s bs
      if s.md.mode = .drain then some (ws.length, some 3, p)
      else if !injectOk s bs then some (ws.length, none, p)
      else if s.md.mode = .maintenance ∧ byteAt bs 0 = 1 then some (ws.length, some 3, p)
      else some (ws.length, some (byteAt bs 0).toNat, p)

/-- Input 10 looks at the head of an inject conduit: a packet that is discarded goes, and one of MODE 2 goes to its virtual
output queue (R497). -/
def injectStep (c : Nat) (s : State) : State :=
  match s.injectHead c with
  | none => s
  | some (n, none, _) => count Cnt.MGT_INJECT_BAD (takeWords c n s)
  | some (n, some 3, p) => countC p.cls Cnt.MGT_INJECT_MODE_DROP (takeWords c n s)
  | some (n, some 2, p) => voqEnter 10 p (takeWords c n s)
  | _ => s

/-- Input 10 reads a word of the packet at the head of an inject conduit in error (R495): a corrected word is counted; with an
uncorrectable one the packet is cut short by a poison word, and input 10 discards it (R497). -/
def injectCheck (c : Nat) (e : WordCheck) (s : State) : State :=
  match s.injectHead c with
  | none => s
  | some (n, _, _) =>
    match e with
    | .ok => s
    | .corrected => count (Cnt.MGT_CDT_CORR c) s
    | .uncorrectable => count Cnt.MGT_INJECT_BAD (count (Cnt.MGT_CDT_UNCORR c) (takeWords c n s))

/-- The transfers of input 10 leave these conduits alone: none of them is being moved. -/
def State.injectIdle (s : State) (c : Nat) : Bool := isInject c && !s.swc.xfers.any (fun x => x.queue == 10000 + c)

/-! ### Matching (R348 to R350) -/

/-- What an input may move to an output: class, queue number and cells. -/
abbrev Offer := Nat × Nat × Nat

/-- A virtual output queue whose head an input may move: its key, class, head and cells. -/
def State.voqHeads (s : State) (i : Nat) : List (Nat × QItem) :=
  s.buf.voq.cells.filterMap (fun q =>
    match q.2.items.head? with
    | some it => if it.inp == i && !isSpilled it && !s.swc.xfers.any (fun x => x.queue == q.1) then some (q.1, it) else none
    | none => none)

/-- Credits that the head of a queue needs to start (R367). -/
def State.creditNeed (s : State) (it : QItem) : Nat :=
  if it.pkt.cut then cdiv (s.reserveFrame it.inp it.pkt) 256 else it.cells

/-- Cells waiting on the lanes of a group (R349). -/
def State.groupCells (s : State) (g : Nat) : Nat :=
  (s.swc.peers.cells.map (fun p => (p.2.tx.cells.map (fun t =>
    ((t.2.pkts.filter (fun k => k.group == g)).map (fun k => cdiv k.bytes.length 240)).sum)).sum)).sum

/-- Whether a fabric output may carry the head of a queue, credits apart (R349, R352). -/
def State.fabricReady (s : State) (g q : Nat) : Bool :=
  decide (q < 4096) && (s.peer (q / 8)).state == .alive && s.groupReaches g (q / 8) && decide (s.groupCells g < 64)

/-- The offers of input i for output o (R347, R348). A pipeline's recirculation input has room for one packet (R17; DESIGN CHOICE). -/
def State.offers (s : State) (i o : Nat) : List Offer :=
  let voq := (s.voqHeads i).filterMap (fun (q, it) =>
    if o < 4 then (if q = 4096 + 8 * o + it.cls then some (it.cls, q, it.cells) else none)
    else if o < 10 then
      (if s.fabricReady (o - 4) q && decide (s.creditNeed it ≤ (s.peer (q / 8)).credit.get it.cls) then some (it.cls, q, it.cells) else none)
    else none)
  let other : List Offer :=
    if i < 4 then
      (if o = 10 then (match (s.swc.punts.get i).head? with | some t => [(t.pkt.cls % 8, 10000, pktCells t.pkt)] | none => []) else [])
    else if i < 10 then
      (if o < 4 then (match (s.swc.rxq.get (4 * (i - 4) + o)).head? with | some p => [(p.cls % 8, 10001, pktCells p)] | none => []) else [])
    else if i = 10 then
      (List.range 16).filterMap (fun c =>
        match s.injectHead (16 + c) with
        | some (_, some 0, p) => if o = p.port / 8 then some (p.cls % 8, 10016 + c, pktCells p) else none
        | some (_, some 1, p) =>
          if o = 11 ∧ (s.swc.reentry.get (p.port / 8)).isEmpty = true then some (p.cls % 8, 10016 + c, pktCells p) else none
        | _ => none)
    else
      (if o = 11 then (List.range 4).filterMap (fun k =>
        match (s.swc.recirc.get k).head? with
        | some p => if (s.swc.reentry.get k).isEmpty then some (p.cls % 8, 10040 + k, pktCells p) else none
        | none => none) else [])
  voq ++ other

/-- The packet that input i offers output o (R350): the highest class, then round robin over its queues. -/
def State.offer (s : State) (i o : Nat) : Option Offer :=
  let l := s.offers i o
  match l.map (fun x => x.1) with
  | [] => none
  | c0 :: cs =>
    let c := cs.foldl max c0
    let l := l.filter (fun x => x.1 == c)
    let p := s.swc.rr.get (1024 * i + 16 * o + c)
    let key := fun (x : Offer) => (x.2.1 + 65536 - p) % 65536
    l.foldl (fun a x => match a with | none => some x | some y => if key x < key y then some x else some y) none

/-- The first of a list of ports at or after a pointer, of 12. -/
def firstFrom (p : Nat) (l : List Nat) : Option Nat :=
  ((List.range 12).map (fun k => (p + k) % 12)).find? (fun k => l.contains k)

/-- One iteration of request, grant and accept over the unmatched ports (R348): the new pairs. -/
def State.matchStep (s : State) (ins outs : List Nat) : List (Nat × Nat) :=
  let grants := outs.filterMap (fun o =>
    (firstFrom (s.swc.grantPtr.get o) (ins.filter (fun i => (s.offer i o).isSome))).map (fun i => (i, o)))
  ins.filterMap (fun i =>
    (firstFrom (s.swc.acceptPtr.get i) ((grants.filter (fun g => g.1 == i)).map Prod.snd)).map (fun o => (i, o)))

/-- A packet goes to egress pipeline j. -/
def toEgress (j : Nat) (p : Pkt) (s : State) : State := updSwc (fun w => { w with egq := w.egq.upd j (fun l => l ++ [p]) }) s

/-- Credits that the packet of a queue takes at its start (R367); only a packet for another device takes any. -/
def State.startCredits (s : State) (q o : Nat) : Nat :=
  match (s.buf.voq.get q).items.head? with
  | some it => if q < 4096 ∧ 4 ≤ o then s.creditNeed it else 0
  | none => 0

/-- A packet whose tail is still arriving leaves its receive queue with its first cell; the pair stays matched for the rest of it
(R349, R356). -/
def State.headTail (s : State) (i o q : Nat) : Option Nat :=
  if q = 10001 then ((s.swc.rxq.get (4 * (i - 4) + o)).head?).bind Pkt.tail else none

/-- A pair is matched: the transfer starts, with its credits taken (R349, R350, R367). -/
def startXfer (i o : Nat) (s : State) : State :=
  match s.offer i o with
  | none => s
  | some (c, q, n) =>
    let k := s.startCredits q o
    let t := s.headTail i o q
    let s := updSwc (fun w => { w with xfers := w.xfers ++ [{ inp := i, outp := o, left := max 1 n, queue := q, cred := k, tail := t }],
                                       rr := w.rr.set (1024 * i + 16 * o + c) ((q + 1) % 65536) }) s
    let s := if k = 0 then s else updPeer (q / 8) (fun p => { p with credit := p.credit.upd c (· - k) }) s
    match t, s.swc.rxq.get (4 * (i - 4) + o) with
    | some _, p :: r => toEgress o p (updSwc (fun w => { w with rxq := w.rxq.set (4 * (i - 4) + o) r }) s)
    | _, _ => s

/-- Up to three iterations of a matching (R348); pointers move in the first. -/
def matchIter : Nat → Bool → List Nat → List Nat → State → State
  | 0, _, _, _, s => s
  | n + 1, first, ins, outs, s =>
    let ps := s.matchStep ins outs
    let s := if first then updSwc (fun w => { w with
        grantPtr := ps.foldl (fun m p => m.set p.2 ((p.1 + 1) % 12)) w.grantPtr,
        acceptPtr := ps.foldl (fun m p => m.set p.1 ((p.2 + 1) % 12)) w.acceptPtr }) s else s
    let s := ps.foldl (fun s p => startXfer p.1 p.2 s) s
    matchIter n false (ins.filter (fun i => !ps.any (fun p => p.1 == i))) (outs.filter (fun o => !ps.any (fun p => p.2 == o))) s

/-- A packet that is bad goes onto the fabric with END and POISON, and its ingress clove is marked (R357). -/
def toFabric (g d : Nat) (it : QItem) (s : State) : State :=
  let p := it.pkt
  let t : TxPkt := { group := g, bytes := pktDesc p (if p.cut then 0 else p.bytes.length) ++ p.bytes, cut := p.cut, poison := p.bad,
                     cls := it.cls }
  let s := updPeer d (fun q => { q with tx := q.tx.upd it.cls (fun x => { x with pkts := x.pkts ++ [t] }) }) s
  if p.bad then sendMark (if p.counted then p.clove else none) p.gen (countC it.cls Cnt.SWC_POISON_TX s) else s

/-- The last cell of a transfer has moved: the packet leaves its queue for the output (R347, R349). A cut-through packet gives back the
credits that it did not use (R367). -/
def finishXfer (x : Xfer) (s : State) : State :=
  if x.queue < 10000 then
    match (s.buf.voq.get x.queue).items.head? with
    | none => s
    | some it =>
      let s := leaveQueue false x.queue it s
      if x.outp < 4 then toEgress x.outp it.pkt s
      else
        let s := updPeer (x.queue / 8) (fun p => { p with credit := p.credit.upd it.cls (· + (x.cred - it.cells)) }) s
        maybeRequest (x.queue / 8) it.cls (toFabric (x.outp - 4) (x.queue / 8) it s)
  else if x.queue = 10000 then
    match s.swc.punts.get x.inp with
    | [] => s
    | t :: r => puntNow t.conduit t.source t.pkt (updSwc (fun w => { w with punts := w.punts.set x.inp r }) s)
  else if x.queue = 10001 then
    match s.swc.rxq.get (4 * (x.inp - 4) + x.outp) with
    | [] => s
    | p :: r => toEgress x.outp p (subStage x.inp (pktCells p) (updSwc (fun w => { w with rxq := w.rxq.set (4 * (x.inp - 4) + x.outp) r }) s))
  else if x.queue < 10040 then
    match s.injectHead (x.queue - 10000) with
    | some (n, _, p) =>
      let s := takeWords (x.queue - 10000) n s
      if x.outp < 4 then toEgress x.outp p s
      else updSwc (fun w => { w with reentry := w.reentry.upd (p.port / 8) (fun l => l ++ [{ p with inp := 10 }]) }) s
    | none => s
  else
    let k := x.queue - 10040
    match s.swc.recirc.get k with
    | [] => s
    | p :: r => updSwc (fun w => { w with recirc := w.recirc.set k r, reentry := w.reentry.upd k (fun l => l ++ [p]) })
        (freeCharge 11 (p.cls % 8) (pktCells p) s)

/-- One cell of a packet whose tail still arrives moves, if one is present (R349); the pair is free once the tail is complete. -/
def moveTail (n : Nat) (s : State) : State :=
  let t := s.swc.tails.get n
  if t.held = 0 then s else
    let s := updSwc (fun w => { w with tails := w.tails.set n { t with held := t.held - 1 } }) (subStage t.inp 1 s)
    match s.buf.staged.find? (fun x => x.pkt.tail == some n) with
    | some x => addStage x.inp 1 (updBuf (fun b => { b with staged := b.staged.map (fun y => if y = x then { y with cells := y.cells + 1 } else y) }) s)
    | none => s

/-- A transfer that follows a tail is at its end: no cell of it is held and none will come. -/
def State.tailMoved (s : State) (n : Nat) : Bool := (s.swc.tails.get n).state != .arriving && (s.swc.tails.get n).held == 0

/-- Every transfer moves one cell (R349). -/
def moveCells (s : State) : State :=
  let done := s.swc.xfers.filter (fun x => x.tail.isNone && decide (x.left ≤ 1))
  let s := updSwc (fun w => { w with xfers := (w.xfers.filter (fun x => x.tail.isSome || decide (1 < x.left))).map (fun x =>
    if x.tail.isSome then x else { x with left := x.left - 1 }) }) s
  let s := done.foldl (fun s x => finishXfer x s) s
  let s := (s.swc.xfers.filterMap Xfer.tail).foldl (fun s n => moveTail n s) s
  updSwc (fun w => { w with xfers := w.xfers.filter (fun x => match x.tail with | some n => !s.tailMoved n | none => true) }) s

/-- A fabric output has a packet that waits only for credits (R367): neither its input nor the output is matched. -/
def State.creditWait (s : State) : Bool :=
  (List.range 12).any (fun i => !s.swc.xfers.any (fun x => x.inp == i) && (s.voqHeads i).any (fun (q, it) =>
    (List.range 6).any (fun g => s.fabricReady g q && !s.swc.xfers.any (fun x => x.outp == g + 4)) &&
      decide ((s.peer (q / 8)).credit.get it.cls < s.creditNeed it)))

/-- What each core cycle does for credits (R368): every backlog that has changed by 16 or more is reported, and credits are granted
where room has opened; in Drain none are (R86). -/
def creditCycle (s : State) : State :=
  let s := (s.swc.peers.cells.map Prod.fst).foldl (fun s d => (List.range 8).foldl (fun s c => maybeRequest d c s) s) s
  if s.md.mode = .drain then s else grantCredits 32768 s

/-- Input 10 looks at every inject conduit that it is not moving a packet from (R495, R497). -/
def injectLook (inject : List (Nat × WordCheck)) (s : State) : State :=
  let s := inject.foldl (fun s e => if s.injectIdle e.1 then injectCheck e.1 e.2 s else s) s
  (List.range 16).foldl (fun s c => if s.injectIdle (16 + c) then injectStep (16 + c) s else s) s

/-- One core cycle of the switch core (R348, R349, R368). -/
def doMatching (inject : List (Nat × WordCheck)) (s : State) : State :=
  if !s.moves then s else
    let s := injectLook inject s
    let s := if s.creditWait then count Cnt.SWC_CREDIT_WAIT s else s
    let free := fun (f : Xfer → Nat) => (List.range 12).filter (fun k => !s.swc.xfers.any (fun x => f x == k))
    creditCycle (moveCells (matchIter 3 true (free (fun x => x.inp)) (free (fun x => x.outp)) s))

/-- MATCHING (R348). -/
def execMatching (inject : List (Nat × WordCheck)) (s : State) : Res := coreCmd (doMatching inject) s

/-! ### Transmission on a lane (R360, R364, R365) -/

/-- What a cell takes from the packets of a stream: payload, offset of the first packet start, whether it ends a cut-through
packet, whether that packet is poisoned, and the packets left. The first argument bounds the packets taken. -/
def fillCell (g : Nat) : Nat → Nat → List TxPkt → List Byte × Nat × Bool × Bool × List TxPkt
  | 0, _, ps => ([], 0xFF, false, false, ps)
  | _ + 1, _, [] => ([], 0xFF, false, false, [])
  | n + 1, room, p :: ps =>
    if (p.group ≠ g ∧ p.group ≠ 6) ∨ room = 0 then ([], 0xFF, false, false, p :: ps)
    else if room < p.bytes.length then
      (p.bytes.take room, if p.fresh then 240 - room else 0xFF, false, false, { p with bytes := p.bytes.drop room, fresh := false } :: ps)
    else if p.cut then (p.bytes, if p.fresh then 240 - room else 0xFF, true, p.poison, ps)
    else
      let r := fillCell g n (room - p.bytes.length) ps
      (p.bytes ++ r.1, if p.fresh then 240 - room else r.2.1, r.2.2.1, r.2.2.2.1, r.2.2.2.2)

/-- The cell of a stream that a lane sends next: the stream of D and number k. -/
def streamCell (s : State) (l d k : Nat) : Cell × List TxPkt :=
  let t := (s.peer d).tx.get k
  let f := fillCell (l / 8) 16 240 t.pkts
  ({ type := if k = 8 then .express else .bulk, poison := f.2.2.2.1, len := f.1.length, fpo := f.2.1, dst := d,
     cls := (match t.pkts.head? with | some p => p.cls % 8 | none => k % 8), fin := f.2.2.1, src := s.devId, pgen := (s.peer d).pgen, inc := s.swc.inc, seq := t.seq,
     payload := f.1 }, f.2.2.2.2)

/-- A numbered cell is sent and kept (R365). -/
def sendNumbered (l : Nat) (c : Cell) (s : State) : State :=
  let n := s.lane l
  let c := { c with lseq := n.txSeq }
  emit (.cell l (cellBytes c)) (updLane l (fun n => { n with txSeq := (n.txSeq + 1) % 4096, kept := n.kept ++ [c],
                                                             ackAt := if n.kept.isEmpty then s.now else n.ackAt }) s)

/-- The LINK cell that a lane sends (R362). -/
def State.linkCell (s : State) (l : Nat) : Cell :=
  let n := s.lane l
  { type := .link, len := 240, src := s.devId, inc := s.swc.inc,
    payload := leBytes 1 (if n.nakDue then 2 else 1) ++ [0] ++ leBytes 2 s.devId ++ leBytes 1 l ++ [0] ++
      leBytes 2 (if n.rxAny then (n.rxSeq + 4095) % 4096 + 32768 else 0) ++ leBytes 2 (if n.nakDue then n.rxSeq else 0) ++
      List.replicate 230 0 }

/-- Peers that a lane reaches, from its group's round-robin place on. -/
def State.lanePeers (s : State) (l : Nat) : List Nat :=
  let ds := (s.swc.peers.cells.map Prod.fst).filter (fun d => s.laneReaches l d)
  let p := s.swc.laneRr.get (l / 8) / 16
  ds.filter (fun d => decide (p ≤ d)) ++ ds.filter (fun d => decide (d < p))

/-- A lane may take a numbered cell: it has no replay in progress and fewer than 256 kept cells (R365). -/
def State.laneTakes (s : State) (l : Nat) : Bool := (s.lane l).replay.isEmpty && decide ((s.lane l).kept.length < 256)

/-- The next cell for D falls to this lane of its group: the group's lanes that reach D take the cells in round-robin order, cell by
cell, those that may take one (R372). -/
def State.laneTurnOf (s : State) (l d : Nat) : Bool :=
  let g := l / 8
  let t := s.swc.laneTurn.get (8 * d + g)
  match ((List.range 8).map (fun k => (t + k) % 8)).find? (fun k => s.laneReaches (8 * g + k) d && s.laneTakes (8 * g + k)) with
  | some k => k == l % 8
  | none => false

/-- A cell for D has gone to lane l. -/
def passTurn (l d : Nat) (s : State) : State :=
  updSwc (fun w => { w with laneTurn := w.laneTurn.set (8 * d + l / 8) ((l + 1) % 8) }) s

/-- A resent or PEER cell of a type that waits for a peer that the lane reaches. -/
def State.waitingCell (s : State) (l : Nat) (ty : CellType) : Option (Nat × Cell) :=
  ((s.lanePeers l).filter (fun d => s.laneTurnOf l d)).findSome? (fun d => ((s.peer d).outq.find? (fun c => c.type == ty)).map (fun c => (d, c)))

/-- A stream that the lane may serve: round robin over peers and streams of its group. -/
def State.laneStream (s : State) (l : Nat) (ks : List Nat) : Option (Nat × Nat) :=
  let all := ((s.swc.peers.cells.map Prod.fst).filter (fun d => s.laneReaches l d && s.laneTurnOf l d)).flatMap (fun d => ks.map (fun k => (d, k)))
  let ok := all.filter (fun x => match ((s.peer x.1).tx.get x.2).pkts.head? with | some p => p.group == l / 8 || p.group == 6 | none => false)
  let p := s.swc.laneRr.get (l / 8)
  (ok.find? (fun x => decide (p ≤ 16 * x.1 + x.2))).or ok.head?

/-- A stream sends its next cell on a lane. -/
def sendStream (l d k : Nat) (s : State) : State :=
  let x := streamCell s l d k
  let s := updPeer d (fun p => { p with tx := p.tx.set k { seq := (x.1.seq + 1) % 65536, pkts := x.2 } }) s
  sendNumbered l x.1 (passTurn l d (updSwc (fun w => { w with laneRr := w.laneRr.set (l / 8) (16 * d + k + 1) }) s))

def sendWaiting (l d : Nat) (c : Cell) (s : State) : State :=
  sendNumbered l c (passTurn l d (updPeer d (fun p => { p with outq := p.outq.erase c }) s))

/-- A lane sends the cell of its next slot (R364). -/
def doLaneCellSend (l : Nat) (s : State) : State :=
  if !s.laneLive l then s else
    let n := s.lane l
    match n.replay with
    | c :: r => emit (.cell l (cellBytes c)) (updLane l (fun n => { n with replay := r }) s)
    | [] =>
      if n.linkDue || n.nakDue then
        emit (.cell l (cellBytes (s.linkCell l))) (updLane l (fun n => { n with linkDue := false, nakDue := false, linkAt := s.now }) s)
      else if 256 ≤ n.kept.length then emit (.cell l (cellBytes {})) s
      else
        match s.waitingCell l .express, s.laneStream l [8], s.waitingCell l .peer, s.waitingCell l .bulk,
            s.laneStream l [0, 1, 2, 3, 4, 5, 6, 7] with
        | some (d, c), _, _, _, _ => sendWaiting l d c s
        | none, some (d, k), _, _, _ => sendStream l d k s
        | none, none, some (d, c), _, _ => sendWaiting l d c s
        | none, none, none, some (d, c), _ => sendWaiting l d c s
        | none, none, none, none, some (d, k) => sendStream l d k s
        | none, none, none, none, none => emit (.cell l (cellBytes {})) s

/-- LANE_CELL_SEND (R364). -/
def execLaneCellSend (lane : Nat) (s : State) : Res := coreCmd (doLaneCellSend lane) s

end Sys2Proof.Machine
end

