-- ==== Sys2Proof/Machine/Runner.lean ====
section
/-! DEFINITION. The Runner: launches, the frames of the ring, membership and bypass (R158 to R168, R442). -/
namespace Sys2Proof.Machine

/-- The master: the live member with the lowest position (R165). -/
def runnerMaster (members : Nat) : Nat := (lowBit? 8 members).getD 0

/-- The last live position of the chain (R162). -/
def runnerLast (members : Nat) : Nat := ((List.range 8).filter (fun i => bit members i)).getLast?.getD 0

/-! ### Frames of the ring (R161) -/

/-- ASA_RUNNER_CFG.WIDE: 320-bit keys on the chain (R160). -/
def State.ringWide (s : State) : Bool := bit (s.reg Reg.ASA_RUNNER_CFG) 16

/-- Bits 15:0 of a frame: kind, issuer and slot (R161). The codes of the kinds are their order in the table, 0 KEY, 1 STEP, 2 RESULT
and 3 CONTROL (DESIGN CHOICE). -/
def ringHead (kind issuer slot : Nat) : Nat := kind % 4 + 4 * (issuer % 8) + 32 * (slot % 2048)

/-- A KEY frame of 22 or 42 bytes, or a STEP frame with its resume point of 6 bytes more (R161). -/
def keyBytes (wide : Bool) (issuer slot key : Nat) (resume : Option (Nat × Nat × Nat)) : List Byte :=
  leBytes 2 (ringHead (if resume.isSome then 1 else 0) issuer slot) ++ leBytes (if wide then 40 else 20) key ++
    match resume with
    | some (p, e, r) => leBytes 1 p ++ leBytes 2 e ++ leBytes 3 r
    | none => []

/-- A RESULT frame of 10 bytes, its fields one after the other in the order of the table (R161; DESIGN CHOICE). -/
def resultBytes (f : ResultFrame) : List Byte :=
  leBytes 10 (ringHead 2 f.issuer f.slot + 2 ^ 16 * (f.position % 8) + 2 ^ 19 * b2n f.hit + 2 ^ 20 * b2n f.multi + 2 ^ 21 * b2n f.fin +
    2 ^ 22 * (f.entry % 2 ^ 16) + 2 ^ 38 * (f.action % 2 ^ 16) + 2 ^ 54 * (f.prio % 2 ^ 20))

/-- A CONTROL frame of 8 bytes (R161, R165 to R167, R442). Its layout is the model's: after kind and position bits 6:5 are 0 keepalive,
1 membership and 2 re-admission, bit 7 READY, bit 8 RETIRED, bits 23:16 GEN, bits 31:24 the member mask and bits 63:32 the epoch
(DESIGN CHOICE). -/
def controlBytes : ControlFrame → List Byte
  | .keepalive pos ready retired => leBytes 8 (3 + 4 * (pos % 8) + 128 * b2n ready + 256 * b2n retired)
  | .membership gen mask e =>
    leBytes 8 (3 + (if e.isSome then 64 else 32) + 2 ^ 16 * (gen % 256) + 2 ^ 24 * (mask % 256) + 2 ^ 32 * (e.getD 0 % 2 ^ 32))

/-- The frame goes out on the ring. -/
def ringOut (frame : List Byte) (s : State) : State := emit (.ring frame) s

/-- A frame came in: the ring lap works (R167). The lap fails while no frame comes in (DESIGN CHOICE). -/
def lapHeard (s : State) : State := updRun (fun r => { r with lapAt := s.now }) s

/-! ### Cascaded searches (R159 to R164) -/

/-- A cascaded search or STEP is requested (R161): it waits for a launch slot while the chain runs. -/
def casRequest (q : CasReq) (s : State) : State :=
  if s.asa.run.state = .running ∧ s.asa.run.retired = false then
    updRun (fun r => { r with waiting := r.waiting ++ [q] }) s
  else casTimeout q s

/-- What this member examines for a cascaded search (R159, R160, R168). -/
def State.casScope (s : State) : AsaScope :=
  { banks := s.reg Reg.ASA_RUNNER_BANKS &&& s.asaUsable, untagged := true,
    width := if s.ringWide then 320 else 160 }

/-- This member's own match for a slot (R159, R162, R163); `lost` are entries whose parity fails when they are read (R169). -/
def casSearchOwn (issuer slot key : Nat) (resume : Option (Nat × Nat × Nat)) (lost : List Nat) (s : State) : State :=
  let pos := s.runnerPos
  let s := asaParity s.casScope.banks lost s
  let r := match resume with
    | none => asaSearch s.asa.ents s.casScope key none
    | some (p, entry, prio) =>
      if pos < p then {} else asaSearch s.asa.ents s.casScope key (if pos = p then some (prio, entry) else none)
  let m : CasMatch := { slot := slot % 2048, issuer, hit := r.hit, multi := r.multi, entry := r.entry,
                        prio := r.prio, action := r.action }
  updRun (fun u => { u with matched := (u.matched.filter (fun x => x.slot != slot % 2048)) ++ [m] }) s

/-- The slot is the second of the two that the wide launch before it takes (R161). -/
def State.slotTaken (s : State) (slot : Nat) : Bool :=
  match s.asa.run.wideAt with
  | some (w, at_) => (w + s.runnerCount) % 2048 == slot % 2048 && decide (3 * (s.now - at_) < 8 * 2048)
  | none => false

/-- Launch of the request that has waited longest (R161, R162, R164). -/
def doCascadeLaunch (slot : Nat) (lost : List Nat) (s : State) : State :=
  let n := s.runnerCount
  if s.asa.run.state ≠ .running ∨ n = 0 ∨ slot % n ≠ s.runnerPos % n ∨ s.asa.run.retired = true then s
  else if s.slotTaken slot then updRun (fun r => { r with wideAt := none }) s
  else match s.asa.run.waiting with
    | [] => s
    | q :: rest =>
      let q := { q with slot := some (slot % 2048), at_ := s.now }
      let s := updRun (fun r => { r with waiting := rest, flight := r.flight ++ [q],
                                         wideAt := if s.ringWide then some (slot % 2048, s.now) else none }) s
      casSearchOwn s.runnerPos slot q.key q.resume lost
        (ringOut (keyBytes s.ringWide s.runnerPos slot q.key q.resume) (count Cnt.ASA_RUN_SEARCH s))

/-- CASCADE_LAUNCH (R161). -/
def execCascadeLaunch (slot : Nat) (lost : List Nat) (s : State) : Res := coreCmd (doCascadeLaunch slot lost) s

/-- Searches that wait on a member which launches no more complete with TIMEOUT (R166, R442; DESIGN CHOICE). -/
def dropWaiting (s : State) : State :=
  s.asa.run.waiting.foldl (fun s q => casTimeout q s) (updRun (fun r => { r with waiting := [] }) s)

/-- A ring frame fails its check and enters class 1; at the crossing the member is withdrawn (R438, R442). -/
def ringError (s : State) : State :=
  let r := enterError 1 0 1 s
  if r.1 then
    let s := dropWaiting (markRetired 1 0 (updRun (fun u => { u with retired := true }) r.2))
    raise 6 9 noUnit (256 * s.asa.run.gen + s.runnerPos) s
  else r.2

/-- A KEY or STEP frame arrives (R160, R162, R163, R166): `wide` says which of the two lengths it has. It leaves the ring before it
reaches its issuer again. A member in bypass forwards every frame unchanged. -/
def doKeyFrame (issuer slot key : Nat) (resume : Option (Nat × Nat × Nat)) (wide bad : Bool) (lost : List Nat) (s : State) : State :=
  let on := fun (s : State) => if (s.runnerPos + 1) % (max 1 s.runnerCount) = issuer then s
    else ringOut (keyBytes wide issuer slot key resume) s
  match s.asa.run.state with
  | .bypass => on (lapHeard s)
  | .running =>
    let s := lapHeard s
    if bad || wide != s.ringWide then ringError s
    else if issuer = s.runnerPos then s
    else on (casSearchOwn issuer slot key resume lost s)
  | _ => s

/-- KEY_FRAME (R162). -/
def execKeyFrame (issuer slot key : Nat) (wide bad : Bool) (lost : List Nat) (s : State) : Res :=
  coreCmd (doKeyFrame issuer slot key none wide bad lost) s

/-- STEP_FRAME (R163). -/
def execStepFrame (issuer slot key pos entry prio : Nat) (wide bad : Bool) (lost : List Nat) (s : State) : Res :=
  coreCmd (doKeyFrame issuer slot key (some (pos, entry, prio)) wide bad lost) s

/-- A RESULT frame on the ring (R161). -/
def resultOut (f : ResultFrame) (s : State) : State :=
  ringOut (resultBytes f) s

/-- This member's match for a slot, until a RESULT passes. -/
def State.casMatch? (s : State) (slot : Nat) : Option CasMatch := s.asa.run.matched.find? (fun x => x.slot == slot % 2048)

/-- The match of a slot is done with. -/
def dropMatch (slot : Nat) (s : State) : State :=
  updRun (fun u => { u with matched := u.matched.filter (fun x => x.slot != slot % 2048) }) s

/-- Slot s + LEAD (R162): the match flag is driven, and the winner originates its RESULT; the last member does so where no member
matched. A slot whose key this member has not searched, or has driven before, has no match and no RESULT. -/
def doCasMoutDrive (slot : Nat) (mini : Bool) (s : State) : State :=
  let s := { s with pins := { s.pins with casMin := mini } }
  match s.asa.run.state with
  | .bypass => { s with pins := { s.pins with casMout := mini } }
  | .running =>
    match (s.casMatch? slot).filter (fun m => !m.driven) with
    | none => { s with pins := { s.pins with casMout := mini } }
    | some m =>
      let last := s.runnerPos == runnerLast s.asa.run.members
      let s := { s with pins := { s.pins with casMout := mini || m.hit } }
      let s := updRun (fun u => { u with matched := u.matched.map (fun x =>
        if x.slot == slot % 2048 then { x with driven := true } else x) }) s
      if mini || s.asa.run.retired || !(m.hit || last) then s
      else
        dropMatch slot (resultOut
          (if m.hit then { issuer := m.issuer, slot := slot % 2048, position := s.runnerPos, hit := true, multi := m.multi, fin := last,
                           entry := m.entry, prio := m.prio, action := m.action }
           else { issuer := m.issuer, slot := slot % 2048, fin := true }) s)
  | _ => s

/-- CAS_MOUT_DRIVE (R162). -/
def execCasMoutDrive (slot : Nat) (mini : Bool) (s : State) : Res := coreCmd (doCasMoutDrive slot mini) s

/-- The request in flight of a slot leaves the list of those in flight. -/
def takeFlight (slot : Nat) (s : State) : Option (CasReq × State) :=
  match s.asa.run.flight.find? (fun q => q.slot == some (slot % 2048)) with
  | none => none
  | some q => some (q, updRun (fun r => { r with flight := r.flight.filter (fun x => x.slot != some (slot % 2048)) }) s)

/-- A RESULT that passes a member after the winner takes that member's match into MULTI, and END at the last member (R162). -/
def passMark (f : ResultFrame) (s : State) : ResultFrame × State :=
  let after := f.hit && decide (f.position < s.runnerPos) && !f.fin
  let own := ((s.casMatch? f.slot).map CasMatch.hit).getD false
  ({ f with multi := f.multi || (after && own), fin := f.fin || (after && s.runnerPos == runnerLast s.asa.run.members) }, dropMatch f.slot s)

/-- The issuer consumes a RESULT with END (R156, R162, R166). -/
def consumeResult (f : ResultFrame) (s : State) : State :=
  match takeFlight f.slot s with
  | none => s
  | some (q, s) =>
    casComplete q (if f.hit then { hit := true, multi := f.multi, cascaded := true, position := f.position,
                                   entry := f.entry, prio := f.prio, action := f.action }
                   else { cascaded := true }) s

/-- The RESULT of a search reaches its issuer with a failed check (R442): one relaunch, then TIMEOUT. -/
def failedResult (f : ResultFrame) (s : State) : State :=
  let s := ringError s
  match takeFlight f.slot s with
  | none => s
  | some (q, s) =>
    if q.relaunched || s.asa.run.retired then casTimeout q s
    else updRun (fun r => { r with waiting := { q with slot := none, relaunched := true } :: r.waiting }) s

/-- A RESULT frame reaches its issuer, which is a member after the winner besides where the winner is before it (R162, R166, R442). -/
def issuerResult (f : ResultFrame) (bad : Bool) (s : State) : State :=
  if bad then failedResult f s
  else if f.hit ∧ bit s.asa.run.members f.position = false then count Cnt.ASA_RUN_STALE (dropMatch f.slot s)
  else
    let r := if s.asa.run.state = .bypass then (f, s) else passMark f s
    if r.1.fin then consumeResult r.1 r.2 else resultOut r.1 r.2

/-- A RESULT frame passes this member (R162, R166). -/
def passResult (f : ResultFrame) (bad : Bool) (s : State) : State :=
  if s.asa.run.state = .bypass then resultOut f s
  else if bad then ringError s
  else
    let r := passMark f s
    resultOut r.1 r.2

/-- A RESULT frame arrives (R162). -/
def doResultFrame (f : ResultFrame) (bad : Bool) (s : State) : State :=
  if s.asa.run.state ≠ .running ∧ s.asa.run.state ≠ .bypass then s
  else if f.issuer = s.runnerPos then issuerResult f bad (lapHeard s) else passResult f bad (lapHeard s)

/-- RESULT_FRAME (R162). -/
def execResultFrame (f : ResultFrame) (bad : Bool) (s : State) : Res := coreCmd (doResultFrame f bad) s

/-- 2,048 slots of 8/3 ns have passed since the launch (R161, R167). -/
def doCascadeTimeout (slot : Nat) (s : State) : State :=
  match takeFlight slot s with
  | none => s
  | some (q, s) => casTimeout q (runTo (q.at_ + 5462) s)

/-- CASCADE_TIMEOUT (R167). -/
def execCascadeTimeout (slot : Nat) (s : State) : Res := coreCmd (doCascadeTimeout slot) s

/-- The ring starts to train, where the device is a member and the mode lets it run (R158). -/
def runnerStart (s : State) : State :=
  if s.ringAllowed then updRun (fun r => { r with state := .training, trainAt := s.now }) s else s

/-- A membership applies (R166, R167). Every member that applies it raises MEMBER_REJOINED for each member that it brings back (DESIGN
CHOICE, assumption 73). -/
def applyMembership (gen mask : Nat) (s : State) : State :=
  let was := s.asa.run.members
  let pos := s.runnerPos
  let s := updRun (fun r => { r with gen := gen % 256, members := mask % 256 }) s
  let s := if bit mask pos then
      (if s.asa.run.state = .bypass ∧ s.asa.run.retired = false then updRun (fun r => { r with state := .running }) s else s)
    else if s.asa.run.state = .running then
      raise 6 7 noUnit (256 * (gen % 256)) (dropWaiting (updRun (fun r => { r with state := .bypass }) s))
    else s
  (List.range 8).foldl (fun s p =>
    if bit mask p ∧ bit was p = false then raise 6 5 noUnit (256 * (gen % 256) + p) s else s) s

/-- The re-admission that names an epoch applies at that boundary (R167). -/
def runnerEpoch (last : Option Nat) (s : State) : State :=
  match s.asa.run.rejoin with
  | some (gen, mask, e) =>
    if s.epochReached last e then
      applyMembership gen mask (updRun (fun r => { r with rejoin := none }) s)
    else s
  | none => s

/-- A membership frame of the master excludes a member (R165). -/
def excludeMember (pos : Nat) (s : State) : State :=
  let gen := (s.asa.run.gen + 1) % 256
  let mask := setBits s.asa.run.members pos pos 0
  let s := ringOut (controlBytes (.membership gen mask none)) s
  raise 6 4 noUnit (256 * gen + pos) (applyMembership gen mask s)

/-- This member is the master among the live members other than `pos` (R165). -/
def State.isMaster (s : State) (pos : Nat) : Bool :=
  bit s.asa.run.members s.runnerPos && s.runnerPos == runnerMaster (setBits s.asa.run.members pos pos 0)

/-- A CONTROL frame goes on round the ring, a keepalive until it is back before its sender and a membership until it is back at the
master that sent it (DESIGN CHOICE). -/
def forwardControl (f : ControlFrame) (s : State) : State :=
  let ends := match f with
    | .keepalive pos _ _ => (s.runnerPos + 1) % (max 1 s.runnerCount) == pos
    | .membership .. => bit s.asa.run.members s.runnerPos && s.runnerPos == runnerMaster s.asa.run.members
  if ends then s else ringOut (controlBytes f) s

/-- What a CONTROL frame tells this member (R165 to R167, R442). -/
def takeControl (f : ControlFrame) (s : State) : State :=
  match f with
  | .keepalive pos ready retired =>
    let s := updRun (fun r => { r with heard := r.heard.set (pos % 8) s.now }) s
    let member := bit s.asa.run.members pos
    if retired && member && s.isMaster pos && pos != s.runnerPos then excludeMember (pos % 8) s
    else if ready && !retired && !member && s.isMaster pos && s.asa.run.rejoin.isNone then
      let gen := (s.asa.run.gen + 1) % 256
      let mask := s.asa.run.members ||| 2 ^ (pos % 8)
      let e := (s.epoch + 1) % 2 ^ 32
      updRun (fun r => { r with rejoin := some (gen, mask, e) }) (ringOut (controlBytes (.membership gen mask (some e))) s)
    else s
  | .membership gen mask none => applyMembership gen mask s
  | .membership gen mask (some e) => updRun (fun r => { r with rejoin := some (gen, mask, e) }) s

/-- A CONTROL frame arrives (R165 to R167, R442). A member that runs discards one that fails its check (R438); a member in bypass forwards
every frame. -/
def doControlFrame (f : ControlFrame) (bad : Bool) (s : State) : State :=
  match s.asa.run.state with
  | .running => if bad then ringError (lapHeard s) else takeControl f (forwardControl f (lapHeard s))
  | .bypass => if bad then forwardControl f (lapHeard s) else takeControl f (forwardControl f (lapHeard s))
  | _ => s

/-- CONTROL_FRAME (R165). -/
def execControlFrame (f : ControlFrame) (bad : Bool) (s : State) : Res := coreCmd (doControlFrame f bad) s

/-- The master finds a member silent for 64,000 ns (R165). -/
def doMemberDead (pos : Nat) (s : State) : State :=
  if s.asa.run.state = .running ∧ pos < 8 ∧ bit s.asa.run.members pos = true ∧ pos ≠ s.runnerPos ∧
      s.isMaster pos = true then
    excludeMember pos (runTo (s.asa.run.heard.get pos + 64000) s)
  else s

/-- MEMBER_DEAD (R165). -/
def execMemberDead (pos : Nat) (s : State) : Res := coreCmd (doMemberDead pos) s

/-- This member's keepalive (R165, R166, R442). -/
def doRunnerKeepalive (s : State) : State :=
  if s.asa.run.state = .running ∨ s.asa.run.state = .bypass then
    let s := runTo (s.asa.run.sent + 1000) s
    let ready := s.asa.run.state == .bypass && !s.asa.run.retired
    ringOut (controlBytes (.keepalive s.runnerPos ready s.asa.run.retired)) (updRun (fun r => { r with sent := s.now }) s)
  else s

/-- RUNNER_KEEPALIVE (R165). -/
def execRunnerKeepalive (s : State) : Res := coreCmd doRunnerKeepalive s

/-- The ring lap has failed for 64,000 ns (R167). -/
def doRunnerDown (s : State) : State :=
  if s.asa.run.state = .running ∨ s.asa.run.state = .bypass then
    let s := runTo (s.asa.run.lapAt + 64000) s
    raise 6 6 noUnit 0 (updRun (fun r => { r with trainAt := s.now }) (runnerHold s))
  else s

/-- RUNNER_DOWN (R167). -/
def execRunnerDown (s : State) : Res := coreCmd doRunnerDown s

/-- Training is tried again 100 ms after the last try, which has not completed or after which the Runner went DOWN (R167). -/
def doRingTraining (s : State) : State :=
  if (s.asa.run.state = .down ∨ s.asa.run.state = .training) ∧ s.ringAllowed = true then
    runnerStart (runTo (s.asa.run.trainAt + 100000000) s)
  else s

/-- RING_TRAINING (R167). -/
def execRingTraining (s : State) : Res := coreCmd doRingTraining s

/-- Ring training completes (R162, R172): the Runner is reported DOWN where the measured lap exceeds LEAD (R15). A member whose receive
path is retired stays in bypass (R442). -/
def doRunnerUp (lap members : Nat) (s : State) : State :=
  if s.asa.run.state ≠ .training ∨ s.ringAllowed = false then s
  else if s.regF Reg.ASA_RUNNER_CFG 15 8 < lap then
    raise 6 6 noUnit 0 (updRun (fun r => { r with state := .down, trainAt := s.now }) s)
  else
    let mask := members % 2 ^ s.runnerCount
    let s := updRun (fun r => { r with state := if bit mask s.runnerPos && !r.retired then .running else .bypass, members := mask,
                                       sent := s.now, lapAt := s.now, wideAt := none, rejoin := none,
                                       heard := (List.range 8).foldl (fun m p => m.set p s.now) r.heard }) s
    raise 6 3 noUnit (256 * s.asa.run.gen + mask) s

/-- RUNNER_UP (R172). -/
def execRunnerUp (lap members : Nat) (s : State) : Res := coreCmd (doRunnerUp lap members) s

end Sys2Proof.Machine
end

