-- ==== Sys2Proof/Machine/Telemetry.lean ====
section
/-! DEFINITION. Telemetry (R273 to R282): IPFIX messages and templates, end records, interval passes and NAT block
records. -/
namespace Sys2Proof.Machine

/-- EXPORTER x (R275). -/
def State.exporter (s : State) (x : Nat) : Dat := s.tblGet 0x2C x
def exValid (d : Dat) : Bool := datB d 0 0 1 == 1
def exUdp (d : Dat) : Bool := datB d 0 1 1 == 1
def exTarget (d : Dat) : Nat := datU d 1 1
def exHdrLen (d : Dat) : Nat := datU d 2 1

/-- Bytes that a message of an exporter may have: MTU less the FCS, and less the header of UDP export (R275). -/
def msgMax (d : Dat) : Nat := datU d 4 2 - 4 - (if exUdp d then exHdrLen d else 0)

/-! ### Templates (R276) -/

/-- Fields of the end and interval templates after the addresses: IE identifier and length. -/
def commonFields : List (Nat × Nat) :=
  [(7, 2), (11, 2), (4, 1), (6, 2), (234, 4), (61, 1), (152, 8), (153, 8), (86, 8), (85, 8), (225, 4), (227, 2)]

/-- The fields of a template (R276), without enterprise elements. -/
def templateFields (t : Nat) : List (Nat × Nat) :=
  let addrs := if t % 2 = 0 then [(8, 4), (12, 4)] else [(27, 16), (28, 16)]
  if t = 256 ∨ t = 257 then addrs ++ commonFields ++ [(136, 1)]
  else if t = 258 ∨ t = 259 then addrs ++ commonFields ++ [(2, 8), (1, 8), (276, 1), (323, 8)]
  else [(323, 8), (230, 1), (234, 4), (if t = 260 then (8, 4) else (27, 16)), (225, 4), (361, 2), (362, 2)]

/-- A template record of RFC 7011, with the enterprise elements of R276 where an enterprise number is set. -/
def templateRec (pen t : Nat) : List Byte :=
  let fs := (templateFields t).map (fun f => beBytes 2 f.1 ++ beBytes 2 f.2)
  let ent := if pen ≠ 0 ∧ t < 260 then
      [beBytes 2 (32768 + 1) ++ beBytes 2 2 ++ beBytes 4 pen, beBytes 2 (32768 + 2) ++ beBytes 2 4 ++ beBytes 4 pen] else []
  beBytes 2 t ++ beBytes 2 (fs.length + ent.length) ++ (fs ++ ent).flatten

/-- The template records of all six templates. -/
def State.templates (s : State) : List Byte :=
  (([256, 257, 258, 259, 260, 261]).map (templateRec (s.reg Reg.FSE_TEL_PEN))).flatten

/-! ### Messages (R273) -/

/-- The sets of a message: adjacent records of one template share a set; the template set has number 2. -/
def msgSets : List (Nat × List Byte) → List (Nat × List Byte)
  | [] => []
  | (t, b) :: r =>
    match msgSets r with
    | (u, c) :: q => if t = u then (t, b ++ c) :: q else (t, b) :: (u, c) :: q
    | [] => [(t, b)]

/-- The bytes of the sets. -/
def setBytes (recs : List (Nat × List Byte)) : List Byte :=
  ((msgSets recs).map (fun x => beBytes 2 x.1 ++ beBytes 2 (4 + x.2.length) ++ x.2)).flatten

/-- Data records of a message. -/
def dataRecs (recs : List (Nat × List Byte)) : Nat := (recs.filter (fun r => decide (256 ≤ r.1))).length

/-- The message of a partition (R273). -/
def State.ipfix (s : State) (i : Nat) (recs : List (Nat × List Byte)) : List Byte :=
  let b := setBytes recs
  beBytes 2 0x000A ++ beBytes 2 (16 + b.length) ++ beBytes 4 (s.nt / 1000000000) ++ beBytes 4 (s.svc.part.get i).seq.toNat ++
    beBytes 4 (s.devId * 4 + i) ++ b

/-- A UDP frame of an exporter (R275): lengths and checksums filled in. -/
def udpFrame (d : Dat) (msg : List Byte) : List Byte :=
  let hl := exHdrLen d
  let io := datU d 3 1
  let f := slice (bvBytes 128 d) 32 hl ++ msg
  let udp := hl - 8
  let f := setSlice f (udp + 4) (beBytes 2 (8 + msg.length))
  let f := setSlice f (udp + 6) [0, 0]
  if (byteAt f io).toNat / 16 = 4 then
    let f := setSlice (setSlice f (io + 2) (beBytes 2 (f.length - io))) (io + 10) [0, 0]
    setSlice f (io + 10) (beBytes 2 (65535 - onesSum (slice f io (4 * ((byteAt f io).toNat % 16)))))
  else
    let f := setSlice f (io + 4) (beBytes 2 (f.length - io - 40))
    let pseudo := slice f (io + 8) 32 ++ beBytes 4 (8 + msg.length) ++ [0, 0, 0, 17]
    let c := 65535 - onesSum (pseudo ++ f.drop udp)
    setSlice f (udp + 6) (beBytes 2 (if c = 0 then 65535 else c))

/-- A frame is queued at a port like a bulk frame (R275); one for a port that is down is dropped (R104). -/
def queueUdp (i : Nat) (d : Dat) (msg : List Byte) (s : State) : State :=
  let p := exTarget d % 32
  if !(s.port.get p).up then countC (datU d 8 1 % 8) (Cnt.LPC_TX_DOWN_DROP p) s
  else tmsEnqueue (p / 8) { bytes := udpFrame d msg, inPort := p, inp := i, cls := datU d 8 1 % 8, dev := s.devId, port := p } s

/-- A message is sent to its exporter; none when its conduit has no credit (R275, R492). -/
def sendMsg (i x : Nat) (recs : List (Nat × List Byte)) (s : State) : Option State :=
  let d := s.exporter x
  let m := s.ipfix i recs
  let done := fun s => updSvc i (fun p => { p with seq := p.seq + BitVec.ofNat 32 (dataRecs recs), msgs := p.msgs.set x none }) s
  if exUdp d then some (done (queueUdp i d m s)) else (cdtOffer (32 + exTarget d % 8) m s).map done

/-- Whether an exporter's next message begins with templates (R275). -/
def State.tmplDue (s : State) (i x : Nat) : Bool :=
  ((s.svc.part.get i).tmplAt.get x).isNone || (s.svc.part.get i).tmplAsk.get x

/-- Templates have gone into a message; RESEND clears when no exporter is left to serve (R282). -/
def tmplSent (i x : Nat) (s : State) : State :=
  let s := updSvc i (fun p => { p with tmplAt := p.tmplAt.set x (some s.now), tmplAsk := p.tmplAsk.set x false }) s
  { s with svc := { s.svc with resend := s.svc.resend && (List.range 4).any (fun i => !(s.svc.part.get i).tmplAsk.cells.isEmpty) } }

/-- A message is opened with its records. -/
def startMsg (i x : Nat) (recs : List (Nat × List Byte)) (s : State) : State :=
  updSvc i (fun p => { p with msgs := p.msgs.set x (some { recs := recs, firstAt := s.now }) }) s

/-- A message is opened with a first record (R273, R275). Templates that leave the record no room within the MTU go ahead of it in a
message of their own (DEDUCED). None when the exporter waits. -/
def openMsg (i x : Nat) (r : Nat × List Byte) (s : State) : Option State :=
  let t : Nat × List Byte := (2, s.templates)
  if !s.tmplDue i x then some (startMsg i x [r] s)
  else if 16 + (setBytes [t, r]).length ≤ msgMax (s.exporter x) then some (tmplSent i x (startMsg i x [t, r] s))
  else (sendMsg i x [t] s).map (fun s => startMsg i x [r] (tmplSent i x s))

/-- A record goes to an exporter (R273): into the open message, or into a new one when that message is full. None when the
exporter waits. -/
def addRecord (i x : Nat) (r : Nat × List Byte) (s : State) : Option State :=
  match (s.svc.part.get i).msgs.get x with
  | none => openMsg i x r s
  | some m =>
    if 16 + (setBytes (m.recs ++ [r])).length ≤ msgMax (s.exporter x) then
      some (updSvc i (fun p => { p with msgs := p.msgs.set x (some { m with recs := m.recs ++ [r] }) }) s)
    else (sendMsg i x m.recs s).bind (openMsg i x r)

/-- A message is closed 1,000,000 ns after its first record (R273). -/
def doMessageClose (i x : Nat) (s : State) : State :=
  match (s.svc.part.get i).msgs.get x with
  | none => s
  | some m => let s := runTo (m.firstAt + 1000000) s; (sendMsg i x m.recs s).getD s

/-- MESSAGE_CLOSE (R273). -/
def execMessageClose (part : Nat) (x : Nat) (s : State) : Res :=
  coreCmd (fun s => if part < 4 ∧ x < 8 ∧ s.moves = true then doMessageClose part x s else s) s

/-- The template period of a UDP exporter ends: its templates are sent in a message of their own (R275). -/
def doTemplateRefresh (i x : Nat) (s : State) : State :=
  let d := s.exporter x
  match (s.svc.part.get i).tmplAt.get x with
  | none => s
  | some t =>
    if exValid d && exUdp d then
      let s := runTo (t + datU d 6 2 * 1000000000) s
      tmplSent i x (queueUdp i d (s.ipfix i [(2, s.templates)]) s)
    else s

/-- TEMPLATE_REFRESH (R275). -/
def execTemplateRefresh (part : Nat) (x : Nat) (s : State) : Res :=
  coreCmd (fun s => if part < 4 ∧ x < 8 ∧ s.moves = true then doTemplateRefresh part x s else s) s

/-- FSE_TEL_CTL.RESEND (R275, R282): every valid conduit exporter starts its next message with templates. -/
def doResend (s : State) : State :=
  let xs := (List.range 8).filter (fun x => exValid (s.exporter x) && !exUdp (s.exporter x))
  let s := (List.range 4).foldl (fun s i => updSvc i (fun p =>
    { p with tmplAsk := xs.foldl (fun m x => m.set x true) p.tmplAsk }) s) s
  { s with svc := { s.svc with resend := !xs.isEmpty } }

/-- RESEND (R275). -/
def execResendTemplates (s : State) : Res := hostCmd 8 doResend s

/-! ### Records (R274, R276) -/

/-- NT in ms of an instant in ns of ST (R274). -/
def State.ntMs (s : State) (t : Nat) : Nat := wrap 64 (((t : Int) - s.tbe.off) / 1000000)

/-- The common fields of an end or interval record (R276). -/
def State.recCommon (s : State) (c : Clove) : List Byte :=
  let b := bvBytes 128 c
  let v4 := datB c 40 0 1 == 1
  let addr := fun (off : Nat) => if v4 then slice b (off + 12) 4 else slice b off 16
  let nat := datU c 64 1 = 1 ∨ datU c 64 1 = 2
  addr 4 ++ addr 20 ++ slice b 36 2 ++ slice b 38 2 ++ slice b 1 1 ++ beBytes 2 (datU c 107 1) ++ beBytes 4 (datU c 2 2) ++
    beBytes 1 (datB c 40 1 1) ++ beBytes 8 (s.ntMs (1000 * datU c 108 6)) ++ beBytes 8 (s.ntMs (1000 * datU c 114 6)) ++
    beBytes 8 (datU c 96 5) ++ beBytes 8 (datU c 101 6) ++
    (if nat then slice b 68 4 ++ slice b 66 2 else List.replicate 6 0)

/-- The enterprise elements of a record (R276). -/
def State.recPen (s : State) (c : Clove) : List Byte :=
  if s.reg Reg.FSE_TEL_PEN = 0 then [] else beBytes 2 (datU c 124 2) ++ beBytes 4 (datU c 120 4)

/-- flowEndReason of a clove end reason (R277). -/
def endReason (r : Nat) : Nat :=
  if r = 1 then 1 else if r = 2 then 2 else if r = 4 then 3 else if r = 5 ∨ r = 6 then 4 else 5

/-- The oldest clove of the end-record queue is taken (R277); a record that holds a clove index only has no profile that
asks for export. -/
def doEndRecordExport (i : Nat) (s : State) : State :=
  match (s.part.get i).endq with
  | [] => s
  | r :: rest =>
    let pop := fun s => updPart i (fun p => { p with endq := rest }) s
    let sp := s.svcParam (cvProfile r.clove)
    let x := datU sp 3 1
    if r.bare || !spFlag sp 3 || !exValid (s.exporter x) then pop s
    else
      let v4 := datB r.clove 40 0 1 == 1
      let body := s.recCommon r.clove ++ beBytes 1 (endReason r.reason) ++ s.recPen r.clove
      match addRecord i x (if v4 then 256 else 257, body) s with
      | some s => count (Cnt.FSE_TEL_END i) (pop s)
      | none => s

/-- END_RECORD_EXPORT (R277). -/
def execEndRecordExport (part : Nat) (s : State) : Res :=
  coreCmd (fun s => if part < 4 ∧ s.moves = true then doEndRecordExport part s else s) s

/-- The oldest NAT log record leaves its queue as a block record (R280). -/
def doNatRecordExport (i : Nat) (s : State) : State :=
  match (s.svc.part.get i).natq with
  | [] => s
  | r :: rest =>
    if !exValid (s.exporter r.exporter) then s else
      let a := bvBytes 16 r.saddr
      let body := beBytes 8 (s.ntMs r.at_) ++ beBytes 1 r.event ++ beBytes 4 r.zone ++ (if r.v6 then a else a.drop 12) ++
        beBytes 4 r.pubAddr ++ beBytes 2 r.portLo ++ beBytes 2 r.portHi
      match addRecord i r.exporter (if r.v6 then 261 else 260, body) s with
      | some s => count (Cnt.FSE_TEL_NAT i) (updSvc i (fun p => { p with natq := rest }) s)
      | none => s

/-- NAT_RECORD_EXPORT (R280). -/
def execNatRecordExport (part : Nat) (s : State) : Res :=
  coreCmd (fun s => if part < 4 ∧ s.moves = true then doNatRecordExport part s else s) s

/-! ### Interval passes (R278, R279) -/

/-- A telemetry window boundary in one partition (R278). -/
def twinPart (n i : Nat) (s : State) : State :=
  match (s.svc.part.get i).passes.get n with
  | some _ => raise 8 9 i (i + 16 * n) (count (Cnt.FSE_TEL_OVERRUN i) s)
  | none =>
    updSvc i (fun p =>
      let t : TelPass := { pos := 0, instant := s.now, unrel := p.unrel.get n }
      { p with passes := p.passes.set n (some t), unrel := p.unrel.set n false }) s

/-- EN of a telemetry window (R55). -/
def State.twinOn (s : State) (n : Nat) : Bool := bit (s.reg (Reg.TBE_TWIN_CFG n)) 8

/-- The boundary of window n at the current ST (R49, R278). -/
def twinAt (n : Nat) (s : State) : State :=
  let s := { s with tbe := { s.tbe with twinSeen := s.tbe.twinSeen.set n (s.now / s.twinPeriod n) } }
  if s.moves && s.twinOn n then (List.range 4).foldl (fun s i => twinPart n i s) s else s

/-- The next index at or after a place that holds a valid clove. -/
def State.nextClove (s : State) (i at_ : Nat) : Option Nat :=
  let hi := s.cloveBase i + s.cloves i
  let ks := s.clove.keysIn at_ hi ++ ((s.part.get i).lines.map (fun l => l.idx)).filter (fun k => decide (at_ ≤ k) && decide (k < hi))
  (ks.filter (fun k => cvValid (s.cloveNow i k))).foldl (fun a k => match a with | none => some k | some m => some (min m k)) none

/-- An interval record (R276, R278). -/
def State.intervalRec (s : State) (c : Clove) (dp db instant : Nat) (unrel : Bool) : Nat × List Byte :=
  (if datB c 40 0 1 = 1 then 258 else 259,
   s.recCommon c ++ beBytes 8 dp ++ beBytes 8 db ++ beBytes 1 (if unrel then 2 else 1) ++ beBytes 8 (s.ntMs instant) ++ s.recPen c)

/-- A pass of window n visits its next clove (R278), which is lost where its burst is poisoned (R232). -/
def doTelemetryPass (i n : Nat) (ue : Bool) (s : State) : State :=
  let p := s.svc.part.get i
  match p.passes.get n with
  | none => s
  | some t =>
    match s.nextClove i (s.cloveBase i + t.pos) with
    | none => updSvc i (fun p => { p with passes := p.passes.set n none }) s
    | some idx =>
      let next := fun s => updSvc i (fun p => { p with passes := p.passes.set n (some { t with pos := idx + 1 - s.cloveBase i }) }) s
      if s.readFails i idx false then next (loseClove i idx none s) else
      let c := s.cloveNow i idx
      let sp := s.svcParam (cvProfile c)
      let x := datU sp 3 1
      let sh := p.shadows.get idx
      let sh := if ue || sh.gen != cvGen c then ({} : Shadow) else sh
      let dp := (datU c 96 5 + 2 ^ 40 - sh.pkts) % 2 ^ 40
      let db := (datU c 101 6 + 2 ^ 48 - sh.bytes) % 2 ^ 48
      if !spFlag sp 4 || datU sp 2 1 % 8 != n || (spFlag sp 2 && dp == 0) || !exValid (s.exporter x) then next s
      else
        match addRecord i x (s.intervalRec c dp db t.instant t.unrel) s with
        | none => s
        | some s =>
          let w : Shadow := { pkts := datU c 96 5, bytes := datU c 101 6, gen := cvGen c, win := s.twin n }
          next (count (Cnt.FSE_TEL_INTERVAL i) (updSvc i (fun p => { p with shadows := p.shadows.set idx w }) s))

/-- TELEMETRY_PASS (R278). -/
def execTelemetryPass (part : Nat) (win : Nat) (ue : Bool) (s : State) : Res :=
  coreCmd (fun s => if part < 4 ∧ win < 8 ∧ s.moves = true then doTelemetryPass part win ue s else s) s

end Sys2Proof.Machine
end

