-- ==== Sys2Proof/Machine/Time.lean ====
section
/-! DEFINITION. Time inputs and the disciplines of NT and ST (R32 to R48, R54, R55, R554, R555). -/
namespace Sys2Proof.Machine

/-- Time passes on the timebase (R32). -/
def elapse (gap : Nat) (s : State) : State := { s with tbe := { s.tbe with st := s.tbe.st + gap } }

/-- TBE_PPS_CFG.PPS_COMP (R33). -/
def State.ppsComp (s : State) : Int := sext 16 (s.regF Reg.TBE_PPS_CFG 15 0)
/-- TBE_CFG.SLEW_LIMIT (R42). -/
def State.slewLimit (s : State) : Nat := s.regF Reg.TBE_CFG 15 0

/-- TBE enters HOLDOVER: the slew state is cleared, the entry counted and the event raised (R47). -/
def enterHoldover (detail : Nat) (s : State) : State :=
  raise 2 4 noUnit detail (count Cnt.TBE_HOLDOVER_ENTRY
    { s with tbe := { s.tbe with state := .holdover, slew := 0 } })

/-- The first pass of every window to close after the step is flagged (R279). -/
def flagWindows (s : State) : State :=
  let all : SMap Bool := (List.range 8).foldl (fun m n => m.set n true) {}
  { s with svc := { s.svc with part := (List.range 4).foldl (fun m i => m.upd i (fun p => { p with unrel := all })) s.svc.part } }

/-- NT x 10^9 becomes `nt` and ST max(ST, nt) (R43, R554). A forward move of ST waits for its discharge (R44) and flags the
telemetry windows (R279). The pulse that causes the step is accepted at the new ST (R34, R40; DEDUCED). -/
def setNt (nt : Nat) (s : State) : State :=
  let st := max s.now nt
  let fwd := decide (s.now < st)
  let s := { s with tbe := { s.tbe with st := st, off := st - nt, slew := 0, lastEdge := some st, lastGood := st,
                                        skip := if fwd then some (s.tbe.skip.getD s.now) else s.tbe.skip } }
  if fwd then flagWindows s else s

/-- The instant of the pulse as NT or ST in ns, for a boundary at `sec` (R33): the boundary lies PPS_COMP before the
captured edge. -/
def edgeNt (sec : Nat) (s : State) : Nat := ((sec : Int) * 1000000000 + s.ppsComp).toNat

/-- A labelled accepted pulse in UNSYNC (R554, R555). -/
def acquirePulse (sec : Nat) (s : State) : State :=
  let comp : Int := (s.now : Int) - s.ppsComp
  let ok := match s.tbe.kept with
    | some (k, at_) => sec == k + 1 && decide ((comp - at_ - 1000000000).natAbs ≤ 100)
    | none => false
  if ok then
    let s := setNt (edgeNt sec s) s
    let s := { s with tbe := { s.tbe with state := .locked, kept := none, prev := none } }
    let s := raise 2 1 noUnit (s.nt / 1000000000 % 2 ^ 32) s
    if s.tbe.refclkLost then enterHoldover 1 s else s
  else
    let s := if s.tbe.labelled then count Cnt.TBE_TOD_MISMATCH s else s
    { s with tbe := { s.tbe with kept := some (sec, comp), labelled := true } }

/-- A confirmed error other than one that is slewed steps NT (R43). -/
def stepNt (sec : Nat) (s : State) : State :=
  let old := s.nt
  let st0 := s.now
  let off0 := s.tbe.off
  let s := setNt (edgeNt sec s) s
  if old < s.nt then raise 2 2 noUnit (sat32 ((s.now - st0) / 1000)) (count Cnt.TBE_STEP_FWD s)
  else raise 2 3 noUnit (sat32 ((s.tbe.off - off0) / 1000)) (count Cnt.TBE_STEP_BACK s)

/-- A labelled accepted pulse in LOCKED or HOLDOVER (R41 to R43, R47). The predicted second is the boundary nearest
the compensated instant in NT (DEDUCED). -/
def disciplinePulse (sec : Nat) (s : State) : State :=
  let at_ : Int := (s.nt : Int) - s.ppsComp
  let pred := (at_ + 500000000) / 1000000000
  let label : Int := (sec : Int) - pred
  let phase : Int := at_ - pred * 1000000000
  let confirmed := match s.tbe.prev with
    | some (ps, pl, pp) => decide (sec = ps + 1) && decide (pl = label) && decide ((pp - phase).natAbs ≤ 100)
    | none => false
  let large := decide (label ≠ 0) || decide (s.slewLimit < phase.natAbs)
  let s := { s with tbe := { s.tbe with prev := some (sec, label, phase), phaseErr := phase, lastGood := s.tbe.st } }
  if confirmed then
    let s := if s.tbe.state = .holdover ∧ s.tbe.refclkLost = false then
        raise 2 5 noUnit (wrap 32 phase) { s with tbe := { s.tbe with state := .locked } }
      else s
    if large then stepNt sec s
    else { s with tbe := { s.tbe with slew := -phase, slewDue := s.tbe.st + 20000 } }
  else if large then count Cnt.TBE_TOD_MISMATCH s
  else s

/-- An edge of TIME_PPS (R33, R34, R41, R555). -/
def doPpsEdge (gap : Nat) (rising : Bool) (s : State) : State :=
  let s := elapse gap s
  if rising == bit (s.reg Reg.TBE_PPS_CFG) 16 then s else
  if (match s.tbe.lastEdge with | some e => decide (s.now - e < 500000000) | none => false) then
    count Cnt.TBE_PPS_GLITCH s
  else
    let bound := s.tbe.bound
    let s := { s with tbe := { s.tbe with lastEdge := some s.tbe.st, bound := none } }
    match bound with
    | none => count Cnt.TBE_TOD_MISSING { s with tbe := { s.tbe with kept := none, prev := none } }
    | some sec => if s.tbe.state = .unsync then acquirePulse sec s else disciplinePulse sec s

/-- PPS_EDGE (R41). -/
def execPpsEdge (gap : Nat) (rising : Bool) (s : State) : Res := tbeCmd (doPpsEdge gap rising) s

/-- A message counted in TBE_TOD_BAD, with TOD_INVALID at most once a second (R54). -/
def todBad (s : State) : State :=
  let s := count Cnt.TBE_TOD_BAD s
  let n := s.tbe.badSince + 1
  let opens := limOpen 1 0 2 7 s
  let s := raiseLim 1 0 2 7 noUnit (sat32 n) s
  { s with tbe := { s.tbe with badSince := if opens then 0 else n } }

/-- Whether a time-of-day message passes R36 and R37. -/
def todOk (bytes : List Byte) : Bool :=
  bytes.length == 16 && byteAt bytes 0 == 0x5A && byteAt bytes 1 == 0x01 &&
    (byteAt bytes 8).toNat / 8 == 0 && crc16 (bytes.take 14) == leVal (slice bytes 14 2) &&
    decide (leVal (slice bytes 2 6) ≤ 18446744072)

/-- A message ends on a byte gap (R35, R37). -/
def doTodMessage (gap : Nat) (bytes : List Byte) (s : State) : State :=
  let s := elapse gap s
  if bytes.isEmpty then s
  else if todOk bytes then
    let s := if s.tbe.bound.isSome then todBad s else s
    { s with tbe := { s.tbe with bound := some (leVal (slice bytes 2 6)), lastTod := bvOfBytes 128 bytes,
                                 leap := bit (byteAt bytes 8).toNat 1, traceable := bit (byteAt bytes 8).toNat 0 } }
  else todBad s

/-- TOD_MESSAGE (R35). -/
def execTodMessage (gap : Nat) (bytes : List Byte) (s : State) : Res := tbeCmd (doTodMessage gap bytes) s

/-- One increment of a slew is added or withheld (R42). The next follows 20,000 timebase cycles later: 20,000 ns of ST after an
added one, and 19,999 ns after a withheld one, whose own cycle leaves ST where it was. -/
def doSlewIncrement (s : State) : State :=
  if s.tbe.slew = 0 then s else
    let s := runTo s.tbe.slewDue s
    if 0 < s.tbe.slew then
      { s with tbe := { s.tbe with st := s.tbe.st + 1, slew := s.tbe.slew - 1, slewDue := s.tbe.st + 1 + 20000 } }
    else { s with tbe := { s.tbe with slew := s.tbe.slew + 1, slewDue := s.tbe.st + 19999 } }

/-- SLEW_INCREMENT (R42). -/
def execSlewIncrement (s : State) : Res := tbeCmd doSlewIncrement s

/-- 2 s of ST without an accepted pulse that carries a valid message (R40, R47). -/
def doHoldoverEnter (s : State) : State :=
  if s.tbe.state = .locked then enterHoldover 0 (runTo (s.tbe.lastGood + 2000000000) s) else s

/-- HOLDOVER_ENTER (R47). -/
def execHoldoverEnter (s : State) : Res := tbeCmd doHoldoverEnter s

/-- The clock monitor loses TIME_REFCLK (R48), which is alarm source 5 (R468). -/
def doRefclkLost (ppm : Int) (s : State) : State :=
  if s.tbe.refclkLost then s else
    let s := { s with tbe := { s.tbe with refclkLost := true } }
    let s := if s.tbe.state = .locked then enterHoldover 1 s else s
    doAlarm 5 (raise 2 6 noUnit (wrap 32 ppm) s)

/-- REFCLK_LOST (R48). -/
def execRefclkLost (ppm : Int) (s : State) : Res := tbeCmd (doRefclkLost ppm) s

/-- TIME_REFCLK is back (R48), and source 5 is inactive (R468). -/
def doRefclkRestored (s : State) : State := doSourceInactive 5 { s with tbe := { s.tbe with refclkLost := false } }

/-- REFCLK_RESTORED (R48). -/
def execRefclkRestored (s : State) : Res := tbeCmd doRefclkRestored s

/-- The snapshot registers take NT, ST and E (R55). -/
def doSnap (s : State) : State :=
  { s with tbe := { s.tbe with snapNt := s.nt, snapSt := s.now, snapE := s.epoch } }

end Sys2Proof.Machine
end

