-- ==== Sys2Proof/Machine/Flags.lean ====
section
/-! DEFINITION. The flags of the micro-operations (R297, R305) and the conditions (R297). -/
namespace Sys2Proof.Machine

/-- Z and N of a 64-bit result. -/
def zFlag (r : Word64) : Bool := r == 0
def nFlag (r : Word64) : Bool := r.msb

/-- Flags of a sum: C is the carry out, V the signed overflow (R305). -/
def addFlags (a b : Word64) (l : Live) : Live :=
  let r := a + b
  { l with z := zFlag r, c := decide (2 ^ 64 ≤ a.toNat + b.toNat), n := nFlag r,
           v := a.msb == b.msb && r.msb != a.msb }

/-- Flags of a difference: C is the borrow (R297). -/
def subFlags (a b : Word64) (l : Live) : Live :=
  let r := a - b
  { l with z := zFlag r, c := decide (a.toNat < b.toNat), n := nFlag r, v := a.msb != b.msb && r.msb != a.msb }

/-- Flags of a logical operation: Z and N of the result. The spec gives C and V of a logical operation no value: they are
free (DESIGN CHOICE 2). -/
def logicFlags (r : Word64) (c v : Bool) (l : Live) : Live := { l with z := zFlag r, c := c, n := nFlag r, v := v }

/-- Whether a condition holds; none is a code of 9 to 15 (R297). -/
def condHolds (l : Live) (code : Nat) : Option Bool :=
  match code with
  | 0 => some true
  | 1 => some l.z
  | 2 => some (!l.z)
  | 3 => some l.c
  | 4 => some (!l.c)
  | 5 => some (l.n != l.v)
  | 6 => some (l.n == l.v)
  | 7 => some l.ok
  | 8 => some (!l.ok)
  | _ => none

/-- The FLAGS word of the saved micro-state (R310). -/
def flagsWord (l : Live) (tm : Bool) : Nat :=
  b2n l.z + 2 * b2n l.c + 4 * b2n l.n + 8 * b2n l.v + 16 * b2n l.ok + 32 * b2n l.epw + 64 * b2n tm + 128 * b2n l.wd

/-- FLAG (R305): the flags of `set` are set and those of `clear` cleared; TM stands. -/
def flagOp (set clear : Nat) (l : Live) : Live :=
  let f := fun (k : Nat) (b : Bool) => (b || bit set k) && !bit clear k
  { l with z := f 0 l.z, c := f 1 l.c, n := f 2 l.n, v := f 3 l.v, ok := f 4 l.ok, epw := f 5 l.epw,
           wd := l.wd || bit set 7 }

end Sys2Proof.Machine
end

