-- ==== Sys2Proof/Machine/Operands.lean ====
section
/-! DEFINITION. The operands of the micro-operations: registers (R288), the four windows (R289 to R292), the head edits
(R291) and the fields of the current FI (R294). -/
namespace Sys2Proof.Machine

/-- Micro-register k (R288). -/
def thReg (h : Thread) (k : Nat) : Word64 := h.live.m.get k

/-- A micro-register is written. -/
def setM (t k : Nat) (v : Word64) (s : State) : State := updLive t (fun l => { l with m := l.m.set k v }) s

/-- The FI's fields (R294). -/
def fiA (w : Word32) : Nat := bits w.toNat 23 21
def fiB (w : Word32) : Nat := bits w.toNat 20 18
def fiImm (w : Word32) : Nat := bits w.toNat 15 0

/-! ### Windows -/

/-- A window's size (R289). The head window ends with frame byte 511, wherever pushes and pulls have left it. -/
def windowSize (h : Thread) (win : Nat) : Nat := match win with | 0 => 128 | 1 => 256 | 2 => 512 + h.pushed - h.pulled | _ => 256

/-- One byte of a window, as a load sees it (R289, R291, R311). -/
def windowByte (s : State) (t win off : Nat) : Byte :=
  let h := s.th t
  match win with
  | 0 =>
    (match h.clove with
    | some idx => if h.tm then 0 else BitVec.ofNat 8 (datU (s.cloveNow (thCluster t) idx) off 1)
    | none => 0)
  | 1 => BitVec.ofNat 8 (datU h.desc off 1)
  | 2 => byteAt h.pkt.bytes off
  | _ => BitVec.ofNat 8 (datU h.scratch off 1)

/-- Bytes loaded from a window; none is a FAULT (R289). A clove access in a trap routine is counted (R311). -/
def loadBytes (t win off n : Nat) (s : State) : Option (List Byte) × State :=
  if windowSize (s.th t) win < off + n then (none, s) else
    let bs := (List.range n).map (fun k => windowByte s t win (off + k))
    (some bs, if win = 0 ∧ (s.th t).tm = true then count (Cnt.ENG_TRAP_WINDOW (thCluster t)) s else s)

/-- The value of loaded bytes (R289). -/
def loadVal (net : Bool) (bs : List Byte) : Nat := if net then beVal bs else leVal bs

/-- Bits of a clove byte that a program may write (R206). -/
def cloveMask (off : Nat) : Nat :=
  if off = 48 then 2 else if off = 50 ∨ off = 52 then 0xFF else if off = 53 then 0x0F
  else if 64 ≤ off ∧ off < 96 then 0xFF else if 120 ≤ off ∧ off < 124 then 0xFF else 0

/-- Bits of a descriptor byte that a program may write (R290). -/
def descMask (egress : Bool) (off : Nat) : Nat :=
  match off with
  | 88 => 7 | 89 => 3 | 90 => 7
  | 92 => 0xFF | 93 => 0xFF | 94 => 3
  | 98 => if egress then 0x1F else 0
  | 100 => if egress then 0xFF else 0
  | 101 => if egress then 0xFF else 0
  | 120 => 3 | 121 => 0xFF | 122 => 0xFF | 123 => 3
  | _ => 0

/-- Bytes that belong to a writable field though they hold none of its bits. -/
def descQuiet (egress : Bool) (off : Nat) : Bool := off == 95 || (egress && (off == 102 || off == 103))

/-- PINNED of a clove follows a program's write (R206, R235): the bucket's pin and the partition's count change with it,
and a pin beyond PIN_MAX is refused. -/
def pinByProgram (i idx : Nat) (v : Byte) (s : State) : State :=
  let c := s.cloveNow i idx
  let want := bit v.toNat 1
  if want = cvPinned c then s
  else if want && !s.pinRoom i then pinRefused i s
  else
    let s := updBucket (cvDirSlot c / 8) (fun d => { d with slots := d.slots.map (fun x =>
      if x.slot == cvDirSlot c % 8 && x.idx == idx then { x with pinned := want } else x) }) s
    updPart i (fun p => { p with pinned := if want then p.pinned + 1 else p.pinned - 1 })
      (updClove i idx (fun c => datPutB c 48 1 1 (b2n want)) s)

/-- One byte is stored to the clove window; the Bool says that it was ignored (R206, R289). -/
def storeClove (t off : Nat) (b : Byte) (s : State) : Bool × State :=
  let i := thCluster t
  match (s.th t).clove with
  | none => (false, s)
  | some idx =>
    if off = 48 then (false, pinByProgram i idx b s)
    else
      let m := cloveMask off
      if m = 0 then (true, s) else (false, updClove i idx (fun c => datPut c off 1 (b.toNat &&& m)) s)

/-- One byte is stored to the descriptor window; the Bool says that it was ignored (R290). An egress write of DEST_PORT
clears NAT_OWNER. -/
def storeDesc (t off : Nat) (b : Byte) (s : State) : Bool × State :=
  let eg := (s.th t).egress
  let m := descMask eg off
  if m = 0 then (!descQuiet eg off, s) else
    let s := updTh t (fun h => { h with desc := datPut h.desc off 1 (b.toNat &&& m) }) s
    (false, if off = 98 then updTh t (fun h => { h with pkt := { h.pkt with natOwner := false } }) s else s)

/-- One byte is stored to a window; the Bool says that it was ignored. -/
def storeByte (t win off : Nat) (b : Byte) (s : State) : Bool × State :=
  match win with
  | 0 => storeClove t off b s
  | 1 => storeDesc t off b s
  | 2 => (false, updTh t (fun h => { h with pkt := { h.pkt with bytes := setByte h.pkt.bytes off b } }) s)
  | _ => (false, updTh t (fun h => { h with scratch := datPut h.scratch off 1 b.toNat }) s)

/-- Bytes are stored one after the other; the Bool says that some were ignored. -/
def storeAll (t win : Nat) : Nat → List Byte → Bool × State → Bool × State
  | _, [], r => r
  | off, b :: bs, r => let q := storeByte t win off b r.2; storeAll t win (off + 1) bs (r.1 || q.1, q.2)

/-- The attributes of an engine's store to its clove window (R510). -/
def engAttr (h : Thread) (c : Nat) : Attr := { master := some 2, tbl := some (0x20 + c), idx := h.clove }

/-- Bytes stored to a window; none is a FAULT (R289, R291). A clove store in a trap routine or under a shared lock is
ignored and counted (R289, R311). -/
def storeBytes (t win off : Nat) (bs : List Byte) (s : State) : Option State :=
  let h := s.th t
  let c := thCluster t
  if windowSize h win < off + bs.length then none
  else if win = 2 ∧ h.pkt.bytes.length < off + bs.length then none
  else if win = 0 ∧ h.tm = true then some (countA (engAttr h c) (Cnt.ENG_TRAP_WINDOW c) 1 s)
  else if win = 0 ∧ h.clove.isSome = true ∧ h.shared = true then some (countA (engAttr h c) (Cnt.FSE_WINDOW_RO c) 1 s)
  else
    let r := storeAll t win off bs (false, s)
    some (if !r.1 then r.2 else if win = 0 then countA (engAttr h c) (Cnt.FSE_WINDOW_RO c) 1 r.2 else count (Cnt.ENG_DESC_RO c) r.2)

/-- The bytes of a value to store (R289). -/
def storeVal (net : Bool) (n v : Nat) : List Byte := if net then beBytes n v else leBytes n v

/-! ### Head edits (R291) -/

/-- FRAME_LEN follows the frame. -/
def keepLen (h : Thread) : Thread := { h with desc := datPut h.desc 82 2 (h.pkt.bytes.length + 4) }

/-- PUSH n; none is a FAULT. -/
def pushHead (t n : Nat) (s : State) : Option State :=
  if 128 < (s.th t).pushed + n then none
  else some (updTh t (fun h => keepLen { h with
    pushed := h.pushed + n, pkt := { h.pkt with bytes := List.replicate n 0 ++ h.pkt.bytes } }) s)

/-- PULL n; none is a FAULT. -/
def pullHead (t n : Nat) (s : State) : Option State :=
  let h := s.th t
  if 256 < h.pulled + n ∨ h.pkt.bytes.length < n then none
  else some (updTh t (fun h => keepLen { h with
    pulled := h.pulled + n, pkt := { h.pkt with bytes := h.pkt.bytes.drop n } }) s)

end Sys2Proof.Machine
end

