-- ==== Sys2Proof/Machine/Track.lean ====
section
/-! DEFINITION. Stateful filtering at the end of a program: zone policies (R269), the TCP states (R270) and the window tests (R271). The
spec gives their counters to no micro-operation, so the device applies these rules itself at the DISP END of a run that holds its clove
alone (DESIGN CHOICE). -/
namespace Sys2Proof.Machine

/-- ZONE_POLICY of a clove (R269): zeros where VALID is clear. -/
def State.zonePolicy (s : State) (c : Clove) : Dat :=
  let e := s.tblGet 0x2B (datU c 2 2 % 4096)
  if datB e 0 0 1 = 1 then e else 0
def zpInbound (z : Dat) : Bool := datB z 0 1 1 == 1
def zpPickup (z : Dat) : Bool := datB z 0 2 1 == 1
def zpWinCheck (z : Dat) : Bool := datB z 0 3 1 == 1

/-- What a policy's action code does to a packet (R269): nothing, or a verdict with its argument. A code above 2 has no stated effect:
it does what one of the three codes does, by a free value (DESIGN CHOICE). -/
def zoneAct (code : Nat) (z : Dat) (s : State) : Option (Nat × Nat) × State :=
  let d := if 2 < code then draw s else (0, s)
  (match (if 2 < code then Config.pick d.1 % 3 else code) with
   | 0 => some (1, 0)
   | 1 => none
   | _ => some (2, datB z 3 0 4), d.2)

/-! ### The pair (R243, R268, R270) -/

/-- A FILTER or LB clove. -/
def pairedFmt (c : Clove) : Bool := datU c 64 1 == 3 || datU c 64 1 == 4

/-- The peer that a flow clove names, while it stands (R243). -/
def State.tcpPeer (s : State) (i : Nat) (c : Clove) : Option Nat :=
  let p := datU c 78 4 % 2 ^ 27
  if datB c 81 7 1 = 1 ∧ s.cloveIs i p (datU c 82 1) = true then some p else none

/-- P (R270): STATE of the peer, or what the TCP_FLAGS of a reverse clove give; 0 where no peer stands (DEDUCED). -/
def State.peerState (s : State) (i : Nat) (c : Clove) : Nat :=
  match s.tcpPeer i c with
  | none => 0
  | some p =>
    let d := s.cloveNow i p
    if pairedFmt c then datU d 50 1
    else if datB d 107 2 1 = 1 then 7 else if datB d 107 0 1 = 1 then 4 else if datB d 107 1 1 = 1 then 2 else 0

def State.trackOf (s : State) (i idx : Nat) : TcpTrack := (s.svc.part.get i).track.get idx

/-! ### The window (R271) -/

/-- a ≤ b in serial order modulo 2^32. -/
def serialLe (a b : Nat) : Bool := decide ((b + 2 ^ 32 - a % 2 ^ 32) % 2 ^ 32 < 2 ^ 31)

/-- The later of two values in serial order. -/
def serialMax (a b : Nat) : Nat := if serialLe a b then b else a

/-- The four tests of R271. A segment without ACK carries no acknowledgement to test (DEDUCED). -/
def windowPasses (g : TcpSeg) (own peer : Clove) : Bool :=
  serialLe (g.seq + g.len) (datU peer 88 4 + max (datU peer 92 4) 1) &&
  serialLe (datU own 84 4 + 2 ^ 32 - datU peer 92 4) g.seq &&
  (!g.ackFlag || (serialLe g.ack (datU peer 84 4) && serialLe (datU peer 84 4 + 2 ^ 32 - 66000) g.ack))

/-- END, MAXACK and MAXWIN after a packet of scaled window w that passes (R271). The first packet of a direction sets them; MAXACK counts
from the direction's first acknowledgement (DEDUCED). -/
def windowUpdate (g : TcpSeg) (w : Nat) (r : TcpTrack) (c : Clove) : Clove :=
  let e := (g.seq + g.len) % 2 ^ 32
  let c := datPut c 84 4 (if r.sent then serialMax (datU c 84 4) e else e)
  let c := if g.ackFlag then datPut c 88 4 (if r.acked then serialMax (datU c 88 4) g.ack else g.ack) else c
  datPut c 92 4 (if r.sent then max (datU c 92 4) w else w)

/-! ### The states (R270) -/

/-- What R270's table makes of a packet. -/
inductive TcpMove where
  | stay
  | to (state : Nat)
  | outOfState
deriving DecidableEq, Repr

/-- The transitions of R270, tried from top to bottom: STATE, P, the packet, PICKUP, and whether ACK = peer END. -/
def tcpMove (st p : Nat) (g : TcpSeg) (pickup ackEnd : Bool) : TcpMove :=
  if st = 0 ∧ g.syn ∧ !g.ackFlag then .to 1
  else if st = 0 ∧ g.syn ∧ g.ackFlag ∧ p = 1 then .to 2
  else if st = 0 ∧ !g.syn ∧ !g.rst ∧ pickup then .to 3
  else if st = 1 ∧ g.ackFlag ∧ !g.syn ∧ 2 ≤ p then .to 3
  else if st = 2 ∧ g.ackFlag ∧ !g.syn ∧ 3 ≤ p then .to 3
  else if st = 3 ∧ g.fin ∧ p < 4 then .to 4
  else if (st = 3 ∨ st = 4) ∧ g.fin ∧ 4 ≤ p then .to 5
  else if (st = 4 ∨ st = 5) ∧ g.ackFlag ∧ !g.fin ∧ 4 ≤ p ∧ ackEnd then .to 6
  else if g.rst then .to 7
  else if 3 ≤ st ∧ st ≤ 6 ∧ g.syn then .outOfState
  else if st = 0 then .outOfState
  else .stay

/-! ### The end of a program -/

/-- The member that R267 falls back to: the live member of the hash's rank. -/
def State.lbFallback (s : State) (g h : Nat) : Option Nat :=
  let live := (List.range 64).filter (s.lbLive g)
  if live.isEmpty then none else some (live.getD (h / 256 % 256 % live.length) 0)

/-- An ingress run of a load-balanced flow sends its packet to the next hop that its clove records (R267). Where that next hop is not live,
the packet takes a fallback member, which REPIN also records, or is dropped without one: the Bool says so. The device tests this at the
DISP END, since no micro-operation reads which next hops are live (DESIGN CHOICE, assumption 56). -/
def lbRepair (t : Nat) (s : State) : Bool × State :=
  let h := s.th t
  let i := thCluster t
  match h.clove with
  | none => (false, s)
  | some idx =>
    let c := s.cloveNow i idx
    let g := datU c 66 2 % 2 ^ 14
    let nh := datU c 72 4 % 2 ^ 18
    let fl := s.tblGet 0x29 g
    if h.egress || datU c 64 1 != 4 || datU h.desc 92 4 % 2 ^ 18 != nh || s.nhLive nh (datB fl 0 0 1 == 1) then (false, s)
    else match s.lbFallback g (s.lbHash (cvKey c)) with
      | none => (true, lbNoMember i g (datB h.desc 88 0 3) s)
      | some m =>
        let new := s.lbNextHop g m
        let s := countC (datB h.desc 88 0 3) (Cnt.FSE_LB_FALLBACK i) s
        let s := if datB fl 0 1 1 = 1 ∧ h.shared = false then
            updClove i idx (fun c => datPutB (datPut (datPut c 69 1 m) 72 4 new) 65 0 1 1) s else s
        (false, updTh t (fun h => { h with desc := datPut h.desc 92 4 new }) s)

/-- What these rules make of a run: a verdict with its argument in place of the program's, and whether the clove ends. -/
structure TrackEnd where
  verdict : Option (Nat × Nat) := none
  delete : Bool := false
deriving DecidableEq, Repr

/-- A TCP packet of class `cls` of a tracked flow (R270, R271). -/
def trackTcp (i idx cls : Nat) (g : TcpSeg) (s : State) : TrackEnd × State :=
  let c := s.cloveNow i idx
  let z := s.zonePolicy c
  let own := s.trackOf i idx
  let peer := s.tcpPeer i c
  let pc := (peer.map (s.cloveNow i)).getD 0
  let pr := (peer.map (s.trackOf i)).getD {}
  let opt := own.opt || (g.syn && g.scale.isSome)
  let sc := if g.syn then g.scale.getD 0 else datB c 83 0 4
  let scaled := opt && pr.opt
  let w := if scaled && !g.syn then g.win * 2 ^ sc else g.win
  if pairedFmt c && zpWinCheck z && own.sent && pr.sent && !windowPasses g c pc then
    let r := zoneAct (datU z 2 1) z (countC cls (Cnt.FSE_TCP_OOW i) s)
    ({ verdict := r.1 }, r.2)
  else
    let s := if pairedFmt c then
        updClove i idx (fun c => datPut (windowUpdate g w own c) 83 1 (sc + 128 * b2n scaled))
          (updSvc i (fun p => { p with track := p.track.set idx { sent := true, acked := own.acked || g.ackFlag, opt } }) s)
      else s
    match tcpMove (datU c 50 1) (s.peerState i c) g (zpPickup z) (!pairedFmt c || g.ack == datU pc 84 4) with
    | .stay => ({}, s)
    | .to n => ({ delete := n == 6 || n == 7 }, updClove i idx (fun c => datPut c 50 1 n) s)
    | .outOfState =>
      let r := zoneAct (datU z 1 1) z (countC cls (Cnt.FSE_TCP_OOS i) s)
      ({ verdict := r.1 }, r.2)

/-- What R269 to R271 make of a run that ends. -/
def trackEnd (t : Nat) (s : State) : TrackEnd × State :=
  let h := s.th t
  let i := thCluster t
  match h.clove with
  | none => ({}, s)
  | some idx =>
    let c := s.cloveNow i idx
    if h.shared then ({}, s)
    else if h.egress && h.learned && !zpInbound (s.zonePolicy c) then ({ verdict := some (1, 0), delete := true }, s)
    else match h.seg with
      | some g => if spFlag h.sp 0 && decide (1 ≤ datU c 64 1) && decide (datU c 64 1 ≤ 4) then trackTcp i idx (datB h.desc 88 0 3) g s else ({}, s)
      | none => ({}, s)

end Sys2Proof.Machine
end

