-- ==== Sys2Proof/Machine/Engine.lean ====
section
/-! DEFINITION. The micro-operations (R304, R305): the issue of one (R285, R310, R314), and the meaning of each. A command
carries the microword's fields; the device issues it for a ready thread whose micro-PC names that word of the control store. -/
namespace Sys2Proof.Machine

/-- BUDGET (R314). -/
def State.budget (s : State) : Nat := s.regF Reg.ENG_CFG 11 0

/-- A ready thread that no pending routine cause holds at its boundary (R285, R312). -/
def State.canIssue (s : State) (t : Nat) : Bool :=
  let h := s.th t
  decide (t < 4096) && h.wait == .ready && (h.tm || h.pending == 0)

/-- The microword at a thread's micro-PC (R304, R307). -/
def State.nextWord (s : State) (t : Nat) : Nat := microClean (s.eng.cstore.get (s.th t).live.upc).toNat

/-- The issue of one micro-operation: the micro-PC and the counts advance, then the operation acts; the budget is tested
after it (R310, R314). The 65th operation of a routine ends the run. -/
def issueNow (t : Nat) (f : State → State) (s : State) : State :=
  let c := thCluster t
  let h := s.th t
  if h.tm && decide (64 ≤ h.trapUsed) then dropRun t (count (Cnt.ENG_TRAP_OVERRUN c) s)
  else
    let s := count (Cnt.ENG_UOPS c) s
    let s := updTh t (fun h => { h with
      trapUsed := if h.tm then h.trapUsed + 1 else h.trapUsed,
      live := { h.live with upc := (h.live.upc + 1) % 65536,
                            budget := if h.tm then h.live.budget else h.live.budget + 1 } }) s
    let s := f s
    let h := s.th t
    if h.wait != .ended && h.wait != .free && !h.tm && decide (s.budget ≤ h.live.budget) then
      updTh t (fun h => { h with pending := h.pending ||| 8 }) s
    else s

/-- A thread issues the microword w: nothing happens unless it is ready and its micro-PC names that word. -/
def issue (w t : Nat) (f : State → State) (s : State) : State :=
  if s.canIssue t && s.nextWord t == w then issueNow t f s else s

/-- A thread that stands at a microword whose issue is a FAULT issues it (R305, R316). -/
def issueFault (t : Nat) (s : State) : State :=
  if s.canIssue t && microFaults (s.nextWord t) then issueNow t (faultRun t) s else s

/-- Every such thread of the engines. -/
def issueFaults (s : State) : State := s.eng.th.cells.foldl (fun s c => issueFault c.1 s) s

/-- The fields of a format R microword are in range (R304). -/
def fieldsR (d a b imm : Nat) : Bool := decide (d < 16) && decide (a < 16) && decide (b < 16) && decide (imm < 16384)

/-- A format R micro-operation of a thread. -/
def uopR (op t d a b imm : Nat) (f : State → State) (s : State) : Res :=
  coreCmd (fun s => if fieldsR d a b imm then issue (microR op d a b imm) t f s else s) s

/-- d = the value of an operation on registers a and b, with its flags (R305). -/
def aluFlags (t d a b : Nat) (op : Word64 → Word64 → Word64) (fl : Word64 → Word64 → Live → Live) (s : State) : State :=
  let h := s.th t
  let x := thReg h a
  let y := thReg h b
  updLive t (fl x y) (setM t d (op x y) s)

/-- A logical operation: C and V are free values (DESIGN CHOICE 2). -/
def aluLogic (t d a b : Nat) (op : Word64 → Word64 → Word64) (s : State) : State :=
  let h := s.th t
  let r := op (thReg h a) (thReg h b)
  let v := draw s
  updLive t (logicFlags r (bit (Config.pick v.1) 0) (bit (Config.pick v.1) 1)) (setM t d r v.2)

/-- Sign extension of an n-bit field to 64 bits. -/
def sext64 (n x : Nat) : Word64 := BitVec.ofInt 64 (sext n x)

/-- The amount of a shift: IMM14 bits 5:0, or bits 5:0 of b when IMM14 bit 6 is set (R305). -/
def shiftAmount (imm : Nat) (b : Word64) : Nat := if bit imm 6 then b.toNat % 64 else imm % 64

/-- FEXTRACT and FINSERT of R305: position IMM14 bits 5:0, length IMM14 bits 11:6 + 1. -/
def extField (a : Word64) (pos len : Nat) : Word64 := BitVec.ofNat 64 (a.toNat / 2 ^ pos % 2 ^ len)
def insField (d a : Word64) (pos len : Nat) : Word64 :=
  let mask : Nat := (2 ^ len - 1) * 2 ^ pos % 2 ^ 64
  BitVec.ofNat 64 ((d.toNat &&& (2 ^ 64 - 1 - mask)) ||| (a.toNat % 2 ^ len * 2 ^ pos % 2 ^ 64))

/-- The value of a time selector (R295, R305); none is undefined. -/
def timeValue (s : State) (sel : Nat) : Option Nat :=
  match sel with
  | 0 => some (s.now % 2 ^ 64)
  | 1 => some s.ageStamp
  | 2 => some s.epoch
  | 3 => some s.ms
  | _ => none

/-- GETF (R305); none is an undefined selector. -/
def getfValue (h : Thread) (sel : Nat) : Option Word64 :=
  let w := h.live.fi
  match sel with
  | 0 => some (thReg h (fiA w))
  | 1 => some (thReg h (fiB w))
  | 2 => some (sext64 16 (fiImm w))
  | 3 => some (BitVec.ofNat 64 (fiImm w))
  | 4 => some (BitVec.ofNat 64 w.toNat)
  | 5 => some (BitVec.ofNat 64 h.live.fipc)
  | 6 => some (BitVec.ofNat 64 (fiB w))
  | _ => none

/-- The access that the current FI describes: window, size, network order and address (R294). -/
def fiAccess (h : Thread) : Nat × Nat × Bool × Nat :=
  let w := h.live.fi
  let im := fiImm w
  (bits im 15 14, 2 ^ bits im 13 12, bit im 11,
   if fiB w = 0 then bits im 10 0 else (bits im 10 0 + (thReg h (fiB w)).toNat) % 2 ^ 64)

/-- A load into d (R289, R305). -/
def loadOp (t d win n off : Nat) (net : Bool) (s : State) : State :=
  match loadBytes t win off n s with
  | (none, s) => faultRun t s
  | (some bs, s) => setM t d (BitVec.ofNat 64 (loadVal net bs)) s

/-- A store of a value (R289, R305). -/
def storeOp (t : Nat) (v : Word64) (win n off : Nat) (net : Bool) (s : State) : State :=
  match storeBytes t win off (storeVal net n v.toNat) s with
  | none => faultRun t s
  | some s => s

/-- The address of a format W microword (R305). -/
def wAddr (h : Thread) (x : Nat) (xen : Bool) (off : Nat) : Nat := (off + (if xen then (thReg h x).toNat else 0)) % 2 ^ 64

/-- The fields of a format W microword are in range (R304). -/
def fieldsW (d x win size off : Nat) : Bool :=
  decide (d < 16) && decide (x < 16) && decide (win < 4) && decide (size < 4) && decide (off < 8192)

/-- CSUP (R305): the ones'-complement update of a checksum. -/
def csup (d a b imm : Nat) : Nat :=
  let fold := fun v => ocAdd (v % 65536) (v / 65536 % 65536)
  if bit imm 0 && d % 65536 == 0 then 0
  else
    let r := 65535 - ocAdd (ocAdd (65535 - d % 65536) (65535 - fold a)) (fold b)
    if bit imm 1 && r == 0 then 65535 else r

/-- CNT (R296): a packet and bytes are added to a program counter. -/
def cntAdd (k n : Nat) (s : State) : State :=
  let e := s.tblGet 0x5F k
  tblSet 0x5F k (datPut (datPut e 0 8 ((datU e 0 8 + 1) % 2 ^ 64)) 8 8 ((datU e 8 8 + n) % 2 ^ 64)) s

/-- The far functions (R305). -/
def farFunctions : List Nat := [0x01, 0x02, 0x03, 0x04, 0x05, 0x06, 0x07, 0x10, 0x18, 0x19, 0x20]

/-- FAR (R308, R309): the function is issued once and the thread waits. -/
def farIssue (t d fn : Nat) (a b : Word64) (s : State) : State :=
  if farFunctions.contains fn then
    updTh t (fun h => { h with wait := .far, far := some { fn := fn, a := a, b := b, dest := d } })
      (count (Cnt.ENG_TRAP_FAR (thCluster t)) s)
  else faultRun t s

/-- DISP END ends a run (R301): with the verdict of its descriptor, or with that of R267 and R269 to R271. -/
def endByProgram (t : Nat) (delete : Bool) (s : State) : State :=
  let d := (s.th t).desc
  let r := trackEnd t s
  let v := r.1.verdict.getD (datB d 120 0 2, datU d 121 1)
  let b := if v.1 = 0 then lbRepair t r.2 else (false, r.2)
  let v := if b.1 then (1, 0) else v
  let s := if v.1 = 1 then countC (datB d 88 0 3) (Cnt.ENG_VERDICT_DROP (thCluster t)) b.2 else b.2
  endRun t (delete || r.1.delete) v.1 v.2 s

/-- An accepted pre-emption whose trap has run is completed (R315); bit 30 of its word is END_PKT. -/
def preemptDone (t word : Nat) (s : State) : State :=
  let s := raise 9 4 (t / 64 % 16) (t % 64 + 256 * (t / 64 % 16) + 65536 * (t / 1024))
    (updEng (fun e => { e with pre := none, preResult := 1 }) s)
  if bit word 30 then dropRun t s else s

/-- RETT (R310, R314, R315). -/
def rett (t : Nat) (s : State) : State :=
  let h := s.th t
  if !h.tm then faultRun t s else
    let l := if h.cause = 6 then { h.save with budget := 0, wd := true } else h.save
    let s := updTh t (fun h => { h with live := l, tm := false, cause := 0, trapUsed := 0 }) s
    match h.cause, s.eng.pre with
    | 5, some (k, w, true) => if k = t then preemptDone t w s else s
    | _, _ => s

/-! ### Errors of contexts and scratch (R318) -/

/-- Engines of a cluster in service (R444). -/
def State.enginesIn (s : State) (c : Nat) : List Nat :=
  ((List.range 16).map (fun e => 16 * c + e)).filter (fun e => s.engineOpen e)

/-- The count of an engine in service crosses (R318, R440, R444): it takes no new runs, unless it is the last of its
cluster. -/
def engineCrosses (e : Nat) (s : State) : State :=
  if (s.enginesIn (e / 16)).length ≤ 1 then
    let old := (s.flt.get (fltKey 5 e)).refused
    let s := markRefused 5 e (count Cnt.MGT_FLT_REFUSED s)
    if old then s else raise 0 5 e e s
  else updEng (fun g => { g with retiring := g.retiring ||| BitVec.ofNat 64 (2 ^ e) }) s

/-- An error of a weight enters an engine's count (R318, R438). -/
def engineError (e weight : Nat) (s : State) : State :=
  let r := enterError 5 e weight s
  if r.1 then engineCrosses e r.2 else r.2

/-- A micro-operation whose access to the thread's context or scratch has an outcome of its SECDED (R318): a corrected error lets it go
on, and an uncorrectable one ends the run with DROP. -/
def withEcc (t : Nat) (ecc : BurstOutcome) (f : State → State) (s : State) : State :=
  match ecc with
  | .ok => f s
  | .corrected => f (engineError (thEngine t) 1 (count (Cnt.ENG_CTX_CORR (thCluster t)) s))
  | .uncorrectable => dropRun t (engineError (thEngine t) 16 (count (Cnt.ENG_CTX_UNCORR (thCluster t)) s))

/-- The die and stack sensors report: what they measure comes from outside the model, a free value (R536, R540). -/
def senseTemp (s : State) : State := { s with temp := Config.sensors s.now }

/-- A nanosecond in which no command comes: ST advances where TBE runs, and where the core clocks run the sensors report and
threads that stand at a microword whose issue is a FAULT issue it (R32, R38, R305, R540). -/
def idle (s : State) : Res :=
  tbeCmd (fun s => let s := runTo (s.now + 1) s; if s.live then issueFaults (senseTemp s) else s) s

/-- A format R micro-operation of a thread that reads or writes its scratch or its windows (R318). -/
def uopRM (op t d a b imm : Nat) (ecc : BurstOutcome) (f : State → State) (s : State) : Res := uopR op t d a b imm (withEcc t ecc f) s

/-- A format W micro-operation of a thread. -/
def uopW (op t d x : Nat) (xen : Bool) (win size off : Nat) (ecc : BurstOutcome) (f : State → State) (s : State) : Res :=
  coreCmd (fun s => if fieldsW d x win size off then issue (microW op d x xen win size off) t (withEcc t ecc f) s else s) s

/-! ### One definition per micro-operation -/

/-- NOP (R305). -/
def execUNop (th : Nat) (d : Nat) (a : Nat) (b : Nat) (imm : Nat) (s : State) : Res :=
  uopR 0x00 th d a b imm (fun s => s) s

/-- ADD (R305). -/
def execUAdd (th : Nat) (d : Nat) (a : Nat) (b : Nat) (imm : Nat) (s : State) : Res :=
  uopR 0x01 th d a b imm (aluFlags th d a b (fun x y => x + y) addFlags) s

/-- SUB (R305). -/
def execUSub (th : Nat) (d : Nat) (a : Nat) (b : Nat) (imm : Nat) (s : State) : Res :=
  uopR 0x02 th d a b imm (aluFlags th d a b (fun x y => x - y) subFlags) s

/-- AND (R305). -/
def execUAnd (th : Nat) (d : Nat) (a : Nat) (b : Nat) (imm : Nat) (s : State) : Res :=
  uopR 0x03 th d a b imm (aluLogic th d a b (fun x y => x &&& y)) s

/-- OR (R305). -/
def execUOr (th : Nat) (d : Nat) (a : Nat) (b : Nat) (imm : Nat) (s : State) : Res :=
  uopR 0x04 th d a b imm (aluLogic th d a b (fun x y => x ||| y)) s

/-- XOR (R305). -/
def execUXor (th : Nat) (d : Nat) (a : Nat) (b : Nat) (imm : Nat) (s : State) : Res :=
  uopR 0x05 th d a b imm (aluLogic th d a b (fun x y => x ^^^ y)) s

/-- ADDI (R305). -/
def execUAddi (th : Nat) (d : Nat) (a : Nat) (b : Nat) (imm : Nat) (s : State) : Res :=
  uopR 0x06 th d a b imm (fun s => setM th d (thReg (s.th th) a + sext64 14 imm) s) s

/-- SHL (R305). -/
def execUShl (th : Nat) (d : Nat) (a : Nat) (b : Nat) (imm : Nat) (s : State) : Res :=
  uopR 0x07 th d a b imm (fun s => setM th d (thReg (s.th th) a <<< shiftAmount imm (thReg (s.th th) b)) s) s

/-- SHR (R305). -/
def execUShr (th : Nat) (d : Nat) (a : Nat) (b : Nat) (imm : Nat) (s : State) : Res :=
  uopR 0x08 th d a b imm (fun s => setM th d (thReg (s.th th) a >>> shiftAmount imm (thReg (s.th th) b)) s) s

/-- EXT (R305). -/
def execUExt (th : Nat) (d : Nat) (a : Nat) (b : Nat) (imm : Nat) (s : State) : Res :=
  uopR 0x09 th d a b imm (fun s => setM th d (extField (thReg (s.th th) a) (imm % 64) (imm / 64 % 64 + 1)) s) s

/-- INS (R305). -/
def execUIns (th : Nat) (d : Nat) (a : Nat) (b : Nat) (imm : Nat) (s : State) : Res :=
  uopR 0x0A th d a b imm (fun s => setM th d (insField (thReg (s.th th) d) (thReg (s.th th) a) (imm % 64) (imm / 64 % 64 + 1)) s) s

/-- CMP (R305). -/
def execUCmp (th : Nat) (d : Nat) (a : Nat) (b : Nat) (imm : Nat) (s : State) : Res :=
  uopR 0x0D th d a b imm (fun s => updLive th (subFlags (thReg (s.th th) a) (thReg (s.th th) b)) s) s

/-- CMPI (R305). -/
def execUCmpi (th : Nat) (d : Nat) (a : Nat) (b : Nat) (imm : Nat) (s : State) : Res :=
  uopR 0x0E th d a b imm (fun s => updLive th (subFlags (thReg (s.th th) a) (BitVec.ofNat 64 imm)) s) s

/-- SEL (R305). -/
def execUSel (th : Nat) (d : Nat) (a : Nat) (b : Nat) (imm : Nat) (s : State) : Res :=
  uopR 0x0F th d a b imm (fun s => match condHolds (s.th th).live (imm % 16) with
    | some true => setM th d (thReg (s.th th) a) s
    | some false => setM th d (thReg (s.th th) b) s
    | none => faultRun th s) s

/-- GETF (R305). -/
def execUGetf (th : Nat) (d : Nat) (a : Nat) (b : Nat) (imm : Nat) (s : State) : Res :=
  uopR 0x11 th d a b imm (fun s => match getfValue (s.th th) imm with
    | some v => setM th d v s
    | none => faultRun th s) s

/-- PUTF (R305). -/
def execUPutf (th : Nat) (d : Nat) (a : Nat) (b : Nat) (imm : Nat) (s : State) : Res :=
  uopR 0x12 th d a b imm (fun s => if imm = 0 then setM th (fiA (s.th th).live.fi) (thReg (s.th th) a) s
    else if imm = 1 then setM th (fiB (s.th th).live.fi) (thReg (s.th th) a) s
    else faultRun th s) s

/-- LDF (R305). -/
def execULdf (th : Nat) (d : Nat) (a : Nat) (b : Nat) (imm : Nat) (ecc : BurstOutcome) (s : State) : Res :=
  uopRM 0x17 th d a b imm ecc (fun s => loadOp th d (fiAccess (s.th th)).1 (fiAccess (s.th th)).2.1 (fiAccess (s.th th)).2.2.2
      (fiAccess (s.th th)).2.2.1 s) s

/-- STF (R305). -/
def execUStf (th : Nat) (d : Nat) (a : Nat) (b : Nat) (imm : Nat) (ecc : BurstOutcome) (s : State) : Res :=
  uopRM 0x18 th d a b imm ecc (fun s => storeOp th (thReg (s.th th) a) (fiAccess (s.th th)).1 (fiAccess (s.th th)).2.1
      (fiAccess (s.th th)).2.2.2 (fiAccess (s.th th)).2.2.1 s) s

/-- MOVB (R305). -/
def execUMovb (th : Nat) (d : Nat) (a : Nat) (b : Nat) (imm : Nat) (ecc : BurstOutcome) (s : State) : Res :=
  uopRM 0x19 th d a b imm ecc (fun s =>
      let x := (thReg (s.th th) a).toNat
      let y := (thReg (s.th th) b).toNat
      if 31 < imm % 64 then faultRun th s else
      match loadBytes th (bits x 14 13) (bits x 12 0) (imm % 64 + 1) s with
      | (none, s) => faultRun th s
      | (some bs, s) =>
        match storeBytes th (bits y 14 13) (bits y 12 0) bs s with
        | none => faultRun th s
        | some s => s) s

/-- CSUP (R305). -/
def execUCsup (th : Nat) (d : Nat) (a : Nat) (b : Nat) (imm : Nat) (s : State) : Res :=
  uopR 0x1A th d a b imm (fun s => setM th d (BitVec.ofNat 64 (csup (thReg (s.th th) d).toNat (thReg (s.th th) a).toNat
      (thReg (s.th th) b).toNat imm)) s) s

/-- HASH (R305). -/
def execUHash (th : Nat) (d : Nat) (a : Nat) (b : Nat) (imm : Nat) (s : State) : Res :=
  uopR 0x1B th d a b imm (fun s => setM th d (BitVec.ofNat 64 (crc32cAdvance ((thReg (s.th th) d).toNat % 2 ^ 32)
      (leBytes (imm % 8 + 1) (thReg (s.th th) a).toNat))) s) s

/-- MUL (R305). -/
def execUMul (th : Nat) (d : Nat) (a : Nat) (b : Nat) (imm : Nat) (s : State) : Res :=
  uopR 0x1C th d a b imm (fun s => setM th d (BitVec.ofNat 64 ((thReg (s.th th) a).toNat % 2 ^ 32 *
      ((thReg (s.th th) b).toNat % 2 ^ 32))) s) s

/-- FAR (R305). -/
def execUFar (th : Nat) (d : Nat) (a : Nat) (b : Nat) (imm : Nat) (s : State) : Res :=
  uopR 0x1D th d a b imm (fun s => farIssue th d (imm % 256) (thReg (s.th th) a) (thReg (s.th th) b) s) s

/-- TIME (R305). -/
def execUTime (th : Nat) (d : Nat) (a : Nat) (b : Nat) (imm : Nat) (s : State) : Res :=
  uopR 0x1F th d a b imm (fun s => match timeValue s imm with
    | some v => setM th d (BitVec.ofNat 64 v) s
    | none => faultRun th s) s

/-- CNT (R305). -/
def execUCnt (th : Nat) (d : Nat) (a : Nat) (b : Nat) (imm : Nat) (s : State) : Res :=
  uopR 0x20 th d a b imm (fun s => cntAdd ((thReg (s.th th) a).toNat % 2 ^ 18) (thReg (s.th th) b).toNat s) s

/-- ADJ (R305). -/
def execUAdj (th : Nat) (d : Nat) (a : Nat) (b : Nat) (imm : Nat) (s : State) : Res :=
  uopR 0x21 th d a b imm (fun s => match (if bit imm 13 then pullHead th (16384 - imm) s else pushHead th imm s) with
    | some s => s
    | none => faultRun th s) s

/-- FLAG (R305). -/
def execUFlag (th : Nat) (d : Nat) (a : Nat) (b : Nat) (imm : Nat) (s : State) : Res :=
  uopR 0x22 th d a b imm (fun s => updLive th (flagOp (imm % 256) (imm / 256)) s) s

/-- RETT (R305). -/
def execURett (th : Nat) (d : Nat) (a : Nat) (b : Nat) (imm : Nat) (s : State) : Res :=
  uopR 0x23 th d a b imm (rett th) s

/-- MOVI (R305). -/
def execUMovi (th : Nat) (d : Nat) (sh : Nat) (imm : Nat) (s : State) : Res :=
  coreCmd (fun s => if d < 16 ∧ sh < 4 ∧ imm < 65536 then
    issue (microI 0x0B d sh imm) th (setM th d (BitVec.ofNat 64 (imm * 2 ^ (16 * sh)))) s else s) s

/-- MOVK (R305). -/
def execUMovk (th : Nat) (d : Nat) (sh : Nat) (imm : Nat) (s : State) : Res :=
  coreCmd (fun s => if d < 16 ∧ sh < 4 ∧ imm < 65536 then
    issue (microI 0x0C d sh imm) th (fun s => setM th d (insField (thReg (s.th th) d) (BitVec.ofNat 64 imm) (16 * sh) 16) s) s else s) s

/-- BR (R305). -/
def execUBr (th : Nat) (cond : Nat) (target : Nat) (s : State) : Res :=
  coreCmd (fun s => if cond < 16 ∧ target < 65536 then
    issue (microB 0x10 cond target) th (fun s => match condHolds (s.th th).live cond with
      | some true => updLive th (fun l => { l with upc := target }) s
      | some false => s
      | none => faultRun th s) s else s) s

/-- LDL (R305). -/
def execULdl (th : Nat) (d : Nat) (x : Nat) (xen : Bool) (win : Nat) (size : Nat) (off : Nat) (ecc : BurstOutcome) (s : State) : Res :=
  uopW 0x13 th d x xen win size off ecc (fun s => loadOp th d win (2 ^ size) (wAddr (s.th th) x xen off) false s) s

/-- LDN (R305). -/
def execULdn (th : Nat) (d : Nat) (x : Nat) (xen : Bool) (win : Nat) (size : Nat) (off : Nat) (ecc : BurstOutcome) (s : State) : Res :=
  uopW 0x14 th d x xen win size off ecc (fun s => loadOp th d win (2 ^ size) (wAddr (s.th th) x xen off) true s) s

/-- STL (R305). -/
def execUStl (th : Nat) (d : Nat) (x : Nat) (xen : Bool) (win : Nat) (size : Nat) (off : Nat) (ecc : BurstOutcome) (s : State) : Res :=
  uopW 0x15 th d x xen win size off ecc (fun s => storeOp th (thReg (s.th th) d) win (2 ^ size) (wAddr (s.th th) x xen off) false s) s

/-- STN (R305). -/
def execUStn (th : Nat) (d : Nat) (x : Nat) (xen : Bool) (win : Nat) (size : Nat) (off : Nat) (ecc : BurstOutcome) (s : State) : Res :=
  uopW 0x16 th d x xen win size off ecc (fun s => storeOp th (thReg (s.th th) d) win (2 ^ size) (wAddr (s.th th) x xen off) true s) s

/-- DISP with IMM14 bits 1:0 of its kind (R305, R306). -/
def dispKind (imm k : Nat) : Bool := decide (imm % 4 = k)

/-- DISP NEXT (R306, R316). -/
def execDispNext (th : Nat) (d : Nat) (a : Nat) (b : Nat) (imm : Nat) (s : State) : Res :=
  coreCmd (fun s => if fieldsR d a b imm && dispKind imm 0 then
    issue (microR 0x1E d a b imm) th (fun s => if (s.th th).tm then faultRun th s else dispatchFi th ((s.th th).live.fipc + 1) s) s else s) s

/-- DISP JUMP (R306, R316). -/
def execDispJump (th : Nat) (d : Nat) (a : Nat) (b : Nat) (imm : Nat) (s : State) : Res :=
  coreCmd (fun s => if fieldsR d a b imm && dispKind imm 1 then
    issue (microR 0x1E d a b imm) th (fun s => if (s.th th).tm then faultRun th s
      else dispatchFi th ((thReg (s.th th) a).toNat % 4096) s) s else s) s

/-- DISP END (R301). -/
def execDispEnd (th : Nat) (d : Nat) (a : Nat) (b : Nat) (imm : Nat) (s : State) : Res :=
  coreCmd (fun s => if fieldsR d a b imm && dispKind imm 2 then
    issue (microR 0x1E d a b imm) th (fun s => endByProgram th (bit imm 2) s) s else s) s

end Sys2Proof.Machine
end

