-- ==== Sys2Proof/Machine/Traps.lean ====
section
/-! DEFINITION. Routine traps (R308 to R315), far results (R309), host pre-emption (R315), engine retirement (R318) and
engine self-tests (R319). -/
namespace Sys2Proof.Machine

/-- A routine trap starts (R310): the live state is saved, TM set, and m15 takes the detail. -/
def enterTrap (t k cause detail vector : Nat) (s : State) : State :=
  updTh t (fun h => { h with
    save := h.live, tm := true, cause := cause, trapUsed := 0, wait := .ready,
    pending := h.pending &&& ~~~(BitVec.ofNat 4 (2 ^ k)),
    live := { h.live with m := h.live.m.set 15 (BitVec.ofNat 64 detail), upc := vector } }) s

def State.trapVector (s : State) (k : Nat) : Nat := s.regF (Reg.ENG_TRAP_VEC k) 15 0

/-- A thread stands at a boundary at which a routine cause can be taken (R312). -/
def State.atBoundary (s : State) (t : Nat) : Bool :=
  let h := s.th t
  decide (t < 4096) && h.wait == .ready && h.started && !h.tm

/-- BUDGET_EXCEEDED (R314, R320): the run ends with DROP. -/
def budgetDrop (t : Nat) (s : State) : State :=
  let h := s.th t
  let c := thCluster t
  let prog := match h.clove with | some idx => cvProgram (s.cloveNow c idx) | none => 0
  dropRun t (raiseLim 1 c 9 2 c (prog + 65536 * c) (count (Cnt.ENG_BUDGET_DROP c) s))

/-- WATCHDOG is taken (R314): a second expiry, or a vector of 0xFFFF, ends the run. -/
def doThWatchdog (t : Nat) (s : State) : State :=
  let h := s.th t
  if !s.atBoundary t || !h.pending.getLsbD 3 then s
  else if h.live.wd then budgetDrop t s
  else
    let v := s.trapVector 3
    let s := count (Cnt.ENG_TRAP_WATCHDOG (thCluster t)) s
    if v = 0xFFFF then budgetDrop t s else enterTrap t 3 6 h.live.budget v s

/-- WATCHDOG (R314). -/
def execThWatchdog (th : Nat) (s : State) : Res := coreCmd (doThWatchdog th) s

/-- EPOCH is taken, after WATCHDOG and PREEMPT (R308, R312); a vector of 0xFFFF returns at once. -/
def doThEpoch (t : Nat) (s : State) : State :=
  let h := s.th t
  if !s.atBoundary t || !h.pending.getLsbD 1 || h.pending.getLsbD 2 || h.pending.getLsbD 3 then s
  else
    let v := s.trapVector 1
    let s := count (Cnt.ENG_TRAP_EPOCH (thCluster t)) s
    if v = 0xFFFF then updTh t (fun h => { h with pending := h.pending &&& 0b1101 }) s
    else enterTrap t 1 4 h.epochE v s

/-- EPOCH (R308). -/
def execThEpoch (th : Nat) (s : State) : Res := coreCmd (doThEpoch th) s

/-- The saved micro-state (R310), as the pre-emption snapshot shows it. -/
def savedBytes (h : Thread) (cause : Nat) : List Byte :=
  let l := h.live
  ((List.range 16).map (fun k => leBytes 8 (l.m.get k).toNat)).flatten ++ leBytes 2 l.upc ++ leBytes 2 l.fipc ++
    leBytes 4 l.fi.toNat ++ leBytes 2 (flagsWord l h.tm) ++ leBytes 2 l.budget ++ leBytes 1 cause ++
    leBytes 1 h.pending.toNat ++ leBytes 1 (match h.far with | some f => f.dest % 16 + 128 | none => 0) ++
    leBytes 1 h.trapUsed ++ List.replicate 16 0

/-- PREEMPT is taken, after WATCHDOG (R312, R315): the snapshot is made, and the routine runs or the request is done. -/
def doThPreempt (t : Nat) (s : State) : State :=
  match s.eng.pre with
  | some (k, w, false) =>
    let h := s.th t
    if k ≠ t ∨ s.atBoundary t = false ∨ h.pending.getLsbD 3 = true then s
    else
      let v := s.trapVector 2
      let s := count (Cnt.ENG_TRAP_PREEMPT (thCluster t)) s
      let s := updEng (fun g => { g with snap := bvOfBytes 1280 (savedBytes h 5), pre := some (t, w, true) }) s
      let s := updTh t (fun h => { h with pending := h.pending &&& 0b1011 }) s
      if v = 0xFFFF then preemptDone t w s else enterTrap t 2 5 w v s
  | _ => s

/-- PREEMPT (R315). -/
def execThPreempt (th : Nat) (s : State) : Res := coreCmd (doThPreempt th) s

/-- A write of ENG_PREEMPT (R315, R321). -/
def doEngPreempt (value : Word32) (s : State) : State :=
  let v := value.toNat
  let s := setReg Reg.ENG_PREEMPT (setBits (setBits (setBits 0 30 30 (bits v 30 30)) 17 12 (bits v 17 12)) 5 0 (bits v 5 0)) s
  if !bit v 31 then s else
    let t := 1024 * bits v 17 16 + 64 * bits v 15 12 + bits v 5 0
    let h := s.th t
    if s.eng.pre.isSome then updEng (fun e => { e with preResult := 3 }) s
    else if h.wait = .free ∨ h.wait = .ended then updEng (fun e => { e with preResult := 2 }) s
    else
      updTh t (fun h => { h with pending := h.pending ||| 4 })
        (updEng (fun e => { e with pre := some (t, s.reg Reg.ENG_PREEMPT, false), preResult := 0 }) s)

/-- ENG_PREEMPT (R315). -/
def execEngPreempt (value : Word32) (s : State) : Res := hostCmd 9 (doEngPreempt value) s

/-! ### Far results -/

/-- The register that the device writes with a far result (R309). -/
def farDeliver (t : Nat) (f : FarOp) (code len : Nat) (blk : Dat) (s : State) : State :=
  updTh t (fun h => { h with
    wait := .ready, far := none,
    live := { h.live with m := h.live.m.set f.dest (BitVec.ofNat 64 code), ok := code == 0 },
    scratch := datPut h.scratch 128 len blk.toNat }) s

/-- A far result returns (R309), or its HBM data is uncorrectable and the thread takes HBM_UE (R308, R312). -/
def doFarResult (t : Nat) (s : State) : State :=
  let h := s.th t
  match h.wait, h.far with
  | .far, some f =>
    if f.ue then
      let c := thCluster t
      if h.tm then dropRun t s
      else
        let v := s.trapVector 0
        let s := updTh t (fun h => { h with far := none }) (count (Cnt.ENG_TRAP_HBM_UE c) s)
        if v = 0xFFFF then dropRun t s else enterTrap t 0 3 f.fn v s
    else match f.answer with
      | some (code, len, blk) => farDeliver t f code len blk s
      | none => s
  | _, _ => s

/-- FAR_RESULT (R309). -/
def execFarResult (th : Nat) (s : State) : Res := coreCmd (fun s => if th < 4096 then doFarResult th s else s) s

/-! ### Engine faults -/

/-- An engine whose count has crossed is retired once its held runs have finished (R318, R445). -/
def retireEngine (e : Nat) (s : State) : State :=
  if s.eng.retiring.getLsbD e = true ∧ s.engineBusy e = 0 then
    raise 9 3 e e (markRetired 5 e (updEng (fun g => { g with
      retired := g.retired ||| BitVec.ofNat 64 (2 ^ e), retiring := g.retiring &&& ~~~(BitVec.ofNat 64 (2 ^ e)) }) s))
  else s

/-- The retirement of an engine whose count has crossed (R318). -/
def doEngineRetired (e : Nat) (s : State) : State := if e < 64 then retireEngine e s else s

/-- ENGINE_RETIRED (R318). -/
def execEngineRetired (e : Nat) (s : State) : Res := coreCmd (doEngineRetired e) s

/-- A write of ENG_TEST (R319, R321). -/
def doEngTest (value : Word32) (s : State) : State :=
  let e := value.toNat % 64
  testWrite Reg.ENG_TEST e (bit value.toNat 8) (s.md.mode == .maintenance || s.eng.retired.getLsbD e) s.eng.test.busy
    (updEng (fun g => { g with test := { unit := e, busy := true, result := 0 } }))
    (updEng (fun g => { g with test := { g.test with result := 3 } })) s

/-- ENG_TEST (R319). -/
def execEngTest (value : Word32) (s : State) : Res := hostCmd 9 (doEngTest value) s

/-- The self-test completes (R319, R320). -/
def doEngTestDone (pass : Bool) (s : State) : State :=
  let t := s.eng.test
  if !t.busy then s else
    let r := if pass then 1 else 2
    raise 9 5 t.unit (t.unit + 256 * r) (updEng (fun g => { g with test := { t with busy := false, result := r } }) s)

/-- ENG_TEST_DONE (R319). -/
def execEngTestDone (pass : Bool) (s : State) : Res := coreCmd (doEngTestDone pass) s

end Sys2Proof.Machine
end

