-- ==== Sys2Proof/Machine/Boundaries.lean ====
section
/-! DEFINITION. The periodic boundaries of ST (R49), the discharge after a forward step (R44, R45), re-alignment (R46, R550) and
the snapshot (R55). -/
namespace Sys2Proof.Machine

/-! ### Epoch and age quantum (R49) -/

/-- A thread whose run is started and has EPW set is told of the epoch (R308, R312). -/
def flagEpoch (e : Nat) (h : Thread) : Thread :=
  if h.started && h.wait != .free && h.wait != .ended && h.live.epw then { h with pending := h.pending ||| 2, epochE := e } else h

/-- The epoch boundary at the current ST (R49, R136, R139, R167, R308). It stands for every epoch that has passed since the one
before, as after a forward step (R44). At the boundary that a change of EPOCH_K makes, the epoch counts of R136 gain the difference of the
two indices, counted in the new and the old period, and at least 1 (DESIGN CHOICE), and an armed action is judged against the new E alone
(R49): `changed` tells such a boundary. -/
def epochAt (changed : Bool) (s : State) : State :=
  let last := if changed then none else some s.tbe.epochSeen
  let passed := max 1 (s.now / s.epochPeriod - s.tbe.epochSeen)
  let s := { s with tbe := { s.tbe with epochSeen := s.now / s.epochPeriod } }
  let s := runnerEpoch last (clsEpoch passed last s)
  { s with eng := { s.eng with th := s.eng.th.mapAll (flagEpoch s.epoch) } }

/-- The next epoch boundary comes. -/
def doEpochBoundary (s : State) : State := epochAt false (runTo ((s.tbe.epochSeen + 1) * s.epochPeriod) s)

/-- EPOCH_BOUNDARY (R49). -/
def execEpochBoundary (s : State) : Res := coreCmd doEpochBoundary s

/-- The age-quantum boundary at the current ST. -/
def ageAt (s : State) : State := { s with tbe := { s.tbe with ageSeen := s.now / s.agePeriod } }

/-- The boundaries that have come by the current ST and go before an item of rank k (R45): the epoch is rank 0, the age quantum 1,
window n 2 + n, and wheel entries 10. -/
def priorItems (k : Nat) (s : State) : State :=
  let s := if k = 0 ∨ s.tbe.epochSeen = s.now / s.epochPeriod then s else epochAt false s
  let s := if k ≤ 1 then s else ageAt s
  (List.range (min 8 (k - 2))).foldl (fun s n => if s.tbe.twinSeen.get n = s.now / s.twinPeriod n then s else twinAt n s) s

/-- The next age-quantum boundary comes (R45, R49). -/
def doAgeQuantumBoundary (s : State) : State := ageAt (priorItems 1 (runTo ((s.tbe.ageSeen + 1) * s.agePeriod) s))

/-- AGE_QUANTUM_BOUNDARY (R49). -/
def execAgeQuantumBoundary (s : State) : Res := coreCmd doAgeQuantumBoundary s

/-- The next boundary of window n comes (R45, R49). -/
def doTwinBoundary (n : Nat) (s : State) : State :=
  if 7 < n ∨ s.twinOn n = false then s
  else twinAt n (priorItems (2 + n) (runTo ((s.tbe.twinSeen.get n + 1) * s.twinPeriod n) s))

/-- TWIN_BOUNDARY (R278). -/
def execTwinBoundary (n : Nat) (s : State) : Res := coreCmd (doTwinBoundary n) s

/-- The earliest fine entry reaches its slot (R45, R51). -/
def doWheelEntry (s : State) : State :=
  match wheelNext s.tms.wheel with
  | none => s
  | some e => fireEntry e (priorItems 10 (runTo e.slot s))

/-- WHEEL_ENTRY (R51). -/
def execWheelEntry (s : State) : Res := coreCmd doWheelEntry s

/-- The indices after the period of an item has changed or ST was set (R46, R49). -/
def reindex (s : State) : State :=
  { s with tbe := { s.tbe with epochSeen := s.now / s.epochPeriod, ageSeen := s.now / s.agePeriod,
                               twinSeen := (List.range 8).foldl (fun m n => m.set n (s.now / s.twinPeriod n)) {},
                               leakSeen := (List.range 8).foldl (fun m k => m.set k (s.now / (2 ^ s.leakW k * 1000))) {} },
           hmc := { s.hmc with trackSeen := s.now / 32000000 }, tms := { s.tms with coarseSeen := s.now / 262144 } }

/-! ### Discharge (R44, R45) -/

/-- The wheel entries whose instant has come fire in order; the first argument bounds them. -/
def fireDue : Nat → State → State
  | 0, s => s
  | n + 1, s =>
    match wheelNext (s.tms.wheel.filter (fun e => decide (e.due ≤ s.now))) with
    | some e => fireDue n (fireEntry e s)
    | none => s

/-- The coarse entries as if every visit up to the current coarse period had been made (R51). -/
def recoarse (s : State) : State :=
  let cur := s.now / 262144
  updTms (fun t => { t with coarseSeen := cur, wheel := t.wheel.map (fun e =>
    if !e.coarse then e
    else if e.due / 262144 ≤ cur then { e with coarse := false, laps := 0 }
    else { e with laps := (e.due / 262144 - cur - 1) / 4096 }) }) s

/-- The items of the interval that a forward step skipped (R44), in the order of R45. -/
def doDischarge (s : State) : State :=
  match s.tbe.skip with
  | none => s
  | some _ =>
    let s := recoarse (priorItems 10 { s with tbe := { s.tbe with skip := none } })
    fireDue s.tms.wheel.length s

/-- DISCHARGE (R44). -/
def execDischarge (s : State) : Res := coreCmd doDischarge s

/-! ### Re-alignment (R46, R550) -/

/-- Instants that lie ahead of ST t become t: of the timebase, the modes, the pins and the rings. -/
def clampHost (t : Nat) (s : State) : State :=
  { s with tbe := { s.tbe with lastEdge := s.tbe.lastEdge.map (min t), lastGood := min t s.tbe.lastGood },
           md := { s.md with drainStart := min t s.md.drainStart, hbLast := min t s.md.hbLast },
           load := { s.load with entered := min t s.load.entered },
           pins := { s.pins with tknInSince := min t s.pins.tknInSince, tknOutSince := min t s.pins.tknOutSince },
           ring := s.ring.mapAll (fun r => { r with firstAt := r.firstAt.map (min t) }),
           port := s.port.mapAll (fun p => { p with rawSince := min t p.rawSince, holdSince := min t p.holdSince }),
           cls := { s.cls with drainSt := min t s.cls.drainSt, copyStart := min t s.cls.copyStart } }

/-- A millisecond stamp modulo 2^32 that lies ahead is the current one (R550). -/
def msHeld (now stored : Nat) : Nat := if 2 ^ 31 ≤ (now + 2 ^ 32 - stored % 2 ^ 32) % 2 ^ 32 then now % 2 ^ 32 else stored

/-- The same of the Runner, the flow services and the Bulb. -/
def clampFlows (t : Nat) (s : State) : State :=
  let run := s.asa.run
  let run := { run with heard := run.heard.mapAll (min t), sent := min t run.sent, lapAt := min t run.lapAt, wideAt := run.wideAt.map (fun x => (x.1, min t x.2)),
                        trainAt := min t run.trainAt, waiting := run.waiting.map (fun r => { r with at_ := min t r.at_ }),
                        flight := run.flight.map (fun r => { r with at_ := min t r.at_ }) }
  { s with asa := { s.asa with run := run, scrubAt := min t s.asa.scrubAt }, fwd := { s.fwd with scanAt := min t s.fwd.scanAt },
           svc := { s.svc with part := s.svc.part.mapAll (fun p =>
             { p with blocks := p.blocks.mapAll (fun b => { b with released := msHeld (t / 1000000) b.released }),
                      natq := p.natq.map (fun r => { r with at_ := min t r.at_ }),
                      msgs := p.msgs.mapAll (fun m => m.map (fun m => { m with firstAt := min t m.firstAt })),
                      tmplAt := p.tmplAt.mapAll (fun m => m.map (min t)),
                      passes := p.passes.mapAll (fun m => m.map (fun m => { m with instant := min t m.instant })) }) },
           part := s.part.mapAll (fun p => { p with visitAt := min t p.visitAt, endq := p.endq.map (fun r => { r with at_ := min t r.at_ }) }) }

/-- The same of the lanes and peers. -/
def clampFabric (t : Nat) (s : State) : State :=
  updSwc (fun w =>
    { w with lanes := w.lanes.mapAll (fun l =>
               { l with trainAt := min t l.trainAt, lockLost := l.lockLost.map (min t), ackAt := min t l.ackAt,
                        gap := l.gap.map (min t), linkAt := min t l.linkAt, heard := min t l.heard, reachAt := l.reachAt.map (min t) }),
             peers := w.peers.mapAll (fun p =>
               { p with joinAt := min t p.joinAt, joinedAt := p.joinedAt.map (min t), resyncAt := p.resyncAt.map (min t),
                        seenAt := min t p.seenAt, reportAt := p.reportAt.mapAll (min t),
                        rx := p.rx.mapAll (fun r => { r with early := r.early.map (fun e => { e with at_ := min t e.at_ }) }) }) }) s

/-- The same of the shapers, the Pod and the HBM controllers. -/
def clampRest (t : Nat) (s : State) : State :=
  { s with tms := { s.tms with nodes := s.tms.nodes.mapAll (fun x => { x with last := min t x.last }) },
           pod := { s.pod with credAt := min t s.pod.credAt, scrubAt := min t s.pod.scrubAt,
                               lanes := s.pod.lanes.mapAll (fun l => { l with strikes := l.strikes.map (min t),
                                                                              retiredAt := min t l.retiredAt, lastFail := min t l.lastFail }),
                               frames := s.pod.frames.map (fun f => { f with firstAt := f.firstAt.map (min t) }) },
           hmc := { s.hmc with pcs := s.hmc.pcs.mapAll (fun p =>
             { p with scrubAt := min t p.scrubAt, reads := p.reads.map (fun r => { r with at_ := min t r.at_ }),
                      writes := p.writes.map (fun r => { r with at_ := min t r.at_ }),
                      heldReads := p.heldReads.map (fun r => { r with at_ := min t r.at_ }),
                      heldWrites := p.heldWrites.map (fun r => { r with at_ := min t r.at_ }),
                      relocAt := min t p.relocAt, sparing := p.sparing.map (fun x => (x.1, x.2.1, min t x.2.2)),
                      refreshed := p.refreshed.mapAll (min t) }), testAt := min t s.hmc.testAt } }

/-- Every held instant that lies ahead of ST is the current one (R550). -/
def clampInstants (s : State) : State := clampRest s.now (clampFabric s.now (clampFlows s.now (clampHost s.now s)))

/-- The wheels are emptied (R46, R550): a node with a bucket that is still negative is updated and gets a new entry. -/
def emptyWheels (s : State) : State :=
  let s := updTms (fun t => { t with wheel := [], nodes := t.nodes.mapAll (fun x => { x with pendC := false, pendP := false }) }) s
  ((s.tms.nodes.cells.filter (fun c => decide (c.2.tc < 0) || decide (c.2.tp < 0))).map Prod.fst).foldl (fun s n => updateNode n s) s

/-- TBE_CTL.REALIGN (R46). The draining slot is released (R140). A slew goes on at its pace of timebase (R42). -/
def doRealign (s : State) : State :=
  if s.md.mode ≠ .drain ∨ s.tbe.state ≠ .locked ∨ s.queuesHold = true ∨ s.cls.armed.isSome = true then
    { s with tbe := { s.tbe with realignRefused := true } }
  else
    let o := s.tbe.off
    let s := { s with tbe := { s.tbe with st := s.nt, off := 0, skip := none, slewDue := s.tbe.slewDue - o } }
    let s := emptyWheels (reindex (clampInstants s))
    raise 2 8 noUnit (sat32 (o / 1000)) (releaseSet s)

/-- REALIGN (R46). -/
def execRealign (s : State) : Res := hostCmd 2 doRealign s

/-- SNAP (R55). -/
def execSnap (s : State) : Res := hostCmd 2 doSnap s

end Sys2Proof.Machine
end

