-- ==== Sys2Proof/Machine/Far.lean ====
section
/-! DEFINITION. The far operations (R242, R298, R305): each is committed once by its owner, which leaves its result with the
thread until FAR_RESULT. -/
namespace Sys2Proof.Machine

/-- The owner answers a thread's far operation (R309). -/
def farAnswer (t code len : Nat) (blk : Dat) (s : State) : State :=
  updTh t (fun h => { h with far := h.far.map (fun f => { f with answer := some (code, len, blk) }) }) s

/-- The far operation's HBM data is uncorrectable (R308). -/
def farUe (t : Nat) (s : State) : State := updTh t (fun h => { h with far := h.far.map (fun f => { f with ue := true }) }) s

/-- A far operation that waits for its owner, of a given function. -/
def State.farWaits (s : State) (t fn : Nat) : Option FarOp :=
  let h := s.th t
  match h.wait, h.far with
  | .far, some f => if t < 4096 ∧ f.fn = fn ∧ f.answer.isNone = true ∧ f.ue = false then some f else none
  | _, _ => none

/-- A command of the owner of a far function. -/
def farCmd (t fn : Nat) (f : FarOp → State → State) (s : State) : Res :=
  coreCmd (fun s => match s.farWaits t fn with | some o => f o s | none => s) s

/-- The key of the run's own clove (R298) and the service parameters that the run began with (R239). -/
def State.ownClove (s : State) (t : Nat) : Option (BitVec 384 × Dat) :=
  (s.th t).clove.map (fun idx => (cvKey (s.cloveNow (thCluster t) idx), (s.th t).sp))

/-- ADMIT (R272). -/
def doFarAdmit (t : Nat) (s : State) : State :=
  match s.ownClove t with
  | none => farAnswer t 9 0 0 s
  | some (key, sp) =>
    let r := flowAdmit (thCluster t) key sp s
    farAnswer t r.1 0 0 r.2

/-- ADMIT (R272). -/
def execFarAdmit (th : Nat) (s : State) : Res := farCmd th 0x01 (fun _ s => doFarAdmit th s) s

/-- MAP (R248, R299, R302, R430). -/
def doFarMap (t : Nat) (ue : Bool) (s : State) : State :=
  let i := thCluster t
  match s.ownClove t with
  | none => farAnswer t 9 0 0 s
  | some (key, sp) =>
    if ue then farAnswer t 7 0 0 (count (Cnt.FSE_NAT_STATE i) s)
    else
      let p := (s.th t).pkt
      match mapOp i { key := key, sp := sp, inPort := p.inPort, aux := p.aux } s with
      | ((0, blk, m, g), s) => farAnswer t 0 33 blk (updTh t (fun h => { h with maps := h.maps ++ [(m, g)] }) s)
      | ((r, _, _, _), s) => farAnswer t r 0 0 s

/-- MAP (R248). -/
def execFarMap (th : Nat) (ue : Bool) (s : State) : Res := farCmd th 0x02 (fun _ s => doFarMap th ue s) s

/-- The LB service area that LB_SELECT answers (R267, R299). -/
def lbImage (g slot m nh : Nat) : Dat :=
  datPut (datPut (datPut (datPut (BitVec.ofNat 1024 4) 2 2 g) 4 1 slot) 5 1 m) 8 4 nh

/-- LB_SELECT (R267, R308): group in bits 13:0 of its first argument, hash in its second. -/
def doFarLbSelect (t : Nat) (ue : Bool) (o : FarOp) (s : State) : State :=
  let i := thCluster t
  let g := o.a.toNat % 2 ^ 14
  let h := o.b.toNat
  if ue then farUe t s
  else match s.lbChoose g h with
    | none => farAnswer t 8 0 0 (updTh t (fun h => { h with desc := datPut h.desc 120 1 1 }) (lbNoMember i g (s.th t).pkt.cls s))
    | some (m, fallback) =>
      let s := if fallback then countC (s.th t).pkt.cls (Cnt.FSE_LB_FALLBACK i) s else s
      farAnswer t 0 32 (lbImage g (h % 256) m (s.lbNextHop g m)) s

/-- LB_SELECT (R267). -/
def execFarLbSelect (th : Nat) (ue : Bool) (s : State) : Res := farCmd th 0x03 (doFarLbSelect th ue) s

/-- The clove that an operation names by index and GEN (R242): a result code, 0 where it stands. In a trap routine the
clove that the thread holds answers LOCKED (R311). -/
def State.namedClove (s : State) (t idx gen : Nat) : Nat :=
  let h := s.th t
  if h.tm && h.clove == some idx then 12
  else if s.cloveIs (thCluster t) idx (gen % 256) then 0 else 9

/-- The clove that an operation names is lost where its read fails (R232): the operation then finds VALID clear. -/
def namedLoss (t idx : Nat) (ue : Bool) (s : State) : State :=
  if s.inPart (thCluster t) idx then cloveReadLoss (thCluster t) idx none ue s else s

/-- PEEK (R242): bytes 48 to 127. -/
def doFarPeek (t : Nat) (ue : Bool) (o : FarOp) (s : State) : State :=
  let idx := o.a.toNat % 2 ^ 27
  let s := namedLoss t idx ue s
  let r := s.namedClove t idx o.b.toNat
  if r ≠ 0 then farAnswer t r 0 0 s
  else farAnswer t 0 80 ((s.cloveNow (thCluster t) idx) >>> 384) s

/-- PEEK (R242). -/
def execFarPeek (th : Nat) (ue : Bool) (s : State) : Res := farCmd th 0x04 (doFarPeek th ue) s

/-- TOUCH (R242). -/
def doFarTouch (t : Nat) (ue : Bool) (o : FarOp) (s : State) : State :=
  let idx := o.a.toNat % 2 ^ 27
  let s := namedLoss t idx ue s
  let r := s.namedClove t idx o.b.toNat
  farAnswer t r 0 0 (if r = 0 then updClove (thCluster t) idx (fun c => datPut c 54 2 s.ageStamp) s else s)

/-- TOUCH (R242). -/
def execFarTouch (th : Nat) (ue : Bool) (s : State) : Res := farCmd th 0x05 (doFarTouch th ue) s

/-- KEY_FMT values that a clove may hold (R204). -/
def keyFmtOk (f : Nat) : Bool := (1 ≤ f && f ≤ 4) || (0x10 ≤ f && f ≤ 0x1F)

/-- INSERT_PEER (R242): the clove image in scratch 0 to 127, with HOST clear. -/
def doFarInsertPeer (t : Nat) (s : State) : State :=
  let img : Clove := BitVec.ofNat 1024 (s.th t).scratch.toNat
  if !keyFmtOk (cvFmt img) then farAnswer t 7 0 0 s
  else match insertClove (thCluster t) (datPut img 48 1 (2 * datB img 48 1 1)) s with
    | (.ok idx g, s) => farAnswer t 0 5 (BitVec.ofNat 1024 (idx + g * 2 ^ 32)) s
    | (.taken, s) => farAnswer t 10 0 0 s
    | (.tableFull, s) => farAnswer t 11 0 0 s
    | (.pinLimit, s) => farAnswer t 2 0 0 s

/-- INSERT_PEER (R242). -/
def execFarInsertPeer (th : Nat) (s : State) : Res := farCmd th 0x06 (fun _ s => doFarInsertPeer th s) s

/-- DELETE_PEER (R242): GEN in bits 7:0 of the second argument and the reason in its bits 11:8. -/
def doFarDeletePeer (t : Nat) (ue : Bool) (o : FarOp) (s : State) : State :=
  let idx := o.a.toNat % 2 ^ 27
  let s := namedLoss t idx ue s
  let r := s.namedClove t idx o.b.toNat
  farAnswer t r 0 0 (if r = 0 then endClove (thCluster t) idx (o.b.toNat / 256 % 16) s else s)

/-- DELETE_PEER (R242). -/
def execFarDeletePeer (th : Nat) (ue : Bool) (s : State) : Res := farCmd th 0x07 (doFarDeletePeer th ue) s

/-- SVC_FAIL (R252, R295): the verdict from FAIL_ACT and FAIL_CONDUIT. -/
def doFarSvcFail (t : Nat) (s : State) : State :=
  match s.ownClove t with
  | none => farAnswer t 9 0 0 s
  | some (_, sp) =>
    farAnswer t 0 0 0 (updTh t (fun h => { h with
      desc := datPut (datPut h.desc 120 1 (if datU sp 24 1 = 1 then 2 else 1)) 121 1 (datU sp 25 1 % 16) }) s)

/-- SVC_FAIL (R252). -/
def execFarSvcFail (th : Nat) (s : State) : Res := farCmd th 0x20 (fun _ s => doFarSvcFail th s) s

/-- TBL_READ (R185, R295, R308): table in the first argument, index in the second; a step miss answers NOT_FOUND. -/
def doFarTblRead (t : Nat) (ue : Bool) (o : FarOp) (s : State) : State :=
  let tb := o.a.toNat
  let i := o.b.toNat
  if tb < 1 ∨ 8 < tb then farAnswer t 13 0 0 s
  else
    let cfg := s.reg (Reg.FWD_DIRECT_CFG (tb - 1))
    if bits cfg 20 0 ≤ i then farAnswer t 13 0 0 s
    else if ue && bit cfg 31 then farUe t s
    else
      let e := s.tblGet tb i
      if datB e 8 0 1 = 0 then farAnswer t 13 0 0 s else farAnswer t 0 16 e s

/-- TBL_READ (R305). -/
def execFarTblRead (th : Nat) (ue : Bool) (s : State) : Res := farCmd th 0x10 (doFarTblRead th ue) s

/-- The tag slot of a thread's searches: that of the active rule set (R151). -/
def State.threadSlot (s : State) : Nat := s.cls.active

/-- ASA_SEARCH (R148, R156, R157): the profile in bits 4:0 of the first argument, the key in scratch: bytes 0 to 39 (R295), and under
KEY640 bytes 0 to 79 (DESIGN CHOICE, assumption 73). -/
def doFarAsaSearch (t : Nat) (bad : List Nat) (o : FarOp) (s : State) : State :=
  let k := o.a.toNat % 32
  let sc := s.asaScope k s.threadSlot
  let key := (s.th t).scratch.toNat % 2 ^ sc.width
  if s.asaCascade k then casRequest { owner := .thread t, key, profile := k } s
  else
    let r := asaLocal sc key none bad s
    farAnswer t 0 12 (BitVec.ofNat 1024 r.1.bytes) (setHandle (.thread t) (r.1.handle key k s.threadSlot) r.2)

/-- ASA_SEARCH (R157). -/
def execFarAsaSearch (th : Nat) (bad : List Nat) (s : State) : Res := farCmd th 0x18 (doFarAsaSearch th bad) s

/-- ASA_STEP (R157). -/
def doFarAsaStep (t : Nat) (bad : List Nat) (s : State) : State :=
  let h := s.asa.handles.get (AsaOwner.thread t).key
  if !h.live then farAnswer t 0 12 0 (count Cnt.ASA_STEP s)
  else if s.asaCascade h.profile then
    casRequest { owner := .thread t, key := h.key, profile := h.profile, resume := some (h.position, h.entry, h.prio) }
      (count Cnt.ASA_STEP s)
  else
    let r := asaLocal (s.asaScope h.profile h.slot) h.key (some (h.prio, h.entry)) bad s
    farAnswer t 0 12 (BitVec.ofNat 1024 r.1.bytes) (setHandle (.thread t) (r.1.handle h.key h.profile h.slot) r.2)

/-- ASA_STEP (R157). -/
def execFarAsaStep (th : Nat) (bad : List Nat) (s : State) : Res := farCmd th 0x19 (fun _ s => doFarAsaStep th bad s) s

end Sys2Proof.Machine
end

