-- ==== Sys2Proof/Machine/Lpm.lean ====
section
/-! DEFINITION. Longest-prefix match (R186 to R189): routes in buckets under pivots. -/
namespace Sys2Proof.Machine

/-- Address width of a family. -/
def lpmWidth (v6 : Bool) : Nat := if v6 then 128 else 32

/-- Routes that a bucket holds (R187). -/
def lpmBucketMax (v6 : Bool) : Nat := if v6 then 3 else 6

/-- Pivots of a family (R188). -/
def lpmPivotMax : Nat := 1048576

/-- Whether the first `len` bits of two addresses of `w` bits agree. -/
def prefixCovers (w pfx len addr : Nat) : Bool := pfx >>> (w - len) == addr >>> (w - len)

def State.buckets (s : State) (v6 : Bool) : List RBucket := if v6 then s.fwd.b6 else s.fwd.b4

/-- The longer of two routes. -/
def longerRoute (a : Option Route) (b : Route) : Option Route :=
  match a with
  | none => some b
  | some r => if r.len < b.len then some b else some r

/-- Every route of a list of buckets. -/
def bucketRoutes (bs : List RBucket) : List Route := (bs.map (fun b => b.routes)).flatten

/-- The longest of some routes that covers an address in a VRF. -/
def bestRoute (w : Nat) (rs : List Route) (vrf addr : Nat) : Option Route :=
  (rs.filter (fun r => r.vrf == vrf && prefixCovers w r.prefx r.len addr)).foldl longerRoute none

/-- The covers that the pivots record: the best route of the VRF no longer than the pivot (R187). -/
def withCovers (w : Nat) (bs : List RBucket) : List RBucket :=
  let rs := bucketRoutes bs
  bs.map (fun b => { b with cover := bestRoute w (rs.filter (fun r => decide (r.len ≤ b.len))) b.vrf b.prefx })

/-- The buckets of a family change, in one step with the covers (R188). -/
def setBuckets (v6 : Bool) (bs : List RBucket) (s : State) : State :=
  let bs := withCovers (lpmWidth v6) bs
  { s with fwd := if v6 then { s.fwd with b6 := bs } else { s.fwd with b4 := bs } }

/-- Every route of a family. -/
def State.routes (s : State) (v6 : Bool) : List Route := bucketRoutes (s.buckets v6)

/-- The exact route (R186). -/
def lpmFind (s : State) (v6 : Bool) (vrf pfx len : Nat) : Option Route :=
  (s.routes v6).find? (fun r => r.vrf == vrf && r.prefx == pfx && r.len == len)

/-- Whether a pivot covers a prefix. -/
def pivotCovers (v6 : Bool) (b : RBucket) (vrf pfx len : Nat) : Bool :=
  b.vrf == vrf && decide (b.len ≤ len) && prefixCovers (lpmWidth v6) b.prefx b.len pfx

/-- Position of the longest pivot that covers a prefix (R187). -/
def longestPivot (v6 : Bool) (bs : List RBucket) (vrf pfx len : Nat) : Option Nat :=
  ((bs.zipIdx.filter (fun b => pivotCovers v6 b.1 vrf pfx len)).foldl (fun a b =>
    match a with
    | none => some b
    | some x => if x.1.len < b.1.len then some b else some x) (none : Option (RBucket × Nat))).map Prod.snd

/-- The bucket of the longest pivot that covers an address (R187, part 1). -/
def State.pivotOf (s : State) (v6 : Bool) (vrf addr : Nat) : Option RBucket :=
  (longestPivot v6 (s.buckets v6) vrf addr (lpmWidth v6)).bind (fun k => (s.buckets v6)[k]?)

/-- The match of an address in a VRF (R187): the longest route in the pivot's bucket, or else the pivot's cover. -/
def lpmLookup (s : State) (v6 : Bool) (vrf addr : Nat) : Option Route :=
  (s.pivotOf v6 vrf addr).bind (fun b =>
    match bestRoute (lpmWidth v6) b.routes vrf addr with
    | some r => some r
    | none => b.cover)

/-- Routes of a full bucket under whose own prefix the bucket may be split: a proper part of its routes moves
(R187). The spec leaves the choice among them to the device. -/
def splitCandidates (v6 : Bool) (bs : List RBucket) (rs : List Route) : List Route :=
  rs.filter (fun r =>
    let moved := rs.filter (fun x => decide (r.len ≤ x.len) && prefixCovers (lpmWidth v6) r.prefx r.len x.prefx)
    decide (moved.length < rs.length) &&
      !bs.any (fun b => b.vrf == r.vrf && b.prefx == r.prefx && b.len == r.len))

/-- A pivot more is in use: LPM_PIVOT_HIGH at the first time that 943,718 are (R189, R199). -/
def pivotAdded (v6 : Bool) (s : State) : State :=
  let n := (s.buckets v6).length
  let done := if v6 then s.fwd.high6 else s.fwd.high4
  if 943718 ≤ n ∧ done = false then
    raise 7 1 noUnit (n + 2 ^ 31 * b2n v6)
      { s with fwd := if v6 then { s.fwd with high6 := true } else { s.fwd with high4 := true } }
  else s

/-- INSERT of a route (R186 to R188): none is TABLE_FULL. -/
def lpmInsert (v6 : Bool) (r : Route) (s : State) : Option State :=
  let bs := s.buckets v6
  match lpmFind s v6 r.vrf r.prefx r.len with
  | some _ =>
    some (setBuckets v6 (bs.map (fun b => { b with routes := b.routes.map (fun x =>
      if x.vrf == r.vrf && x.prefx == r.prefx && x.len == r.len then r else x) })) s)
  | none =>
    match longestPivot v6 bs r.vrf r.prefx r.len with
    | none =>
      if lpmPivotMax ≤ bs.length then none else
        let d := draw s
        let len := Config.pick d.1 % (r.len + 1)
        let w := lpmWidth v6
        some (pivotAdded v6 (setBuckets v6
          (bs ++ [{ vrf := r.vrf, prefx := (r.prefx >>> (w - len)) <<< (w - len), len := len, routes := [r] }]) d.2))
    | some k =>
      let b := bs.getD k {}
      let rs := b.routes ++ [r]
      if rs.length ≤ lpmBucketMax v6 then some (setBuckets v6 (bs.set k { b with routes := rs }) s)
      else if lpmPivotMax ≤ bs.length then none
      else
        let cs := splitCandidates v6 bs rs
        let d := draw s
        match cs[Config.pick d.1 % max 1 cs.length]? with
        | none => none
        | some p =>
          let under := fun (x : Route) => decide (p.len ≤ x.len) && prefixCovers (lpmWidth v6) p.prefx p.len x.prefx
          some (pivotAdded v6 (setBuckets v6
            (bs.set k { b with routes := rs.filter (fun x => !under x) } ++
              [{ vrf := p.vrf, prefx := p.prefx, len := p.len, routes := rs.filter under }]) d.2))

/-- The routes that meet a test are deleted, with the buckets they leave empty (R187). -/
def lpmRemove (v6 : Bool) (p : Route → Bool) (s : State) : State :=
  setBuckets v6 (((s.buckets v6).map (fun b => { b with routes := b.routes.filter (fun x => !p x) })).filter
    (fun b => !b.routes.isEmpty)) s

/-- Routes in ascending (VRF, PREFIX, LEN) (R186). -/
def routeLe (a b : Route) : Bool :=
  decide (a.vrf < b.vrf) || (a.vrf == b.vrf && (decide (a.prefx < b.prefx) || (a.prefx == b.prefx && decide (a.len ≤ b.len))))

/-- The first route at or after a starting point, or strictly after it (R186). -/
def lpmStep (s : State) (v6 : Bool) (from_ : Route) (strict : Bool) : Option Route :=
  let ok := fun (r : Route) => if strict then !routeLe r from_ else routeLe from_ r
  ((s.routes v6).filter ok).foldl (fun a r =>
    match a with
    | none => some r
    | some x => if routeLe r x then some r else some x) none

end Sys2Proof.Machine
end

