-- ==== Sys2Proof/Machine/Forward.lean ====
section
/-! DEFINITION. Forwarding: the walk of a profile (R177 to R185), the L2 table, source checks, learning and ageing
(R190 to R198). -/
namespace Sys2Proof.Machine

def updFwd (f : FwdSt → FwdSt) (s : State) : State := { s with fwd := f s.fwd }

/-! ### The L2 table -/

def l2Mac (e : Ent16) : Nat := beVal (bvBytes 6 e)
def l2Bd (e : Ent16) : Nat := datU e 6 2
def l2Nh (e : Ent16) : Nat := datU e 8 4
def l2Age (e : Ent16) : Nat := datU e 12 2
def l2Valid (e : Ent16) : Bool := datB e 14 0 1 == 1
def l2Static (e : Ent16) : Bool := datB e 14 1 1 == 1
def l2Learned (e : Ent16) : Bool := datB e 14 2 1 == 1
def l2Gen (e : Ent16) : Nat := datU e 15 1

/-- An L2 entry from its fields (R191). -/
def l2Entry (mac bd nh age flags gen : Nat) : Ent16 :=
  bvOfBytes 128 (beBytes 6 mac ++ leBytes 2 bd ++ leBytes 4 nh ++ leBytes 2 age ++ leBytes 1 flags ++ leBytes 1 gen)

/-- The bucket of a station (R191). -/
def State.l2Bucket (s : State) (bd mac : Nat) : Nat := Config.l2Hash s.sec.keys.l2 bd mac % 524288

/-- The slots of a bucket (R191). -/
def l2Slots (b : Nat) : List Nat := [4 * b, 4 * b + 1, 4 * b + 2, 4 * b + 3]

/-- The slot that holds a station (R191). -/
def l2Find (s : State) (bd mac : Nat) : Option Nat :=
  (l2Slots (s.l2Bucket bd mac)).find? (fun k =>
    let e := s.fwd.l2.get k
    l2Valid e && l2Mac e == mac && l2Bd e == bd)

/-- A slot takes an entry; FWD_L2_COUNT follows (R200). -/
def l2Set (k : Nat) (e : Ent16) (s : State) : State :=
  let was := l2Valid (s.fwd.l2.get k)
  updFwd (fun f => { f with l2 := f.l2.set k e, l2Valid := f.l2Valid + b2n (l2Valid e) - b2n was }) s

/-- A slot is freed; it keeps GEN. -/
def l2Clear (k : Nat) (s : State) : State := l2Set k (l2Entry 0 0 0 0 0 (l2Gen (s.fwd.l2.get k))) s

/-- The slot that a new station takes in its bucket: a free one, else by FWD_CFG.L2_EVICT a non-static occupant, the
Bool telling an eviction (R194, R198). Of several free slots, and of several occupants equally old, the lowest is taken (DESIGN
CHOICE, assumption 72). -/
def l2Place (bd mac : Nat) (s : State) : Option (Nat × Bool) × State :=
  let slots := l2Slots (s.l2Bucket bd mac)
  match slots.find? (fun k => !l2Valid (s.fwd.l2.get k)) with
  | some k => (some (k, false), s)
  | none =>
    let cs := slots.filter (fun k => !l2Static (s.fwd.l2.get k))
    if cs.isEmpty then (none, s)
    else if bit (s.reg Reg.FWD_CFG) 0 then
      let age := fun k => serialAge 16 s.ageStamp (l2Age (s.fwd.l2.get k))
      (some (cs.foldl (fun a k => if age a < age k then k else a) (cs.headD 0), true), s)
    else
      let d := draw s
      (some (cs.getD (Config.pick d.1 % cs.length) 0, true), d.2)

/-- The attributes of an event of the learning hardware on an L2 slot (R510). -/
def l2Attr (k : Nat) : Attr := { master := some 3, tbl := some 0x12, idx := some k }

/-- A learn within the limit of R195, which admits it. -/
def l2Admit (pipe : Nat) (s : State) : Option State :=
  let ms := s.now / 1000000
  let w := s.fwd.learnWin.get pipe
  let n := if w.1 = ms then w.2 else 0
  if n < s.regF Reg.FWD_L2_RATE 15 0 then some (updFwd (fun f => { f with learnWin := f.learnWin.set pipe (ms, n + 1) }) s)
  else none

/-- A source check of a pipeline (R194, R195). In Drain no station is learned or moved (R86, R195). -/
def sourceCheckRun (pipe : Nat) (c : SrcCheck) (s : State) : State :=
  let stamp := s.ageStamp
  match l2Find s c.bd c.mac with
  | some k =>
    let e := s.fwd.l2.get k
    if l2Nh e = c.nexthop then l2Set k (datPut e 12 2 stamp) s
    else if s.md.mode = .drain then s
    else if l2Static e then countA (l2Attr k) Cnt.FWD_L2_MOVE_REFUSED 1 s
    else countA (l2Attr k) Cnt.FWD_L2_MOVE 1 (l2Set k (datPut (datPut e 8 4 c.nexthop) 12 2 stamp) s)
  | none =>
    if s.md.mode = .drain then s else
    match l2Place c.bd c.mac s with
    | (none, s) => countA { master := some 3, tbl := some 0x12 } Cnt.FWD_L2_FULL 1 s
    | (some (k, evict), s') =>
      match l2Admit pipe s' with
      | none => raiseLim 1 pipe 7 3 pipe pipe (count (Cnt.FWD_L2_LEARN_LIMIT pipe) s)
      | some s =>
        let s := l2Set k (l2Entry c.mac c.bd c.nexthop stamp 5 ((l2Gen (s.fwd.l2.get k) + 1) % 256)) s
        countA (l2Attr k) (if evict then Cnt.FWD_L2_EVICT else Cnt.FWD_L2_LEARN) 1 s

/-- A frame is queued for a source check (R193). -/
def queueCheck (pipe : Nat) (c : SrcCheck) (s : State) : State :=
  if (s.fwd.recent.get pipe).any (fun r => r == (c.bd, c.mac, s.ageStamp)) then count (Cnt.FWD_L2_FILTERED pipe) s
  else if 64 ≤ (s.fwd.checks.get pipe).length then count (Cnt.FWD_L2_CHECK_SKIP pipe) s
  else updFwd (fun f => { f with checks := f.checks.upd pipe (fun l => l ++ [c]) }) s

/-- The oldest queued check reads its bucket (R194); a poisoned read abandons it (R430). The recent-source filter holds 1,024 sources
(R193): a source is entered at its check, whatever the check's outcome, and a full filter gives up its oldest (DESIGN CHOICE,
assumption 72). -/
def doSourceCheck (pipe : Nat) (poisoned : Bool) (s : State) : State :=
  match s.fwd.checks.get pipe with
  | [] => s
  | c :: rest =>
    let s := updFwd (fun f => { f with checks := f.checks.set pipe rest }) s
    if poisoned || s.hbmBad (s.fwdAddr 2 (64 * s.l2Bucket c.bd c.mac)) 64 then s else
      let s := updFwd (fun f => { f with recent := f.recent.upd pipe (fun l =>
        ((c.bd, c.mac, s.ageStamp) :: l.filter (fun r => !(r.1 == c.bd && r.2.1 == c.mac))).take 1024) }) s
      sourceCheckRun pipe c s

/-- SOURCE_CHECK (R194). -/
def execSourceCheck (pipe : Nat) (poisoned : Bool) (s : State) : Res :=
  coreCmd (fun s => if pipe < 4 then doSourceCheck pipe poisoned s else s) s

/-- The ageing scanner visits its next slot (R196, R550). A stamp ahead is rewritten under the condition of a delete: AGE and GEN
unchanged since the slot was read. The scanner runs in Maintenance, and rests in Load and Lockdown (DESIGN CHOICE, assumption 72). -/
def doL2AgeVisit (raced : Bool) (s : State) : State :=
  let k := s.fwd.scan
  let e := s.fwd.l2.get k
  if s.md.mode = .load ∨ s.md.mode = .lockdown then s else
  let due := paceDue (s.regF Reg.FWD_L2_AGE 31 16 * 1000000000) 2097152 k s.fwd.scanAt
  let s := updFwd (fun f => { f with scan := (k + 1) % 2097152, scanAt := due }) (runTo due s)
  if l2Valid e = false ∨ l2Static e = true then s
  else
    let d := (s.ageStamp + 65536 - l2Age e) % 65536
    let at_ : Attr := { master := some 4, tbl := some 0x12, idx := some k }
    if 32768 ≤ d then (if raced then s else l2Set k (datPut e 12 2 s.ageStamp) s)
    else if s.regF Reg.FWD_L2_AGE 15 0 < d then
      if raced then countA at_ Cnt.FWD_L2_AGE_RACE 1 s
      else countA at_ Cnt.FWD_L2_AGED 1 (l2Clear k s)
    else s

/-- L2_AGE_VISIT (R196). -/
def execL2AgeVisit (raced : Bool) (s : State) : Res := coreCmd (doL2AgeVisit raced) s

/-- A port is declared down: the flush of its learned stations starts (R197). -/
def l2FlushStart (port : Nat) (s : State) : State :=
  if bit (s.reg Reg.FWD_CFG) 1 then updFwd (fun f => { f with flushes := f.flushes ++ [{ port }] }) s else s

/-- The oldest flush scan finishes (R197, R199). -/
def doL2Flushed (s : State) : State :=
  match s.fwd.flushes with
  | [] => s
  | fl :: rest =>
    let nh := 32 * s.devId + fl.port
    let ks := (s.fwd.l2.cells.filter (fun c => l2Valid c.2 && l2Learned c.2 && !l2Static c.2 && l2Nh c.2 == nh)).map Prod.fst
    let s := ks.foldl (fun s k => l2Clear k s) (updFwd (fun f => { f with flushes := rest }) s)
    raise 7 2 fl.port (fl.port + 256 * min ks.length 0xFFFFFF) s

/-- L2_FLUSHED (R197). -/
def execL2Flushed (s : State) : Res := coreCmd doL2Flushed s

/-! ### The profile walk -/

/-- The entry of a next hop (R182), with the port next hops that Load sets (R183). -/
def State.nextHop (s : State) (k : Nat) : Dat := s.tblGet 0x13 k

/-- How a step ends (R180): a miss, with the AUX of a direct-index entry that it read; a result word, with its AUX. -/
inductive StepEnd where
  | miss (aux : Option Nat)
  | word (w : Nat) (aux : Option Nat)
  /-- It waits for its HBM read (R181). -/
  | hbm
deriving DecidableEq, Repr

/-- The step's header field at an extra offset, if every bit is present (R178). -/
def stepField (p : Pkt) (lo extra width : Nat) : Option Nat :=
  hdrField p.parse p.bytes (bits lo 27 20) (bits lo 18 14) (bit lo 19) (bits lo 11 0 + extra) width

/-- The key of an L2 step: destination and source MAC, present only together (R178). -/
def l2Key (p : Pkt) (lo : Nat) : Option (Nat × Nat) := (stepField p lo 0 96).map (fun v => (v / 2 ^ 48, v % 2 ^ 48))

/-- A lookup of a step (R178 to R180, R185, R187, R192); `back` says that its HBM read has returned. -/
def stepLookup (s : State) (lo hi ctx : Nat) (p : Pkt) (back : Bool) : StepEnd :=
  let kind := bits lo 31 28
  if 1 ≤ kind ∧ kind ≤ 8 then
    let w := bits hi 28 24
    match stepField p lo 0 w with
    | none => .miss none
    | some f =>
      let i := if bit hi 19 then ctx * 2 ^ w + f else f
      let cfg := s.reg (Reg.FWD_DIRECT_CFG (kind - 1))
      if bits cfg 20 0 ≤ i then .miss none
      else if bit cfg 31 && !back then .hbm
      else
        let e := s.tblGet kind i
        if datB e 8 0 1 = 0 then .miss (some (datU e 4 4)) else .word (datU e 0 4) (some (datU e 4 4))
  else if kind = 9 ∨ kind = 10 then
    if 4095 < ctx then .miss none else
      match stepField p lo 0 (lpmWidth (kind == 10)) with
      | none => .miss none
      | some a =>
        if (s.pivotOf (kind == 10) ctx a).isNone then .miss none
        else if back then (match lpmLookup s (kind == 10) ctx a with
          | some r => .word r.result none | none => .miss none) else .hbm
  else
    if 4095 < ctx then .miss none else
      let d := s.tblGet 0x14 ctx
      match l2Key p lo with
      | none => .miss none
      | some (mac, _) =>
        if datB d 0 0 1 = 0 then .miss none
        else if !back then .hbm
        else if bit (mac / 2 ^ 40) 0 then .word (datU d 8 4) none
        else match l2Find s ctx mac with
          | some k => .word (l2Nh (s.fwd.l2.get k)) none
          | none => .word (datU d 4 4) none

/-- What an L2 step does besides its lookup (R192, R193): group destinations are counted, and the source of a frame
from a local port is checked. -/
def l2StepEffects (pipe lo ctx : Nat) (p : Pkt) (s : State) : State :=
  let d := s.tblGet 0x14 ctx
  match l2Key p lo with
  | none => s
  | some (mac, src) =>
    let s := if bit (mac / 2 ^ 40) 0 then countC p.cls (Cnt.FWD_L2_GROUP pipe) s else s
    if datB d 0 1 1 = 1 then queueCheck pipe { bd := ctx, mac := src, nexthop := 32 * s.devId + p.inPort } s else s

/-- How the walk leaves the packet (R180, R181). -/
inductive FwdOut where
  | drop
  | punt (conduit source : Nat) (p : Pkt)
  | dest (p : Pkt)
  | wait (step ctx : Nat) (p : Pkt)
deriving DecidableEq, Repr

/-- A next hop decides the packet (R182, R184): its fields go with the packet. -/
def takeNextHop (pipe nh : Nat) (p : Pkt) (s : State) : FwdOut × State :=
  let e := s.nextHop nh
  let kind := datU e 0 1
  if kind = 0 ∨ 3 < kind then (.drop, countC p.cls (Cnt.FWD_NH_INVALID pipe) s)
  else (.dest { p with nexthop := nh, cls := if datB e 1 0 1 = 1 then datB e 5 0 3 else p.cls,
                       dev := datB e 2 0 9, port := datB e 4 0 5, natOwner := kind == 3,
                       subscriber := datU e 8 2, rewrite := datU e 12 4 % 2 ^ 20 }, s)

/-- The walk from a step (R180); the first argument is how many steps remain. -/
def fwdGo (pipe prof : Nat) : Nat → Nat → Nat → Bool → Pkt → State → FwdOut × State
  | 0, _, _, _, p, s => (.drop, countC p.cls (Cnt.FWD_NO_DEST pipe) s)
  | n + 1, k, ctx, back, p, s =>
    let lo := s.reg (Reg.FWD_STEP_LO prof k)
    let hi := s.reg (Reg.FWD_STEP_HI prof k)
    let kind := bits lo 31 28
    if kind = 0 then (.drop, countC p.cls (Cnt.FWD_NO_DEST pipe) s)
    else
      match stepLookup s lo hi ctx p back with
      | .hbm => (.wait k ctx p, s)
      | .miss aux =>
        let p := { p with aux := aux.getD p.aux }
        match bits hi 17 16 with
        | 1 => (.drop, countC p.cls (Cnt.FWD_MISS_DROP pipe) s)
        | 2 => (.punt (bits hi 3 0) 2 { p with context := ctx }, countC p.cls (Cnt.FWD_MISS_PUNT pipe) s)
        | _ => fwdGo pipe prof n (k + 1) ctx false p s
      | .word w aux =>
        let p := { p with aux := aux.getD p.aux, context := ctx, bridged := p.bridged || kind == 11 }
        let s := if kind = 11 then l2StepEffects pipe lo ctx p s else s
        let isNh := kind == 11 && (l2Key p lo).any (fun m => !bit (m.1 / 2 ^ 40) 0 && (l2Find s ctx m.1).isSome)
        match if isNh then 0 else bits w 31 30 with
        | 0 => takeNextHop pipe (w % 2 ^ 18) p s
        | 1 => fwdGo pipe prof n (k + 1) (w % 65536) false { p with context := w % 65536 } s
        | 2 => (.drop, countC p.cls (Cnt.FWD_RESULT_DROP pipe) s)
        | _ => (.punt (w % 16) 3 p, countC p.cls (Cnt.FWD_PUNT pipe) s)

/-- A packet enters forwarding (R177, R180). -/
def fwdStart (pipe : Nat) (p : Pkt) (s : State) : FwdOut × State :=
  let c := s.reg (Reg.FWD_PORT_CFG p.inPort)
  fwdGo pipe (bits c 19 16) 4 0 (bits c 15 0) false { p with aux := 0, context := bits c 15 0 }
    (countC p.cls (Cnt.FWD_LOOKUP pipe) s)

/-- The HBM bytes that a step reads hold poison (R429): the L2 bucket of its key, or its entry of an HBM-placed direct-index table. In which
route buckets a prefix lies is the device's own. -/
def State.stepBad (s : State) (lo hi ctx : Nat) (p : Pkt) : Bool :=
  let kind := bits lo 31 28
  if kind = 11 then
    match l2Key p lo with
    | some (mac, _) => s.hbmBad (s.fwdAddr 2 (64 * s.l2Bucket ctx mac)) 64
    | none => false
  else if 1 ≤ kind ∧ kind ≤ 8 then
    match stepField p lo 0 (bits hi 28 24) with
    | some f => s.hbmBad (s.fwdAddr (2 + kind) (16 * (if bit hi 19 then ctx * 2 ^ bits hi 28 24 + f else f))) 16
    | none => false
  else false

/-- A packet's HBM read has returned (R181, R430). -/
def fwdResume (pipe step ctx : Nat) (p : Pkt) (poisoned : Bool) (s : State) : FwdOut × State :=
  let prof := bits (s.reg (Reg.FWD_PORT_CFG p.inPort)) 19 16
  if poisoned || s.stepBad (s.reg (Reg.FWD_STEP_LO prof step)) (s.reg (Reg.FWD_STEP_HI prof step)) ctx p then
    (.drop, countC p.cls Cnt.HMC_POISON_DROP s)
  else fwdGo pipe prof (4 - step) step ctx true p s

end Sys2Proof.Machine
end

