-- ==== Sys2Proof/Machine/Pod.lean ====
section
/-! DEFINITION. The express selector (R105 to R107) and the Pod (R397 to R419): admission, the lanes' descriptors, the
comparator, votes, strikes, roles, the express tables and the express queues. -/
namespace Sys2Proof.Machine

/-! ### Frame heads (R105, R106) -/

/-- Whether a tag's TPID stands at an offset. -/
def isTpid (bs : List Byte) (off : Nat) : Bool := beAt bs off 2 == 0x8100 || beAt bs off 2 == 0x88A8

/-- Tags that the selector skips, at most two. -/
def tagCount (bs : List Byte) : Nat := if isTpid bs 12 then (if isTpid bs 16 then 2 else 1) else 0

/-- Offset of the EtherType after the tags, and of the header that follows it. -/
def typeOff (bs : List Byte) : Nat := 12 + 4 * tagCount bs
def l3Off (bs : List Byte) : Nat := 14 + 4 * tagCount bs
def ethType (bs : List Byte) : Nat := beAt bs (typeOff bs) 2

def isIpv4 (bs : List Byte) : Bool := ethType bs == 0x0800
def isIpv6 (bs : List Byte) : Bool := ethType bs == 0x86DD
/-- MPLS with a whole label. -/
def isMpls (bs : List Byte) : Bool := (ethType bs == 0x8847 || ethType bs == 0x8848) && decide (l3Off bs + 4 ≤ bs.length)

/-- The DSCP; none where the frame is neither IPv4 nor IPv6, or too short. -/
def frameDscp (bs : List Byte) : Option Nat :=
  if isIpv4 bs && decide (l3Off bs + 2 ≤ bs.length) then some ((byteAt bs (l3Off bs + 1)).toNat / 4)
  else if isIpv6 bs && decide (l3Off bs + 2 ≤ bs.length) then some (beAt bs (l3Off bs) 2 / 64 % 64)
  else none

/-- The TC of the top MPLS label. -/
def frameTc (bs : List Byte) : Option Nat := if isMpls bs then some ((byteAt bs (l3Off bs + 2)).toNat / 2 % 8) else none

/-- One field of a selector entry: nothing is asked where no care bit is set (R106). -/
def careMatch (field : Option Nat) (value care : Nat) : Bool :=
  care == 0 || (match field with | some f => (f &&& care) == (value &&& care) | none => false)

/-- Whether a selector entry matches a frame (R105, R106). -/
def selMatch (e : Dat) (bs : List Byte) : Bool :=
  let b := bvBytes 32 e
  datB e 20 0 1 == 1 &&
    careMatch (if 6 ≤ bs.length then some (beAt bs 0 6) else none) (beAt b 0 6) (beAt b 6 6) &&
    careMatch (if typeOff bs + 2 ≤ bs.length then some (ethType bs) else none) (beAt b 12 2) (beAt b 14 2) &&
    careMatch (frameDscp bs) (datB e 16 0 6) (datB e 17 0 6) && careMatch (frameTc bs) (datB e 18 0 3) (datB e 19 0 3)

/-- The lowest-numbered entry of a port that claims a frame; none for a bulk frame (R106). -/
def State.expressEntry (s : State) (port : Nat) (bs : List Byte) : Option Nat :=
  if s.regF (Reg.LPC_PORT_CFG port) 31 31 = 1 then
    (List.range 16).find? (fun e => selMatch (s.tblGet 0x57 (16 * port + e)) bs)
  else none

/-! ### Lanes (R404, R407 to R411) -/

def updPod (f : PodSt → PodSt) (s : State) : State := { s with pod := f s.pod }
def State.podLane (s : State) (l : Nat) : PodLane := s.pod.lanes.get l
def updPodLane (l : Nat) (f : PodLane → PodLane) (s : State) : State :=
  updPod (fun p => { p with lanes := p.lanes.upd l f }) s

/-- The Pod's power domain is switched off (R527). -/
def State.podOff (s : State) : Bool := bit (s.reg Reg.MGT_PWR_OFF0) 20

/-- Lanes in service (R408); none while the Pod is switched off (R527). -/
def State.inService (s : State) : List Nat := (List.range 3).filter (fun l => !(s.podLane l).retired && !s.podOff)

/-- XPR_STATUS.STATE (R408, R419). -/
def State.podState (s : State) : Nat := let n := s.inService.length; if n = 3 then 0 else if n = 2 then 1 else 2

/-- The lane in a role; none where it is vacant. -/
def State.roleLane (s : State) (r : Nat) : Option Nat := (List.range 3).find? (fun l => (s.podLane l).role == r)

/-- A vote is pending (R402, R406). -/
def State.votePending (s : State) : Bool := s.pod.frames.any (fun f => f.vote && f.decided.isNone)

/-- One of the two duty lanes has looked a frame up and the other has not, so that a commit now would show the pair two versions
(R402). -/
def State.halfLooked (s : State) : Bool := s.pod.frames.any (fun f => !f.vote && f.decided.isNone && (f.d0.isSome != f.d1.isSome))

/-- A commit to the express tables is held back (R402): between the two lookups of a frame, and while a vote is pending, for at most 32
votes. -/
def State.commitHeld (s : State) : Bool := s.halfLooked || s.votePending && decide (s.pod.heldVotes < 32)

/-- A strike (R407): counted, and the lane is to retire when it is the third within 1,000,000 ns of the first, which is a crossing of class
4 (R438, R440). A retired lane, whose copy the scrubber repairs as well, takes it, but no error enters its count (R440). -/
def strike (l : Nat) (s : State) : State :=
  let n := s.podLane l
  if n.retired then count (Cnt.XPR_STRIKE l) (updPodLane l (fun n => { n with health := n.health - 64 }) s) else
  let t := (s.now :: n.strikes).take 3
  let crosses := decide (3 ≤ recentStrikes s.now t)
  let s := updPodLane l (fun n => { n with strikes := t, health := n.health - 64,
                                           retiring := if crosses then some (n.retiring.getD 0) else n.retiring }) s
  let s := { s with flt := s.flt.upd (fltKey 4 l) (fun f => { f with peak := max f.peak (recentStrikes s.now t) }) }
  count (Cnt.XPR_STRIKE l) (if crosses && n.retiring != some 0 then count Cnt.MGT_FLT_CROSSINGS s else s)

/-! ### Express tables (R399 to R403) -/

/-- Lane l's copy of a word of table 0x50, or of table 0x51. -/
def State.podWord (s : State) (rw : Bool) (l k : Nat) : BitVec 128 :=
  if rw then (s.podLane l).rew.get k else ((s.podLane l).ent.get k).setWidth 128

def setPodWord (rw : Bool) (l k : Nat) (v : BitVec 128) (s : State) : State :=
  updPodLane l (fun n => if rw then { n with rew := n.rew.set k v } else { n with ent := n.ent.set k (v.setWidth 32) }) s

/-- The value that at least two copies hold (R399). -/
def State.podValue (s : State) (rw : Bool) (k : Nat) : BitVec 128 :=
  let a := s.podWord rw 0 k
  if a = s.podWord rw 1 k ∨ a = s.podWord rw 2 k then a
  else if s.podWord rw 1 k = s.podWord rw 2 k then s.podWord rw 1 k else 0

/-- A copy is rewritten from the other two, which agree (R403). -/
def repairCopy (rw : Bool) (l k : Nat) (s : State) : State :=
  strike l (count (Cnt.XPR_TBL_REPAIR l) (setPodWord rw l k (s.podWord rw ((l + 1) % 3) k) s))

/-- All three copies differ: the word is lost (R403). -/
def loseWord (rw : Bool) (k : Nat) (s : State) : State :=
  raise 0xF 6 noUnit (k % 65536 + 2 ^ 31 * b2n rw)
    (count Cnt.XPR_TBL_LOST ((List.range 3).foldl (fun s l => setPodWord rw l k 0 s) s))

/-- A word whose copies are compared (R403). -/
def compareWord (rw : Bool) (k : Nat) (s : State) : State :=
  let a := s.podWord rw 0 k
  let b := s.podWord rw 1 k
  let c := s.podWord rw 2 k
  if a = b ∧ b = c then s
  else if b = c then repairCopy rw 0 k s
  else if a = c then repairCopy rw 1 k s
  else if a = b then repairCopy rw 2 k s
  else loseWord rw k s

/-- A copy whose parity fails at a lookup is repaired at once (R403). -/
def parityWord (rw : Bool) (l k : Nat) (s : State) : State :=
  if s.podWord rw ((l + 1) % 3) k = s.podWord rw ((l + 2) % 3) k then repairCopy rw l k s
  else compareWord rw k s

/-- The scrubber compares its next word (R403); `errs` are the bits in which the copies read wrong. -/
def doXpScrub (errs : List (BitVec 128)) (s : State) : State :=
  if !s.pod.live || !s.moves then s else
    let rw := decide (65536 ≤ s.pod.scrub)
    let k := if rw then s.pod.scrub - 65536 else s.pod.scrub
    let due := paceDue 10000000 69632 s.pod.scrub s.pod.scrubAt
    let s := (List.range 3).foldl (fun s l => setPodWord rw l k (s.podWord rw l k ^^^ errs.getD l 0) s) (runTo due s)
    updPod (fun p => { p with scrub := (p.scrub + 1) % 69632, scrubAt := due }) (compareWord rw k s)

/-- XP_SCRUB (R403). -/
def execXpScrub (errs : List (BitVec 128)) (s : State) : Res := coreCmd (doXpScrub errs) s

/-- A word of an express table takes a new value in its three copies at one inter-lookup gap (R402). -/
def podStore (rw : Bool) (k : Nat) (v : BitVec 128) (s : State) : State :=
  updPod (fun p => { p with shadowOf := none }) ((List.range 3).foldl (fun s l => setPodWord rw l k v s) s)

/-! ### Descriptors (R398, R401, R404) -/

/-- The key of a frame, none for a miss (R398). -/
def podFrameKey (f : PodFrame) : Option Nat :=
  let src := bits f.keyReg.toNat 17 16
  let lo := bits f.labelReg.toNat 19 0
  let label := beAt f.head (l3Off f.head) 3 / 16
  let raw :=
    if src = 0 then some f.selEntry
    else if src = 1 then (if isMpls f.head && decide (lo ≤ label) && decide (label < lo + 65536) then some (label - lo) else none)
    else if tagCount f.head = 0 then none else some (beAt f.head 14 2 % 4096)
  raw.map (fun r => (bits f.keyReg.toNat 15 0 + r) % 65536)

/-- Offset of the TTL that DEC_TTL acts on (R401). -/
def ttlOff (bs : List Byte) : Option Nat :=
  let o := if isMpls bs then l3Off bs + 3 else if isIpv4 bs then l3Off bs + 8 else l3Off bs + 7
  if (isMpls bs || isIpv4 bs || isIpv6 bs) && decide (o < bs.length) then some o else none

/-- The header checksum after the TTL at offset o has been decremented (R401, RFC 1624). -/
def ttlCsum (bs : List Byte) (o : Nat) : Nat :=
  65535 - ocAdd (ocAdd (65535 - beAt bs (o + 2) 2) (65535 - beAt bs o 2)) (beAt bs o 2 - 256)

/-- EtherType that POP_LABEL of the bottom label writes (R401); 0 where the EtherType is kept. -/
def popType (bs : List Byte) : Nat :=
  if isMpls bs && bit (byteAt bs (l3Off bs + 2)).toNat 0 then
    let n := (byteAt bs (l3Off bs + 4)).toNat / 16
    if n = 4 then 0x0800 else if n = 6 then 0x86DD else 0
  else 0

/-- A lane's descriptor of a frame (R404). A frame whose key is a miss reads no entry: its KEY, ENTRY and REWRITE are 0. -/
def State.podDesc (s : State) (l slot gen : Nat) (parity : Bool) (f : PodFrame) : PodDesc :=
  let key := podFrameKey f
  let e := match key with | some k => ((s.podLane l).ent.get k).toNat | none => 0
  let rw := if key.isSome then (s.podLane l).rew.get (e % 4096) else 0
  let op := datU rw 0 1
  let live := bit e 31 && !bit e 30
  let dec := if live && bit op 4 then ttlOff f.head else none
  let ttl := match dec with | some o => (byteAt f.head o).toNat | none => 0
  let status := if !bit e 31 then 1 else if bit e 30 then 2 else if dec.isSome && decide (ttl ≤ 1) then 4 else 0
  let csum := match dec with | some o => if isIpv4 f.head && !isMpls f.head && ttl != 0 then ttlCsum f.head o else 0 | none => 0
  let pop := live && bit op 3 && isMpls f.head
  let mid := if parity then List.replicate 32 0 else
    leBytes 2 (key.getD 0) ++ leBytes 4 e ++ bvBytes 16 rw ++ leBytes 2 (e / 2 ^ 21 % 512) ++ leBytes 1 (e / 2 ^ 16 % 32) ++
      leBytes 1 (e / 2 ^ 13 % 8) ++ leBytes 2 (if pop then 0xFFFC else 0) ++ leBytes 1 (ttl - 1) ++ [0] ++ leBytes 2 csum
  bvOfBytes 512 (leBytes 1 gen ++ leBytes 1 slot ++ leBytes 2 f.fseq ++ leBytes 1 f.inPort ++
    leBytes 1 (status + 8 * b2n parity) ++ mid ++ leBytes 4 (crc32c f.head) ++ (if parity || !pop then [0, 0] else beBytes 2 (popType f.head)))

/-- What the comparator compares: bytes 2 to 63. -/
def descBody (d : PodDesc) : Nat := d.toNat >>> 16

/-- Status bit PARITY in the error bits of a lane (R404). -/
def parityBit : Nat := 43

/-- The words that a lane's parity failure concerns (R403): a bit of REWRITE in the error bits names the word of table 0x51, and a bit
of ENTRY, or none of both, that of table 0x50. -/
def parityWords (err : Word512) : Bool × Bool :=
  let rw := datU (err.setWidth 1024) 12 16 != 0
  (!rw || datU (err.setWidth 1024) 8 4 != 0, rw)

/-- A lane meets a parity failure in its copies at a lookup: the words concerned are repaired at once (R403). -/
def repairLookup (l k : Nat) (err : Word512) (s : State) : State :=
  let r := ((s.podLane l).ent.get k).toNat % 4096
  let s := if (parityWords err).1 then parityWord false l k s else s
  if (parityWords err).2 then parityWord true l r s else s

/-- A lane builds a descriptor that differs from a sound one in the bits of `err`; PARITY among them is a parity failure of the
lane's copies, which are repaired (R403, R404). -/
def buildDesc (l slot gen : Nat) (err : Word512) (f : PodFrame) (s : State) : PodDesc × State :=
  if bit err.toNat parityBit then
    (s.podDesc l slot gen true f, match podFrameKey f with | some k => repairLookup l k err s | none => s)
  else (s.podDesc l slot gen false f ^^^ err, s)

/-! ### Admission (R397) -/

/-- An express frame reaches the Pod: its head, its bytes without FCS, and whether it proved bad after its head had left
(R397, R416). -/
def podAdmit (port entry : Nat) (head bytes : List Byte) (bad : Bool) (s : State) : State :=
  if s.podState = 2 then count Cnt.XPR_DOWN_DROP s else
    let dt := s.now - s.pod.credAt
    let fr := min 640 (s.pod.fcredit + 3 * dt)
    let by_ := min 65536 (s.pod.bcredit + 50 * dt)
    let cost := bytes.length + 24
    let ok := decide (20 ≤ fr) && decide (cost ≤ by_)
    let s := updPod (fun p => { p with fcredit := if ok then fr - 20 else fr, bcredit := if ok then by_ - cost else by_, credAt := s.now }) s
    if !ok then count Cnt.XPR_OVER_CAP s else
      let f : PodFrame := { fseq := s.pod.fseq, inPort := port, bytes := bytes, head := head, bad := bad, selEntry := entry,
                            keyReg := s.regs.get (Reg.XPR_PORT_KEY port), labelReg := s.regs.get (Reg.XPR_PORT_LABEL port),
                            lane0 := (s.roleLane 0).getD 3, lane1 := (s.roleLane 1).getD 3 }
      count Cnt.XPR_FRAMES (updPod (fun p => { p with fseq := (p.fseq + 1) % 65536, frames := p.frames ++ [f] }) s)

/-! ### Sending (R414 to R416) -/

/-- Bytes of an express frame that have arrived. -/
def State.expLen (s : State) (f : ExpFrame) : Nat := f.bytes.length + (s.tailOf f.tail).rest.length

/-- Cells of an express queue. -/
def State.expCells (s : State) (l : List ExpFrame) : Nat := (l.map (fun f => cdiv (s.expLen f) 256)).sum

/-- Cells of the express buffer in use (R414): by frames before their decision, in express queues, on their way to the fabric, and in
assembly from it. -/
def State.expUsed (s : State) : Nat :=
  (s.pod.frames.map (fun f => cdiv f.bytes.length 256)).sum + (s.pod.exq.cells.map (fun c => s.expCells c.2)).sum +
    (s.swc.peers.cells.map (fun p => ((p.2.tx.get 8).pkts.map (fun t => cdiv t.bytes.length 256)).sum +
      cdiv (p.2.rx.get 8).part.length 256)).sum

/-- An express frame enters the express queue of an egress port (R104, R414, R415). A bad frame from a line port whose head finds the
port taken has not left, and is discarded (R97); one whose head leaves counts in XPR_BAD_TAIL (R416). -/
def expressQueue (port : Nat) (f : ExpFrame) (s : State) : State :=
  let n := cdiv (s.expLen f) 256
  let drop := fun c => dropTail f.tail (count c s)
  if !s.portExists port then drop Cnt.XPR_BAD_PORT
  else if !(s.port.get port).up then drop (Cnt.LPC_TX_DOWN_DROP port)
  else if s.regF Reg.XPR_QLIMIT 13 0 < s.expCells (s.pod.exq.get port) + n ∨ 8192 < s.expUsed + n then drop Cnt.XPR_BUF_DROP
  else if f.bad && !((s.pod.exq.get port).isEmpty && (s.tms.fifo.get port).isEmpty) then s
  else updExq port (fun l => l ++ [f]) (if f.bad then count Cnt.XPR_BAD_TAIL s else s)

/-- The rewrite of a deciding descriptor (R401, R414). -/
def podRewrite (d : PodDesc) (bs : List Byte) : List Byte :=
  let op := datU d 12 1
  let o := l3Off bs
  let mpls := isMpls bs
  let b := bvBytes 64 d
  let label := datU d 25 3 % 2 ^ 20
  let out := if bit op 0 then setSlice bs 0 (slice b 13 6) else bs
  let out := if bit op 1 then setSlice out 6 (slice b 19 6) else out
  let out := if bit op 2 && mpls then
      setSlice out o (beBytes 3 (label * 16 + (byteAt bs (o + 2)).toNat % 16)) else out
  let out := match (if bit op 4 then ttlOff bs else none) with
    | some t =>
      let out := setByte out t (BitVec.ofNat 8 (datU d 34 1))
      if isIpv4 bs && !mpls then setSlice out (t + 2) (beBytes 2 (datU d 36 2)) else out
    | none => out
  if bit op 3 && mpls then
    let out := if datU d 42 2 = 0 then out else setSlice out (typeOff bs) (slice b 42 2)
    out.take o ++ out.drop (o + 4)
  else out

/-- The descriptor of an EXPRESS packet: LEN 0, EGR_PORT and the class, all else zero (R361, R414). -/
def expDesc (port cls : Nat) : List Byte := [0, 0] ++ leBytes 1 (port % 32) ++ leBytes 1 (cls % 8) ++ List.replicate 28 0

/-- A decided frame leaves the Pod (R414, R416). -/
def podSend (f : PodFrame) (d : PodDesc) (s : State) : State :=
  let st := datU d 5 1
  if bit st 0 then count Cnt.XPR_KEY_MISS s
  else if bit st 1 then count Cnt.XPR_ENTRY_DROP s
  else if bit st 2 then count Cnt.XPR_TTL_DROP s
  else if st != 0 then s
  else
    let out := podRewrite d f.bytes
    let dev := datU d 28 2 % 512
    let t : TxPkt := { group := 6, bytes := expDesc (datU d 30 1 % 32) (datU d 31 1 % 8) ++ out, cut := true, poison := f.bad,
                       cls := datU d 31 1 % 8 }
    if dev = s.devId then expressQueue (datU d 30 1 % 32) { bytes := out, bad := f.bad } s
    else if 8192 < s.expUsed + cdiv out.length 256 then count Cnt.XPR_BUF_DROP s
    else if (s.peer dev).state ≠ .alive then countA {} Cnt.SWC_EXP_DROP (txCells [t]) s
    else
      let s := if f.bad then count Cnt.SWC_POISON_TX (count Cnt.XPR_BAD_TAIL s) else s
      count Cnt.XPR_TO_FABRIC (updPeer dev (fun q => { q with tx := q.tx.upd 8 (fun x => { x with pkts := x.pkts ++ [t] }) }) s)

/-- The decided frames that are first of their ingress port leave in FSEQ order (R405). The first list holds frames that stay. -/
def podRelease : List PodFrame → List PodFrame → State → State
  | kept, [], s => updPod (fun p => { p with frames := kept }) s
  | kept, f :: r, s =>
    match f.decided with
    | some d =>
      if kept.any (fun k => k.inPort == f.inPort) then podRelease (kept ++ [f]) r s
      else
        let s := updPod (fun p => { p with frames := kept ++ r }) s
        podRelease kept r (match d with | some d => podSend f d s | none => s)
    | none => podRelease (kept ++ [f]) r s

/-- One more vote has been decided while writes are held back (R402). -/
def voteEnded (s : State) : State := updPod (fun p => { p with heldVotes := if p.writes.isEmpty then 0 else p.heldVotes + 1 }) s

/-- A frame is decided and the frames that it held back leave. -/
def podDecide (fseq : Nat) (d : Option PodDesc) (s : State) : State :=
  podRelease [] (s.pod.frames.map (fun f => if f.fseq = fseq ∧ f.decided = none then { f with decided := some d } else f)) s

/-! ### Comparator and votes (R405, R406, R411) -/

def updFrame (fseq : Nat) (g : PodFrame → PodFrame) (s : State) : State :=
  updPod (fun p => { p with frames := p.frames.map (fun f => if f.fseq = fseq then g f else f) }) s

/-- The duty pair agree (R405): both carry the current GEN and the SLOT of their lane, and bytes 2 to 63 are equal. -/
def podAgree (gen : Nat) (a b : PodDesc) : Bool :=
  datU a 0 1 == gen && datU b 0 1 == gen && datU a 1 1 == 0 && datU b 1 1 == 1 && descBody a == descBody b

/-- Both descriptors of a frame have arrived (R405). One agreed frame in 64 is due for a shadow pass (R409). -/
def podCompare (f : PodFrame) (a b : PodDesc) (s : State) : State :=
  if podAgree s.pod.gen a b then
    let due := s.pod.shadow + 1 == 64
    let s := updPod (fun p => { p with shadow := if due then 0 else p.shadow + 1,
                                       shadowOf := if due then some (f, a) else p.shadowOf,
                                       shadowDone := if due then 0 else p.shadowDone }) s
    podDecide f.fseq (some a) s
  else updFrame f.fseq (fun f => { f with vote := true }) s

/-- GEN and SLOT as the descriptor of a lane carries them, wrong in the bits of `err` (R404). -/
def State.descGen (s : State) (l : Nat) (err : Word512) : Nat := (s.podLane l).gen % 256 ^^^ err.toNat % 256
def State.descSlot (s : State) (l : Nat) (err : Word512) : Nat := (s.podLane l).slot % 256 ^^^ err.toNat / 256 % 256

/-- The comparator accepts the descriptor of a lane (R411): its GEN is the current one, the role table lists the lane in its SLOT, a
duty slot, and the lane is not retired. -/
def State.podAccepts (s : State) (l : Nat) (err : Word512) : Bool :=
  !(s.podLane l).retired && decide (s.descSlot l err < 2) && (s.podLane l).role == s.descSlot l err && s.descGen l err == s.pod.gen

/-- A lane's forwarding descriptor reaches the comparator (R405, R411). One that the comparator does not accept is discarded and
counted, whether or not its frame still waits. -/
def doPodDescriptor (l fseq : Nat) (err : Word512) (s : State) : State :=
  if 2 < l ∨ s.moves = false then s
  else if s.podAccepts l err = false then count (Cnt.XPR_STALE_GEN l) s
  else
    match s.pod.frames.find? (fun f => f.fseq == fseq && !f.vote && f.decided.isNone) with
    | none => s
    | some f =>
      let n := s.podLane l
      let slot := s.descSlot l err
      let (d, s) := buildDesc l n.slot n.gen err f s
      let put := fun (f : PodFrame) => if slot = 0 then { f with d0 := some d, lane0 := l, firstAt := some (f.firstAt.getD s.now) }
        else { f with d1 := some d, lane1 := l, firstAt := some (f.firstAt.getD s.now) }
      match (if slot = 0 then f.d0 else f.d1), (if slot = 0 then f.d1 else f.d0) with
      | none, none => updFrame fseq put s
      | none, some o => podCompare (put f) (if slot = 0 then d else o) (if slot = 0 then o else d) (updFrame fseq put s)
      | some _, _ => s

/-- DESCRIPTOR (R405). -/
def execPodDescriptor (lane : Nat) (fseq : Nat) (err : Word512) (s : State) : Res := coreCmd (doPodDescriptor lane fseq err) s

/-- 40 ns have passed since the first of a pair (R405). -/
def doDescriptorTimeout (fseq : Nat) (s : State) : State :=
  match s.pod.frames.find? (fun f => f.fseq == fseq && !f.vote && f.decided.isNone) with
  | some { firstAt := some t, .. } => if s.moves then updFrame fseq (fun f => { f with vote := true }) (runTo (t + 40) s) else s
  | _ => s

/-- DESCRIPTOR_TIMEOUT (R405). -/
def execDescriptorTimeout (fseq : Nat) (s : State) : Res := coreCmd (doDescriptorTimeout fseq) s

/-- The vote on a frame (R406). Votes run one at a time, the oldest disagreement first. -/
def doPodVote (fseq : Nat) (err : Word512) (s : State) : State :=
  match s.pod.frames.find? (fun f => f.vote && f.decided.isNone) with
  | none => s
  | some f =>
    if f.fseq ≠ fseq ∨ s.moves = false then s else
      let s := voteEnded s
      match s.roleLane 2 with
      | none => podDecide fseq none (count Cnt.XPR_NO_RESERVE_DROP s)
      | some r =>
        if 32 < (s.pod.fseq + 65536 - fseq) % 65536 then podDecide fseq none (count Cnt.XPR_VOTE_OVERRUN s)
        else
          let (d, s) := buildDesc r 2 s.pod.gen err f s
          let same := fun (o : Option PodDesc) => match o with | some o => descBody o == descBody d | none => false
          if same f.d0 then podDecide fseq f.d0 (strike f.lane1 (count Cnt.XPR_VOTES s))
          else if same f.d1 then podDecide fseq f.d1 (strike f.lane0 (count Cnt.XPR_VOTES s))
          else podDecide fseq none (raiseLim 1000 0 0xF 5 noUnit fseq (count Cnt.XPR_NO_MAJORITY s))

/-- VOTE (R406). -/
def execPodVote (fseq : Nat) (err : Word512) (s : State) : Res := coreCmd (doPodVote fseq err) s

/-! ### Self-test (R409, R412) -/

/-- The lane is the reserve, or retired, so that it tests itself (R409). -/
def State.selfTests (s : State) (l : Nat) : Bool := decide (l < 3) && s.pod.live && s.moves && ((s.podLane l).retired || (s.podLane l).role == 2)

/-- A self-test pass of a lane ends (R407, R409). -/
def podPass (l : Nat) (ok : Bool) (s : State) : State :=
  if ok then count (Cnt.XPR_PASS_CLEAN l) (updPodLane l (fun n => { n with clean := n.clean + 1, health := min 255 (n.health + 1) }) s)
  else
    let s := count (Cnt.XPR_PASS_FAIL l) (updPodLane l (fun n => { n with clean := 0, lastFail := s.now }) s)
    if (s.podLane l).retired then updPodLane l (fun n => { n with health := n.health - 64 }) s else strike l s

/-- A shadow pass (R409). -/
def doShadowPass (l : Nat) (err : Word512) (s : State) : State :=
  match s.pod.shadowOf with
  | none => s
  | some (f, a) =>
    if !s.selfTests l || s.votePending || s.pod.shadowDone.getLsbD l then s else
      let (d, s) := buildDesc l 2 s.pod.gen err f s
      podPass l (descBody d == descBody a) (updPod (fun p => { p with shadowDone := p.shadowDone ||| (1#3 <<< l) }) s)

/-- SHADOW_PASS (R409). -/
def execShadowPass (lane : Nat) (err : Word512) (s : State) : Res := coreCmd (doShadowPass lane err) s

/-- PATTERN_PASS (R409): votes take precedence. -/
def execPatternPass (lane : Nat) (ok : Bool) (s : State) : Res :=
  coreCmd (fun s => if s.selfTests lane && !s.votePending then podPass lane ok s else s) s

/-- A write to XPR_TEST (R412, R419). -/
def doXprTest (value : Word32) (s : State) : State :=
  let l := value.toNat % 4
  testWrite Reg.XPR_TEST l (bit value.toNat 8)
    (decide (l < 3) && (s.md.mode == .maintenance || (s.podLane l).retired || (s.podLane l).role == 2)) s.pod.test.busy
    (updPod (fun p => { p with test := { unit := l, busy := true, result := 0 } }))
    (updPod (fun p => { p with test := { p.test with result := 3 } })) s

/-- XPR_TEST (R412). -/
def execXprTest (value : Word32) (s : State) : Res := hostCmd 15 (doXprTest value) s

/-- The passes of a lane test have run (R412); in Lockdown the Pod stops (R417). -/
def doXprTestDone (pass : Bool) (s : State) : State :=
  if s.pod.test.busy && s.moves then
    let r := if pass then 1 else 2
    raise 0xF 7 s.pod.test.unit (s.pod.test.unit + 256 * r) (updPod (fun p => { p with test := { p.test with busy := false, result := r } }) s)
  else s

/-- XPR_TEST_DONE (R412). -/
def execXprTestDone (pass : Bool) (s : State) : Res := coreCmd (doXprTestDone pass) s

/-! ### Roles (R408, R410, R411, R413) -/

def setRole (l r : Nat) (s : State) : State := updPodLane l (fun n => { n with role := r }) s

/-- A lane leaves its role (R408): the reserve takes a vacant duty slot. -/
def leaveRole (l : Nat) (s : State) : State :=
  let r := (s.podLane l).role
  let s := count (Cnt.XPR_RETIRE l) (updPodLane l (fun n => { n with retired := true, retiring := none, role := 3, strikes := [],
                                                                     retiredAt := s.now }) s)
  if r < 2 then (match s.roleLane 2 with | some c => setRole c r s | none => s) else s

/-- A lane without a role takes a vacant duty slot, else the reserve role (R410). -/
def takeVacant (l : Nat) (s : State) : State :=
  setRole l (if s.roleLane 0 = none then 0 else if s.roleLane 1 = none then 1 else 2) s

/-- A retired lane returns (R410): A and B take back their slots from C, which becomes the reserve, or fills the other slot
when it is vacant. -/
def returnLane (l : Nat) (s : State) : State :=
  let s := updPodLane l (fun n => { n with retired := false, role := 3 }) s
  match s.roleLane l with
  | none => if l < 2 then setRole l l s else takeVacant l s
  | some o => if l < 2 ∧ o = 2 then takeVacant 2 (setRole l l (setRole 2 3 s)) else takeVacant l s

/-- ST at which the hold-off of a retired lane ends (R410). -/
def State.returnAt (s : State) (l : Nat) : Nat := max (s.podLane l).retiredAt (s.podLane l).lastFail + 100000000

/-- The conditions of a return (R410) but for the hold-off. -/
def State.mayReturn (s : State) (l : Nat) : Bool :=
  decide (l < 3) && (s.podLane l).retired && decide (1024 ≤ (s.podLane l).clean) && !s.pod.forceOut.getLsbD l

/-- An inter-frame gap at which roles change (R408, R410, R411): retirements first, then returns, under one new GEN. -/
def podGap (s : State) : State :=
  let out := (List.range 3).filter (fun l => !(s.podLane l).retired && (s.podLane l).retiring.isSome)
  let causes := out.map (fun l => (l, (s.podLane l).retiring.getD 0))
  let before := s.inService.length
  let s := out.foldl (fun s l => leaveRole l s) s
  let back := (List.range 3).filter (fun l => s.mayReturn l && decide (s.returnAt l ≤ s.now))
  if out.isEmpty && back.isEmpty then s else
    let s := back.foldl (fun s l => returnLane l s) s
    let s := updPod (fun p => { p with gen := (p.gen + 1) % 256 }) s
    let g := s.pod.gen
    let s := s.inService.foldl (fun s l => updPodLane l (fun n => { n with gen := g, slot := n.role }) s) s
    let s := causes.foldl (fun s c => raise 0xF 1 c.1 (c.1 + 256 * c.2 + 65536 * g) s) s
    let s := back.foldl (fun s l => raise 0xF 2 l (l + 16 * (s.podLane l).role + 65536 * g) s) s
    let n := s.inService.length
    if 2 ≤ before ∧ n < 2 then raise 0xF 3 noUnit ((s.inService.map (fun l => 2 ^ l)).sum) s
    else if before < 2 ∧ 2 ≤ n then raise 0xF 4 noUnit (65536 * g) s
    else s

/-- A lane retires at the next inter-frame gap (R407, R408). -/
def doPodLaneRetired (l : Nat) (s : State) : State :=
  if l < 3 ∧ (s.podLane l).retired = false ∧ (s.podLane l).retiring.isSome = true ∧ s.moves = true then podGap s else s

/-- POD_LANE_RETIRED (R408). -/
def execPodLaneRetired (lane : Nat) (s : State) : Res := coreCmd (doPodLaneRetired lane) s

/-- A retired lane returns at the first gap at which the conditions hold (R410). -/
def doLaneReturned (l : Nat) (s : State) : State :=
  if s.mayReturn l && s.moves then podGap (runTo (s.returnAt l) s) else s

/-- LANE_RETURNED (R410). -/
def execLaneReturned (lane : Nat) (s : State) : Res := coreCmd (doLaneReturned lane) s

/-- One lane of a write to FORCE_OUT (R413). -/
def forceLane (v l : Nat) (s : State) : State :=
  let on := bit v l
  let was := s.pod.forceOut.getLsbD l
  let n := s.podLane l
  let keep := (s.inService.filter (fun k => k != l && (s.podLane k).retiring.isNone)).length
  if on && !was then
    if n.retired || n.retiring.isSome then updPod (fun p => { p with forceOut := p.forceOut ||| (1#3 <<< l) }) s
    else if keep < 2 then updPod (fun p => { p with forceRefused := true }) s
    else updPodLane l (fun n => { n with retiring := some 1 }) (updPod (fun p => { p with forceOut := p.forceOut ||| (1#3 <<< l) }) s)
  else if !on && was then
    updPodLane l (fun n => { n with retiredAt := s.now, retiring := if n.retiring = some 1 then none else n.retiring })
      (updPod (fun p => { p with forceOut := p.forceOut &&& ~~~(1#3 <<< l) }) s)
  else s

/-- A write to XPR_CTL (R413, R419): FORCE_REFUSED is cleared by a one. -/
def doForceOut (value : Word32) (s : State) : State :=
  let s := if bit value.toNat 8 then updPod (fun p => { p with forceRefused := false }) s else s
  forceLane value.toNat 2 (forceLane value.toNat 1 (forceLane value.toNat 0 s))

/-- FORCE_OUT (R413). -/
def execForceOut (value : Word32) (s : State) : Res := hostCmd 15 (doForceOut value) s

/-- Load starts the Pod (R417): both tables are zero in all copies and the roles are in the preferred arrangement. The
admission buckets start full. -/
def podStart (s : State) : State :=
  let lane := fun (r : Nat) => ({ role := r, slot := r } : PodLane)
  { s with pod := { live := !s.podOff, fcredit := 640, bcredit := 65536, credAt := s.now,
                    lanes := ((({} : SMap PodLane).set 0 (lane 0)).set 1 (lane 1)).set 2 (lane 2) } }

/-- GEN starts at 1 at Service entry (R411). -/
def podService (s : State) : State :=
  (List.range 3).foldl (fun s l => updPodLane l (fun n => { n with gen := 1 }) s) (updPod (fun p => { p with gen := 1 }) s)

end Sys2Proof.Machine
end

