-- ==== Sys2Proof/Machine/Sha.lean ====
section
/-! DEFINITION. SHA-256, which the spec names for the digest of the owner root key, of the image and of the fuses (R77, R456, R466).
PRESUMED: the algorithm is that of FIPS 180-4, outside the spec's own text (assumption 2). Words are natural numbers below 2^32. -/
namespace Sys2Proof

/-! ### Constants -/

/-- The k-th root of n, rounded down: r with its bits below the given one still to be found. -/
def rootBelow (k n : Nat) : Nat → Nat → Nat
  | 0, r => r
  | b + 1, r => rootBelow k n b (if (r + 2 ^ b) ^ k ≤ n then r + 2 ^ b else r)

/-- The first 32 bits of the fractional part of the k-th root of p. -/
def rootWord (k p : Nat) : Nat := rootBelow k (p * 2 ^ (32 * k)) 37 0 % 2 ^ 32

/-- The first 64 primes: the numbers below 312 that no smaller number of 2 to 17 divides. -/
def shaPrimes : List Nat :=
  (List.range 312).filter (fun p => decide (2 ≤ p) && (List.range' 2 16).all (fun d => decide (p ≤ d) || p % d != 0))

/-! ### Compression -/

/-- A word rotated right. -/
def rotWord (x n : Nat) : Nat := x / 2 ^ n + x % 2 ^ n * 2 ^ (32 - n)

/-- The exclusive OR of a word's rotations by two amounts with a third word. -/
def mixWord (x m n y : Nat) : Nat := rotWord x m ^^^ rotWord x n ^^^ y

/-- One step with a constant: the eight working words, and the next 16 words of the block, of which the first is used up and a new one
joins at the end. -/
def shaStep (x : List Nat × List Nat) (k : Nat) : List Nat × List Nat :=
  match x.1 with
  | [a, b, c, d, e, f, g, h] =>
    let w := fun n => x.2.getD n 0
    let t := h + mixWord e 6 11 (rotWord e 25) + ((f ^^^ g) &&& e ^^^ g) + k + w 0
    let u := mixWord a 2 13 (rotWord a 22) + ((a ||| b) &&& c ||| a &&& b)
    ([(t + u) % 2 ^ 32, a, b, c, (d + t) % 2 ^ 32, e, f, g],
     x.2.tail ++ [(w 0 + mixWord (w 1) 7 18 (w 1 / 8) + w 9 + mixWord (w 14) 17 19 (w 14 / 1024)) % 2 ^ 32])
  | _ => x

/-- The hash after n blocks of 64 bytes. -/
def shaFold (ks : List Nat) : Nat → List Byte → List Nat → List Nat
  | 0, _, hs => hs
  | n + 1, bs, hs =>
    let ws := (List.range 16).map (fun k => beVal (slice bs (4 * k) 4))
    shaFold ks n (bs.drop 64) (List.zipWith (fun x y => (x + y) % 2 ^ 32) hs (ks.foldl shaStep (hs, ws)).1)

/-- SHA-256 of a byte string, its first byte in bits 7:0. -/
def sha256 (bs : List Byte) : BitVec 256 :=
  let n := (bs.length + 72) / 64
  let hs := shaFold (shaPrimes.map (rootWord 3)) n (padTo (64 * n - 8) (bs ++ [0x80]) ++ beBytes 8 (8 * bs.length))
    ((shaPrimes.take 8).map (rootWord 2))
  bvOfBytes 256 (hs.map (beBytes 4)).flatten

end Sys2Proof
end

