-- ==== Sys2Proof/Machine/Security.lean ====
section
/-! DEFINITION. Fuses, zeroisation, the thermal trip, identity and attestation, and the debug port (R456 to R476). -/
namespace Sys2Proof.Machine

/-! ### Fuses -/

/-- The count of a thermometer field: one more than its highest burned bit (R457). -/
def thermo (n v : Nat) : Nat := ((List.range n).filter (fun i => bit v i)).foldl (fun _ i => i + 1) 0

/-- The ROLLBACK count (R460). -/
def State.fusedVersion (s : State) : Nat := thermo 64 s.otp.rollback.toNat
/-- The BOOT_COUNT count (R462). -/
def State.bootsUsed (s : State) : Nat := thermo 1024 s.otp.bootCount.toNat

/-- OTP offsets 0x000 to 0x0BF (R456). -/
def otpBytes (o : Otp) : List Byte :=
  bvBytes 32 o.rootHash ++
    [BitVec.ofNat 8 (b2n o.rootLock + 2 * b2n o.jtagDisable + 4 * b2n o.kill)] ++ List.replicate 7 0 ++
    bvBytes 8 o.serial ++ bvBytes 8 o.rollback ++ List.replicate 8 0 ++ bvBytes 128 o.bootCount

/-- A Load has passed and the mode is one in which JTAG may be open (R474). -/
def State.jtagOpen (s : State) : Bool :=
  !s.otp.jtagDisable && bit s.load.flags 2 && s.load.applied &&
    (s.md.mode == .service || s.md.mode == .headless || s.md.mode == .drain || s.md.mode == .maintenance) &&
    !s.md.loadFailed

/-- SEC_OTP_CMD.RESULT takes a code (R476). -/
def otpResult (r : Nat) (s : State) : State := setReg Reg.SEC_OTP_CMD (r * 2 ^ 24) s

/-- SEC_ROOT_STAGE0 to 7 as one field, byte 0 in bits 7:0 (R459). -/
def State.rootStage (s : State) : BitVec 256 :=
  BitVec.ofNat 256 (((List.range 8).map (fun n => s.reg (Reg.SEC_ROOT_STAGE n) <<< (32 * n))).sum)

/-- PROG_ROOT (R459): `read` is the field as it reads back after the burn. -/
def doProgRoot (confirm : Nat) (read : BitVec 256) (s : State) : State :=
  if s.md.mode ≠ .maintenance ∨ s.otp.rootLock = true ∨ confirm ≠ 0xA5 then otpResult 4 s else
    let now := s.otp.rootHash ||| read
    let st := s.rootStage
    let s := { s with otp := { s.otp with rootHash := now } }
    if now = st then
      raise 1 8 noUnit 0 (otpResult 1 { s with otp := { s.otp with rootLock := true } })
    else if now &&& ~~~st = 0 then otpResult 2 s
    else otpResult 3 { s with otp := { s.otp with rootLock := true } }

/-- PROG_ROOT (R459). -/
def execProgRoot (confirm : Nat) (read : BitVec 256) (s : State) : Res := hostCmd 1 (doProgRoot confirm read) s

/-- The CTRL fuses that SEC_OTP_CMD burns (R459). -/
inductive CtrlFuse where
  | jtagDisable | kill
deriving DecidableEq, Repr

/-- Whether a fuse is burned. -/
def CtrlFuse.burned (f : CtrlFuse) (o : Otp) : Bool := match f with | .jtagDisable => o.jtagDisable | .kill => o.kill

/-- The fuse burned. -/
def CtrlFuse.burn (f : CtrlFuse) (o : Otp) : Otp :=
  match f with | .jtagDisable => { o with jtagDisable := true } | .kill => { o with kill := true }

/-- A CTRL fuse is burned and read back (R459); one that was burned before reads burned whatever the new burn does (R456). One that
reads unburned raises FUSE_FAIL (R475; DEDUCED). -/
def doBurnCtrl (confirm : Nat) (burned : Bool) (f : CtrlFuse) (s : State) : State :=
  if s.md.mode ≠ .maintenance ∨ confirm ≠ 0xA5 then otpResult 4 s
  else if burned || f.burned s.otp then otpResult 1 { s with otp := f.burn s.otp }
  else raise 1 7 noUnit 3 (otpResult 2 s)

/-- JTAG_DISABLE (R459). -/
def execJtagDisable (confirm : Nat) (burned : Bool) (s : State) : Res := hostCmd 1 (doBurnCtrl confirm burned .jtagDisable) s

/-- KILL (R459). -/
def execKillFuse (confirm : Nat) (burned : Bool) (s : State) : Res := hostCmd 1 (doBurnCtrl confirm burned .kill) s

/-! ### Zeroisation and thermal trip -/

/-- Zeroisation (R471): everything it names is zero, and then holds TRNG output once the TRNG passes its health tests, at once or when
source 11 ends. -/
def doZeroised (trngOk : Bool) (s : State) : State :=
  match s.sec.zeroStart with
  | none => s
  | some t =>
    let s := { s with sec := { s.sec with zeroStart := none, ident := .none, leaf := none, topRoot := false, idKey := [], queue := [],
                                          refill := true } }
    let s := if trngOk then trngRefill s else overwrite (fun _ => 0) s
    raise 1 5 noUnit (sat32 (s.now - t)) s

/-- ZEROISED (R471). It completes behind a thermal trip's clock gate too (R472). -/
def execZeroised (trngOk : Bool) (s : State) : Res :=
  islandCmd (fun s => if s.coreHeld then s else doZeroised trngOk s) s

/-- THERMAL_TRIP (R472): all that Guard does, then the clocks are gated and THERM_TRIP_N driven low. With the blocks outside the island
in reset, the island notes the source and drives the pin. -/
def doThermalTrip (s : State) : State :=
  if s.pins.thermTrip || s.isl.aonDown then s
  else if s.coreHeld then
    let s := raiseAlarm 16 1 { s with isl := { s.isl with latch := s.isl.latch ||| ((1 : BitVec 17) <<< 16) } }
    { s with pins := { s.pins with thermTrip := true } }
  else
    let s := answerAlarm 16 1 s
    { s with sec := { s.sec with gated := true }, pins := { s.pins with thermTrip := true } }

/-- THERMAL_TRIP (R472). -/
def execThermalTrip (s : State) : Res := islandCmd doThermalTrip s

/-- A JTAG instruction (R474): IDCODE and BYPASS always act; any other is refused and counted while the port is
locked, which is alarm source 9; while it is open the spec gives it no effect. -/
def execJtagInstruction (i : JtagInstr) (s : State) : Res :=
  match i with
  | .idcode => islandCmd (fun s => emit (.jtag 0) (doSourceInactive 9 s)) s
  | .bypass => islandCmd (fun s => emit (.jtag 1) (doSourceInactive 9 s)) s
  | .other =>
    if s.live && s.jtagOpen then .refused .jtagOpenInstruction
    else islandCmd (fun s => doAlarm 9 (if s.coreHeld then s else count Cnt.SEC_JTAG_ATTEMPT s)) s

/-- The length of an image's signed message: its SIG_OFFSET (R67, R76). -/
def signedLen (b : Blob) : Nat := leVal ((List.range 4).map (fun k => b.cells.get (8 + k)))

/-! ### Identity and attestation -/

/-- DEVICE_SECRET can be read by the key derivation (R458): no Guard response since the cold reset, and KILL not burned. -/
def State.secretOpen (s : State) : Bool := !s.sec.secretClosed && !s.otp.kill

/-- The top root, and with a leaf the working state: the bottom seed from the TRNG, the bottom tree, and its public key signed with the
leaf (R463). -/
def buildIdentity (s : State) : State :=
  let s := { s with sec := { s.sec with topRoot := true, idKey := padTo 48 (Config.identity s.otp.secret) } }
  match s.sec.ident, s.sec.leaf with
  | .building, some q =>
    let seed := Config.trng s.free
    raise 1 9 noUnit (q % 1024)
      { s with free := s.free + 1,
               sec := { s.sec with ident := .ready, seed := seed, tree := Config.bottomTree seed,
                                   topSig := Config.topSignature s.otp.secret q (Config.bottomTree seed) } }
  | _, _ => s

/-- The attestation working state has been built (R463). Without a leaf only the top root is computed; without DEVICE_SECRET
nothing is (R458). -/
def doIdentityReady (s : State) : State :=
  if s.md.mode = .load ∨ s.md.mode = .lockdown ∨ s.md.loadFailed = true ∨ s.load.applied = false ∨ s.secretOpen = false then s
  else buildIdentity s

/-- IDENTITY_READY (R463). -/
def execIdentityReady (s : State) : Res := coreCmd doIdentityReady s

/-- Whether a request has the fixed fields of R465. -/
def attestReqOk (d : Dat) : Bool :=
  datU d 0 1 == 1 && (datU d 1 1 == 1 || datU d 1 1 == 2) && datU d 2 6 == 0 && datU d 40 88 == 0

/-- The status of a request by the first rule of R467 that applies. -/
def attestStatus (s : State) (d : Dat) : Nat :=
  if !attestReqOk d then 6
  else if s.otp.kill then 5
  else if datU d 1 1 = 2 then (if s.sec.topRoot then 0 else 1)
  else match s.sec.leaf with
    | none => if s.sec.ident = .exhausted then 3 else 4
    | some _ =>
      if s.sec.ident = .building ∨ s.sec.ident = .none then 1
      else if 32768 ≤ s.sec.sigs then 2 else 0

/-- The identity public key (R461): L, the LMS and LM-OTS types, and I with the top-tree root. Before the root has been computed the
spec does not say what stands there: I and root are then an open value (R467). -/
def State.identityKey (s : State) : List Byte :=
  beBytes 4 2 ++ beBytes 4 6 ++ beBytes 4 3 ++ (if s.sec.topRoot then s.sec.idKey else padTo 48 (Config.noIdentity s.free))

/-- A signature (R461, R466) with top leaf q and bottom leaf n: Nspk; the top LMS signature and the bottom public key, as the working
state holds them; the bottom LMS signature, made from the bottom seed. -/
def hssSignature (q n : Nat) (top made : List Byte) : List Byte :=
  let f := top
  let g := padTo 2656 made
  beBytes 4 1 ++ beBytes 4 q ++ beBytes 4 3 ++ slice f 0 2176 ++ beBytes 4 6 ++ slice f 2176 320 ++
    beBytes 4 7 ++ beBytes 4 3 ++ slice f 2496 48 ++
    beBytes 4 n ++ beBytes 4 3 ++ slice g 0 2176 ++ beBytes 4 7 ++ slice g 2176 480

/-- The 256-byte body (R466); `signed` is the bottom leaf of a signed quote. -/
def attestBody (s : State) (d : Dat) (status : Nat) (leaf : Option Nat) : List Byte :=
  let sigLen := if leaf.isSome then 5236 else 0
  let nt := s.nt
  let image := (List.range (signedLen s.load.image)).map (fun k => s.load.image.cells.get k)
  leBytes 1 1 ++ leBytes 1 status ++ leBytes 2 sigLen ++ leBytes 4 (256 + sigLen) ++
    bvBytes 8 s.otp.serial ++ slice (bvBytes 128 d) 8 32 ++
    bvBytes 32 (sha256 image) ++ leBytes 8 s.load.buildId ++ leBytes 2 s.load.devId ++
    leBytes 1 s.load.secVersion ++ leBytes 1 s.fusedVersion ++ leBytes 2 (s.sec.leaf.getD 0xFFFF) ++
    leBytes 2 (b2n s.jtagOpen + 2 * b2n (bit s.load.flags 1) + 4 * b2n s.otp.kill) ++
    leBytes 4 (leaf.getD 0xFFFFFFFF) ++ leBytes 1 s.md.mode.code ++ leBytes 3 0 ++ leBytes 8 s.now ++
    leBytes 6 (nt / 1000000000) ++ leBytes 2 s.tbe.state.code ++ leBytes 4 (nt % 1000000000) ++
    leBytes 4 s.isl.latch.toNat ++ bvBytes 32 (sha256 (otpBytes s.otp)) ++
    s.identityKey ++ List.replicate 36 0

/-- The request at the head of the queue is served (R464, R466, R467). -/
def serveAttest (s : State) : State :=
  match s.sec.queue with
  | [] => s
  | p :: rest =>
    let a := s.sec.attest.get p
    let st := attestStatus s a.req
    let leaf := if st = 0 ∧ datU a.req 1 1 = 1 then some s.sec.sigs else none
    let body := attestBody s a.req st leaf
    let resp := match leaf with
      | some n => body ++ hssSignature (s.sec.leaf.getD 0) n (leBytes 2544 s.sec.topSig) (Config.signature s.sec.seed n body)
      | none => body
    let s := { s with free := s.free + (if s.sec.topRoot then 0 else 1),
                      sec := { s.sec with queue := rest,
                                          attest := s.sec.attest.set p { pending := false, req := a.req, resp := resp },
                                          sigs := s.sec.sigs + (if leaf.isSome then 1 else 0) } }
    let s := if leaf.isSome then count Cnt.SEC_QUOTES s else s
    let s := if st ≠ 0 then count Cnt.SEC_QUOTE_UNSIGNED s else s
    let s := if 32768 ≤ s.sec.sigs ∧ s.sec.ident = .ready then { s with sec := { s.sec with ident := .exhausted } } else s
    if st = 2 ∧ s.sec.exhaustedRaised = false then
      raise 1 10 noUnit 0 { s with sec := { s.sec with exhaustedRaised := true } }
    else s

/-- A request of TYPE `ty` (or none of the two, for a QUOTE) at the head of the queue is served (R467). -/
def doServe (identity : Bool) (s : State) : State :=
  match s.sec.queue with
  | [] => s
  | p :: _ =>
    if s.md.mode = .load ∨ s.md.mode = .lockdown then s
    else if (datU (s.sec.attest.get p).req 1 1 == 2) == identity then serveAttest s else s

/-- QUOTE (R467). -/
def execQuote (s : State) : Res := coreCmd (doServe false) s

/-- IDENTITY (R467). -/
def execIdentity (s : State) : Res := coreCmd (doServe true) s

end Sys2Proof.Machine
end

