-- ==== Sys2Proof/Machine/Tables.lean ====
section
/-! DEFINITION. The host tables whose entries are addressed by index alone (R483, R485): what each holds, the operations it lists,
the bits a write reaches and the checks of its chapter. -/
namespace Sys2Proof

/-- The result codes of R484. -/
inductive RCode where
  | ok | refused | badValue | notFound | exists_ | tableFull | pinLimit | empty | range | align | notAllocated | notOwner
  | badTable | badOp
deriving DecidableEq, Repr, Inhabited

def RCode.num : RCode → Nat
  | .ok => 0 | .refused => 1 | .badValue => 2 | .notFound => 3 | .exists_ => 4 | .tableFull => 5 | .pinLimit => 6
  | .empty => 7 | .range => 8 | .align => 9 | .notAllocated => 10 | .notOwner => 11 | .badTable => 12 | .badOp => 13

/-- An operation as it reaches a table: ports 0 to 7 are the host's, 8 the side-band master's, 9 the loader's (R481). -/
structure TOp where
  port : Nat := 0
  op : EcpOp := .read
  tbl : Nat := 0
  idx : Nat := 0
  dat : Dat := 0
  /-- The window that wrote START (R480). -/
  win : Window := .bar0
  side : TableSide := {}
deriving DecidableEq, Repr, Inhabited

/-- The attributes of a table event of the operation (R510). -/
def TOp.attr (q : TOp) : Machine.Attr :=
  { master := if q.port < 9 then some (q.port / 8) else none, win := if q.port < 8 then some q.win else none, tbl := some q.tbl,
    idx := some q.idx }

/-- How a table answers: the operation has committed or ended; its commit waits (R235, R402); or its result follows by itself
(R161). -/
inductive TAns where
  | done (r : EcpRes)
  | wait
  | later
deriving DecidableEq, Repr, Inhabited

/-- The operation ends with a code, its IDX and DAT as they were given; CNT is 1 where it concerned its entry. -/
def TOp.ends (q : TOp) (c : RCode) : TAns := .done { result := c.num, idx := q.idx, cnt := b2n (c == .ok), dat := q.dat }

/-- The operation succeeds and returns an entry. -/
def TOp.gives (_ : TOp) (idx : Nat) (d : Dat) : TAns := .done { result := 0, idx := idx, cnt := 1, dat := d }

/-- The tables of the spec. -/
inductive Tbl where
  | direct (t : Nat) | route (v6 : Bool) | l2 | nextHop | bridge
  | clove (part : Nat) | profile | noState | svcParam | natAddr | natBlock | lbGroup | lbMember | lbSlot | zonePolicy | exporter
  | asa320 | asa640Lo | asa640 | setShadow | setActive | setDraining | meters
  | tmQueue | tmSub | tmService | tmPort | tmShape | tmDrop | tmStats | tmState
  | xpEntry | xpRewrite | xpLaneEntry | xpLaneRewrite
  | selector | bufHdr | poolTest | peerState | faultCount | attest | cntBind | progStore | progCnt
deriving DecidableEq, Repr, Inhabited

/-- The table of an ID; an ID without one is unassigned (R483). -/
def tblOf (t : Nat) : Option Tbl :=
  if 1 ≤ t ∧ t ≤ 8 then some (.direct t)
  else if 0x20 ≤ t ∧ t ≤ 0x23 then some (.clove (t - 0x20))
  else ([(0x10, Tbl.route false), (0x11, .route true), (0x12, .l2), (0x13, .nextHop), (0x14, .bridge), (0x24, .profile),
    (0x25, .noState), (0x26, .svcParam), (0x27, .natAddr), (0x28, .natBlock), (0x29, .lbGroup), (0x2A, .lbMember),
    (0x2B, .zonePolicy), (0x2C, .exporter), (0x2D, .lbSlot), (0x30, .asa320), (0x31, .asa640Lo), (0x32, .asa640),
    (0x38, .setShadow), (0x39, .setActive), (0x3A, .setDraining), (0x40, .tmQueue), (0x41, .tmSub), (0x42, .tmService),
    (0x43, .tmPort), (0x44, .tmShape), (0x45, .tmDrop), (0x46, .tmStats), (0x47, .tmState), (0x4F, .meters), (0x50, .xpEntry),
    (0x51, .xpRewrite), (0x52, .xpLaneEntry), (0x53, .xpLaneRewrite), (0x57, .selector), (0x58, .bufHdr), (0x59, .poolTest),
    (0x5A, .peerState), (0x5B, .faultCount), (0x5C, .attest), (0x5D, .cntBind), (0x5E, .progStore),
    (0x5F, .progCnt)].find? (fun p => p.1 == t)).map Prod.snd

/-- Bits of an entry from its fields, each a byte offset, a bit in that byte and a width in bits. -/
def fieldBits (fs : List (Nat × Nat × Nat)) : Nat := (fs.map (fun f => (2 ^ f.2.2 - 1) <<< (8 * f.1 + f.2.1))).sum

/-- The selected bits of an entry taken from another (R483). -/
def mergeBits (mask : Nat) (old new : Dat) : Dat :=
  let m : Dat := BitVec.ofNat 1024 mask
  (old &&& ~~~m) ||| (new &&& m)

/-- The bits that a MODIFY selects in entry bytes 0 to 63, and their values (R483). -/
def modMask (d : Dat) : Nat := d.toNat % 2 ^ 512
def modVal (d : Dat) : Dat := d >>> 512

/-- The operations that an indexed table lists. -/
def Tbl.ops : Tbl → List EcpOp
  | .direct _ => [.read, .write, .modify, .readClear]
  | .nextHop | .bridge | .profile | .noState | .svcParam | .zonePolicy | .exporter | .setShadow | .meters | .tmQueue | .tmSub
  | .tmService | .tmPort | .xpEntry => [.read, .write, .modify]
  | .natAddr => [.read, .modify]
  | .lbGroup | .lbMember | .tmShape | .tmDrop | .xpRewrite | .selector | .attest | .cntBind | .progStore => [.read, .write]
  | .tmStats | .faultCount => [.read, .readClear]
  | .progCnt => [.read, .write, .readClear]
  | .natBlock | .lbSlot | .setActive | .setDraining | .tmState | .xpLaneEntry | .xpLaneRewrite | .bufHdr | .peerState => [.read]
  | .route _ | .l2 | .clove _ | .asa320 | .asa640Lo | .asa640 | .poolTest => []

/-- The bits of an entry that a write reaches: those that are neither reserved nor read-only. -/
def Tbl.bits : Tbl → Nat
  | .direct _ => fieldBits [(0, 0, 18), (3, 6, 2), (4, 0, 32), (8, 0, 1)]
  | .nextHop => fieldBits [(0, 0, 8), (1, 0, 1), (2, 0, 9), (4, 0, 5), (5, 0, 3), (6, 0, 14), (8, 0, 16), (12, 0, 20)]
  | .bridge => fieldBits [(0, 0, 3), (4, 0, 18), (7, 6, 2), (8, 0, 18), (11, 6, 2)]
  | .profile => fieldBits [(0, 0, 6), (1, 0, 8), (2, 0, 12), (4, 0, 32), (8, 0, 8), (10, 0, 104)]
  | .noState => fieldBits [(0, 0, 8), (1, 0, 4), (2, 0, 12)]
  | .svcParam => fieldBits [(0, 0, 8), (1, 0, 6), (2, 0, 3), (3, 0, 88), (14, 0, 8), (16, 0, 72), (25, 0, 4), (32, 0, 96)]
  | .natAddr => fieldBits [(2, 0, 1)]
  | .lbGroup => fieldBits [(0, 0, 2)]
  | .lbMember => fieldBits [(0, 0, 26)]
  | .zonePolicy => fieldBits [(0, 0, 4), (1, 0, 16), (3, 0, 4)]
  | .exporter => fieldBits [(0, 0, 2), (1, 0, 56), (8, 0, 3), (32, 0, 768)]
  | .setShadow => 2 ^ 1024 - 1
  | .meters => fieldBits [(0, 0, 4), (4, 0, 64), (16, 0, 96)]
  | .tmQueue => fieldBits [(0, 0, 16), (2, 0, 1)]
  | .tmSub => fieldBits [(0, 0, 1), (1, 0, 8), (2, 0, 12), (4, 0, 8), (8, 0, 48), (16, 0, 48), (24, 0, 64)]
  | .tmService => fieldBits [(0, 0, 1), (1, 0, 8), (2, 0, 5), (4, 0, 8), (8, 0, 48), (16, 0, 48), (24, 0, 64)]
  | .tmPort => fieldBits [(0, 0, 56), (7, 0, 1), (8, 0, 16), (12, 0, 32)]
  | .tmShape => fieldBits [(0, 0, 8)]
  | .tmDrop | .progCnt | .attest => fieldBits [(0, 0, 128)]
  | .xpEntry | .progStore => fieldBits [(0, 0, 32)]
  | .xpRewrite => fieldBits [(0, 0, 5), (1, 0, 116)]
  | .selector => fieldBits [(0, 0, 134), (17, 0, 6), (18, 0, 3), (19, 0, 3), (20, 0, 1)]
  | .cntBind => fieldBits [(0, 0, 5)]
  | _ => 0

/-- The table ID under which an entry of an indexed table is stored. -/
def Tbl.store : Tbl → Nat
  | .direct t => t
  | .nextHop => 0x13 | .bridge => 0x14 | .profile => 0x24 | .noState => 0x25 | .svcParam => 0x26 | .lbGroup => 0x29
  | .lbMember => 0x2A | .zonePolicy => 0x2B | .exporter => 0x2C | .meters => 0x4F | .tmQueue => 0x40 | .tmSub => 0x41
  | .tmService => 0x42 | .tmPort => 0x43 | .tmShape => 0x44 | .tmDrop => 0x45 | .tmStats => 0x46 | .selector => 0x57
  | .cntBind => 0x5D | .progStore => 0x5E | .progCnt => 0x5F
  | _ => 0

/-- The tables that take FLUSH_BY_MASK. -/
def Tbl.flushes : Tbl → Bool
  | .direct _ | .route _ | .l2 | .clove _ | .asa320 => true
  | _ => false

/-- The whole data that an operation asks an entry to hold, its reserved bits with it. -/
def rawEntry (op : EcpOp) (d old : Dat) : Dat :=
  match op with
  | .write => d
  | .modify => mergeBits (modMask d) old (modVal d)
  | _ => 0

/-- The content that an operation gives an entry. -/
def Tbl.newEntry (t : Tbl) (op : EcpOp) (d old : Dat) : Dat :=
  match op, t with
  | .write, .attest => d
  | .write, _ => mergeBits t.bits old d
  | .modify, _ => mergeBits (t.bits &&& modMask d) old (modVal d)
  | _, _ => 0

end Sys2Proof
namespace Sys2Proof.Machine

/-- Units of a fault class that table 0x5B reaches (R438, R454). -/
def fltUnits (cls : Nat) : Nat :=
  match cls with
  | 0 => 48 | 1 => 1 | 3 => 96 | 4 => 3 | 5 => 64 | 6 => 32 | _ => 0

/-- Whether an index names an entry of an indexed table. -/
def State.tblHas (s : State) (t : Tbl) (i : Nat) : Bool :=
  match t with
  | .direct k => decide (i < s.regF (Reg.FWD_DIRECT_CFG (k - 1)) 20 0)
  | .nextHop | .meters | .progCnt => decide (i < 262144)
  | .bridge | .zonePolicy | .tmService | .xpRewrite | .progStore => decide (i < 4096)
  | .profile | .svcParam | .tmShape => decide (i < 256)
  | .noState | .tmDrop => decide (i < 16)
  | .natAddr => decide (i < s.natBase 4)
  | .natBlock => decide (i / 2 ^ 22 < 4) && decide (i % 2 ^ 22 < s.natCount (i / 2 ^ 22) * s.bpa (i / 2 ^ 22))
  | .lbGroup => decide (i < 16384)
  | .lbMember => decide (i < 1048576)
  | .lbSlot => decide (i < 4194304)
  | .exporter => decide (i < 8)
  | .setShadow | .setActive | .setDraining | .tmSub | .xpEntry => decide (i < 65536)
  | .tmQueue | .tmStats => decide (i < 524288)
  | .tmPort => decide (i < 32)
  | .tmState => decide (i < 69664)
  | .xpLaneEntry | .xpLaneRewrite => decide (i / 65536 % 4 < 3)
  | .selector | .peerState => decide (i < 512)
  | .bufHdr => decide (i < s.poolFirst 4)
  | .faultCount => decide (i / 8192 < 8) && decide (i % 8192 < fltUnits (i / 8192))
  | .attest => decide (i ≤ 42)
  | .cntBind => isCounter (8 * i)
  | .route _ | .l2 | .clove _ | .asa320 | .asa640Lo | .asa640 | .poolTest => false

/-- Partition and position of an index of table 0x27 (R244). -/
def State.natAt (s : State) (i : Nat) : Nat × Nat :=
  let p := ((List.range 4).find? (fun p => decide (i < s.natBase (p + 1)))).getD 0
  (p, i - s.natBase p)

/-- The record of a NAT block (R245). -/
def NatBlockDat (k : NatBlock) : Dat :=
  bvOfBytes 1024 (leBytes 4 k.owner ++ leBytes 1 k.ownerGen ++ leBytes 1 (b2n k.allocated) ++ leBytes 2 k.used ++ leBytes 2 k.next ++
    leBytes 2 0 ++ leBytes 4 k.released)

/-- The state of a node as table 0x47 shows it (R383). -/
def nodeDat (x : NodeSt) : Dat :=
  bvOfBytes 1024 (leBytes 4 (wrap 32 x.tc) ++ leBytes 4 (wrap 32 x.tp) ++ leBytes 8 x.last ++ leBytes 1 (nodeBand x) ++
    leBytes 1 (b2n x.pendC + 2 * b2n x.pendP))

/-- A peer as table 0x5A shows it (R377). -/
def State.peerDat (s : State) (d : Nat) : Dat :=
  if s.isPeer d then
    let p := s.peer d
    bvOfBytes 1024 (leBytes 1 p.state.code ++ leBytes 1 p.pgen ++ leBytes 2 p.inc ++
      leBytes 1 (((List.range 6).map (fun g => b2n (s.groupReaches g d) * 2 ^ g)).sum) ++ leBytes 3 0 ++ leBytes 4 p.change)
  else 0xFF

/-- A chunk of a port's attestation response (R464). -/
def State.attestDat (s : State) (port k : Nat) : Dat :=
  let a := s.sec.attest.get port
  if a.pending then (if k = 0 then 0xFF00 else 0) else bvOfBytes 1024 (slice a.resp (128 * k) 128)

/-- The slot that table 0x38 shows a port: slot 0 to the loader (R142), the shadow to the others (R121). -/
def State.shadowOf (s : State) (port : Nat) : Nat := if port = 9 then 0 else s.shadowSlot

/-- An entry of an indexed table as READ returns it. -/
def State.tblView (s : State) (port : Nat) (t : Tbl) (i : Nat) : Dat :=
  match t with
  | .natAddr =>
    let a := s.natAt i
    BitVec.ofNat 1024 (s.addrFree a.1 a.2 + 2 ^ 16 * b2n !((s.svc.part.get a.1).disabled.get a.2))
  | .natBlock => NatBlockDat (s.natBlock (i / 2 ^ 22) (i % 2 ^ 22))
  | .lbSlot => match s.svc.slots.get i with | some m => BitVec.ofNat 1024 (m + 2 ^ 31) | none => 0
  | .setShadow => s.cls.img.get (65536 * s.shadowOf port + i)
  | .setActive => s.cls.img.get (65536 * s.cls.active + i)
  | .setDraining => s.cls.img.get (65536 * s.shadowSlot + i)
  | .tmQueue =>
    let q := s.buf.leaf.get i
    datPut (datPut (s.tblGet 0x40 i) 4 4 q.items.length) 8 4 (s.depthBytes q)
  | .tmSub => datPut (s.tblGet 0x41 i) 5 1 (s.node i).gen
  | .tmService => datPut (s.tblGet 0x42 i) 5 1 (s.node (svcNode i)).gen
  | .tmState => nodeDat (s.node i)
  | .xpEntry => (s.podValue false i).setWidth 1024
  | .xpRewrite => (s.podValue true i).setWidth 1024
  | .xpLaneEntry => (s.podWord false (i / 65536 % 4) (i % 65536)).setWidth 1024
  | .xpLaneRewrite => (s.podWord true (i / 65536 % 4) (i % 4096)).setWidth 1024
  | .bufHdr =>
    let h := s.buf.bufs.get i
    let k := s.poolOf i
    datPut (h.hdr.setWidth 1024) 64 1 (b2n h.alloc + 2 * b2n (h.out || s.bufWithdrawn k (i - s.poolFirst k)))
  | .peerState => s.peerDat i
  | .faultCount =>
    let f := s.flt.get i
    let n := s.pod.lanes.get (i % 8192)
    let x := if i / 8192 = 4 then (recentStrikes s.now n.strikes, n.retired) else (f.count, f.retired)
    BitVec.ofNat 1024 (x.1 + 2 ^ 16 * f.peak + 2 ^ 32 * (b2n x.2 + 2 * b2n f.refused))
  | .attest => s.attestDat port i
  | t => s.tblGet t.store i

/-! ### Checks of the writes -/

/-- Fields of table 0x24 within their ranges (R207). -/
def profileOk (d : Dat) : Bool :=
  datB d 0 0 1 == 0 || (decide (1 ≤ datU d 1 1) && decide (datU d 1 1 ≤ 4) && decide (datU d 4 2 ≤ 32767) && decide (datU d 8 1 < 3))

/-- Fields of table 0x26 within their ranges (R239). -/
def svcOk (d : Dat) : Bool :=
  decide (datU d 0 1 ≤ 4) && decide (datU d 3 1 ≤ 7) && decide (1 ≤ datU d 8 1) && decide (datU d 8 1 ≤ 4) &&
    decide (32 ≤ datU d 9 1) && decide (datU d 9 1 ≤ 128) && decide (1 ≤ datU d 10 2) && decide (datU d 10 2 ≤ 16384) &&
    decide (datU d 16 4 ≤ 10000000) && decide (1 ≤ datU d 20 4) && decide (datU d 20 4 ≤ 1000000) && decide (datU d 24 1 ≤ 1)

/-- A burst of the tree (R382, R383). -/
def burstOk (b : Nat) : Bool := decide (1024 ≤ b) && decide (b ≤ 16777215)

/-- Fields of a subscriber or service within their ranges (R382). -/
def tmNodeOk (d : Dat) : Bool :=
  decide (1 ≤ datU d 4 1) && rateOk (datU d 8 6) && rateOk (datU d 16 6) &&
    (datU d 16 6 == 0 || decide (datU d 8 6 ≤ datU d 16 6)) && burstOk (datU d 24 4) && burstOk (datU d 28 4)

/-- Some leaf queue whose subscriber meets a test holds a packet (R383). -/
def State.leafHeld (s : State) (p : Nat → Bool) : Bool := s.buf.leaf.cells.any (fun c => p (c.1 / 8) && !c.2.items.isEmpty)

/-- A write of a subscriber joins nodes of two octets (R379): a VALID subscriber of one octet would come under a service of another. A
node belongs to the octet of the port that its VALID parents lead to (DEDUCED). -/
def State.subJoins (s : State) (old new : Dat) : Bool :=
  let a := s.tmService (subParent old)
  let b := s.tmService (subParent new)
  tmValid old && tmValid new && tmValid a && tmValid b && decide (svcParent a / 8 ≠ svcParent b / 8)

/-- A write of a service joins nodes of two octets (R379): a VALID service with VALID subscribers would come under a port of another
octet (DEDUCED). -/
def State.svcJoins (s : State) (v : Nat) (old new : Dat) : Bool :=
  tmValid old && tmValid new && decide (svcParent old / 8 ≠ svcParent new / 8) &&
    s.tbl.cells.any (fun c => c.1 / 2 ^ 32 == 0x41 && tmValid c.2 && subParent c.2 == v)

/-- The bits of the scheduler's entries that R382 and R383 give as zero within FLAGS and PARENT are zero. -/
def tmZeroOk (t : Tbl) (raw : Dat) : Bool :=
  match t with
  | .tmQueue => decide (datU raw 2 1 < 2)
  | .tmSub => decide (datU raw 0 1 < 2) && decide (datU raw 2 2 < 4096)
  | .tmService => decide (datU raw 0 1 < 2) && decide (datU raw 2 2 < 32)
  | .tmPort => decide (datU raw 7 1 < 2)
  | _ => true

/-- The code with which an indexed table meets a new entry (R182 to R383); `.ok` admits it. -/
def State.tblCheck (s : State) (port : Nat) (t : Tbl) (i : Nat) (old new : Dat) : RCode :=
  match t with
  | .nextHop =>
    if i < 16384 ∧ (datU new 0 1 ≠ datU old 0 1 ∨ datU new 2 2 ≠ datU old 2 2 ∨ datU new 4 1 ≠ datU old 4 1) then .badValue else .ok
  | .profile => if profileOk new then .ok else .badValue
  | .noState => if datU new 0 1 ≤ 3 then .ok else .badValue
  | .svcParam => if svcOk new then .ok else .badValue
  | .lbMember => if datU (s.nextHop (bits new.toNat 17 0)) 0 1 = 1 then .ok else .badValue
  | .setShadow => if port ≠ 9 ∧ s.shadowBusy = true then .refused else .ok
  | .meters => if rateOk (datU new 16 6) && rateOk (datU new 22 6) then .ok else .badValue
  | .tmQueue => if i % 8 < 6 ∧ datU new 1 1 = 0 then .badValue else .ok
  | .tmSub =>
    if !tmNodeOk new then .badValue
    else if s.subJoins old new then .badValue
    else if (subParent new ≠ subParent old ∨ (tmValid old && !tmValid new) = true) ∧ s.leafHeld (fun k => k == i) = true then .refused
    else .ok
  | .tmService =>
    if !tmNodeOk new then .badValue
    else if s.svcJoins i old new then .badValue
    else if (svcParent new ≠ svcParent old ∨ (tmValid old && !tmValid new) = true) ∧
        s.leafHeld (fun k => s.subService k == i) = true then .refused
    else .ok
  | .tmPort =>
    if !s.portExists i then .badValue
    else if !(datU new 0 6 == 0 || (decide (64000 ≤ datU new 0 6) && decide (datU new 0 6 ≤ s.lineRate i))) || !burstOk (datU new 12 4) then .badValue
    else if (datB old 7 0 1 == 1 && datB new 7 0 1 == 0) = true ∧ s.leafHeld (fun k => s.subPort k == i) = true then .refused
    else .ok
  | .tmShape => if sext 8 (datU new 0 1) < -64 then .badValue else .ok
  | .tmDrop => if datU new 8 4 ≤ datU new 4 4 ∧ datU new 4 4 ≤ datU new 0 4 then .ok else .badValue
  | .xpEntry =>
    if bit new.toNat 12 ∨ (bits new.toNat 31 30 = 0 ∧ bits new.toNat 29 0 ≠ 0) then .badValue else .ok
  | .xpRewrite => if bits new.toNat 3 2 = 3 ∨ bits new.toNat 4 3 = 3 then .badValue else .ok
  | .attest => if i = 0 then .ok else .badValue
  | _ => .ok

/-! ### Effects of the writes -/

/-- A request of a port for attestation (R464). -/
def attestSubmit (port : Nat) (d : Dat) (s : State) : State :=
  { s with sec := { s.sec with attest := s.sec.attest.set port { pending := true, req := d, resp := [] },
                               queue := s.sec.queue.filter (fun p => p != port) ++ [port] } }

/-- An entry of an indexed table takes its new content, with what its chapter lets follow. -/
def tblPut (port : Nat) (t : Tbl) (i : Nat) (new : Dat) (s : State) : State :=
  let e := new &&& BitVec.ofNat 1024 t.bits
  match t with
  | .natAddr =>
    let a := s.natAt i
    updSvc a.1 (fun p => { p with disabled := p.disabled.set a.2 (datB new 2 0 1 == 0) }) s
  | .profile => tblSet 0x24 i e (keepProfile i s)
  | .lbMember => lbUpdate (i / 64) (tblSet 0x2A i e s)
  | .setShadow => updCls (fun c => { c with img := c.img.set (65536 * s.shadowOf port + i) new }) s
  | .meters =>
    let e := datPut (datPut (datPut e 32 4 (datU new 4 4)) 36 4 (datU new 8 4)) 40 8 s.now
    updCls (fun c => { c with frac := c.frac.set i (0, 0) }) (tblSet 0x4F i e s)
  | .tmSub => writeNode i (tblSet 0x41 i e) s
  | .tmService => writeNode (svcNode i) (tblSet 0x42 i e) s
  | .tmPort => writeNode (portNode i) (tblSet 0x43 i e) s
  | .xpEntry => podStore false i (new.setWidth 128) s
  | .xpRewrite => podStore true i (new.setWidth 128) s
  | .faultCount => { s with flt := s.flt.upd i (fun f => { f with peak := 0 }) }
  | .attest => attestSubmit port new s
  | t => tblSet t.store i e s

/-- The commit of a write of an express table waits for a vote, for the second lane of a frame that the first has looked up, and
behind the writes that wait (R402). -/
def State.tblWaits (s : State) (t : Tbl) : Bool :=
  (t == .xpEntry || t == .xpRewrite) && (s.commitHeld || !s.pod.writes.isEmpty)

/-- What READ and READ_CLEAR of an indexed table need besides the index (R121). -/
def State.tblReadable (s : State) (port : Nat) (t : Tbl) : Bool :=
  match t with
  | .setDraining => s.cls.draining
  | .setShadow => port == 9 || !s.shadowBusy
  | _ => true

/-- A write of a selector entry of a port that its octet's mode does not use is ignored and counted (R95): it answers OK and concerns no
entry (DESIGN CHOICE). -/
def selectorIgnored (q : TOp) (s : State) : TAns × State :=
  (.done { result := RCode.ok.num, idx := q.idx, cnt := 0, dat := q.dat },
   if q.port < 9 then ignoreWrite (if q.port = 8 then 1 else 0) none s else s)

/-- An operation on an indexed table (R483, R485). -/
def arrayOp (q : TOp) (t : Tbl) (s : State) : TAns × State :=
  if !t.ops.contains q.op then (q.ends .badOp, s)
  else if !s.tblHas t q.idx then (q.ends .badValue, s)
  else if !s.tblReadable q.port t then (q.ends .refused, s)
  else
    let old := s.tblView q.port t q.idx
    if q.op = .read then (q.gives q.idx old, s)
    else if t == .selector && !s.portExists (q.idx / 16) then selectorIgnored q s
    else if s.tblWaits t && q.port != 9 then (.wait, s)
    else
      let new := t.newEntry q.op q.dat old
      if q.op = .readClear then (q.gives q.idx old, tblPut q.port t q.idx new s)
      else
        match (if tmZeroOk t (rawEntry q.op q.dat old) then s.tblCheck q.port t q.idx old new else .badValue) with
        | .ok => (q.ends .ok, tblPut q.port t q.idx new s)
        | c => (q.ends c, s)

/-! ### The pool test (R344) -/

/-- INSERT into table 0x59: a buffer for client 8. -/
def poolTestAlloc (q : TOp) (s : State) : TAns × State :=
  let k := q.idx
  if 3 < k then (q.ends .badValue, s)
  else if s.poolFree k = 0 then (q.ends .empty, raiseLim 1 k 0xA 2 k k (count (Cnt.BPM_EMPTY k) s))
  else
    let t := match bpmGrant 8 k s with
      | some r => some r
      | none => bpmGrant 8 k (poolRefill k (count (Cnt.BPM_CACHE_WAIT k) s))
    match t with
    | some (i, s) => (q.gives k (BitVec.ofNat 1024 (s.poolBase k + i * poolSize k)), s)
    | none => (q.ends .empty, s)

/-- Operations on table 0x59 (R344): INSERT, and DELETE with the outcomes of R336. -/
def poolTestOp (q : TOp) (s : State) : TAns × State :=
  match q.op with
  | .insert => poolTestAlloc q s
  | .delete =>
    let r := bpmFree 8 (datU q.dat 0 8) s
    (q.ends (match r.1 with | 0 => .ok | 1 => .range | 2 => .align | 3 => .notAllocated | _ => .notOwner), r.2)
  | _ => (q.ends .badOp, s)

end Sys2Proof.Machine
end

