-- ==== Sys2Proof/Machine/Tables2.lean ====
section
/-! DEFINITION. The host tables that are reached by key or in an order of their own: routes (R186), stations (R198), cloves (R235)
and entries of the associative search array (R149, R150, R157), with the walks of FLUSH_BY_MASK (R486). -/
namespace Sys2Proof.Machine

/-! ### Routes (R186) -/

/-- The route record of DAT: VRF, prefix, length and result. -/
def routeOfDat (v6 : Bool) (d : Dat) : Route :=
  { vrf := datU d 0 2 % 4096, len := datU d 2 1, prefx := beVal (slice (bvBytes 20 d) 4 (lpmWidth v6 / 8)),
    result := (mergeBits (fieldBits [(0, 0, 18), (3, 6, 2)]) 0 (BitVec.ofNat 1024 (datU d 20 4))).toNat }

def routeDat (v6 : Bool) (r : Route) : Dat :=
  bvOfBytes 1024 (leBytes 2 r.vrf ++ leBytes 1 r.len ++ [0] ++ padTo 16 (beBytes (lpmWidth v6 / 8) r.prefx) ++ leBytes 4 r.result)

/-- A record whose length is in range and whose bits below it are zero. -/
def routeOk (v6 : Bool) (r : Route) : Bool :=
  decide (r.len ≤ lpmWidth v6) && r.prefx % 2 ^ (lpmWidth v6 - r.len) == 0

/-- The route found, or NOT_FOUND. -/
def routeAns (q : TOp) (v6 : Bool) (o : Option Route) : TAns :=
  match o with
  | some r => q.gives q.idx (routeDat v6 r)
  | none => q.ends .notFound

/-- Operations on the tables of routes, besides FLUSH_BY_MASK (R186). -/
def routeOp (v6 : Bool) (q : TOp) (s : State) : TAns × State :=
  let r := routeOfDat v6 q.dat
  match q.op with
  | .lookup => (routeAns q v6 (lpmLookup s v6 r.vrf r.prefx), s)
  | .insert =>
    if !routeOk v6 r then (q.ends .badValue, s)
    else match lpmInsert v6 r s with
      | some s => (q.ends .ok, s)
      | none => (q.ends .tableFull, s)
  | .delete =>
    if !routeOk v6 r then (q.ends .badValue, s)
    else if (lpmFind s v6 r.vrf r.prefx r.len).isNone then (q.ends .notFound, s)
    else (q.ends .ok, lpmRemove v6 (fun x => x.vrf == r.vrf && x.prefx == r.prefx && x.len == r.len) s)
  | .read => if !routeOk v6 r then (q.ends .badValue, s) else (routeAns q v6 (lpmFind s v6 r.vrf r.prefx r.len), s)
  | .step =>
    if 1 < q.idx ∨ routeOk v6 r = false then (q.ends .badValue, s)
    else (routeAns q v6 (lpmStep s v6 r (q.idx == 1)), s)
  | _ => (q.ends .badOp, s)

/-- A route's place in the enumeration order, as a number. -/
def routeRank (r : Route) : Nat := (r.vrf * 2 ^ 128 + r.prefx) * 256 + r.len

/-! ### Stations (R198) -/

def l2Dat (e : Ent16) : Dat := e.setWidth 1024

/-- The bits of an L2 entry that DAT gives: all but GEN and the reserved ones (R191). -/
def l2Bits : Nat := fieldBits [(0, 0, 60), (8, 0, 18), (12, 0, 16), (14, 0, 3)]

/-- The entry that DAT describes, with GEN clear. -/
def l2OfDat (d : Dat) : Ent16 := (mergeBits l2Bits 0 d).setWidth 128

/-- INSERT of a station (R198). -/
def l2Insert (q : TOp) (s : State) : TAns × State :=
  let e := datPutB (l2OfDat q.dat) 14 0 1 1
  let e := if l2Age e = 0 then datPut e 12 2 s.ageStamp else e
  match l2Find s (l2Bd e) (l2Mac e) with
  | some k => (q.gives k q.dat, l2Set k (datPut e 15 1 (l2Gen (s.fwd.l2.get k))) s)
  | none =>
    match l2Place (l2Bd e) (l2Mac e) s with
    | (none, s) => (q.ends .tableFull, s)
    | (some (k, _), s) => (q.gives k q.dat, l2Set k (datPut e 15 1 ((l2Gen (s.fwd.l2.get k) + 1) % 256)) s)

/-- WRITE of a slot (R198). -/
def l2Write (q : TOp) (s : State) : TAns × State :=
  let e := l2OfDat q.dat
  let old := s.fwd.l2.get q.idx
  if s.l2Bucket (l2Bd e) (l2Mac e) ≠ q.idx / 4 then (q.ends .badValue, s)
  else
    let fresh := l2Bd e != l2Bd old || l2Mac e != l2Mac old || l2Valid e && !l2Valid old
    (q.ends .ok, l2Set q.idx (datPut e 15 1 (if fresh then (l2Gen old + 1) % 256 else l2Gen old)) s)

/-- Operations on the table of stations, besides FLUSH_BY_MASK (R198). -/
def l2Op (q : TOp) (s : State) : TAns × State :=
  let e := l2OfDat q.dat
  match q.op with
  | .insert => l2Insert q s
  | .lookup =>
    (match l2Find s (l2Bd e) (l2Mac e) with
      | some k => q.gives k (l2Dat (s.fwd.l2.get k))
      | none => q.ends .notFound, s)
  | .delete =>
    match l2Find s (l2Bd e) (l2Mac e) with
    | some k => (q.ends .ok, l2Clear k s)
    | none => (q.ends .notFound, s)
  | .read => if 2097152 ≤ q.idx then (q.ends .badValue, s) else (q.gives q.idx (l2Dat (s.fwd.l2.get q.idx)), s)
  | .write => if 2097152 ≤ q.idx then (q.ends .badValue, s) else l2Write q s
  | .step =>
    match s.fwd.l2.cells.find? (fun c => decide (q.idx ≤ c.1) && l2Valid c.2) with
    | some c => (q.gives c.1 (l2Dat c.2), s)
    | none => (q.ends .notFound, s)
  | _ => (q.ends .badOp, s)

/-! ### Cloves (R235) -/

/-- The bits of a clove that a host INSERT gives. -/
def cloveBits : Nat :=
  fieldBits [(0, 0, 323), (41, 0, 56), (48, 1, 2), (50, 0, 16), (52, 0, 12), (54, 0, 16), (64, 0, 496)]

/-- The bits of a clove that a host WRITE replaces: bytes 48 to 127 except GEN, DIR_SLOT and VALID. -/
def cloveWriteBits : Nat :=
  fieldBits [(48, 1, 2), (50, 0, 16), (52, 0, 12), (54, 0, 48), (64, 0, 496)]

/-- A clove's PINNED is to become `want` (R235): the change, or the refusal beyond PIN_MAX. -/
def pinChange (i idx : Nat) (want : Bool) (s : State) : Option State :=
  if want && !cvPinned (s.cloveNow i idx) && !s.pinRoom i then none
  else some (pinByProgram i idx (if want then 2 else 0) s)

/-- A clove takes the content of a host WRITE or MODIFY (R235). -/
def cloveReplace (q : TOp) (i : Nat) (new : Clove) (s : State) : TAns × State :=
  match pinChange i q.idx (cvPinned new) s with
  | some s => (q.ends .ok, updClove i q.idx (fun _ => new) s)
  | none => (q.ends .pinLimit, pinRefused i s)

/-- An operation on the clove of an index, whose line no thread has locked (R235). -/
def cloveAt (q : TOp) (i : Nat) (s : State) : TAns × State :=
  let c := s.cloveNow i q.idx
  if q.op = .read then (q.gives q.idx c, s)
  else if !cvValid c then (q.ends .notFound, s)
  else
    match q.op with
    | .write =>
      if cvKey q.dat ≠ cvKey c then (q.ends .badValue, s) else cloveReplace q i (mergeBits cloveWriteBits c q.dat) s
    | .modify => cloveReplace q i (mergeBits (modMask q.dat * 2 ^ 512 &&& fieldBits [(64, 0, 496)]) c q.dat) s
    | .readClear =>
      (q.gives q.idx c, updClove i q.idx (fun c => datPut (datPut (datPut (datPut c 96 5 0) 101 6 0) 107 1 0) 124 2 0) s)
    | .delete => (q.ends .ok, countA q.attr (Cnt.FSE_HOST_DELETE i) 1 (endClove i q.idx 5 s))
    | _ => (q.gives q.idx c, s)

/-- INSERT of a clove (R235, R204). -/
def cloveInsert (q : TOp) (i : Nat) (s : State) : TAns × State :=
  if !keyFmtOk (cvFmt q.dat) then (q.ends .badValue, s)
  else
    match insertClove i (datPutB (mergeBits cloveBits 0 q.dat) 48 2 1 1) s with
    | (.ok idx _, s) => (q.gives idx q.dat, s)
    | (.taken, s) => (q.ends .exists_, s)
    | (.tableFull, s) => (q.ends .tableFull, s)
    | (.pinLimit, s) => (q.ends .pinLimit, s)

/-- The first valid clove of a partition at or above an index. -/
def State.cloveStep (s : State) (i idx : Nat) : Option Nat :=
  (s.clove.keysIn idx (s.cloveBase i + s.cloves i)).find? (fun k => cvValid (s.cloveNow i k))

/-- The clove that a host operation reads, and the key by which it finds it. -/
def State.cloveNamed (s : State) (i : Nat) (q : TOp) : Option (Nat × Option (BitVec 384)) :=
  match q.op with
  | .lookup | .delete => (findClove s i (cvKey q.dat)).map (fun k => (k, some (cvKey q.dat)))
  | .step => if s.inPart i q.idx then (s.cloveStep i q.idx).map (fun k => (k, none)) else none
  | .read | .write | .modify | .readClear => if s.inPart i q.idx then some (q.idx, none) else none
  | _ => none

/-- The clove that an operation reads is lost before the operation goes on, where its read fails (R232). -/
def cloveHostLoss (i : Nat) (q : TOp) (s : State) : State :=
  match s.cloveNamed i q with
  | some (k, key) => cloveReadLoss i k key q.side.ue s
  | none => s

/-- Operations on the cloves of partition i, besides FLUSH_BY_MASK: each waits for a lock on its clove (R212, R235). -/
def cloveOp (i : Nat) (q : TOp) (s : State) : TAns × State :=
  let s := cloveHostLoss i q s
  let at_ := fun (k : Nat) => if s.locked i k then (TAns.wait, s) else cloveAt { q with idx := k } i s
  match q.op with
  | .insert =>
    match findClove s i (cvKey q.dat) with
    | some k => if s.locked i k then (.wait, s) else cloveInsert q i s
    | none => cloveInsert q i s
  | .lookup | .delete =>
    match findClove s i (cvKey q.dat) with
    | some k =>
      (match at_ k with
        | (.done r, s) => (.done { r with idx := if q.op = .lookup then r.idx else q.idx }, s)
        | r => r)
    | none => (q.ends .notFound, s)
  | .step =>
    if !s.inPart i q.idx then (q.ends .badValue, s)
    else match s.cloveStep i q.idx with
      | some k => at_ k
      | none => (q.ends .notFound, s)
  | .read | .write | .modify | .readClear => if s.inPart i q.idx then at_ q.idx else (q.ends .badValue, s)
  | .flushByMask => (q.ends .badOp, s)

/-! ### The associative search array (R149, R150, R157) -/

/-- An entry as tables 0x30 and 0x32 show it: VALUE, CARE and attribute record (R148). -/
def asaDat (e : AsaEnt) (attr : Word64) : Dat :=
  BitVec.ofNat 1024 (e.value.toNat + e.care.toNat * 2 ^ 320 + attr.toNat * 2 ^ 640)

/-- The entry of DAT; reserved attribute bits are zero. -/
def asaOfDat (d : Dat) : AsaEnt :=
  { value := BitVec.ofNat 320 d.toNat, care := BitVec.ofNat 320 (d.toNat / 2 ^ 320),
    attr := BitVec.ofNat 64 ((d.toNat / 2 ^ 640) &&& fieldBits [(0, 0, 20), (4, 0, 16), (6, 0, 3)]) }

/-- VALUE has no 1 where CARE has a 0 (R148). -/
def AsaCareOk (e : AsaEnt) : Bool := e.value &&& ~~~e.care == 0

/-- The tag bits of slots that are active or draining (R120, R150); in Load no slot is active. -/
def State.asaLiveTags (s : State) : Nat :=
  if s.md.mode = .load then 0 else 2 ^ s.cls.active + (if s.cls.draining then 2 ^ s.shadowSlot else 0)

/-- Entry n is live (R150). -/
def State.asaLive (s : State) (n : Nat) : Bool :=
  let e := s.asa.ents.get (s.asaHead n)
  e.valid && decide (e.tag &&& s.asaLiveTags ≠ 0)

/-- Entry n lies in a retired bank (R170). -/
def State.asaRetired (s : State) (n : Nat) : Bool := bit s.asa.retired (n / 2048)

/-- A change of a live entry is admitted only to the TAG bit of the shadow slot (R150). -/
def State.asaMayWrite (s : State) (n : Nat) (old new : AsaEnt) : Bool :=
  !s.asaLive n ||
    (old.value == new.value && old.care == new.care &&
      (let tags := 2 ^ 49 * (3 - s.asaLiveTags)
       (old.attr.toNat ^^^ new.attr.toNat) &&& (2 ^ 64 - 1 - tags) == 0))

def setAsa (n : Nat) (e : AsaEnt) (s : State) : State := { s with asa := { s.asa with ents := s.asa.ents.set n e } }

/-- Entry n is written, if R148, R150 and R170 allow it. -/
def asaWrite (q : TOp) (n : Nat) (e : AsaEnt) (s : State) : TAns × State :=
  if s.asaRetired n then (q.ends .refused, s)
  else if !AsaCareOk e then (q.ends .badValue, s)
  else if s.asaMayWrite n (s.asa.ents.get n) e then (q.ends .ok, setAsa n e s)
  else (q.ends .refused, s)

/-- VALID of entry n is cleared, if R150 and R170 allow it: the Bool says whether. -/
def asaInvalidate (n : Nat) (s : State) : Bool × State :=
  if s.asaRetired n ∨ s.asaLive n = true then (false, s)
  else (true, setAsa n { s.asa.ents.get n with attr := (s.asa.ents.get n).attr &&& ~~~((1 : BitVec 64) <<< 48) } s)

def asaDelete (q : TOp) (n : Nat) (s : State) : TAns × State :=
  let r := asaInvalidate n s
  (q.ends (if r.1 then .ok else .refused), r.2)

/-- A search result as DAT returns it (R156). -/
def asaAns (q : TOp) (r : AsaRes) : TAns := q.gives q.idx (BitVec.ofNat 1024 r.bytes)

/-- LOOKUP with the profile in IDX and a key of `w` bits in DAT (R149, R157). R149 gives table 0x30's 40-byte key alone: a LOOKUP on table
0x32 takes an 80-byte key in the same form, and one on table 0x30 with a KEY640 profile searches with the key's upper bits zero
(DESIGN CHOICE). -/
def asaLookup (q : TOp) (w : Nat) (s : State) : TAns × State :=
  let k := q.idx
  let sc := s.asaScope k s.cls.active
  let key := q.dat.toNat % 2 ^ min w sc.width
  if 31 < k then (q.ends .badValue, s)
  else if s.asaCascade k then (.later, casRequest { owner := .port q.port, key, profile := k } s)
  else
    let r := asaLocal sc key none q.side.parity s
    (asaAns q r.1, setHandle (.port q.port) (r.1.handle key k s.cls.active) r.2)

/-- STEP goes on after the result of the port's handle (R157). -/
def asaStep (q : TOp) (s : State) : TAns × State :=
  let h := s.asa.handles.get (AsaOwner.port q.port).key
  if !h.live then (asaAns q {}, countA q.attr Cnt.ASA_STEP 1 s)
  else if s.asaCascade h.profile then
    (.later, casRequest { owner := .port q.port, key := h.key, profile := h.profile, resume := some (h.position, h.entry, h.prio) }
      (countA q.attr Cnt.ASA_STEP 1 s))
  else
    let r := asaLocal (s.asaScope h.profile h.slot) h.key (some (h.prio, h.entry)) q.side.parity s
    (asaAns q r.1, setHandle (.port q.port) (r.1.handle h.key h.profile h.slot) r.2)

/-- Operations on table 0x30, besides FLUSH_BY_MASK (R149). -/
def asa320Op (q : TOp) (s : State) : TAns × State :=
  let e := s.asa.ents.get q.idx
  match q.op with
  | .lookup => asaLookup q 320 s
  | .step => asaStep q s
  | .read =>
    if 65536 ≤ q.idx then (q.ends .badValue, s)
    else if s.asaRetired q.idx then (q.ends .refused, s) else (q.gives q.idx (asaDat e e.attr), s)
  | .write => if 65536 ≤ q.idx then (q.ends .badValue, s) else asaWrite q q.idx (asaOfDat q.dat) s
  | .modify =>
    if 65536 ≤ q.idx then (q.ends .badValue, s)
    else asaWrite q q.idx (asaOfDat (mergeBits (modMask q.dat) (asaDat e e.attr) (modVal q.dat))) s
  | .delete => if 65536 ≤ q.idx then (q.ends .badValue, s) else asaDelete q q.idx s
  | _ => (q.ends .badOp, s)

/-- Entry index, in bank 2 b, of a pair row (R149). -/
def pairEntry (i : Nat) : Nat := i / 2048 * 4096 + i % 2048

/-- Whether a pair row exists (R147, R149): the fixed geometry ignores PAIR (R168), and there every pair row is taken to exist (DESIGN
CHOICE, assumption 73). -/
def State.pairHas (s : State) (i : Nat) : Bool := decide (i < 32768) && (s.asaFixed || s.asaPaired (2 * (i / 2048)))

def State.pairRetired (s : State) (i : Nat) : Bool := s.asaRetired (pairEntry i) || s.asaRetired (pairEntry i + 2048)

/-- Operations on table 0x31 (R149): a WRITE fills the port's staging area only. -/
def asa640LoOp (q : TOp) (s : State) : TAns × State :=
  let e := s.asa.ents.get (pairEntry q.idx)
  let live := q.op == .read || q.op == .write
  if !live then (q.ends .badOp, s)
  else if !s.pairHas q.idx then (q.ends .badValue, s)
  else if s.pairRetired q.idx then (q.ends .refused, s)
  else if q.op = .read then (q.gives q.idx (asaDat e 0), s)
  else if !AsaCareOk (asaOfDat q.dat) then (q.ends .badValue, s)
  else (q.ends .ok, { s with asa := { s.asa with staged := s.asa.staged.set q.port (some (q.idx, q.dat)) } })

/-- A WRITE to table 0x32 commits both halves and the attribute as one entry (R149). -/
def asa640Write (q : TOp) (s : State) : TAns × State :=
  let n := pairEntry q.idx
  let hi := asaOfDat q.dat
  match s.asa.staged.get q.port with
  | none => (q.ends .badValue, s)
  | some (i, d) =>
    let lo : AsaEnt := { asaOfDat d with attr := hi.attr }
    let same := (s.asa.ents.get (n + 2048)).value == hi.value && (s.asa.ents.get (n + 2048)).care == hi.care
    if i ≠ q.idx ∨ AsaCareOk hi = false then (q.ends .badValue, s)
    else if s.asaLive n && !(same && s.asaMayWrite n (s.asa.ents.get n) lo) then (q.ends .refused, s)
    else
      let s := { s with asa := { s.asa with staged := s.asa.staged.set q.port none } }
      (q.ends .ok, setAsa (n + 2048) { hi with attr := 0 } (setAsa n lo s))

/-- Operations on table 0x32 (R149). -/
def asa640Op (q : TOp) (s : State) : TAns × State :=
  let n := pairEntry q.idx
  match q.op with
  | .lookup => asaLookup q 640 s
  | .step => asaStep q s
  | .read | .write | .delete =>
    if !s.pairHas q.idx then (q.ends .badValue, s)
    else if s.pairRetired q.idx then (q.ends .refused, s)
    else if q.op = .read then (q.gives q.idx (asaDat (s.asa.ents.get (n + 2048)) (s.asa.ents.get n).attr), s)
    else if q.op = .write then asa640Write q s
    else asaDelete q n s
  | _ => (q.ends .badOp, s)

/-! ### FLUSH_BY_MASK (R486) -/

/-- A number enters a rising list. -/
def insertRank (x : Nat) : List Nat → List Nat
  | [] => [x]
  | y :: r => if x ≤ y then x :: y :: r else y :: insertRank x r

/-- The places at or above `pos` that a flush visits, rising (R486). -/
def State.flushKeys (s : State) (t : Tbl) (pos : Nat) : List Nat :=
  match t with
  | .direct k => (s.tbl.keysIn (tblKey k pos) (tblKey (k + 1) 0)).map (fun x => x - tblKey k 0)
  | .route v6 => (((s.routes v6).map routeRank).filter (fun r => decide (pos ≤ r))).foldr insertRank []
  | .l2 => s.fwd.l2.keysIn pos 2097152
  | .clove i => s.clove.keysIn (max pos (s.cloveBase i)) (s.cloveBase i + s.cloves i)
  | .asa320 => s.asa.ents.keysIn pos 65536
  | _ => []

/-- An entry's bytes under a mask equal a value. -/
def maskEq (n : Nat) (mask value entry : Nat) : Bool := (entry &&& mask) % 2 ^ n == value % 2 ^ n

/-- Whether the entry at a place, as it stands, is to be deleted (R185, R186, R198, R235, R149). An entry of a retired bank is passed over,
and the walk goes on (DESIGN CHOICE, assumption 73). -/
def State.flushHit (s : State) (t : Tbl) (d : Dat) (k : Nat) : Bool :=
  match t with
  | .direct n =>
    let e := s.tblGet n k
    datB e 8 0 1 == 1 && maskEq 32 (datU d 0 4) (datU d 4 4) (datU e 0 4)
  | .route v6 =>
    (s.routes v6).any (fun r => routeRank r == k && maskEq 48 (datU d 24 6) (datU d 30 6) (r.vrf + r.result * 2 ^ 16))
  | .l2 =>
    let e := s.fwd.l2.get k
    l2Valid e && maskEq 128 (datU d 0 16) (datU d 64 16) e.toNat
  | .clove i =>
    let c := s.cloveNow i k
    cvValid c && maskEq 512 (modMask d) (modVal d).toNat c.toNat
  | .asa320 =>
    let e := s.asa.ents.get k
    e.valid && !s.asaRetired k && maskEq 8 (datU d 0 1) (datU d 1 1) (bits e.attr.toNat 55 48)
  | _ => false

/-- How the delete of one entry of a flush goes: committed, waiting for a lock (R235), or refused (R150). -/
inductive FlushRes where
  | done (s : State)
  | wait
  | refused
deriving DecidableEq, Repr

/-- The entry at a place is deleted (R185, R186, R198, R235, R149). -/
def flushOne (t : Tbl) (k : Nat) (s : State) : FlushRes :=
  match t with
  | .direct n => .done (tblSet n k (datPutB (s.tblGet n k) 8 0 1 0) s)
  | .route v6 => .done (lpmRemove v6 (fun r => routeRank r == k) s)
  | .l2 => .done (l2Clear k s)
  | .clove i => if s.locked i k then .wait else .done (count (Cnt.FSE_HOST_DELETE i) (endClove i k 6 s))
  | .asa320 =>
    match asaInvalidate k s with
    | (true, s) => .done s
    | (false, _) => .refused
  | _ => .refused

/-- Where a walk stands: the next place, the entries changed, and how it ended, if it did. -/
structure Walk where
  pos : Nat := 0
  cnt : Nat := 0
  fin : Option RCode := none
deriving DecidableEq, Repr, Inhabited

/-- A walk reads a place: a clove whose read fails is lost (R232); `lost` names those whose data are uncorrectable. -/
def walkRead (t : Tbl) (lost : List Nat) (k : Nat) (s : State) : State :=
  match t with
  | .clove i => cloveReadLoss i k none (lost.contains k) s
  | _ => s

/-- A walk visits the given places, at most `n` of them, and stops at one that is locked (R486). -/
def walkGo (t : Tbl) (d : Dat) (lost : List Nat) : List Nat → Nat → Walk → State → Walk × State
  | [], _, w, s => ({ w with fin := some .ok }, s)
  | k :: ks, n, w, s =>
    if n = 0 then (w, s)
    else
      let s := walkRead t lost k s
      if s.flushHit t d k then
        match flushOne t k s with
        | .done s => walkGo t d lost ks (n - 1) { w with pos := k + 1, cnt := w.cnt + 1 } s
        | .wait => ({ w with pos := k }, s)
        | .refused => ({ w with pos := k, fin := some .refused }, s)
      else walkGo t d lost ks (n - 1) { w with pos := k + 1 } s

/-- A walk goes on by at most n places. -/
def walk (t : Tbl) (d : Dat) (lost : List Nat) (n : Nat) (w : Walk) (s : State) : Walk × State :=
  walkGo t d lost (s.flushKeys t w.pos) n w s

/-! ### Any table -/

/-- An operation on a table, besides FLUSH_BY_MASK. -/
def tableOp (q : TOp) (s : State) : TAns × State :=
  match tblOf q.tbl with
  | none => (q.ends .badTable, s)
  | some (.route v6) => routeOp v6 q s
  | some .l2 => l2Op q s
  | some (.clove i) => cloveOp i q s
  | some .asa320 => asa320Op q s
  | some .asa640Lo => asa640LoOp q s
  | some .asa640 => asa640Op q s
  | some .poolTest => poolTestOp q s
  | some t => arrayOp q t s

end Sys2Proof.Machine
end

