-- ==== Sys2Proof/Machine/Ecp.lean ====
section
/-! DEFINITION. The entry command ports (R480 to R488): START, the commits, ABORT, the end of an operation, and the loader's
operations (R75). -/
namespace Sys2Proof

/-- The operation of an OP code (R483). -/
def ecpOpOf (c : Nat) : Option EcpOp :=
  ([(1, EcpOp.read), (2, .write), (3, .insert), (4, .delete), (5, .lookup), (6, .modify), (7, .readClear), (8, .step),
    (9, .flushByMask)].find? (fun p => p.1 == c)).map Prod.snd

def EcpOp.code : EcpOp → Nat
  | .read => 1 | .write => 2 | .insert => 3 | .delete => 4 | .lookup => 5 | .modify => 6 | .readClear => 7 | .step => 8
  | .flushByMask => 9

/-- The read class: READ, LOOKUP and STEP (R488). -/
def readClass (o : Option EcpOp) : Bool := o == some .read || o == some .lookup || o == some .step

/-- The operation that a port has latched, as it reaches its table. -/
def EcpPort.latched (p : EcpPort) (n : Nat) : TOp :=
  { port := n, op := p.lop.getD .read, tbl := p.ltbl, idx := p.lidx, dat := p.ldat, win := p.lwin, side := p.side }

/-- An outcome of a port's operation that concerned no entry. -/
def EcpPort.none (p : EcpPort) (c : RCode) (cnt : Nat) : EcpRes := { result := c.num, idx := p.lidx, cnt := cnt, dat := p.ldat }

end Sys2Proof
namespace Sys2Proof.Machine

def updEcp (n : Nat) (f : EcpPort → EcpPort) (s : State) : State := { s with ecp := s.ecp.upd n f }

/-! ### Rights (R488) -/

/-- What the mode grants a port. -/
def State.ecpRights (s : State) (n : Nat) (op : Option EcpOp) (tbl : Nat) : Bool :=
  let rd := readClass op
  if n = 8 then
    match s.md.mode with
    | .load | .lockdown => false
    | _ => rd || (op == some .write && tbl == 0x5C)
  else
    match s.md.mode with
    | .service | .maintenance => true
    | .drain => rd
    | _ => false

/-- The judgement of an operation at its START, and at a commit that had to wait: the code with which it ends, if any. -/
def ecpJudge (n : Nat) (p : EcpPort) (s : State) : Option RCode × State :=
  if n < 8 ∧ p.lwin = .bar4 ∧ bit (s.reg (Reg.MGT_TBL_OPER (p.ltbl / 32))) (p.ltbl % 32) = false then
    (some .refused, countA { master := some 0, win := some .bar4, tbl := some p.ltbl, idx := some p.lidx } Cnt.MGT_ECP_PRIV_REFUSED 1 s)
  else if !s.ecpRights n p.lop p.ltbl then (some .refused, s)
  else if p.lop.isNone then (some .badOp, s)
  else if p.ltbl = 0x59 ∧ s.md.mode ≠ .maintenance then (some .refused, s)
  else match tblOf p.ltbl with
    | none => (some .badTable, s)
    | some t => (if p.lop == some .flushByMask && !t.flushes then some .badOp else none, s)

/-! ### Commits -/

/-- A bulk operation goes on by at most `places` places (R486). -/
def ecpWalk (n places : Nat) (s : State) : State :=
  let p := s.ecp.get n
  match tblOf p.ltbl with
  | none => s
  | some t =>
    let r := walk t p.ldat p.side.lost places { pos := p.walkPos, cnt := p.walkCnt } s
    updEcp n (fun p => { p with walkPos := r.1.pos, walkCnt := r.1.cnt,
                                outcome := r.1.fin.map (fun c => p.none c r.1.cnt) }) r.2

/-- The next place in the order of waiting commits. -/
def State.waitPlace (s : State) : Nat := ((List.range 9).map (fun k => (s.ecp.get k).waitNo)).foldl max 0 + 1

/-- A single-entry operation commits, or waits (R485). -/
def ecpSingle (n : Nat) (s : State) : State :=
  match tableOp ((s.ecp.get n).latched n) (updEcp n (fun p => { p with sent := true }) s) with
  | (.done r, s) => updEcp n (fun p => { p with sent := false, outcome := some r, waitNo := 0 }) s
  | (.later, s) => s
  | (.wait, s) =>
    let s := updEcp n (fun p => { p with sent := false, waitNo := if p.waitNo = 0 then s.waitPlace else p.waitNo }) s
    if ((s.ecp.get n).ltbl = 0x50 ∨ (s.ecp.get n).ltbl = 0x51) ∧ s.pod.writes.contains n = false then
      updPod (fun q => { q with writes := q.writes ++ [n] }) s
    else s

/-- The operation of a port that has not ended goes on (R488); `places` bounds a bulk walk. -/
def ecpGo (n places : Nat) (s : State) : State :=
  let p := s.ecp.get n
  match ecpJudge n p s with
  | (some c, s) => updEcp n (fun p => { p with outcome := some (p.none c p.walkCnt), waitNo := 0 }) s
  | (none, s) =>
    if p.lop = some .flushByMask then ecpWalk n places s
    else if p.sent then s else ecpSingle n s

/-- The ports whose commits wait and reached their controllers before port n's, the earliest first (R485); commits of the express
tables have a queue of their own (R402). -/
def State.waitingBefore (s : State) (n : Nat) : List Nat :=
  let mine := (s.ecp.get n).waitNo
  let no := fun k => (s.ecp.get k).waitNo
  ((List.range 9).filter (fun k =>
    let p := s.ecp.get k
    k != n && p.busy && !p.abort && p.outcome.isNone && p.waitNo != 0 && (mine == 0 || decide (p.waitNo < mine)) &&
      !s.pod.writes.contains k)).foldr (fun k l => l.takeWhile (fun j => decide (no j < no k)) ++ k :: l.dropWhile (fun j => decide (no j < no k))) []

/-- An operation goes on after those that reached their tables before it (R485). -/
def ecpAdvance (n places : Nat) (s : State) : State := ecpGo n places ((s.waitingBefore n).foldl (fun s k => ecpGo k 0 s) s)

/-- A START is taken (R482): the port's registers are latched and the operation begins. How far a bulk walk comes before the
next command is a free value; `x` says which of the stored data it reads are in error. -/
def ecpLatch (n code : Nat) (w : Window) (x : TableSide) (s : State) : State :=
  let s := updEcp n (fun p =>
    { p with op := code, busy := true, done := false, aborted := false, lop := ecpOpOf code, ltbl := p.tbl, lidx := p.idx,
             ldat := p.dat, lwin := w, side := x, outcome := Option.none, abort := false, walkPos := 0, walkCnt := 0, sent := false,
             waitNo := 0 }) s
  let d := draw s
  ecpAdvance n (Config.pick d.1) d.2

/-- A write of START to a host port's CTL, by the host or in its name (R480, R482, R488). The host's START reaches the port in
Headless too. -/
def doEcpStart (n code : Nat) (w : Window) (m : Nat) (x : TableSide) (s : State) : State :=
  if (s.ecp.get n).busy then ignoreWrite m (if m = 0 then some w else none) s else ecpLatch n (code % 16) w x s

/-- The rows of table R483: a START with the operation's code. Ports 0 to 7 are the host's; port 8 is the side-band master's
(R481). -/
def ecpStart (op : EcpOp) (n : Nat) (w : Window) (x : TableSide) (s : State) : State :=
  if n < 8 then
    if !s.hostUp then s
    else if s.hostMayWrite 0 || s.md.mode == .headless then doEcpStart n op.code w 0 x s
    else ignoreWrite 0 (some w) s
  else if n = 8 ∧ s.md.mode ≠ .load ∧ s.md.mode ≠ .lockdown ∧ (s.ecp.get 8).busy = false then ecpLatch 8 op.code .bar0 x s
  else s

/-- READ (R483). -/
def execEcpRead (port : Nat) (win : Window) (x : TableSide) (s : State) : Res := coreCmd (ecpStart .read port win x) s
/-- WRITE (R483). -/
def execEcpWrite (port : Nat) (win : Window) (x : TableSide) (s : State) : Res := coreCmd (ecpStart .write port win x) s
/-- INSERT (R483). -/
def execEcpInsert (port : Nat) (win : Window) (x : TableSide) (s : State) : Res := coreCmd (ecpStart .insert port win x) s
/-- DELETE (R483). -/
def execEcpDelete (port : Nat) (win : Window) (x : TableSide) (s : State) : Res := coreCmd (ecpStart .delete port win x) s
/-- LOOKUP (R483). -/
def execEcpLookup (port : Nat) (win : Window) (x : TableSide) (s : State) : Res := coreCmd (ecpStart .lookup port win x) s
/-- MODIFY (R483). -/
def execEcpModify (port : Nat) (win : Window) (x : TableSide) (s : State) : Res := coreCmd (ecpStart .modify port win x) s
/-- READ_CLEAR (R483). -/
def execEcpReadClear (port : Nat) (win : Window) (x : TableSide) (s : State) : Res := coreCmd (ecpStart .readClear port win x) s
/-- STEP (R483). -/
def execEcpStep (port : Nat) (win : Window) (x : TableSide) (s : State) : Res := coreCmd (ecpStart .step port win x) s
/-- FLUSH_BY_MASK (R486). -/
def execEcpFlushByMask (port : Nat) (win : Window) (x : TableSide) (s : State) : Res := coreCmd (ecpStart .flushByMask port win x) s

/-! ### Abort and end (R482, R487) -/

/-- An ABORT acts only while BUSY is set (R487). -/
def doEcpAbort (n : Nat) (s : State) : State :=
  if (s.ecp.get n).busy then updEcp n (fun p => { p with abort := true }) s else s

/-- ABORT (R487): a write of ABORT to a host port's CTL, or ECP_ABORT of port 8. -/
def execEcpAbort (port : Nat) (s : State) : Res :=
  if port < 8 then hostCmd 0 (doEcpAbort port) s
  else coreCmd (fun s => if port = 8 then doEcpAbort 8 s else s) s

/-- The response of a side-band ECP request (R504). -/
def ecpResponse (r : EcpRes) (aborted : Bool) (s : State) : State :=
  match s.isl.busy with
  | none => s
  | some q =>
    let data := leBytes 1 r.result ++ leBytes 1 (if aborted then 2 else 1) ++ leBytes 4 r.idx ++ leBytes 4 r.cnt ++ bvBytes 128 r.dat
    { s with isl := { s.isl with busy := none, resp := { seq := q, status := 0, data := data } } }

/-- A port's operation ends (R482): its registers take the result, exactly one of DONE and ABORTED is set, and a host port raises
vector 41 + n. -/
def ecpFinish (n : Nat) (r : EcpRes) (aborted : Bool) (s : State) : State :=
  let s := updEcp n (fun p => { p with busy := false, done := !aborted, aborted := aborted, result := r.result, idx := r.idx,
                                       cnt := r.cnt, dat := r.dat, outcome := Option.none, abort := false, walkPos := 0, walkCnt := 0,
                                       sent := false, waitNo := 0 }) s
  let s := updPod (fun q => { q with writes := q.writes.filter (fun k => k != n) }) s
  let s := updRun (fun u => { u with waiting := u.waiting.filter (fun q => q.owner != .port n),
                                     flight := u.flight.filter (fun q => q.owner != .port n) }) s
  if n < 8 then msixRaise (41 + n) s else ecpResponse r aborted s

/-- The held writes of the express tables are committed in their order at a gap between lookups, once no vote is pending or they have
waited for 32 (R402). -/
def doXpTableCommit (s : State) : State :=
  if s.commitHeld then s
  else
    let s := s.pod.writes.foldl (fun s n =>
      let p := s.ecp.get n
      if p.busy && !p.abort && p.outcome.isNone then ecpAdvance n 0 s else s) (updPod (fun p => { p with writes := [] }) s)
    updPod (fun p => { p with heldVotes := 0 }) s

/-- XP_TABLE_COMMIT (R402). -/
def execXpTableCommit (s : State) : Res := coreCmd doXpTableCommit s

/-- The running operation of a port reaches its end (R482, R487), unless its commit still waits. -/
def doOperationEnd (n : Nat) (s : State) : State :=
  let p := s.ecp.get n
  if 8 < n ∨ p.busy = false then s
  else
    match p.outcome with
    | some r => ecpFinish n r false s
    | none =>
      if p.abort then ecpFinish n (p.none .ok p.walkCnt) true s
      else
        let s := if s.pod.writes.contains n then doXpTableCommit s else s
        let s := if (s.ecp.get n).outcome.isSome || s.pod.writes.contains n then s
          else ecpAdvance n ((s.flushKeys ((tblOf p.ltbl).getD .l2) p.walkPos).length + 1) s
        match (s.ecp.get n).outcome with
        | some r => ecpFinish n r false s
        | none => s

/-- OPERATION_END (R482). -/
def execOperationEnd (port : Nat) (s : State) : Res := coreCmd (doOperationEnd port) s

/-! ### The loader's port (R75, R481) -/

/-- A PRELOAD record is applied: its result code. -/
def loaderOp (tbl code idx : Nat) (d : Dat) (s : State) : Nat × State :=
  match ecpOpOf code with
  | none => (RCode.badOp.num, s)
  | some op =>
    if tbl = 0x59 ∨ tbl = 0x5C then (RCode.refused.num, s)
    else match tableOp { port := 9, op := op, tbl := tbl, idx := idx, dat := d } s with
      | (.done r, s) => (r.result, s)
      | (_, s) => (RCode.refused.num, s)

end Sys2Proof.Machine
end

