-- ==== Sys2Proof/Machine/Hss.lean ====
section
/-! DEFINITION. The check of an HSS signature (R76): LMS_SHA256_M32_H15 over LMS_SHA256_M32_H10, LMOTS_SHA256_N32_W8 in both. The
algorithm is that of RFC 8554, which R76 names (PRESUMED: its text is outside the spec, assumption 68). -/
namespace Sys2Proof

/-- SHA-256 as 32 bytes. -/
def shaBytes (bs : List Byte) : List Byte := bvBytes 32 (sha256 bs)

/-! ### The one-time signature -/

/-- A hash chain goes on for n steps from step i; `x` names the key and the chain. -/
def chainFrom (x : List Byte) : Nat → Nat → List Byte → List Byte
  | 0, _, t => t
  | n + 1, i, t => chainFrom x n (i + 1) (shaBytes (x ++ BitVec.ofNat 8 i :: t))

/-- The 34 digits of a digest: its bytes, and the 16-bit sum of what each lacks of 255. -/
def otsDigits (q : List Byte) : List Byte := q ++ beBytes 2 (q.map (fun b => 255 - b.toNat)).sum

/-- The digits that a message is signed with, under the randomiser c; `iq` is I with the leaf's number. -/
def otsMessage (iq c msg : List Byte) : List Byte := otsDigits (shaBytes (iq ++ beBytes 2 0x8181 ++ c ++ msg))

/-- The public key of 34 chain ends. -/
def otsPublic (iq : List Byte) (ends : List (List Byte)) : List Byte := shaBytes (iq ++ beBytes 2 0x8080 ++ ends.flatten)

/-- The public key that a signature's chains end in. -/
def otsKey (iq c y msg : List Byte) : List Byte :=
  otsPublic iq ((otsMessage iq c msg).zipIdx.map (fun d =>
    chainFrom (iq ++ beBytes 2 d.2) (255 - d.1.toNat) d.1.toNat (slice y (32 * d.2) 32)))

/-! ### The tree -/

/-- The root above node r with value t, by a path of n nodes. -/
def lmsClimb (id : List Byte) : Nat → Nat → List Byte → List Byte → List Byte
  | 0, _, t, _ => t
  | n + 1, r, t, path =>
    let p := path.take 32
    lmsClimb id n (r / 2)
      (shaBytes (id ++ beBytes 4 (r / 2) ++ beBytes 2 0x8383 ++ (if r % 2 = 1 then p ++ t else t ++ p))) (path.drop 32)

/-- The root of a tree of height h whose leaf q has one-time key k, by a path. -/
def lmsRoot (h : Nat) (id : List Byte) (q : Nat) (k path : List Byte) : List Byte :=
  lmsClimb id h (2 ^ h + q) (shaBytes (id ++ beBytes 4 (2 ^ h + q) ++ beBytes 2 0x8282 ++ k)) path

/-- The root that an LMS signature of a message leads to: leaf number, LM-OTS type, randomiser, 34 chains, LMS type, path. -/
def lmsCandidate (h : Nat) (id sig msg : List Byte) : List Byte :=
  let q := slice sig 0 4
  lmsRoot h id (beVal q) (otsKey (id ++ q) (slice sig 8 32) (slice sig 40 1088) msg) (slice sig 1132 (32 * h))

/-- An LMS signature has the types of height h, and its leaf exists; LM-OTS type 4 is LMOTS_SHA256_N32_W8. -/
def lmsShape (h type : Nat) (sig : List Byte) : Bool :=
  decide (beVal (slice sig 0 4) < 2 ^ h) && beVal (slice sig 4 4) == 4 && beVal (slice sig 1128 4) == type

/-- The signature verifies (R76) under a 60-byte public key of two levels, LMS type 7 and LM-OTS type 4: Nspk 1; the top tree, of LMS
type 7, signs the 56-byte bottom public key; the bottom tree, of LMS type 6, signs the message. -/
def hssOk (pub msg sig : List Byte) : Bool :=
  let top := slice sig 4 1612
  let low := slice sig 1616 56
  let bot := slice sig 1672 1452
  beVal (slice pub 0 4) == 2 && beVal (slice pub 4 4) == 7 && beVal (slice pub 8 4) == 4 &&
    sig.length == 3124 && beVal (slice sig 0 4) == 1 && lmsShape 15 7 top && beVal (slice low 0 4) == 6 && beVal (slice low 4 4) == 4 &&
    lmsShape 10 6 bot && lmsCandidate 15 (slice pub 12 16) top low == slice pub 28 32 &&
    lmsCandidate 10 (slice low 8 16) bot msg == slice low 24 32

end Sys2Proof
end

