-- ==== Sys2Proof/Machine/RegRange.lean ====
section
/-! DEFINITION. The ranges that the chapters give to fields of registers (R70, R119, R441, R544), and which fields LREG may set. -/
namespace Sys2Proof

/-- A field of an array of registers and the values it may take. -/
structure RangeRule where
  base : Nat
  n : Nat := 1
  stride : Nat := 4
  hi : Nat
  lo : Nat
  min : Nat := 0
  max : Nat
  /-- The value 0 is in the range too. -/
  orZero : Bool := false
deriving DecidableEq, Repr

/-- The rule concerns a register. -/
def RangeRule.holds (r : RangeRule) (a : Nat) : Bool :=
  decide (r.base ≤ a) && (a - r.base) % r.stride == 0 && decide ((a - r.base) / r.stride < r.n)

/-- The value respects the rule. -/
def RangeRule.ok (r : RangeRule) (v : Nat) : Bool :=
  (r.orZero && bits v r.hi r.lo == 0) || (decide (r.min ≤ bits v r.hi r.lo) && decide (bits v r.hi r.lo ≤ r.max))

/-- The ranges of the windows below FSE (R56, R72, R118, R119, R145, R173, R200, R441). -/
def rangesLow : List RangeRule :=
  [{ base := Reg.MGT_FLT_CFG 0, n := 4, hi := 20, lo := 16, max := 20 },
   { base := Reg.MGT_FLT_CFG 0, n := 4, hi := 15, lo := 0, min := 1, max := 65535 },
   { base := Reg.MGT_FLT_CFG 5, n := 2, hi := 20, lo := 16, max := 20 },
   { base := Reg.MGT_FLT_CFG 5, n := 2, hi := 15, lo := 0, min := 1, max := 65535 },
   { base := Reg.MGT_HB_CFG, hi := 15, lo := 0, min := 10, max := 60000, orZero := true },
   { base := Reg.MGT_DRAIN_CFG, hi := 15, lo := 0, min := 1, max := 10000 },
   { base := Reg.TBE_CFG, hi := 24, lo := 20, max := 20 },
   { base := Reg.TBE_CFG, hi := 19, lo := 16, max := 12 },
   { base := Reg.TBE_TWIN_CFG 0, n := 8, hi := 4, lo := 0, max := 16 },
   { base := Reg.LPC_PORT_CFG 0, n := 32, hi := 29, lo := 24, min := 1, max := 50 },
   { base := Reg.LPC_PORT_CFG 0, n := 32, hi := 13, lo := 0, min := 64, max := 9216 },
   { base := Reg.CLS_DRAIN_WIN, hi := 13, lo := 0, min := 1, max := 10000 },
   { base := Reg.ASA_RUNNER_CFG, hi := 15, lo := 8, min := 16, max := 255 },
   { base := Reg.FWD_L2_AGE, hi := 31, lo := 16, min := 1, max := 65535 },
   { base := Reg.FWD_L2_AGE, hi := 15, lo := 0, min := 1, max := 32767 },
   { base := Reg.FWD_DIRECT_CFG 0, n := 8, hi := 20, lo := 0, max := 1048576 },
   { base := Reg.FWD_STEP_LO 0 0, n := 64, stride := 8, hi := 31, lo := 28, max := 11 },
   { base := Reg.FWD_STEP_LO 0 0, n := 64, stride := 8, hi := 18, lo := 14, max := 23 },
   { base := Reg.FWD_STEP_HI 0 0, n := 64, stride := 8, hi := 28, lo := 24, max := 20 },
   { base := Reg.FWD_STEP_HI 0 0, n := 64, stride := 8, hi := 17, lo := 16, max := 2 }]

/-- The ranges of the windows from FSE on (R282, R321, R346, R378, R419, R437). -/
def rangesHigh : List RangeRule :=
  [{ base := Reg.FSE_NAT_CFG 0, n := 4, hi := 3, lo := 0, min := 6, max := 12 },
   { base := Reg.ENG_CFG, hi := 11, lo := 0, min := 16, max := 4095 },
   { base := Reg.ENG_CLUSTER_CFG, hi := 25, lo := 16, max := 512 },
   { base := Reg.ENG_CLUSTER_CFG, hi := 9, lo := 0, max := 512 },
   { base := Reg.PBF_STAGE 0, n := 12, hi := 17, lo := 0, min := 36, max := 262143 },
   { base := Reg.PBF_QPROF 0, n := 16, hi := 27, lo := 16, min := 36, max := 4095 },
   { base := Reg.SWC_CT_CFG, hi := 5, lo := 0, min := 1, max := 37 },
   { base := Reg.SWC_RESEQ_CFG, hi := 15, lo := 0, min := 1000, max := 65535 },
   { base := Reg.SWC_CREDIT_LIMIT 0, n := 8, hi := 18, lo := 0, min := 64, max := 393216 },
   { base := Reg.HMC_CFG, hi := 15, lo := 0, min := 512, max := 65535 },
   { base := Reg.XPR_QLIMIT, hi := 13, lo := 0, min := 36, max := 8192 },
   { base := Reg.XPR_PORT_KEY 0, n := 32, stride := 8, hi := 17, lo := 16, max := 2 }] ++
  (List.range 8).map (fun c => { base := Reg.SWC_CLASS_WEIGHT, hi := 4 * c + 3, lo := 4 * c, min := 1, max := 15 })

def ranges : List RangeRule := rangesLow ++ rangesHigh

/-- The fields of a register named by `f` hold values of their ranges; a range of part of a field counts with it. -/
def rangesOk (a v : Nat) (f : Nat → Nat → Bool) : Bool :=
  ranges.all (fun r => !(r.holds a && f r.hi r.lo) || r.ok v)

/-- The bits of a field. -/
def RField.mask (f : RField) : Nat := (2 ^ (f.hi + 1 - f.lo) - 1) * 2 ^ f.lo

/-- LREG may set the field (R70). -/
def RField.lreg (f : RField) : Bool := f.acc == .rwl || (f.acc == .rw && f.image)

/-- Bits that LREG may set in a register (R70). -/
def lregMask (fs : List RField) : Nat := ((fs.filter RField.lreg).map RField.mask).sum

/-- The bits of the fields whose Reset column reads "image" (R11, R545). -/
def imageMask (fs : List RField) : Nat := ((fs.filter (fun f => f.image)).map RField.mask).sum

/-- Registers whose Maintenance value only reads back until the next Load (R544). -/
def isLayout (a : Nat) : Bool :=
  a == Reg.ASA_CFG || a == Reg.ASA_RUNNER_BANKS || a == Reg.ASA_BANK_PWR || a == Reg.PBF_RETURN_RES ||
    a == Reg.MGT_PWR_OFF0 || a == Reg.MGT_PWR_OFF1 ||
    (decide (Reg.ASA_PROFILE_BANK 0 ≤ a) && decide (a < Reg.ASA_PROFILE_BANK 32)) ||
    (decide (Reg.FWD_DIRECT_CFG 0 ≤ a) && decide (a < Reg.FWD_DIRECT_CFG 8)) ||
    (decide (Reg.PBF_STAGE 0 ≤ a) && decide (a < Reg.PBF_STAGE 12))

end Sys2Proof
end

