-- ==== Sys2Proof/Machine/Hbm.lean ====
section
/-! DEFINITION. The HBM controllers (R420 to R437) with the row and pseudo-channel counts (R443), and the leak of the fault
counts (R439). -/
namespace Sys2Proof.Machine

def updPc (n : Nat) (f : Pc → Pc) (s : State) : State := { s with hmc := { s.hmc with pcs := s.hmc.pcs.upd n f } }
def State.pc (s : State) (n : Nat) : Pc := s.hmc.pcs.get n

/-! ### Counts, sparing and retirement (R429, R431 to R433, R443) -/

/-- Pseudo-channels that are retired. -/
def State.retiredPcs (s : State) : Nat := ((List.range 96).filter (fun n => s.pcRetired n)).length

/-- Requests that wait at a pseudo-channel are answered as a retired pseudo-channel answers them (R432). -/
def dropUnrelocated (n : Nat) (s : State) : State :=
  let p := s.pc n
  let k := ((p.reads ++ p.writes ++ p.heldReads ++ p.heldWrites).filter (fun r => unrelocated r.addr)).length
  let kept := fun (l : List HbmReq) => l.filter (fun r => !unrelocated r.addr)
  countA {} (Cnt.HMC_RETIRED_ACCESS n) k (updPc n (fun p =>
    { p with reads := kept p.reads, writes := kept p.writes, heldReads := kept p.heldReads, heldWrites := kept p.heldWrites }) s)

/-- A pseudo-channel is retired (R432), with cause 0 ERRORS or 1 LOAD; a sparing in progress stops, and its relocation begins. -/
def retirePc (n cause : Nat) (s : State) : State :=
  let homes := (List.range 96).filter (fun m => m != n && !s.pcRetired m)
  let s := updPc n (fun p => { p with retired := true, relocating := true, relocAt := s.now, relocNo := s.hmc.relocs, homes := homes,
                                      copied := 0, sparing := [] }) s
  let s := { s with hmc := { s.hmc with relocs := s.hmc.relocs + 1 } }
  raise 0xE 1 n (n + 256 * cause) (dropUnrelocated n (markRetired 3 n s))

/-- A pseudo-channel's count crosses (R432, R433). -/
def pcCrosses (n : Nat) (s : State) : State :=
  if s.retiredPcs < 16 then retirePc n 0 s
  else
    let s := markRefused 3 n (count Cnt.HMC_RETIRE_REFUSED s)
    if (s.pc n).refusedRaised then s else raise 0xE 4 n n (updPc n (fun p => { p with refusedRaised := true }) s)

/-- The place of a row in a pseudo-channel's table of row counts, or of a free entry, or of the entry with the lowest count
(R443). -/
def State.rowEntry (s : State) (n bank row : Nat) : Nat × Nat :=
  let ent := fun k => s.fltRow.get (64 * n + k)
  let own := (List.range 64).find? (fun k => match ent k with | some (b, r, _) => b == bank && r == row | none => false)
  match own with
  | some k => (k, match ent k with | some (_, _, c) => c | none => 0)
  | none =>
    match (List.range 64).find? (fun k => (ent k).isNone) with
    | some k => (k, 0)
    | none =>
      let cnt : Nat → Nat := fun k => match ent k with | some (_, _, c) => c | none => 0
      ((List.range 64).foldl (fun b k => if cnt k < cnt b then k else b) 0, 0)

/-- The copy of a row is in progress. -/
def Pc_sparing (p : Pc) (bank row : Nat) : Bool := p.sparing.any (fun x => x.1 == bank && x.2.1 == row)

/-- A row's count crosses (R431): its copy starts, where a remap entry is left for it. -/
def rowCrosses (n bank row : Nat) (s : State) : State :=
  if Pc_sparing (s.pc n) bank row then s
  else if (s.pc n).spares + (s.pc n).sparing.length < 512 then
    updPc n (fun p => { p with sparing := p.sparing ++ [(bank, row, s.now)] }) s
  else raiseLim 1 n 0xE 3 n n (count Cnt.HMC_SPARE_FULL s)

/-- A read error enters the counts of its row and its pseudo-channel (R429, R443, R445); a retired pseudo-channel enters none
(R440). -/
def hbmError (n bank row weight : Nat) (s : State) : State :=
  if s.pcRetired n then s else
  let (k, old) := s.rowEntry n bank row
  let new := min 65535 (old + weight)
  let crossed := decide (old < s.thresh 2) && decide (s.thresh 2 ≤ new)
  let s := { s with fltRow := s.fltRow.set (64 * n + k) (some (bank, row, new)) }
  let s := if crossed then rowCrosses n bank row (count Cnt.MGT_FLT_CROSSINGS s) else s
  let (c3, s) := enterError 3 n weight s
  if c3 then pcCrosses n s else s

/-! ### Requests (R424, R426, R432) -/

/-- Requests that wait for it enter the queue while it has room and no delay write is outstanding (R424, R426). -/
def admitReqs (n : Nat) (s : State) : State :=
  updPc n (fun p =>
    if p.dlyHeld.isSome then p
    else
      let r := 64 - p.reads.length
      let w := 32 - p.writes.length
      { p with reads := p.reads ++ p.heldReads.take r, heldReads := p.heldReads.drop r,
               writes := p.writes ++ p.heldWrites.take w, heldWrites := p.heldWrites.drop w }) s

/-- A request arrives at the pseudo-channel where its address lies (R426, R432). It waits outside a queue that is full (R426: 64 reads
and 32 writes) or that a delay write closes (R424). -/
def hbmEnqueue (write : Bool) (q : HbmReq) (s : State) : State :=
  let n := (s.hbmAt q.addr).1
  let p := s.pc n
  if p.retired && unrelocated q.addr then count (Cnt.HMC_RETIRED_ACCESS n) s
  else
    let q := { q with no := p.arrivals }
    admitReqs n (updPc n (fun p =>
      if write then { p with arrivals := p.arrivals + 1, heldWrites := p.heldWrites ++ [q] }
      else { p with arrivals := p.arrivals + 1, heldReads := p.heldReads ++ [q] }) s)

/-! ### Activates (R427) -/

/-- An activate of a row in a bank's tracker (R427): the tracker, and whether the neighbours are refreshed. -/
def trackActivate (thresh row : Nat) (t : List TrackEnt) : List TrackEnt × Bool :=
  let bump := fun (e : TrackEnt) => if e.next ≤ e.count then ({ e with next := e.count + thresh }, true) else (e, false)
  match t.findIdx? (fun e => e.row == row) with
  | some k =>
    let e := bump { t.getD k default with count := (t.getD k default).count + 1 }
    (t.set k e.1, e.2)
  | none =>
    if t.length < 16 then
      let e := bump { row := row, count := 1, next := thresh }
      (t ++ [e.1], e.2)
    else
      let k := (List.range t.length).foldl (fun b k => if (t.getD k default).count < (t.getD b default).count then k else b) 0
      let c := (t.getD k default).count + 1
      let e := bump { row := row, count := c, next := if thresh ≤ c then c else thresh }
      (t.set k e.1, e.2)

/-- The neighbours of a row that exist (R427). -/
def rowNeighbours (row : Nat) : List Nat :=
  (if 2 ≤ row then [row - 2] else []) ++ (if 1 ≤ row then [row - 1] else []) ++
    (if row + 1 < 16384 then [row + 1] else []) ++ (if row + 2 < 16384 then [row + 2] else [])

/-- A row is activated (R427). -/
def activate (n bank row : Nat) (s : State) : State :=
  let r := trackActivate (s.regF Reg.HMC_CFG 15 0) row ((s.pc n).track.get bank)
  let s := updPc n (fun p => { p with rows := p.rows.set bank (some row), track := p.track.set bank r.1 }) s
  if r.2 then count (Cnt.HMC_RH_REFRESH n) (updPc n (fun p => { p with victims := p.victims.set bank (rowNeighbours row) }) s) else s

/-- The physical place of spare row k of a pseudo-channel: row k of its share of the spare region. -/
def spareLocal (k : Nat) : Nat := spareChunk 0 + 1024 * k

/-- Bank and physical row of a local address after sparing (R421, R431). -/
def State.physRow (s : State) (n l : Nat) : Nat × Nat :=
  match (s.pc n).remap.get (16384 * hbmBank l + hbmRow l) with
  | some k => (hbmBank (spareLocal k), hbmRow (spareLocal k))
  | none => (hbmBank l, hbmRow l)

/-- The row of a local address is open for an access: it is activated where it is not open. -/
def openRow (n l : Nat) (s : State) : State :=
  let x := s.physRow n l
  if (s.pc n).rows.get x.1 = some x.2 then s else activate n x.1 x.2 s

/-! ### Reads of bursts (R428, R429) -/

/-- A corrected burst is written back, unless a write to it is queued (R429). -/
def writeBack (n l : Nat) (s : State) : State :=
  let a := hbmAddr n l / 32 * 32
  if ((s.pc n).writes ++ (s.pc n).heldWrites).any (fun q => q.addr / 32 == a / 32) then s
  else hbmEnqueue true { addr := a, at_ := s.now, whole := true } s

/-- The outcome of a read of a burst at a local address (R429): a poisoned burst reads as uncorrectable. -/
def burstRead (n l : Nat) (o : BurstOutcome) (s : State) : State :=
  let bank := hbmBank l
  let row := hbmRow l
  match (if (s.pc n).poisoned.get (l / 32) then BurstOutcome.uncorrectable else o) with
  | .ok => s
  | .corrected => hbmError n bank row 1 (writeBack n l (count (Cnt.HMC_CORR n) s))
  | .uncorrectable =>
    let s := count (Cnt.HMC_UNCORR n) (updPc n (fun p => { p with poisoned := p.poisoned.set (l / 32) true }) s)
    raiseLim 1000 0 0xE 5 n (n + 4096 * row) (hbmError n bank row 16 s)

/-- Read data returns (R429); a retired pseudo-channel answers from no cell (R432). -/
def doHbmReadData (addr : Nat) (o : BurstOutcome) (s : State) : State :=
  let x := s.hbmAt addr
  if 0xC00000000 ≤ addr ∨ s.pcRetired x.1 = true then s else burstRead x.1 x.2 o s

/-- HBM_READ_DATA (R429). -/
def execHbmReadData (addr : Nat) (outcome : BurstOutcome) (s : State) : Res := coreCmd (doHbmReadData addr outcome) s

/-- A sweep of pseudo-channel n runs (R435). -/
def State.swept (s : State) (n : Nat) : Bool := s.hmc.test.busy && s.hmc.testSweep && s.hmc.test.unit == n

/-- The patrol scrubber reads its next burst (R428): in every pseudo-channel in service, and in a retired one until its relocation ends
(R432). A pseudo-channel under sweep is left out (R435). -/
def doPatrolScrub (n : Nat) (o : BurstOutcome) (s : State) : State :=
  if 95 < n ∨ (s.pc n).stopped = true ∨ s.swept n = true ∨ s.md.mode = .load then s
  else
    let k := (s.pc n).scrub
    let due := paceDue 86400000000000 16777216 k (s.pc n).scrubAt
    burstRead n (32 * k) o (openRow n (32 * k) (updPc n (fun p => { p with scrub := (k + 1) % 16777216, scrubAt := due }) (runTo due s)))

/-- PATROL_SCRUB (R428). -/
def execPatrolScrub (pc : Nat) (outcome : BurstOutcome) (s : State) : Res := coreCmd (doPatrolScrub pc outcome) s

/-! ### Row sparing (R431) -/

/-- The local address of a row (R421). -/
def rowLocal (bank row : Nat) : Nat :=
  32768 * row + 16384 * (bank / 16) + 4096 * (bank / 4 % 4 ^^^ bits row 12 11) + 2048 * b2n (bit bank 1 != bit row 10) + 1024 * (bank % 2)

/-- Bursts from a local address on are marked poisoned, those of the list. -/
def poisonBursts (n l : Nat) (bad : List Nat) (s : State) : State :=
  updPc n (fun p => { p with poisoned := bad.foldl (fun m j => m.set (l / 32 + j) true) p.poisoned }) s

/-- A failing row's copy is complete (R431, R443): `bad` are the bursts of the row that the copy found uncorrectable, which are written as
poisoned. -/
def finishSpare (n bank row : Nat) (bad : List Nat) (s : State) : State :=
  let p := s.pc n
  let own := (List.range 64).filter (fun k => match s.fltRow.get (64 * n + k) with
    | some (b, r, _) => b == bank && r == row | none => false)
  let s := openRow n (spareLocal p.spares) (openRow n (rowLocal bank row) s)
  let s := poisonBursts n (rowLocal bank row) bad s
  let s := updPc n (fun q => { q with sparing := q.sparing.filter (fun x => !(x.1 == bank && x.2.1 == row)), spares := q.spares + 1,
                                      remap := q.remap.set (16384 * bank + row) (some p.spares) }) s
  let s := { s with fltRow := own.foldl (fun m k => m.set (64 * n + k) none) s.fltRow }
  raise 0xE 2 n (n + 128 * bank + 4096 * row) (count (Cnt.HMC_ROWS_SPARED n) s)

/-- The copy of a row ends. -/
def doRowSpared (n bank row : Nat) (bad : List Nat) (s : State) : State :=
  if !Pc_sparing (s.pc n) bank row || (s.pc n).retired then s else finishSpare n bank row bad s

/-- ROW_SPARED (R431). -/
def execRowSpared (pc : Nat) (bank : Nat) (row : Nat) (bad : List Nat) (s : State) : Res := coreCmd (doRowSpared pc bank row bad) s

/-! ### Relocation (R432) -/

/-- Requests that wait at a retired pseudo-channel for a chunk that has been copied go to its new place (R433). -/
def moveRequests (n : Nat) (s : State) : State :=
  let p := s.pc n
  let moved := fun (q : HbmReq) => (s.hbmAt q.addr).1 != n
  let stay := fun (l : List HbmReq) => l.filter (fun q => !moved q)
  let rs := (p.reads ++ p.heldReads).filter moved
  let ws := (p.writes ++ p.heldWrites).filter moved
  let s := updPc n (fun p => { p with reads := stay p.reads, heldReads := stay p.heldReads,
                                      writes := stay p.writes, heldWrites := stay p.heldWrites }) s
  ws.foldl (fun s q => hbmEnqueue true q s) (rs.foldl (fun s q => hbmEnqueue false q s) s)

/-- One chunk of a retired pseudo-channel is copied to its new place (R432), with its poisoned bursts and those that the copy finds
uncorrectable. The whole copy is one step, so a request sees the chunk before it or after it. -/
def copyChunk (n : Nat) (bad : List Nat) (s : State) : State :=
  let p := s.pc n
  let l := chunkLocal p.copied
  let s1 := updPc n (fun p => { p with copied := p.copied + 1 }) s
  if chunkNo (hbmAddr n l) ≠ some p.copied ∨ p.homes = [] then s1
  else
    let t := s1.hbmGo 17 n l
    let hurt := (List.range 64).filter (fun j => p.poisoned.get (l / 32 + j) || bad.contains (l / 32 + j))
    poisonBursts t.1 t.2 hurt (openRow t.1 (t.2 + 1024) (openRow t.1 t.2 (openRow n (l + 1024) (openRow n l s1))))

/-- The first argument's chunks are copied. -/
def copyChunks (n : Nat) (bad : List Nat) (k : Nat) (s : State) : State := (List.range k).foldl (fun s _ => copyChunk n bad s) s

/-- Relocation ends (R432): the chunks left are copied, the pseudo-channel is no longer refreshed or scrubbed, and its waiting requests are
served elsewhere. -/
def doRelocationDone (n : Nat) (bad : List Nat) (s : State) : State :=
  if (s.pc n).relocating then
    moveRequests n (updPc n (fun p => { p with relocating := false, stopped := true })
      (copyChunks n bad (movedChunks - (s.pc n).copied) s))
  else s

/-- RELOCATION_DONE (R432). -/
def execRelocationDone (pc : Nat) (bad : List Nat) (s : State) : Res := coreCmd (doRelocationDone pc bad) s

/-- What is overdue at a pseudo-channel ends: a row's copy after 2,000 ns (R431), a relocation after 1,000,000,000 ns (R432). -/
def overdue (n : Nat) (s : State) : State :=
  let s := ((s.pc n).sparing.filter (fun x => decide (x.2.2 + 2000 ≤ s.now))).foldl (fun s x => finishSpare n x.1 x.2.1 [] s) s
  if (s.pc n).relocating && decide ((s.pc n).relocAt + 1000000000 ≤ s.now) then doRelocationDone n [] s else s

/-! ### Refresh and row hammer (R425, R427) -/

/-- The refresh interval of a bank (R425): half of it while the sensor of the stack reports above 85 C. -/
def State.refreshPeriod (s : State) (n : Nat) : Nat :=
  if s.hmc.hot.getLsbD (n / 32) then Config.refreshHalf + 1 else 2 * (Config.refreshHalf + 1)

/-- A bank is refreshed when its interval has passed (R425). -/
def doRefresh (n bank : Nat) (hot : BitVec 3) (s : State) : State :=
  if 95 < n ∨ 31 < bank ∨ (s.pc n).stopped = true then s
  else
    let s := { s with hmc := { s.hmc with hot := hot } }
    let s := runTo ((s.pc n).refreshed.get bank + s.refreshPeriod n) s
    updPc n (fun p => { p with refreshed := p.refreshed.set bank s.now }) s

/-- REFRESH (R425). -/
def execRefresh (pc : Nat) (bank : Nat) (hot : BitVec 3) (s : State) : Res := coreCmd (doRefresh pc bank hot) s

/-- The first bank of a pseudo-channel whose refresh has reached the postponement limit (R425). -/
def State.refreshOverdue (s : State) (n : Nat) : Option Nat :=
  (List.range 32).find? (fun b => decide ((s.pc n).refreshed.get b + (Config.refreshPostponed + 2) * s.refreshPeriod n ≤ s.now))

/-- A period of the trackers (R427). -/
def trackPeriod : Nat := 32000000

/-- Every tracker is cleared at a boundary (R427). -/
def doTrackerClear (s : State) : State :=
  let s := runTo ((s.hmc.trackSeen + 1) * trackPeriod) s
  { s with hmc := { s.hmc with trackSeen := s.now / trackPeriod, pcs := s.hmc.pcs.mapAll (fun p => { p with track := {} }) } }

/-- TRACKER_CLEAR (R427). -/
def execTrackerClear (s : State) : Res := coreCmd doTrackerClear s

/-! ### Scheduling (R426) -/

/-- An older request to the same burst waits, so that this one must wait for it (R426). -/
def blockedBy (p : Pc) (q : HbmReq) : Bool :=
  (p.reads ++ p.writes ++ p.heldReads ++ p.heldWrites).any (fun r => decide (r.no < q.no) && r.addr / 32 == q.addr / 32)

/-- Candidates of one direction in arrival order. -/
def hbmReady (p : Pc) (write : Bool) : List (Bool × HbmReq) :=
  ((if write then p.writes else p.reads).filter (fun q => !blockedBy p q)).map (fun q => (write, q))

/-- The oldest of a list of requests. -/
def oldest (l : List (Bool × HbmReq)) : Option (Bool × HbmReq) :=
  l.foldl (fun b x => match b with | none => some x | some y => if x.2.no < y.2.no then some x else some y) none

/-- Whether writes are being drained (R426). -/
def drainNow (p : Pc) : Bool :=
  (p.draining && decide (8 < p.writes.length)) || decide (24 ≤ p.writes.length) || (p.reads.isEmpty && !p.writes.isEmpty)

/-- The request of a command slot, and whether it had waited 2,000 ns (R426). A row under sparing holds its requests (R431). -/
def State.hbmPick (s : State) (n : Nat) : Option ((Bool × HbmReq) × Bool) :=
  let p := s.pc n
  let at_ := fun (x : Bool × HbmReq) => (s.hbmAt x.2.addr).2
  let free := fun (x : Bool × HbmReq) => !Pc_sparing p (hbmBank (at_ x)) (hbmRow (at_ x))
  let all := (hbmReady p false ++ hbmReady p true).filter free
  let way := (hbmReady p (drainNow p)).filter free
  let cand := if way.isEmpty then all else way
  let hits := cand.filter (fun x => p.rows.get (s.physRow n (at_ x)).1 == some (s.physRow n (at_ x)).2)
  match oldest (all.filter (fun x => decide (x.2.at_ + 2000 ≤ s.now))) with
  | some x => some (x, true)
  | none => ((oldest hits).or (oldest cand)).map (fun x => (x, false))

/-- Open rows that no queued request hits are closed (R426). -/
def closeRows (n : Nat) (s : State) : State :=
  let p := s.pc n
  let wanted := (p.reads ++ p.writes).map (fun r => s.physRow n (s.hbmAt r.addr).2)
  updPc n (fun p => { p with rows := ⟨p.rows.cells.filter (fun c => match c.2 with | some r => wanted.contains (c.1, r) | none => false)⟩ }) s

/-- A request is issued (R426 to R429). A write shorter than a burst reads the burst first, with the outcome given (R428). -/
def hbmIssue (n : Nat) (x : Bool × HbmReq) (rmw : BurstOutcome) (s : State) : State :=
  let l := (s.hbmAt x.2.addr).2
  let s := openRow n l s
  let s := updPc n (fun p =>
    if x.1 then { p with writes := p.writes.erase x.2, poisoned := if x.2.whole then p.poisoned.set (l / 32) false else p.poisoned }
    else { p with reads := p.reads.erase x.2 }) s
  let s := if x.1 && !x.2.whole then burstRead n l rmw s else s
  closeRows n (admitReqs n s)

/-- A delay write applies once the queue is empty, and what it held back enters the queue (R424). -/
def applyDly (n : Nat) (s : State) : State :=
  let p := s.pc n
  match p.dlyHeld with
  | none => s
  | some d =>
    if p.reads.isEmpty && p.writes.isEmpty then admitReqs n (updPc n (fun p => { p with dly := d, dlyHeld := none }) s)
    else s

/-- A burst of the pattern of a sweep (R435): written and read in the part of the pseudo-channel's share of the spare region that no spare
row and no relocated chunk can take, at a place of the model's free choice. -/
def patternBurst (n : Nat) (s : State) : State :=
  let d := draw s
  let l := spareChunk (8448 + Config.pick d.1 % 2048) + Config.pick d.1 % 64 * 32
  updPc n (fun p => { p with poisoned := p.poisoned.set (l / 32) false }) (openRow n l d.2)

/-- A sweep with LOAD runs the other pseudo-channels at full pattern bandwidth: their free slots carry its pattern (R435). -/
def State.patterned (s : State) (n : Nat) : Bool := s.hmc.test.busy && s.hmc.testSweep && s.hmc.testLoad && s.hmc.test.unit != n

/-- A command slot of a pseudo-channel in service (R425, R426, R435): a refresh that can be postponed no longer, else a request; a sweep
keeps the requests of its pseudo-channel waiting. -/
def hbmSlot (n : Nat) (rmw : BurstOutcome) (s : State) : State :=
  match s.refreshOverdue n with
  | some b => updPc n (fun p => { p with refreshed := p.refreshed.set b s.now }) s
  | none =>
    if s.swept n then patternBurst n s
    else
      let s := updPc n (fun p => { p with draining := drainNow p }) s
      match s.hbmPick n with
      | none => applyDly n (if s.patterned n then patternBurst n s else s)
      | some (x, promoted) => applyDly n (hbmIssue n x rmw (if promoted then count (Cnt.HMC_PROMOTED n) s else s))

/-- A command slot of a pseudo-channel (R426), after the requests that have come since the slot before. A retired pseudo-channel copies
its next chunk in it (R432). -/
def doHbmCommand (n : Nat) (reads : List Nat) (writes : List (Nat × Bool)) (rmw : BurstOutcome) (bad : List Nat) (s : State) : State :=
  if 95 < n then s else
    let here := fun (a : Nat) => (s.hbmAt a).1 == n
    let s := overdue n s
    let s := (reads.filter here).foldl (fun s a => hbmEnqueue false { addr := a, at_ := s.now } s) s
    let s := (writes.filter (fun a => here a.1)).foldl (fun s a => hbmEnqueue true { addr := a.1, at_ := s.now, whole := a.2 } s) s
    if (s.pc n).relocating then moveRequests n (copyChunk n bad s)
    else if (s.pc n).stopped then s
    else hbmSlot n rmw s

/-- HBM_COMMAND (R426). -/
def execHbmCommand (pc : Nat) (reads : List Nat) (writes : List (Nat × Bool)) (rmw : BurstOutcome) (bad : List Nat) (s : State) : Res :=
  coreCmd (doHbmCommand pc reads writes rmw bad) s

/-! ### Delays and tests (R424, R435) -/

/-- A host write to a delay register (R8, R10, R424): RWL. -/
def doHmcDlyWrite (n k : Nat) (value : Word32) (s : State) : State :=
  if 95 < n ∨ 3 < k then s
  else if s.md.mode ≠ .maintenance then ignoreWrite 0 (some .bar0) s
  else
    let p := s.pc n
    applyDly n (updPc n (fun q => { q with dlyHeld := some (datPut (p.dlyHeld.getD p.dly) (4 * k) 4 value.toNat) }) s)

/-- HMC_DLY_WRITE (R424). -/
def execHmcDlyWrite (pc : Nat) (k : Nat) (value : Word32) (s : State) : Res := hostCmd 14 (doHmcDlyWrite pc k value) s

/-- A write to HMC_TEST (R435, R437). -/
def hmcTestWrite (v : Nat) (s : State) : State :=
  let n := v % 128
  let sweep := bit v 26
  let maint := s.md.mode == .maintenance
  testWrite Reg.HMC_TEST (v &&& 0x0C0F007F) (bit v 28)
    (decide (n < 96) && (if sweep then maint && decide (bits v 19 16 ≤ 11) else maint || s.pcRetired n)) s.hmc.test.busy
    (fun s => { s with hmc := { s.hmc with
      test := { unit := n, busy := true, result := 0 }, testSweep := sweep, testParam := bits v 19 16, testLoad := bit v 27, testAt := s.now } })
    (fun s => { s with hmc := { s.hmc with test := { s.hmc.test with result := 3 } } }) s

/-- MARCH_TEST (R435): OP is 0. -/
def execMarchTest (value : Word32) (s : State) : Res := hostCmd 14 (hmcTestWrite (setBit value.toNat 26 false)) s

/-- SWEEP (R435): OP is 1. -/
def execSweepTest (value : Word32) (s : State) : Res := hostCmd 14 (hmcTestWrite (setBit value.toNat 26 true)) s

/-- The values that a sweep of a parameter steps through (R422, R435): a tap count of 8 bits, or the 7 bits of VREF. -/
def sweepSteps (param : Nat) : Nat := if param = 11 then 128 else 256

/-- A test or a sweep ends (R435, R436). A sweep runs for 100,000 ns in each step. A march test writes the whole pseudo-channel, so that no
burst of it stays poisoned (R429). -/
def doHmcTestDone (pass : Bool) (left right : Nat) (s : State) : State :=
  if s.hmc.test.busy then
    let r := if pass then 1 else 2
    let n := s.hmc.test.unit
    let s := if s.hmc.testSweep then runTo (s.hmc.testAt + sweepSteps s.hmc.testParam * 100000) s
      else updPc n (fun p => { p with poisoned := {} }) s
    raise 0xE 6 n (n + 256 * r + 1024 * b2n s.hmc.testSweep)
      { s with hmc := { s.hmc with test := { s.hmc.test with busy := false, result := r },
                                   sweep := if s.hmc.testSweep then left % 256 + 256 * (right % 256) else s.hmc.sweep } }
  else s

/-- HMC_TEST_DONE (R435). -/
def execHmcTestDone (pass : Bool) (left : Nat) (right : Nat) (s : State) : Res := coreCmd (doHmcTestDone pass left right) s

/-! ### Leak (R439) -/

/-- The leak period of a class in ns (R439). -/
def State.leakPeriod (s : State) (cls : Nat) : Nat := 2 ^ s.leakW cls * 1000

/-- A row count after a leak (R439, R443). -/
def leakRow (e : Option (Nat × Nat × Nat)) : Option (Nat × Nat × Nat) :=
  match e with
  | some (b, r, c) => if c ≤ 1 then none else some (b, r, c - 1)
  | none => none

/-- A leak boundary of a class (R439); a retired unit's count stays. -/
def doLeakBoundary (cls : Nat) (s : State) : State :=
  if 6 < cls ∨ cls = 4 then s else
    let p := s.leakPeriod cls
    let s := runTo ((s.tbe.leakSeen.get cls + 1) * p) s
    let s := { s with tbe := { s.tbe with leakSeen := s.tbe.leakSeen.set cls (s.now / p) } }
    if cls = 2 then
      { s with fltRow := ⟨s.fltRow.cells.filterMap (fun c => match leakRow c.2 with | some e => some (c.1, some e) | none => none)⟩ }
    else
      let us := ((s.flt.cells.map Prod.fst).filter (fun k => k / 8192 == cls)).eraseDups
      us.foldl (fun s k => { s with flt := s.flt.upd k (fun f => if f.retired then f else { f with count := f.count - 1 }) }) s

/-- LEAK_BOUNDARY (R439). -/
def execLeakBoundary (cls : Nat) (s : State) : Res := coreCmd (doLeakBoundary cls) s

end Sys2Proof.Machine
end

