-- ==== Sys2Proof/Machine/Rings.lean ====
section
/-! DEFINITION. Conduits, the courier, the host rings and the word windows (R489 to R501), and PERST_N (R58). -/
namespace Sys2Proof

/-- Entries of a ring (R498). -/
def Ring.size (r : Ring) : Nat := 2 ^ r.sizeLog2

/-- MGT_RINGc_CFG as it reads (R512). -/
def Ring.cfg (r : Ring) : Nat :=
  2 ^ 31 * b2n r.enable + 2 ^ 30 * b2n r.courier + 2 ^ 16 * r.sizeLog2 + 2 ^ 8 * r.irqThresh + r.irqUs

/-- A word whose data is uncorrectable is delivered as this one (R495). -/
def poisonWord : Word512 := 0x150

/-- Words that an inject packet takes by the LEN of its header (R490, R497). -/
def injectWords (w : Word512) : Nat := cdiv (32 + datU w 8 2) 62

/-- The words up to the next END leave the conduit; the first argument bounds them. -/
def Conduit.dropPacket : Nat → Conduit → Conduit
  | 0, c => c
  | n + 1, c =>
    if c.fill = 0 then c else if wordEnd c.front then c.pop else Conduit.dropPacket n c.pop

/-- The words of an unfinished packet are taken back from the write side (R58). -/
def Conduit.unwrite (c : Conduit) : Conduit :=
  let words := (List.range c.inPkt).foldl (fun m k => m.set ((c.wr + 2048 - 1 - k) % 1024) 0) c.words
  { c with words := words, wr := (c.wr + 2048 - c.inPkt) % 2048, inPkt := 0 }

end Sys2Proof
namespace Sys2Proof.Machine

def updCdt (c : Nat) (f : Conduit → Conduit) (s : State) : State := { s with cdt := s.cdt.upd c f }
def updRing (c : Nat) (f : Ring → Ring) (s : State) : State := { s with ring := s.ring.upd c f }

/-! ### Flush (R494) -/

/-- A conduit is flushed at a packet boundary of its producer (R494). -/
def flushCdt (c : Nat) (s : State) : State :=
  let n := (s.cdt.get c).fill
  let s := countA {} (Cnt.MGT_CDT_FLUSHED c) n (updCdt c (fun k => { k.emptied with flush := false, skipToStart := isInject c }) s)
  if isInject c then updSwc (fun w => { w with xfers := w.xfers.filter (fun x => x.queue != 10000 + c) }) s else s

/-- The producer of a conduit stands between packets: a flush that waits takes effect (R494). -/
def cdtBoundary (c : Nat) (s : State) : State :=
  let k := s.cdt.get c
  if k.flush && k.inPkt == 0 then flushCdt c s else s

/-- MGT_CDTc_CTL.FLUSH (R494). -/
def doCdtFlush (c : Nat) (s : State) : State :=
  if 40 < c then s else cdtBoundary c (updCdt c (fun k => { k with flush := true }) s)

/-- FLUSH (R494). -/
def execCdtFlush (c : Nat) (s : State) : Res := hostCmd 0 (doCdtFlush c) s

/-! ### The consumer's side (R493, R495) -/

/-- The word under the read pointer is delivered (R493, R495): as stored, corrected, or as a poison word, and then the rest of its
packet is discarded. -/
def deliverWord (c : Nat) (ue : WordCheck) (s : State) : Word512 × State :=
  let k := s.cdt.get c
  if k.fill = 0 then (idleWord, s) else
    let w := k.front
    match ue with
    | .ok => (w, updCdt c Conduit.pop s)
    | .corrected => (w, count (Cnt.MGT_CDT_CORR c) (updCdt c Conduit.pop s))
    | .uncorrectable => (poisonWord, count (Cnt.MGT_CDT_UNCORR c) (updCdt c (Conduit.dropPacket 1024) s))

/-! ### Rings (R498 to R500) -/

/-- The writeback of a ring (R499). -/
def ringWriteback (c : Nat) (s : State) : State :=
  let r := s.ring.get c
  emit (.memWrite r.wb.toNat (bvBytes 4 r.devIdx ++ bvBytes 4 r.ends)) s

/-- A ring's message, after n more entries (R500). -/
def ringEntries (c n : Nat) (s : State) : State :=
  let r := s.ring.get c
  if r.irqThresh ≠ 0 ∧ r.irqThresh ≤ r.since + n then
    msixRaise c (updRing c (fun r => { r with since := 0, firstAt := none }) s)
  else updRing c (fun r => { r with since := r.since + n, firstAt := some (r.firstAt.getD s.now) }) s

/-- The courier serves a ring. -/
def State.couriers (s : State) (c : Nat) : Bool := s.hostUp && (s.ring.get c).enable && (s.ring.get c).courier

/-- The courier copies the next word of an outgoing conduit into its ring (R499). -/
def doCourierCopy (c : Nat) (ue : WordCheck) (s : State) : State :=
  let r := s.ring.get c
  if 40 < c ∨ isInject c = true ∨ s.couriers c = false ∨ (s.cdt.get c).fill = 0 ∨ r.size ≤ (r.devIdx - r.hostIdx).toNat then s
  else
    let (w, s) := deliverWord c ue s
    let s := updCdt c (fun k => { k with partMoved := !wordEnd w }) s
    let s := emit (.memWrite (r.base.toNat + 64 * (r.devIdx.toNat % r.size)) (bvBytes 64 w)) s
    let s := updRing c (fun r => { r with devIdx := r.devIdx + 1, ends := r.ends + BitVec.ofNat 32 (b2n (wordEnd w)) }) s
    ringEntries c 1 (ringWriteback c s)

/-- COURIER_COPY (R499). -/
def execCourierCopy (c : Nat) (ue : WordCheck) (s : State) : Res := coreCmd (doCourierCopy c ue) s

/-- The courier takes entries of an inject ring, as far as credit allows (R492, R494, R499): how many it took, and the state. A
first word is taken when the credit covers its whole packet. -/
def injectEntries (c : Nat) : List Word512 → Nat → State → Nat × State
  | [], n, s => (n, s)
  | w :: rest, n, s =>
    let k := s.cdt.get c
    let step := fun (s : State) => updRing c (fun r => { r with devIdx := r.devIdx + 1 }) s
    if k.skipToStart && !wordStart w then injectEntries c rest (n + 1) (count Cnt.MGT_INJECT_BAD (step s))
    else if k.inPkt = 0 ∧ k.credit < injectWords w then (n, s)
    else if 1024 ≤ k.fill then (n, s)
    else
      let s := updCdt c (fun k => { k.push w with skipToStart := false }) s
      let s := updRing c (fun r => { r with ends := r.ends + BitVec.ofNat 32 (b2n (wordEnd w)) }) (step s)
      injectEntries c rest (n + 1) (if wordEnd w then cdtBoundary c s else s)

/-- The courier reads entries of an inject ring from host memory (R497, R499). -/
def doCourierInject (c : Nat) (words : List Word512) (s : State) : State :=
  let r := s.ring.get c
  if isInject c = false ∨ s.couriers c = false ∨ s.md.mode = .load ∨ s.md.mode = .lockdown then s
  else
    let (n, s) := injectEntries c (words.take (r.hostIdx - r.devIdx).toNat) 0 s
    if n = 0 then s else ringEntries c n (ringWriteback c s)

/-- COURIER_INJECT (R499). -/
def execCourierInject (c : Nat) (words : List Word512) (s : State) : Res := coreCmd (doCourierInject c words) s

/-- IRQ_US after the first entry since a ring's last message (R500). -/
def doMsixTimer (c : Nat) (s : State) : State :=
  let r := s.ring.get c
  match r.firstAt with
  | some t =>
    if r.irqUs = 0 ∨ s.pins.perstN = false then s
    else msixRaise c (updRing c (fun r => { r with since := 0, firstAt := none }) (runTo (t + r.irqUs * 1000) s))
  | none => s

/-- MSIX_TIMER (R500). -/
def execMsixTimer (c : Nat) (s : State) : Res := coreCmd (doMsixTimer c) s

/-- A write of MGT_RINGc_CFG by a master (R498, R512). -/
def writeRingCfg (m : Nat) (w : Option Window) (c : Nat) (v : Nat) (s : State) : State :=
  let r := s.ring.get c
  let size := bits v 20 16
  if (r.enable && bit v 31) || decide (size < 6) || decide (16 < size) then ignoreWrite m w s
  else
    updRing c (fun r =>
      let r := { r with enable := bit v 31, courier := bit v 30, sizeLog2 := size, irqThresh := bits v 15 8, irqUs := bits v 7 0 }
      if bit v 31 then { r with hostIdx := 0, devIdx := 0, ends := 0, since := 0, firstAt := none } else r) s

/-- ENABLE (R498). -/
def execRingEnable (c : Nat) (value : Word32) (s : State) : Res :=
  hostCmd 0 (fun s => if 40 < c then s else writeRingCfg 0 (some .bar0) c value.toNat s) s

/-- A write of MGT_RINGc_HOST_IDX by a master (R499). -/
def writeHostIdx (m : Nat) (w : Option Window) (c : Nat) (v : Word32) (s : State) : State :=
  let r := s.ring.get c
  let bad := if isInject c then decide (r.size < (v - r.devIdx).toNat) else decide (2 ^ 31 ≤ (r.devIdx - v).toNat)
  if bad then ignoreWrite m w s else updRing c (fun r => { r with hostIdx := v }) s

/-- HOST_IDX (R499). -/
def execHostIdx (c : Nat) (value : Word32) (s : State) : Res :=
  hostCmd 0 (fun s => if 40 < c then s else writeHostIdx 0 (some .bar0) c value s) s

/-! ### PERST_N (R58, R546) -/

/-- What a packet of which the courier had moved only part leaves in its conduit is discarded (R58). -/
def cutPartial (c : Nat) (s : State) : State :=
  let k := s.cdt.get c
  let r := s.ring.get c
  if isInject c then
    if r.enable && r.courier && k.inPkt != 0 then cdtBoundary c (count Cnt.MGT_INJECT_BAD (updCdt c Conduit.unwrite s)) else s
  else if k.partMoved then
    let k' := { Conduit.dropPacket 1024 k with partMoved := false }
    countA {} (Cnt.MGT_CDT_FLUSHED c) (k.fill - k'.fill) (updCdt c (fun _ => k') s)
  else s

/-- PERST_N falls (R58): the endpoint, the MSI-X table and pending bits, the courier and the ring registers are reset. -/
def doPerstAssert (s : State) : State :=
  let s := (List.range 41).foldl (fun s c => cutPartial c s) s
  { s with pins := { s.pins with perstN := false }, msix := {}, ring := {} }

/-- PERST_N_ASSERT (R58). -/
def execPerstNAssert (s : State) : Res := islandCmd doPerstAssert s

/-- PERST_N_RELEASE (R58). -/
def execPerstNRelease (s : State) : Res := islandCmd (fun s => { s with pins := { s.pins with perstN := true } }) s

/-! ### Word windows (R501) -/

/-- A conduit is served through its word window, not by the courier (R498). -/
def State.windowed (s : State) (c : Nat) : Bool := !(s.ring.get c).courier

/-- The read reaches the device: PCI Express for the host, the side-band port for its master. -/
def State.reads (s : State) (m : Master) : Bool := match m with | .host => s.hostUp | .sideband => s.live

/-- MGT_CDTc_PTR as it reads (R512). -/
def cdtPtr (k : Conduit) : Nat := k.wr * 65536 + k.rd

/-- A window writer takes the conduit's credit when it reads the pointers (R501). -/
def takeWindowCredit (c : Nat) (s : State) : State :=
  if isInject c && s.windowed c then updCdt c (fun k => { k with granted := 1024 - k.fill }) s else s

/-- A read of MGT_CDTc_PTR (R501). -/
def doCdtPtrRead (m : Master) (c : Nat) (s : State) : State :=
  if 40 < c ∨ s.reads m = false then s
  else emit (.readData (cdtPtr (s.cdt.get c))) (takeWindowCredit c s)

/-- CDT_PTR_READ (R501). -/
def execCdtPtrRead (m : Master) (c : Nat) (s : State) : Res := coreCmd (doCdtPtrRead m c) s

/-- A master's latch of a conduit's window (R501). -/
def windowLatch (m : Master) (k : Conduit) : Word512 := match m with | .host => k.latchHost | .sideband => k.latchSb

def setLatch (m : Master) (c : Nat) (w : Word512) (s : State) : State :=
  updCdt c (fun k => match m with | .host => { k with latchHost := w } | .sideband => { k with latchSb := w }) s

/-- The word that a read of a window takes (R501): a window that does not serve its conduit as a consumer gives the idle word. -/
def windowPop (c : Nat) (ue : WordCheck) (s : State) : Word512 × State :=
  if isInject c || !s.windowed c then (idleWord, s) else deliverWord c ue s

/-- Accesses that a window takes (R478, R501). -/
def windowAccess (off size : Nat) : Bool :=
  (size == 64 && off == 0) || ((size == 4 || size == 8) && off % size == 0 && decide (off + size ≤ 64))

/-- An access that completes with Unsupported Request (R478). -/
def badAccess (w : Window) (s : State) : State :=
  emit .unsupported (countA { master := some 0, win := some w } Cnt.MGT_PCIE_BAD_ACCESS 1 s)

/-- An access to a word window that R478 does not list: Unsupported Request for the host. -/
def windowBad (m : Master) (w : Window) (s : State) : State := match m with | .host => badAccess w s | .sideband => s

/-- A read of a conduit's word window (R501), which both BARs reach (R479). -/
def doWordWindowRead (m : Master) (win : Window) (c off size : Nat) (ue : WordCheck) (s : State) : State :=
  if 40 < c ∨ s.reads m = false then s
  else if !windowAccess off size then windowBad m win s
  else if size = 64 then
    let (w, s) := windowPop c ue s
    emit (.readData w.toNat) s
  else
    let s := if off = 0 then let (w, s) := windowPop c ue s; setLatch m c w s else s
    emit (.readData (datU (windowLatch m (s.cdt.get c)) off size)) s

/-- WORD_WINDOW_READ (R501). -/
def execWordWindowRead (m : Master) (win : Window) (c : Nat) (off : Nat) (size : Nat) (ue : WordCheck) (s : State) : Res :=
  coreCmd (doWordWindowRead m win c off size ue) s

/-- A master's number among those of R510, and the window that its writes carry: the host's come through a BAR. -/
def masterNum (m : Master) : Nat := match m with | .host => 0 | .sideband => 1
def masterWin (m : Master) (w : Window) : Option Window := match m with | .host => some w | .sideband => none

/-- Whether a master's register writes to a window take place in the mode (R504, R551). -/
def State.mayWrite (s : State) (m : Master) (win : Nat) : Bool :=
  match m with
  | .host => s.hostMayWrite win
  | .sideband => s.md.mode == .maintenance && s.hostMayWrite win

/-- A word is pushed through a window (R492, R497, R501). -/
def windowPush (m : Master) (win : Window) (c : Nat) (w : Word512) (s : State) : State :=
  let k := s.cdt.get c
  if s.md.mode = .load ∨ 1024 ≤ k.fill then ignoreWrite (masterNum m) (masterWin m win) s
  else
    let s := updCdt c (fun k => { k.push w with granted := k.granted - 1 }) s
    if wordEnd w then cdtBoundary c s else s

/-- A write of an inject conduit's word window (R501). -/
def doWordWindowWrite (m : Master) (win : Window) (c off size : Nat) (v : Word512) (s : State) : State :=
  if 40 < c ∨ s.reads m = false then s
  else if !windowAccess off size then windowBad m win s
  else if isInject c = false ∨ s.windowed c = false ∨ s.mayWrite m 0 = false then ignoreWrite (masterNum m) (masterWin m win) s
  else if size = 64 then windowPush m win c v s
  else
    let w := datPut (windowLatch m (s.cdt.get c)) off size v.toNat
    let s := setLatch m c w s
    if off + size = 64 then windowPush m win c w s else s

/-- WORD_WINDOW_WRITE (R501). -/
def execWordWindowWrite (m : Master) (win : Window) (c : Nat) (off : Nat) (size : Nat) (value : Word512) (s : State) : Res :=
  coreCmd (doWordWindowWrite m win c off size value) s

end Sys2Proof.Machine
end

