-- ==== Sys2Proof/Machine/RegRead.lean ====
section
/-! DEFINITION. What every register reads (R8, R9, R548, R549): stored fields as stored, and every field that the device drives
from the state it shows. -/
namespace Sys2Proof

/-- The index of an address in an array of registers. -/
def arrIdx (a base stride n : Nat) : Option Nat :=
  if base ≤ a ∧ (a - base) % stride = 0 ∧ (a - base) / stride < n then some ((a - base) / stride) else none

/-- The first value that an alternative gives. -/
def firstOf : List (Option Nat) → Option Nat
  | [] => none
  | some v :: _ => some v
  | none :: r => firstOf r

/-- A field placed at bit b. -/
def at_ (b v : Nat) : Nat := v * 2 ^ b

/-- Bits of a list of flags, the first at bit 0. -/
def maskOf (n : Nat) (p : Nat → Bool) : Nat := ((List.range n).map (fun i => 2 ^ i * b2n (p i))).sum

/-- Word k of a number, 32 bits each. -/
def word32 (v k : Nat) : Nat := bits v (32 * k + 31) (32 * k)

end Sys2Proof
namespace Sys2Proof.Machine

/-- Windows that return content (R548). -/
def State.windowsOpen (s : State) : Bool :=
  !(s.md.mode == .load || s.md.mode == .lockdown || (s.md.mode == .maintenance && s.md.loadFailed))

/-- RWL fields are writable by the masters (R543). -/
def State.rwlOpen (s : State) : Bool := s.md.mode == .maintenance && !s.md.loadFailed

/-- The values of RWL fields that a class fixes (R438, R455). -/
def fltCfg (s : State) (k : Nat) : Nat := s.thresh k + at_ 16 (s.leakW k)

/-- MGT_MODE (R92). -/
def State.modeReg (s : State) : Nat := s.md.mode.code + at_ 8 s.md.target + at_ 11 (b2n s.md.drained) + at_ 16 s.md.cause

/-- Word n of log slot i (R453, R455). -/
def State.logWord (s : State) (i n : Nat) : Nat := word32 (leVal (s.isl.log.get i).bytes) n

/-- A register of an entry command port n (R512). -/
def ecpRead (p : EcpPort) (off : Nat) : Nat :=
  if off = 0 then p.op
  else if off = 4 then p.tbl
  else if off = 8 then p.idx
  else if off = 0xC then b2n p.busy + 2 * b2n p.done + 4 * b2n p.aborted + at_ 8 p.result
  else if off = 0x10 then p.cnt
  else if 0x80 ≤ off then datU p.dat (off - 0x80) 4
  else 0

/-- A register of ring and conduit c (R512). -/
def ringRead (s : State) (c off : Nat) : Nat :=
  let r := s.ring.get c
  let k := s.cdt.get c
  if off = 0 then word32 r.base.toNat 0
  else if off = 4 then word32 r.base.toNat 1
  else if off = 8 then word32 r.wb.toNat 0
  else if off = 0xC then word32 r.wb.toNat 1
  else if off = 0x10 then r.cfg
  else if off = 0x14 then r.hostIdx.toNat
  else if off = 0x18 then r.devIdx.toNat
  else if off = 0x1C then cdtPtr k
  else if off = 0x20 then k.pkts
  else if off = 0x24 then b2n k.flush
  else 0

/-- The MSI-X table and pending bits (R478, R500). -/
def msixRead (s : State) (a : Nat) : Option Nat :=
  if 0x3F0000 ≤ a ∧ a < 0x3F0400 then
    let e := s.msix.get ((a - 0x3F0000) / 16)
    some (match (a % 16) / 4 with | 0 => e.addrLo.toNat | 1 => e.addrHi.toNat | 2 => e.data.toNat | _ => b2n (!e.unmasked))
  else if 0x3F8000 ≤ a ∧ a < 0x3F8008 then
    some (maskOf 32 (fun i => (s.msix.get (8 * (a - 0x3F8000) + i)).pend))
  else none

/-- The driven registers of MGT. -/
def mgtRead (s : State) (a : Nat) : Option Nat :=
  if a = Reg.MGT_PART then some 0x32160100
  else if a = Reg.MGT_BOARD then
    some (s.pins.bpos + at_ 3 s.load.devId + at_ 20 (datU s.topo 2 1 % 16) + at_ 24 (datU s.topo 3 1))
  else if a = Reg.MGT_WIN_OPEN then some ((if s.windowsOpen then 0xFFFF else 3) + at_ 16 (b2n s.rwlOpen))
  else if a = Reg.MGT_MODE then some s.modeReg
  else if a = Reg.MGT_MODE_CTL then some (s.reg Reg.MGT_MODE_CTL + at_ 16 (b2n s.md.refused))
  else if a = Reg.MGT_TEMP then some s.temp.toNat
  else if a = Reg.MGT_ELOG_TOTAL then some s.isl.total.toNat
  else if a = Reg.MGT_CNT_STAMP_HOST_LO then some (word32 s.hostStamp.toNat 0)
  else if a = Reg.MGT_CNT_STAMP_HOST_HI then some (word32 s.hostStamp.toNat 1)
  else if a = Reg.MGT_CNT_STAMP_SB_LO then some (word32 s.sbStamp.toNat 0)
  else if a = Reg.MGT_CNT_STAMP_SB_HI then some (word32 s.sbStamp.toNat 1)
  else firstOf
    [(arrIdx a (Reg.MGT_FLT_CFG 0) 4 8).map (fltCfg s),
     (arrIdx a (Reg.MGT_ELOG_SLOT 0 0) 4 4096).map (fun k => s.logWord (k / 4) (k % 4)),
     (arrIdx a (Reg.MGT_ECP_CTL 0) 4 512).map (fun k => ecpRead (s.ecp.get (k / 64)) (4 * (k % 64))),
     (arrIdx a (Reg.MGT_RING_BASE_LO 0) 4 656).map (fun k => ringRead s (k / 16) (4 * (k % 16))),
     msixRead s a]

/-- SEC_FUSE_STATE (R476). -/
def State.fuseState (s : State) : Nat :=
  s.bootsUsed + at_ 21 (b2n (s.otp.rootHash != 0)) + at_ 22 (b2n s.otp.rootLock) + at_ 23 (b2n s.otp.jtagDisable) +
    at_ 24 (b2n s.jtagOpen) + at_ 25 (b2n s.otp.kill) + at_ 26 (b2n s.isl.scorchPending)

/-- SEC_LOAD_STATUS (R93). -/
def State.loadStatus (s : State) : Nat := b2n s.load.ok + at_ 4 s.load.step + at_ 8 s.load.code + at_ 24 s.load.sect

/-- The driven registers of SEC. -/
def secRead (s : State) (a : Nat) : Option Nat :=
  if a = Reg.SEC_FUSE_STATE then some s.fuseState
  else if a = Reg.SEC_SERIAL_LO then some (word32 s.otp.serial.toNat 0)
  else if a = Reg.SEC_SERIAL_HI then some (word32 s.otp.serial.toNat 1)
  else if a = Reg.SEC_IDENT then some (s.sec.sigs + at_ 30 s.sec.ident.code)
  else if a = Reg.SEC_LOAD_STATUS then some s.loadStatus
  else if a = Reg.SEC_LOAD_DETAIL then some (s.load.detail % 2 ^ 32)
  else if a = Reg.SEC_IMAGE_INFO then some (s.load.secVersion + at_ 8 s.load.flags + at_ 16 s.load.devId)
  else if a = Reg.SEC_IMAGE_BUILD_LO then some (word32 s.load.buildId 0)
  else if a = Reg.SEC_IMAGE_BUILD_HI then some (word32 s.load.buildId 1)
  else if a = Reg.SEC_FUSED_VERSION then some s.fusedVersion
  else if a = Reg.SEC_ALARM_STATUS then some s.sec.status.toNat
  else if a = Reg.SEC_ALARM_LATCH then some s.isl.latch.toNat
  else (arrIdx a (Reg.SEC_ALARM_GRADE 0) 4 4).map (fun k =>
    s.grade (4 * k) + at_ 8 (s.grade (4 * k + 1)) + at_ 16 (s.grade (4 * k + 2)) + at_ 24 (s.grade (4 * k + 3)))

/-- The driven registers of TBE (R55). -/
def tbeRead (s : State) (a : Nat) : Option Nat :=
  let t := s.tbe
  if a = Reg.TBE_STATUS then
    some (t.state.code + at_ 2 (b2n (t.off != 0)) + at_ 8 (b2n t.refclkLost) + at_ 9 (b2n t.traceable) + at_ 10 (b2n t.leap) +
      at_ 11 (b2n t.realignRefused))
  else if a = Reg.TBE_SNAP_NT_NS then some (t.snapNt % 1000000000)
  else if a = Reg.TBE_SNAP_NT_SEC_LO then some (word32 (t.snapNt / 1000000000) 0)
  else if a = Reg.TBE_SNAP_NT_SEC_HI then some (bits (t.snapNt / 1000000000) 47 32)
  else if a = Reg.TBE_SNAP_ST_LO then some (word32 t.snapSt 0)
  else if a = Reg.TBE_SNAP_ST_HI then some (word32 t.snapSt 1)
  else if a = Reg.TBE_SNAP_EPOCH then some (t.snapE % 2 ^ 32)
  else if a = Reg.TBE_OFFSET_LO then some (word32 (wrap 64 t.off) 0)
  else if a = Reg.TBE_OFFSET_HI then some (word32 (wrap 64 t.off) 1)
  else if a = Reg.TBE_PHASE_ERR then some (wrap 32 t.phaseErr)
  else (arrIdx a (Reg.TBE_LAST_TOD 0) 4 4).map (fun k => word32 t.lastTod.toNat k)

/-- The driven registers of LPC, PRS and CLS (R118, R145). -/
def lineRead (s : State) (a : Nat) : Option Nat :=
  let c := s.cls
  if a = Reg.LPC_PORT_STATUS then some (maskOf 32 (fun p => (s.port.get p).up))
  else if a = Reg.LPC_PORT_HOLD then some (maskOf 32 (fun p => (s.port.get p).holding))
  else if a = Reg.PRS_GRAPH_INFO then some s.graphLen
  else if a = Reg.CLS_SET_STATUS then
    some (c.active + at_ 1 (b2n c.draining) + at_ 2 (b2n c.armed.isSome) + at_ 3 (b2n c.copyBusy) + at_ 4 (b2n c.copyRefused) +
      at_ 8 c.lastArm + at_ 16 c.lastDisarm)
  else if a = Reg.CLS_CTL then some (at_ 2 (b2n c.copyBusy))
  else if a = Reg.CLS_SLOT_EPOCH 0 then some c.slotEpoch0
  else if a = Reg.CLS_SLOT_EPOCH 1 then some c.slotEpoch1
  else none

/-- The status fields of a self-test register: BUSY at bit 9, RESULT at bits 17:16. -/
def testBits (busy : Bool) (result : Nat) : Nat := at_ 9 (b2n busy) + at_ 16 result

/-- The driven registers of ASA and FWD (R173, R200). -/
def tableRead (s : State) (a : Nat) : Option Nat :=
  let r := s.asa.run
  if a = Reg.ASA_BANK_RETIRED then some s.asa.retired
  else if a = Reg.ASA_RUNNER_STATUS then
    some (r.state.code + at_ 4 (runnerMaster r.members) + at_ 16 r.members + at_ 24 r.gen)
  else if a = Reg.ASA_TEST then some (s.reg Reg.ASA_TEST + testBits s.asa.testBusy s.asa.testResult)
  else if a = Reg.FWD_LPM_STATUS4 then some s.fwd.b4.length
  else if a = Reg.FWD_LPM_STATUS6 then some s.fwd.b6.length
  else if a = Reg.FWD_LPM_ROUTES4 then some (s.routes false).length
  else if a = Reg.FWD_LPM_ROUTES6 then some (s.routes true).length
  else if a = Reg.FWD_L2_COUNT then some s.fwd.l2Valid
  else none

/-- FSE_NAT_FREEi (R282). -/
def State.natFree (s : State) (i : Nat) : Nat :=
  s.natCount i * s.bpa i - ((s.svc.part.get i).blocks.cells.filter (fun c => c.2.allocated)).length

/-- The driven registers of FSE (R238, R282). -/
def fseRead (s : State) (a : Nat) : Option Nat :=
  if a = Reg.FSE_LB_LATCH then some s.svc.latch.toNat
  else if a = Reg.FSE_TEL_CTL then some (b2n s.svc.resend)
  else firstOf
    [(arrIdx a (Reg.FSE_PART_USED 0) 4 4).map (fun i => (s.part.get i).used),
     (arrIdx a (Reg.FSE_PART_PINNED 0) 4 4).map (fun i => (s.part.get i).pinned),
     (arrIdx a (Reg.FSE_SWEEP_POS 0) 4 4).map (fun i => s.cloveBase i + (s.part.get i).sweep),
     (arrIdx a (Reg.FSE_LEARN_SEQ 0) 4 4).map (fun i => (s.part.get i).learnSeq.toNat),
     (arrIdx a (Reg.FSE_NAT_CFG 0) 4 4).map (fun i => s.reg a + at_ 16 (s.natBase i % 65536)),
     (arrIdx a (Reg.FSE_NAT_FREE 0) 4 4).map s.natFree]

/-- Threads of a cluster that hold a run (R321). -/
def State.threadsBusy (s : State) (c : Nat) : Nat :=
  (s.eng.th.cells.filter (fun t => t.1 / 1024 == c && t.2.wait != .free)).length

/-- The driven registers of ENG (R321). -/
def engRead (s : State) (a : Nat) : Option Nat :=
  if a = Reg.ENG_PREEMPT then some (s.reg a + at_ 28 s.eng.preResult)
  else if a = Reg.ENG_RETIRED_LO then some (word32 s.eng.retired.toNat 0)
  else if a = Reg.ENG_RETIRED_HI then some (word32 s.eng.retired.toNat 1)
  else if a = Reg.ENG_TEST then some (s.reg a + testBits s.eng.test.busy s.eng.test.result)
  else firstOf
    [(arrIdx a (Reg.ENG_THREADS_BUSY 0) 4 4).map s.threadsBusy,
     (arrIdx a (Reg.ENG_SNAP 0) 4 40).map (fun n => word32 s.eng.snap.toNat n)]

/-- BPM_RECLAIM_STATUS (R346): the oldest sweep runs. -/
def State.reclaimStatus (s : State) : Nat :=
  match s.buf.sweeps with
  | [] => 0
  | w :: r => w.client + 16 + at_ 8 (min 15 r.length)

/-- The driven registers of BPM and PBF (R346). -/
def bufRead (s : State) (a : Nat) : Option Nat :=
  if a = Reg.BPM_LAST_REJECT then some s.buf.lastReject.toNat
  else if a = Reg.BPM_LAST_REJECT_ADDR_LO then some s.buf.lastRejLo.toNat
  else if a = Reg.BPM_LAST_REJECT_ADDR_HI then some s.buf.lastRejHi.toNat
  else if a = Reg.BPM_RECLAIM_STATUS then some s.reclaimStatus
  else if a = Reg.PBF_CELLS then some s.freeCells
  else firstOf
    [(arrIdx a (Reg.BPM_POOL_BASE 0) 4 4).map (fun k => s.poolBase k / 64 % 2 ^ 32),
     (arrIdx a (Reg.BPM_POOL_FREE 0) 4 4).map s.poolFree,
     (arrIdx a (Reg.BPM_POOL_WD 0) 4 4).map (fun k => (s.buf.pools.get k).wd),
     (arrIdx a (Reg.PBF_USED 0 0) 4 96).map (fun k => s.pbfUsed (k / 8) (k % 8))]

/-- The driven registers of TMS and SWC (R378, R396). -/
def fabRead (s : State) (a : Nat) : Option Nat :=
  let lanes := fun (k : Nat) (p : Lane → Bool) => word32 (maskOf 48 (fun l => p (s.lane l))) k
  if a = Reg.TMS_WHEEL_FINE then some (s.tms.wheel.filter (fun e => !e.coarse)).length
  else if a = Reg.TMS_WHEEL_COARSE then some (s.tms.wheel.filter (fun e => e.coarse)).length
  else if a = Reg.TMS_PORT_BLOCKED then some (maskOf 32 (fun p => !(s.port.get p).up || (s.port.get p).holding))
  else if a = Reg.SWC_ID then some (s.load.devId + at_ 16 s.swc.inc)
  else firstOf
    [(arrIdx a (Reg.SWC_LANE_UP 0) 4 2).map (fun k => lanes k (fun l => l.up)),
     (arrIdx a (Reg.SWC_LANE_RETIRED 0) 4 2).map (fun k => lanes k (fun l => l.retired)),
     (arrIdx a (Reg.SWC_LANE_MISWIRED 0) 4 2).map (fun k => lanes k (fun l => l.miswired))]

/-- The role of a lane, or 3 for none, in XPR_STATUS (R419). -/
def State.roleField (s : State) (r : Nat) : Nat := (s.roleLane r).getD 3

/-- XPR_STATUS (R419). -/
def State.xprStatus (s : State) : Nat :=
  s.podState + at_ 4 (s.roleField 0) + at_ 8 (s.roleField 1) + at_ 12 (s.roleField 2) +
    at_ 16 (maskOf 3 (fun l => (s.podLane l).retired)) + at_ 24 s.pod.gen

/-- The driven registers of HMC and XPR (R419, R437). -/
def hbmRead (s : State) (a : Nat) : Option Nat :=
  if a = Reg.HMC_TEST then some (s.reg a + at_ 29 (b2n s.hmc.test.busy) + at_ 30 s.hmc.test.result)
  else if a = Reg.HMC_SWEEP_RESULT then some s.hmc.sweep
  else if a = Reg.XPR_STATUS then some s.xprStatus
  else if a = Reg.XPR_CTL then some (s.pod.forceOut.toNat + at_ 8 (b2n s.pod.forceRefused))
  else if a = Reg.XPR_TEST then some (s.reg a + testBits s.pod.test.busy s.pod.test.result)
  else if a = Reg.XPR_LANE_HEALTH then
    some ((s.podLane 0).health + at_ 8 (s.podLane 1).health + at_ 16 (s.podLane 2).health)
  else firstOf
    [(arrIdx a (Reg.HMC_RETIRED 0) 4 3).map (fun k => word32 (maskOf 96 s.pcRetired) k),
     (arrIdx a (Reg.HMC_DLY 0 0) 4 384).map (fun k => datU ((s.pc (k / 4)).dlyHeld.getD (s.pc (k / 4)).dly) (4 * (k % 4)) 4)]

/-- What a register that is no counter reads, whatever the mode. -/
def State.regValue (s : State) (a : Nat) : Nat :=
  (match window a with
   | 0 => mgtRead s a
   | 1 => secRead s a
   | 2 => tbeRead s a
   | 3 => lineRead s a
   | 4 => lineRead s a
   | 5 => lineRead s a
   | 6 => tableRead s a
   | 7 => tableRead s a
   | 8 => fseRead s a
   | 9 => engRead s a
   | 10 => bufRead s a
   | 11 => bufRead s a
   | 12 => fabRead s a
   | 13 => fabRead s a
   | _ => hbmRead s a).getD (((s.back.get a).map BitVec.toNat).getD (s.reg a))

/-- A window returns content (R59, R90, R91). -/
def State.readable (s : State) (a : Nat) : Bool := decide (window a ≤ 1) || s.windowsOpen

/-- What a read of one register returns (R8, R59, R90, R91, R541). -/
def State.readReg (s : State) (a : Nat) : Nat := if s.readable a && decide (a < 0x4000000) then s.regValue a else 0

/-! ### Counters (R508, R509) -/

/-- The low word's address of a counter of which an address is a word. -/
def counterOf (a : Nat) : Nat := a / 8 * 8

def shadowOf (m : Master) (s : State) : CntShadow := match m with | .host => s.hostShadow | .sideband => s.sbShadow

/-- A counter read of a master is stamped (R509), and the master's shadow set. -/
def stampRead (m : Master) (sh : CntShadow) (s : State) : State :=
  match m with
  | .host => { s with hostStamp := BitVec.ofNat 64 s.now, hostShadow := sh }
  | .sideband => { s with sbStamp := BitVec.ofNat 64 s.now, sbShadow := sh }

/-- The port of which a counter is one (R117). -/
def cntPort (a : Nat) : Option Nat :=
  if Cnt.LPC_RX_FCS_ERR 0 ≤ a ∧ a < Cnt.LPC_RX_FCS_ERR 32 then some ((a - Cnt.LPC_RX_FCS_ERR 0) / 0x100) else none

/-- The content of a counter as reads see it: zero for a port that its octet's mode does not use (R95). -/
def State.cntValue (s : State) (c : Nat) : Word64 :=
  match cntPort c with
  | some p => if s.portExists p then s.cnt.get c else 0
  | none => s.cnt.get c

/-- One word of a counter is read (R508). -/
def cntWord (m : Master) (a : Nat) (s : State) : Nat × State :=
  let c := counterOf a
  let v := (s.cntValue c).toNat
  if a % 8 = 0 then (word32 v 0, stampRead m { last := some c, hi := BitVec.ofNat 32 (word32 v 1) } s)
  else
    let sh := shadowOf m s
    (if sh.last = some c then sh.hi.toNat else word32 v 1, stampRead m {} s)

/-- A read of a counter by a master (R508, R509): its value and the state. -/
def readCounter (m : Master) (a : Nat) (wide : Bool) (s : State) : Nat × State :=
  if !s.readable a then (0, s)
  else if wide then ((s.cntValue (counterOf a)).toNat, stampRead m {} s)
  else cntWord m a s

/-- COUNTER_READ (R508, R509): a read of 8 bytes takes the whole counter, one of 4 bytes a word of it. A host read that is not aligned
is no access of R478; through BAR4, which reaches no counter, it reads zero (R479). -/
def doCounterRead (m : Master) (win : Window) (a : Nat) (wide : Bool) (s : State) : State :=
  if s.reads m = false then s
  else if m = .host ∧ a % (if wide then 8 else 4) ≠ 0 then badAccess win s
  else if isCounter (counterOf a) = false ∨ a % (if wide then 8 else 4) ≠ 0 then s
  else if m = .host ∧ win = .bar4 then (if a < 0x10000 then emit (.readData 0) s else s)
  else
    let r := readCounter m a wide s
    emit (.readData r.1) r.2

/-- COUNTER_READ (R508). -/
def execCounterRead (m : Master) (win : Window) (addr : Nat) (wide : Bool) (s : State) : Res := coreCmd (doCounterRead m win addr wide) s

end Sys2Proof.Machine
end

