-- ==== Sys2Proof/Machine/Image.lean ====
section
/-! DEFINITION. The board directory and the Flaeri image as bytes (R65 to R75), and the checks of steps 2, 3, 5 and 8 of R77. -/
namespace Sys2Proof

/-! ### Bytes -/

/-- The bytes [off, off + n) of a blob. -/
def Blob.bytes (b : Blob) (off n : Nat) : List Byte :=
  ((List.range n).foldl (fun (a : List (Nat × Byte) × List Byte) k =>
    match a.1 with
    | [] => ([], 0 :: a.2)
    | c :: r => if c.1 = off + k then (r, c.2 :: a.2) else (c :: r, 0 :: a.2)) (b.cells.pairsIn off (off + n), [])).2.reverse

/-- The little-endian field of `size` bytes at an offset. -/
def Blob.u (b : Blob) (off size : Nat) : Nat := leVal (b.bytes off size)

/-- Bytes cut into records of k bytes; the first argument is their number. -/
def records (k : Nat) : Nat → List Byte → List (List Byte)
  | 0, _ => []
  | n + 1, bs => bs.take k :: records k n (bs.drop k)

/-- Every byte of a range is zero. -/
def zeroAt (bs : List Byte) (off n : Nat) : Bool := (slice bs off n).all (fun b => b == 0)

/-! ### Header and section table (R67, R68) -/

/-- The header's 32 bytes before HSS_PUBKEY as a record. -/
def imgHeader (b : Blob) : BitVec 256 := bvOfBytes 256 (b.bytes 0 32)

def sectionCount (h : BitVec 256) : Nat := datU h 7 1
def sigOffset (h : BitVec 256) : Nat := datU h 8 4
def imgSecVersion (h : BitVec 256) : Nat := datU h 12 1
def imgFlags (h : BitVec 256) : Nat := datU h 13 1
def imgDeviceId (h : BitVec 256) : Nat := datU h 14 2
def imgBuildId (h : BitVec 256) : Nat := datU h 16 8

/-- An entry of the section table (R68). -/
structure Sect where
  type : Nat := 0
  flags : Nat := 0
  off : Nat := 0
  len : Nat := 0
  crc : Nat := 0
deriving DecidableEq, Repr, Inhabited

/-- The section table (R68). -/
def sections (b : Blob) : List Sect :=
  let n := sectionCount (imgHeader b)
  (records 16 n (b.bytes 256 (16 * n))).map (fun r =>
    { type := fieldU r 0 2, flags := fieldU r 2 2, off := fieldU r 4 4, len := fieldU r 8 4, crc := fieldU r 12 4 })

/-- Sections lie after the table, ascending, without overlap, up to SIG_OFFSET (R68). -/
def geometryOk (fin : Nat) : Nat → List Sect → Bool
  | _, [] => true
  | from_, x :: r => x.flags == 0 && x.off % 64 == 0 && decide (from_ ≤ x.off) && decide (x.off + x.len ≤ fin) &&
      geometryOk fin (x.off + x.len) r

/-- The header of an image for a position, with its section table and the room for its signature (R67, R68, R76). The key's types
are in network order, as RFC 8554 has them (PRESUMED). -/
def formatOk (b : Blob) (bpos length : Nat) : Bool :=
  let h := imgHeader b
  let bs := b.bytes 0 256
  datU h 0 4 == 0x45414C46 && datU h 4 2 == 1 && datU h 6 1 == bpos && 8 ≤ sectionCount h && sectionCount h ≤ 32 &&
    sigOffset h % 64 == 0 && sigOffset h ≤ 100663296 && imgSecVersion h ≤ 64 && imgFlags h < 8 && imgDeviceId h < 512 &&
    zeroAt bs 24 8 && zeroAt bs 92 164 && beVal (slice bs 32 4) == 2 && beVal (slice bs 36 4) == 7 && beVal (slice bs 40 4) == 4 &&
    geometryOk (sigOffset h) (256 + 16 * sectionCount h) (sections b) && decide (sigOffset h + 3124 ≤ length)

/-- The signature verifies over the signed message under the header's public key (R76, R77 step 6). -/
def imageSigned (b : Blob) (sig : List Byte) : Bool := hssOk (b.bytes 32 60) (b.bytes 0 (sigOffset (imgHeader b))) sig

/-- A section's bytes. -/
def Sect.bytes (x : Sect) (b : Blob) : List Byte := b.bytes x.off x.len

/-- The first section whose CRC is wrong, with its place in the table (R77 step 5). -/
def badCrc (b : Blob) : Option (Sect × Nat) := (sections b).zipIdx.find? (fun x => crc32 (x.1.bytes b) != x.1.crc)

/-- The first section of a type, with its place in the table. -/
def findSect (b : Blob) (t : Nat) : Option (Sect × Nat) := (sections b).zipIdx.find? (fun x => x.1.type == t)

/-- The bytes of the section of a type; none of it where the image has none. -/
def sectBytes (b : Blob) (t : Nat) : List Byte := match findSect b t with | some x => x.1.bytes b | none => []
/-- The place in the table of the section of a type, 0xFF where the image has none (R93). -/
def sectIdx (b : Blob) (t : Nat) : Nat := match findSect b t with | some x => x.2 | none => 0xFF

/-! ### Section types (R69) -/

/-- The length rule of a section type; unknown types have none (R69). -/
def sectLenOk (t n : Nat) : Bool :=
  match t with
  | 1 => n % 8 == 0 && n ≤ 524288
  | 2 => n == 256
  | 3 => n == 128
  | 4 => n == 262144
  | 5 => n == 512
  | 6 => n % 256 == 0 && 256 ≤ n && n ≤ 65536
  | 7 => n == 64
  | 8 => n == 64
  | 9 => n == 1536
  | 10 => n % 136 == 0
  | _ => false

/-- Sections that break R69, with the place in the table, 0xFF for a required section that is missing. -/
def typeFaults (b : Blob) : List Nat :=
  let ss := sections b
  let factory := bit (imgFlags (imgHeader b)) 1
  let has := fun t => ss.any (fun x => x.type == t)
  (ss.zipIdx.filter (fun x => !sectLenOk x.1.type x.1.len || (ss.take x.2).any (fun y => y.type == x.1.type) ||
    (x.1.type == 9 && factory))).map Prod.snd ++
  (if (List.range 8).all (fun k => has (k + 1)) && (factory || has 9) then [] else [0xFF])

/-! ### LREG (R70) -/

/-- The pairs of LREG. -/
def lregPairs (b : Blob) : List (Nat × Nat) :=
  let bs := sectBytes b 1
  (records 8 (bs.length / 8) bs).map (fun r => (fieldU r 0 4, fieldU r 4 4))

/-- Bits of a register that LREG may set; the fixed fault classes take none (R70, R438, R455). -/
def lregBits (g : RegGroup) (a : Nat) : Nat :=
  if a = Reg.MGT_FLT_CFG 4 ∨ a = Reg.MGT_FLT_CFG 7 then 0 else lregMask g.fields

/-- A pair names a register, sets only what LREG may set, keeps the ranges, and names start nodes that exist (R70, R111, R119).
The range of BLOCK_LOG2 is judged by `natFault` (R244). -/
def pairOk (nodes : Nat) (p : Nat × Nat) : Bool :=
  match regAt p.1 with
  | none => false
  | some g =>
    p.1 % 4 == 0 && (p.2 &&& lregBits g p.1) == p.2 &&
      (lregBits g p.1 == 0 || (arrIdx p.1 (Reg.FSE_NAT_CFG 0) 4 4).isSome || rangesOk p.1 p.2 (fun _ _ => true)) &&
      (!(decide (Reg.PRS_PORT_START 0 ≤ p.1) && decide (p.1 < Reg.PRS_PORT_START 8)) ||
        (List.range 4).all (fun j => decide (bits p.2 (8 * j + 7) (8 * j) < nodes)))

/-- Register contents as LREG leaves them; a register that it does not name holds zero (R70). -/
def lregFinal (b : Blob) : SMap Word32 := (lregPairs b).foldl (fun m p => m.set p.1 (BitVec.ofNat 32 p.2)) {}

/-- A value as LREG leaves it. -/
def finalReg (m : SMap Word32) (a : Nat) : Nat := (m.get a).toNat

/-- The search profiles keep R151. -/
def profilesOk (m : SMap Word32) (runner : Bool) : Bool :=
  let pair := finalReg m Reg.ASA_CFG
  let paired := ((List.range 16).filter (fun b => bit pair b)).foldl (fun x b => x ||| (3 <<< (2 * b))) 0
  let pwr := finalReg m Reg.ASA_BANK_PWR
  (List.range 32).all (fun k =>
    let mask := finalReg m (Reg.ASA_PROFILE_BANK k)
    let cfg := finalReg m (Reg.ASA_PROFILE_CFG k)
    (mask &&& pwr) == mask &&
      (if bit cfg 0 then (mask &&& paired) == mask && (List.range 16).all (fun b => bit mask (2 * b) == bit mask (2 * b + 1))
       else (mask &&& paired) == 0) &&
      (!bit cfg 2 || (!bit cfg 0 && bit cfg 1 && mask == finalReg m Reg.ASA_RUNNER_BANKS && runner)))

/-- The forwarding profiles and direct-index tables keep R181, R185 and R200. -/
def fwdOk (m : SMap Word32) : Bool :=
  let cfg := fun t => finalReg m (Reg.FWD_DIRECT_CFG (t - 1))
  let kind := fun k n => bits (finalReg m (Reg.FWD_STEP_LO k n)) 31 28
  let hbm := fun k n => decide (9 ≤ kind k n) || (decide (1 ≤ kind k n) && bit (cfg (kind k n)) 31)
  (List.range 16).all (fun k =>
    decide ((((List.range 4).takeWhile (fun n => kind k n != 0)).filter (fun n => hbm k n)).length ≤ 1) &&
      (List.range 4).all (fun n =>
        let w := bits (finalReg m (Reg.FWD_STEP_HI k n)) 28 24
        if 1 ≤ kind k n ∧ kind k n ≤ 8 then decide (1 ≤ w) else w == 0)) &&
    decide ((((List.range 8).filter (fun t => !bit (cfg (t + 1)) 31)).map (fun t => bits (cfg (t + 1)) 20 0)).sum ≤ 196608)

/-- Every class with a threshold of its own has one (R441). -/
def threshOk (m : SMap Word32) : Bool :=
  [0, 1, 2, 3, 5, 6].all (fun k => decide (1 ≤ bits (finalReg m (Reg.MGT_FLT_CFG k)) 15 0))

/-- The switched-off domains keep R528. -/
def powerOk (m : SMap Word32) (topo : List Byte) : Bool :=
  let off0 := finalReg m Reg.MGT_PWR_OFF0
  let off1 := finalReg m Reg.MGT_PWR_OFF1
  let admin := finalReg m Reg.LPC_PORT_ADMIN
  let mode := fun i => bits (finalReg m (Reg.LPC_OCTET_CFG i)) 1 0
  let used := fun p => (p % 8) % 2 ^ mode (p / 8) == 0
  (List.range 8).all (fun h => !bit off0 h || (List.range 32).all (fun p =>
      !(bit admin p && used p && decide (p < 4 * h + 4) && decide (4 * h < p + 2 ^ mode (p / 8))))) &&
    (List.range 4).all (fun i => mode i != 3 || bit off0 (2 * i) == bit off0 (2 * i + 1)) &&
    (List.range 48).all (fun l => !bit off0 (8 + l / 4) || fieldU topo (64 + 4 * l) 2 == 0x200) &&
    (List.range 4).all (fun c => bits off1 (4 * c + 3) (4 * c) != 15) &&
    (!bit off0 21 || fieldU topo 3 1 == 0xFF)

/-- DRAIN_US, BUDGET and RH_THRESH, of which Load rejects every other value than their ranges', zero for want of a pair included
(R145, R321, R437). -/
def mustOk (m : SMap Word32) : Bool :=
  [Reg.CLS_DRAIN_WIN, Reg.ENG_CFG, Reg.HMC_CFG].all (fun a => rangesOk a (finalReg m a) (fun _ _ => true))

/-- The rules that bind several fields of LREG at once. -/
def lregSetOk (b : Blob) : Bool :=
  let m := lregFinal b
  let topo := sectBytes b 2
  profilesOk m (fieldU topo 3 1 != 0xFF) && fwdOk m && threshOk m && mustOk m && powerOk m topo

/-! ### TOPO, POLICY, POOLS and FLOWGEO (R71 to R74) -/

/-- A LANE entry of TOPO (R71, R514). Reserved bits are ignored here as everywhere (R9). -/
def laneOk (topo : List Byte) (dev l : Nat) : Bool :=
  let peer := fieldU topo (64 + 4 * l) 2
  let lane := fieldU topo (66 + 4 * l) 1
  let flags := fieldU topo (67 + 4 * l) 1
  lane ≤ 47 &&
    (if peer = 0x200 then lane == 0 && flags == 0
     else if bit flags 0 then decide (peer < 512)
     else peer != dev && decide (peer < fieldU topo 0 2))

/-- TOPO for a device (R71, R514). -/
def topoOk (topo : List Byte) (dev bpos count : Nat) : Bool :=
  let sys := fieldU topo 0 2
  let board := fieldU topo 2 1
  let pos := fieldU topo 3 1
  let n := fieldU topo 4 1
  1 ≤ sys && sys ≤ 512 && 1 ≤ board && board ≤ 8 && board ≤ sys && board == count && decide (bpos < board) && decide (dev < sys) &&
    (pos == 0xFF || pos ≤ 7) && (n == 0 || (2 ≤ n && n ≤ 8)) && (pos == 0xFF) == (n == 0) && (pos == 0xFF || decide (pos < n)) && n ≤ board &&
    (List.range 48).all (laneOk topo dev)

/-- The NAT limits of R244: the partition that breaks one, or 4 for the total. -/
def natFault (m : SMap Word32) (topo : List Byte) : Option Nat :=
  let n := fun i => fieldU topo (20 + 12 * i) 4
  let log := fun i => bits (finalReg m (Reg.FSE_NAT_CFG i)) 3 0
  match (List.range 4).find? (fun i => decide (log i < 6) || decide (12 < log i) || decide (4194304 < n i * (64512 / 2 ^ log i))) with
  | some i => some i
  | none => if 65536 < ((List.range 4).map n).sum then some 4 else none

/-- POLICY (R72, R469). -/
def policyOk (p : List Byte) : Bool :=
  let hb := fieldU p 0 2
  let dr := fieldU p 2 2
  (hb == 0 || (10 ≤ hb && hb ≤ 60000)) && 1 ≤ dr && dr ≤ 10000 &&
    (List.range 16).all (fun s => let g := fieldU p (4 + s) 1
      if s < 12 then decide (Machine.alarmFloor s ≤ g) && decide (g ≤ 2) else g == 0)

/-- COUNT and BORROW of a pool's record (R73). -/
def poolRec (p : List Byte) (k : Nat) : Nat × Nat := (fieldU p (16 * k) 4, fieldU p (16 * k + 4) 1 % 2)

/-- POOLS (R73). -/
def poolsOk (p : List Byte) : Bool :=
  let n := fun k => (poolRec p k).1
  let size : Nat → Nat := fun k => if k = 0 then 384 else if k = 1 then 1536 else if k = 2 then 3072 else 12288
  (List.range 4).all (fun k => (n k == 0 || (n k % 256 == 0 && 2048 ≤ n k))) &&
    decide (((List.range 4).map n).sum ≤ 33554432) && decide (((List.range 4).map (fun k => n k * size k)).sum ≤ 25769803776) &&
    (poolRec p 3).2 == 0 && (List.range 3).all (fun k => (poolRec p k).2 == 0 || n (k + 1) != 0)

/-- FLOWGEO (R74, R225). -/
def flowgeoOk (p : List Byte) : Bool :=
  let n := fun i => fieldU p (16 * i) 4
  (List.range 4).all (fun i => n i % 1048576 == 0 && 1048576 ≤ n i && fieldU p (16 * i + 4) 1 ≤ 1 && fieldU p (16 * i + 5) 1 ≤ 15 &&
      1 ≤ fieldU p (16 * i + 6) 2) && ((List.range 4).map n).sum == 134217728

/-! ### PGRAPH (R110, R111) -/

/-- The node records. -/
def graphNodes (b : Blob) : List NodeRec :=
  let bs := sectBytes b 6
  (records 256 (bs.length / 256) bs).map (bvOfBytes 2048)

/-- A reason code that an action may name (R110). -/
def reasonOk (r : Nat) : Bool := 0x10 ≤ r && r ≤ 0x1F

/-- Transition k of a node is within R111. -/
def transOk (d : NodeRec) (n k : Nat) : Bool :=
  let t := nodeTrans d k
  datU d (64 + 12 * k + 11) 1 == 0 && t.2.2.2.1 ≤ 3 && (t.2.2.2.1 != 1 || decide (t.2.2.1 < n)) &&
    (t.2.2.2.1 != 3 || reasonOk t.2.2.2.2)

/-- Node i of n is within R110 and R111. -/
def nodeRecOk (d : NodeRec) (i n : Nat) : Bool :=
  let f := fun o s => datU d o s
  f 0 1 == i && f 2 1 < 8 && f 3 1 ≤ 2 && (f 3 1 != 0 || decide (f 4 1 < n)) && (f 3 1 != 2 || f 5 1 == 5 || reasonOk (f 5 1)) &&
    1 ≤ f 6 2 && f 6 2 ≤ 512 && f 6 2 ≤ f 8 2 && f 8 2 ≤ 512 && f 10 2 ≤ 4095 && f 12 1 ≤ 32 && f 10 2 + f 12 1 ≤ 4096 && f 13 3 == 0 &&
    (bit (f 2 1) 0 || (decide (f 6 2 ≤ f 20 2) && decide (f 20 2 ≤ f 8 2))) &&
    1 ≤ f 24 1 && f 24 1 ≤ 16 && f 22 2 + f 24 1 ≤ 4096 && 1 ≤ f 25 1 && 1 ≤ f 28 1 && f 28 1 ≤ 16 && f 26 2 + f 28 1 ≤ 4096 && 1 ≤ f 29 1 &&
    f 32 32 == 0 && (List.range 16).all (transOk d n)

/-- PGRAPH (R111). -/
def graphOk (b : Blob) : Bool :=
  let ns := graphNodes b
  ns.zipIdx.all (fun x => nodeRecOk x.1 x.2 ns.length)

/-! ### Delay records and PRELOAD (R75, R422, R423) -/

/-- The CRC of a delay record is right (R422). -/
def dlyCrcOk (r : BitVec 128) : Bool := crc16 (bvBytes 14 r) == datU r 14 2

/-- The delay records of HBMDLY. -/
def imgDelays (b : Blob) : List (BitVec 128) :=
  let bs := sectBytes b 9
  (records 16 (bs.length / 16) bs).map (bvOfBytes 128)

def dlyRetire (r : BitVec 128) : Bool := datB r 0 1 1 == 1

/-- HBMDLY (R423). -/
def delaysOk (b : Blob) : Bool :=
  let rs := imgDelays b
  rs.all (fun r => dlyCrcOk r && (datB r 0 0 1 == 1 || dlyRetire r) && datB r 0 2 6 == 0 && datB r 1 7 1 == 0 && datB r 13 4 4 == 0) &&
    decide ((rs.filter dlyRetire).length ≤ 16)

/-- A record of PRELOAD: TBL, OP, IDX and the data bytes used (R75). -/
def preloads (b : Blob) : List (List Byte) :=
  let bs := sectBytes b 10
  records 136 (bs.length / 136) bs

/-- OP and LEN of a PRELOAD record (R75). -/
def preloadOk (r : List Byte) : Bool :=
  let n := fieldU r 2 2
  (fieldU r 1 1 == 2 || fieldU r 1 1 == 3) && 4 ≤ n && n ≤ 128 && n % 4 == 0

/-! ### Step 8 of R77 -/

/-- The content failures of an image, as SECTION and detail (R93): those of R69 alone where there are any. Among the rules that
bind several LREG fields at once, `free` stands for the pair that the spec does not single out. -/
def contentFaults (b : Blob) (bpos count free : Nat) : List (Nat × Nat) :=
  let ts := typeFaults b
  if ts ≠ [] then ts.map (fun i => (i, 0)) else
    let h := imgHeader b
    let topo := sectBytes b 2
    let pairs := lregPairs b
    let one := fun (ok : Bool) (t : Nat) => if ok then [] else [(sectIdx b t, 0)]
    (match pairs.findIdx? (fun p => !pairOk (graphNodes b).length p) with
      | some i => [(sectIdx b 1, i)]
      | none => if lregSetOk b then [] else [(sectIdx b 1, free % max 1 pairs.length)]) ++
    one (topoOk topo (imgDeviceId h) bpos count) 2 ++
    (match natFault (lregFinal b) topo with | some i => [(sectIdx b 2, i)] | none => []) ++
    one (policyOk (sectBytes b 3)) 3 ++ one (graphOk b) 6 ++ one (poolsOk (sectBytes b 7)) 7 ++ one (flowgeoOk (sectBytes b 8)) 8 ++
    one (delaysOk b) 9 ++ one ((preloads b).all preloadOk) 10

end Sys2Proof
end

