-- ==== Sys2Proof/Machine/Ports.lean ====
section
/-! DEFINITION. The line ports (R95 to R107): received frames, transmission, link state, and what happens to the frames
of a port that goes down. -/
namespace Sys2Proof.Machine

def updPort (p : Nat) (f : PortSt → PortSt) (s : State) : State := { s with port := s.port.upd p f }

/-- A port is administratively up (R100). -/
def State.adminUp (s : State) (p : Nat) : Bool := bit (s.reg Reg.LPC_PORT_ADMIN) p

/-! ### Reception (R97, R105 to R107) -/

/-- Ingress pipeline i refuses new frames: its pending-miss queue or its read queue is full, or no thread is free for it (R19, R181,
R284). -/
def State.refusesFrames (s : State) (i : Nat) : Bool :=
  decide (1024 ≤ (s.part.get i).misses.length) || decide (1024 ≤ (s.fwdq.get i).length) || (s.freeThread i false).isNone

/-- Start node of a line port (R108). -/
def State.startNode (s : State) (p : Nat) : Nat := s.regF (Reg.PRS_PORT_START (p / 4)) (8 * (p % 4) + 7) (8 * (p % 4))

/-- A bulk frame, without its FCS, waits at its ingress pipeline (R16). While the pipeline refuses frames, whether the receive
buffer still has room for it is the device's own (R19). -/
def lineFrame (p : Nat) (bytes : List Byte) (bad : Bool) (s : State) : State :=
  let i := p / 8
  let k : Pkt := { bytes := bytes, inPort := p, inp := i, originDev := s.devId, originPort := p, node := s.startNode p, bad := bad }
  let take := fun (s : State) => { s with swc := { s.swc with line := s.swc.line.upd i (fun l => l ++ [k]) } }
  if s.refusesFrames i then
    let d := draw s
    if Config.pick d.1 % 2 = 0 then count (Cnt.LPC_RX_PIPE_DROP p) d.2 else take d.2
  else take s

/-- A frame that passed the MAC's own discards goes to the Pod or to its ingress pipeline (R97, R107). Its head is taken from the frame
without FCS (DESIGN CHOICE). A bad frame is discarded unless its head has left, which needs cut-through: an express frame's rest
after 128 bytes, or an enabled class of the pipeline's internal port. -/
def claimFrame (p : Nat) (body : List Byte) (bad left : Bool) (s : State) : State :=
  match s.expressEntry p body with
  | some e =>
    let s := count (Cnt.LPC_XSEL_MATCH p) s
    if bad && !(left && decide (128 < body.length)) then s else podAdmit p e (body.take 128) body bad s
  | none => if bad && !(left && s.reg (Reg.SWC_CT_EN (p / 8)) != 0) then s else lineFrame p body bad s

/-- The codewords that the FEC decoders of a port have corrected, and found uncorrectable, since its last frame (R98). -/
def countLineFec (p : Nat) (r : RxSide) (s : State) : State :=
  countA {} (Cnt.LPC_FEC_UNCORR p) r.uncorr (countA {} (Cnt.LPC_FEC_CORR p) r.corr s)

/-- A frame arrives at a receive MAC (R86, R90, R97, R98, R100). It counts in one of the counters of R97 and R100 at most, the first
that fits in the order of the tests here (DESIGN CHOICE). A frame that an uncorrectable codeword touches fails its FCS. -/
def takeFrame (p : Nat) (bytes : List Byte) (fcsOk left : Bool) (s : State) : State :=
  if s.moves = false ∨ s.portExists p = false ∨ (s.port.get p).raw = false then s
  else if s.md.mode = .drain ∨ s.md.mode = .maintenance then count (Cnt.LPC_RX_MODE_DROP p) s
  else if s.adminUp p = false then count (Cnt.LPC_RX_ADMIN_DROP p) s
  else if bytes.length < 64 then count (Cnt.LPC_RX_RUNT p) s
  else if beAt bytes 12 2 = 0x8808 then count (Cnt.LPC_RX_MACCTL p) s
  else
    let mx := s.regF (Reg.LPC_PORT_CFG p) 13 0
    if mx < bytes.length then claimFrame p (bytes.take (mx - 4)) true left (count (Cnt.LPC_RX_OVERSIZE p) s)
    else if fcsOk then claimFrame p (bytes.take (bytes.length - 4)) false left s
    else claimFrame p (bytes.take (bytes.length - 4)) true left (count (Cnt.LPC_RX_FCS_ERR p) s)

/-- What a port's receiver brings (R97, R98). -/
def doRxFrame (p : Nat) (bytes : List Byte) (r : RxSide) (s : State) : State :=
  takeFrame p bytes (r.fcsOk && r.uncorr == 0) r.left (if s.moves && s.portExists p then countLineFec p r s else s)

/-- RX_FRAME (R97). -/
def execRxFrame (port : Nat) (bytes : List Byte) (r : RxSide) (s : State) : Res := coreCmd (doRxFrame port bytes r) s

/-! ### Transmission (R22, R98, R355, R356) -/

/-- A frame with its padding and FCS, inverted when it is stomped (R98, R355). -/
def sendFrame (p : Nat) (bytes : List Byte) (stomp : Bool) (s : State) : State :=
  let b := bytes ++ List.replicate (60 - bytes.length) 0
  let c := crc32 b
  emit (.frame p (b ++ leBytes 4 (if stomp then c ^^^ 0xFFFFFFFF else c)) stomp) s

/-- The bytes that leave before an underrun, which only a packet moved cut-through from the fabric can meet (R356). A tail that is
still arriving, or will not come, ends the frame where its last cell ended. -/
def cutAt (fabricCut : Bool) (underrun : Option Nat) (tail : TailSt) (bytes : List Byte) : List Byte × Bool :=
  let short := tail.state == .arriving || tail.state == .lost
  match underrun with
  | some n => if fabricCut && decide (n < bytes.length) then (bytes.take n, true) else (bytes, short)
  | none => (bytes, short)

/-- The express frame at the head of a port's express queue is sent, charged to the port's bucket (R22, R356, R393). -/
def sendExpress (p : Nat) (f : ExpFrame) (rest : List ExpFrame) (underrun : Option Nat) (s : State) : State :=
  let t := s.tailOf f.tail
  let (b, under) := cutAt f.fabric underrun t (f.bytes ++ t.rest)
  let stomp := under || f.bad || t.state == .poisoned
  let s := dropTail f.tail s
  let s := updPod (fun x => { x with exq := x.exq.set p rest }) s
  let s := chargeNode (portNode p) (b.length + (60 - b.length) + 4) s
  let s := if under then count Cnt.SWC_CT_UNDERRUN s else s
  sendFrame p b stomp (if stomp then count Cnt.SWC_STOMP s else s)

/-- The frame in a port's transmit FIFO is sent. A stomped frame marks the cloves that counted it (R216, R355). -/
def sendBulk (p : Nat) (k : Pkt) (rest : List Pkt) (underrun : Option Nat) (s : State) : State :=
  let t := s.tailOf k.tail
  let (b, under) := cutAt (k.fabric && k.cut) underrun t (k.bytes ++ t.rest)
  let stomp := under || k.bad || t.state == .poisoned
  let s := dropTail k.tail s
  let s := updTms (fun t => { t with fifo := t.fifo.set p rest }) s
  let s := if under then countC k.cls Cnt.SWC_CT_UNDERRUN s else s
  let s := if stomp then
      sendMark k.egrClove k.egrGen (sendMark (if k.counted && !k.fabric then k.clove else none) k.gen (countC k.cls Cnt.SWC_STOMP s))
    else s
  sendFrame p b stomp s

/-- The transmit MAC of a port takes its next frame (R22, R98, R102): the bulk frame that has started, else the oldest express frame. -/
def doFrameTransmit (p : Nat) (underrun : Option Nat) (s : State) : State :=
  if s.moves = false ∨ s.portExists p = false ∨ (s.port.get p).up = false then s
  else
    match s.tms.fifo.get p, s.pod.exq.get p with
    | k :: r, _ => sendBulk p k r underrun s
    | [], f :: r => if s.startable f.tail (s.expLen f) then sendExpress p f r underrun s else s
    | [], [] => s

/-- FRAME_TRANSMIT (R98). -/
def execFrameTransmit (port : Nat) (underrun : Option Nat) (s : State) : Res := coreCmd (doFrameTransmit port underrun) s

/-! ### Ports that go down (R101 to R103, R338) -/

/-- Frames queued for a port (R102, R103): in its leaf queues, under reception for them, and express. -/
def State.portFrames (s : State) (p : Nat) : Nat :=
  let here := fun (t : Staged) => t.leaf && s.subPort (t.queue / 8) == p
  ((s.portQueues p).map (fun q => (s.pqueue true q).items.length)).sum + (s.buf.staged.filter here).length +
    ((List.range 4).map (fun k => ((s.buf.pools.get k).reqs.filter (fun r => here r.item)).length)).sum + (s.pod.exq.get p).length

/-- Detail of an LPC event (R117). -/
def portDetail (p hi : Nat) : Nat := p + 256 * min 0xFFFFFF hi

/-- The frames queued for a port are discarded (R102, R338); `code` is FLUSHED or HOLD_EXPIRED. -/
def flushPort (p code : Nat) (s : State) : State :=
  let n := s.portFrames p
  let port := fun q => s.subPort (q / 8) == p
  let s := flushStaged true port ((s.portQueues p).foldl (fun s q => flushQueue true q s) s)
  let s := (s.pod.exq.get p).foldl (fun s f => dropTail f.tail s) s
  let s := updPod (fun x => { x with exq := x.exq.set p [] }) s
  raise 3 code p (portDetail p n) (countA {} (Cnt.LPC_TX_FLUSH p) n s)

/-- A frame partly transmitted is lost (R101). The frame in the transmit FIFO is the one under transmission. -/
def abortFrame (p : Nat) (s : State) : State :=
  let n := (s.tms.fifo.get p).length
  let s := (s.tms.fifo.get p).foldl (fun s k => dropTail k.tail s) s
  updTms (fun t => { t with fifo := t.fifo.set p [] }) (countA {} (Cnt.LPC_TX_ABORT p) n s)

/-- A port is declared down, by its link or administratively (R100, R101, R197, R266, R553). A port that was down already starts no
second flush of its stations (DESIGN CHOICE, assumption 72). -/
def declareDown (p : Nat) (admin : Bool) (s : State) : State :=
  let was := (s.port.get p).up
  let s := abortFrame p (updPort p (fun x => { x with up := false, holding := false }) s)
  let s := raise 3 1 p (portDetail p (b2n admin)) s
  let s := { s with svc := { s.svc with latch := s.svc.latch ||| ((1 : Word32) <<< p) } }
  let s := if was then l2FlushStart p s else s
  if !admin && s.regF (Reg.LPC_PORT_CFG p) 30 30 == 1 then updPort p (fun x => { x with holding := true, holdSince := s.now }) s
  else flushPort p 5 s

/-- The end of a port's hold (R103). -/
def State.holdEnd (s : State) (p : Nat) : Nat := (s.port.get p).holdSince + s.regF (Reg.LPC_PORT_CFG p) 29 24 * 1000000

/-- HOLD_MS has passed (R103). -/
def expireHold (p : Nat) (s : State) : State := flushPort p 4 (updPort p (fun x => { x with holding := false }) s)

/-- HOLD_MS of a holding port passes (R103). -/
def doHoldExpired (p : Nat) (s : State) : State :=
  if s.moves = false ∨ (s.port.get p).holding = false then s else expireHold p (runTo (s.holdEnd p) s)

/-- HOLD_EXPIRED (R103). -/
def execHoldExpired (port : Nat) (s : State) : Res := coreCmd (doHoldExpired port) s

/-- The down debounce of a port ends (R99, R101). In Lockdown, where no port takes or sends a frame, none is declared down or up
(DESIGN CHOICE). -/
def doPortDown (p : Nat) (s : State) : State :=
  if s.moves = false ∨ s.portExists p = false ∨ (s.port.get p).up = false ∨ (s.port.get p).raw = true then s
  else declareDown p false (runTo ((s.port.get p).rawSince + s.regF Reg.LPC_DEBOUNCE 15 0 * 1000) s)

/-- PORT_DOWN (R101). -/
def execPortDown (port : Nat) (s : State) : Res := coreCmd (doPortDown port) s

/-- The up debounce of a port ends (R99, R103, R553). A hold that ends no later than the debounce has expired first. PORT_UP is raised
before HOLD_RESUMED (DESIGN CHOICE). -/
def doPortUp (p : Nat) (s : State) : State :=
  if s.moves = false ∨ s.portExists p = false ∨ (s.port.get p).up = true ∨ (s.port.get p).raw = false ∨ s.adminUp p = false then s
  else
    let at_ := max s.now ((s.port.get p).rawSince + s.regF Reg.LPC_DEBOUNCE 31 16 * 1000000)
    let s := if (s.port.get p).holding && decide (s.holdEnd p ≤ at_) then expireHold p (runTo (s.holdEnd p) s) else s
    let held := (s.port.get p).holding
    let s := raise 3 2 p (portDetail p 0) (updPort p (fun x => { x with up := true, holding := false }) (runTo at_ s))
    if held then raise 3 3 p (portDetail p (s.portFrames p)) s else s

/-- PORT_UP (R99). -/
def execPortUp (port : Nat) (s : State) : Res := coreCmd (doPortUp port) s

/-- Lanes of a port (R95). -/
def State.portLanes (s : State) (p : Nat) : Nat := 2 ^ s.regF (Reg.LPC_OCTET_CFG (p / 8)) 1 0

/-- A half-octet that carries lanes of a port is switched off, so that its lanes idle (R527). -/
def State.portOff (s : State) (p : Nat) : Bool :=
  (List.range 8).any (fun h => bit (s.reg Reg.MGT_PWR_OFF0) h && decide (p < 4 * h + 4) && decide (4 * h < p + s.portLanes p))

/-- The raw link state of a port changes and its debounce starts (R99). Ports come up from Service entry on; in Load no port has
its mode. -/
def doLinkRawChange (p : Nat) (up : Bool) (s : State) : State :=
  if s.md.mode = .load ∨ s.portExists p = false ∨ (s.port.get p).raw = up ∨ (up = true ∧ s.portOff p = true) then s
  else updPort p (fun x => { x with raw := up, rawSince := s.now }) s

/-- LINK_RAW_CHANGE (R99). -/
def execLinkRawChange (port : Nat) (up : Bool) (s : State) : Res := coreCmd (doLinkRawChange port up) s

/-! ### LPC_PORT_ADMIN (R95, R100, R553) -/

/-- A port sends the Remote Fault sequence (R100): it exists, its lanes are on (R527), and it is administratively down. Transmission has
stopped in Load and Lockdown (R91). -/
def State.remoteFault (s : State) (p : Nat) : Bool := s.moves && s.portExists p && !s.portOff p && !s.adminUp p

/-- What a port sends changes with its administrative state (R100). -/
def showFault (p : Nat) (s : State) : State :=
  if s.moves && s.portExists p && !s.portOff p then emit (.remoteFault p (s.remoteFault p)) s else s

/-- One port's bit of LPC_PORT_ADMIN changes (R100, R553). -/
def adminChange (old new p : Nat) (s : State) : State :=
  if bit old p && !bit new p then declareDown p true (showFault p s)
  else if !bit old p && bit new p then updPort p (fun x => { x with rawSince := s.now }) (showFault p s)
  else s

/-- LPC_PORT_ADMIN takes a value from a master (R95, R553): bits of ports that do not exist keep theirs. The register's RW field
accepts the write, which is therefore not counted (R10). -/
def writeAdmin (value : Nat) (s : State) : State :=
  let old := s.reg Reg.LPC_PORT_ADMIN
  let new := (List.range 32).foldl (fun v p => if s.portExists p then setBit v p (bit value p) else v) old
  (List.range 32).foldl (fun s p => adminChange old new p s) (setReg Reg.LPC_PORT_ADMIN new s)

/-- A host write of LPC_PORT_ADMIN, which takes place in Service and Maintenance (R100). -/
def doLpcPortAdmin (value : Word32) (s : State) : State :=
  if s.md.mode = .drain then ignoreWrite 0 (some .bar0) s else writeAdmin value.toNat s

/-- LPC_PORT_ADMIN (R553). -/
def execLpcPortAdmin (value : Word32) (s : State) : Res := hostCmd 3 (doLpcPortAdmin value) s

end Sys2Proof.Machine
end

