-- ==== Sys2Proof/Machine/ModeCmds.lean ====
section
/-! DEFINITION. The host's mode commands (R80, R85, R88, R89, R92), the heartbeat watchdog (R82) and the drain timeout
(R87). -/
namespace Sys2Proof.Machine

/-! ### MGT_MODE_CTL (R92) -/

/-- MGT_MODE_CTL.RESULT (R92). -/
def setRefused (b : Bool) (s : State) : State := { s with md := { s.md with refused := b } }

/-- DRAIN with a target, where the mode admits it (R80, R88); none where it is refused. -/
def drainCmd (ok : Bool) (target cause : Nat) (s : State) : Option State :=
  if ok && decide (target ≤ 2) then some (startDrain target cause s) else none

/-- A host write of MGT_MODE_CTL (R80, R92): TARGET is kept, and the command is taken or refused. A return to Service by ATTACH burns no
anti-rollback fuses; a burn that fell short is tried again at the next Load (DESIGN CHOICE: R78 says no more than "on entry to
Service"). -/
def modeCtl (v : Nat) (s : State) : State :=
  let cmd := bits v 2 0
  let target := bits v 9 8
  let s := setReg Reg.MGT_MODE_CTL (256 * target) s
  let ok := setRefused false s
  match cmd with
  | 1 => (drainCmd (s.md.mode == .service || s.md.mode == .drain) target 4 ok).getD (setRefused true s)
  | 2 => if s.md.mode = .headless then enterService 4 ok else setRefused true s
  | 3 => if s.md.mode = .maintenance then warmReload 4 ok else setRefused true s
  | _ => setRefused true s

/-- A host write of MGT_MODE_CTL or MGT_HEARTBEAT takes place in every mode but Lockdown (R83, R91, R551). -/
def hostModeCmd (f : State → State) (s : State) : Res :=
  if s.hostUp then finish s (if s.md.mode = .lockdown then ignoreWrite 0 (some .bar0) s.fresh else f s.fresh) else .next s.fresh

/-- ATTACH (R85). -/
def execAttach (s : State) : Res := hostModeCmd (modeCtl 2) s

/-- HOST_DRAIN (R88). -/
def execHostDrain (target : Nat) (s : State) : Res := hostModeCmd (modeCtl (1 + 256 * (target % 4))) s

/-- HOST_RELOAD (R89). -/
def execHostReload (s : State) : Res := hostModeCmd (modeCtl 3) s

/-! ### The watchdog (R82) -/

/-- A write of MGT_HEARTBEAT restarts the watchdog (R82). -/
def doHeartbeat (s : State) : State := { s with md := { s.md with hbLast := s.now } }

/-- MGT_HEARTBEAT (R82). -/
def execMgtHeartbeat (_value : Word32) (s : State) : Res := hostModeCmd doHeartbeat s

/-- HB_TIMEOUT_MS has passed in Service without a heartbeat (R82, R94); 0 disables the watchdog (R72). -/
def doHbExpired (s : State) : State :=
  let ms := s.regF Reg.MGT_HB_CFG 15 0
  if s.md.mode = .service ∧ ms ≠ 0 then
    changeMode .headless 3 (raise 0 2 noUnit ms (runTo (s.md.hbLast + ms * 1000000) s))
  else s

/-- HB_EXPIRED (R82). -/
def execHbExpired (s : State) : Res := coreCmd doHbExpired s

/-! ### The drain timeout (R87) -/

/-- Packets that PBF, BPM, TMS and the Pod's express buffer hold (R87). -/
def State.heldPackets (s : State) : Nat :=
  (s.buf.voq.cells.map (fun c => c.2.items.length)).sum + (s.buf.leaf.cells.map (fun c => c.2.items.length)).sum +
    s.buf.staged.length + (s.buf.pools.cells.map (fun c => c.2.reqs.length)).sum +
    (s.swc.recirc.cells.map (fun c => c.2.length)).sum + (s.swc.rxq.cells.map (fun c => c.2.length)).sum +
    (s.tms.fifo.cells.map (fun c => c.2.length)).sum + s.pod.frames.length + (s.pod.exq.cells.map (fun c => c.2.length)).sum +
    (s.swc.peers.cells.map (fun p => ((p.2.tx.get 8).pkts.filter TxPkt.fresh).length)).sum

/-- The reclaim sweeps that still wait (R341) run, so that no buffer stays allocated for a packet that is gone (R339). -/
def finishSweeps (s : State) : State := s.buf.sweeps.foldl (fun s _ => doReclaimDone [] s) s

/-- Every packet held is discarded at packet boundaries, its cells and buffers returned (R87, R338). Express packets not yet in cells
go with the express buffer, and unused credits are given back (R368). -/
def discardAll (s : State) : State :=
  let s := (s.buf.voq.cells.map Prod.fst).foldl (fun s q => flushQueue false q s) (flushStaged false (fun _ => true) s)
  let s := (s.buf.leaf.cells.map Prod.fst).foldl (fun s q => flushQueue true q s) (flushStaged true (fun _ => true) s)
  let s := s.swc.recirc.cells.foldl (fun s c => c.2.foldl (fun s p => freeCharge 11 (p.cls % 8) (pktCells p) s) s) s
  let s := s.swc.rxq.cells.foldl (fun s c => c.2.foldl (fun s p =>
    if p.tail.isSome then dropTail p.tail s else subStage (4 + c.1 / 4) (pktCells p) s) s) s
  let s := s.tms.fifo.cells.foldl (fun s c => c.2.foldl (fun s p => dropTail p.tail s) s) s
  let s := s.pod.exq.cells.foldl (fun s c => c.2.foldl (fun s f => dropTail f.tail s) s) s
  let s := updSwc (fun w => { w with
    recirc := {}, rxq := {},
    xfers := w.xfers.filter (fun x => x.tail.isSome || decide (x.queue = 10000 ∨ (10016 ≤ x.queue ∧ x.queue < 10040))),
    peers := w.peers.mapAll (fun p => { p with tx := p.tx.upd 8 (fun t => { t with pkts := t.pkts.filter (fun k => !k.fresh) }) }) }) s
  let s := (s.swc.peers.cells.map Prod.fst).foldl (fun s d => returnCredits d s) (finishSweeps s)
  updPod (fun p => { p with frames := [], exq := {} }) (updTms (fun t => { t with fifo := {} }) s)

/-- DRAIN_TIMEOUT_MS passes in Drain before the device is drained (R87, R88). -/
def doDrainFlush (s : State) : State :=
  if s.md.mode = .drain ∧ s.md.drained = false then
    let s := runTo (s.md.drainStart + s.regF Reg.MGT_DRAIN_CFG 15 0 * 1000000) s
    let n := s.heldPackets
    let s := raise 0 4 noUnit (sat32 n) (discardAll s)
    drainTarget 7 { s with md := { s.md with drained := true } }
  else s

/-- DRAIN_FLUSH (R87). -/
def execDrainFlush (s : State) : Res := coreCmd doDrainFlush s

end Sys2Proof.Machine
end

