-- ==== Sys2Proof/Machine/RegWrite.lean ====
section
/-! DEFINITION. Register writes of the outside masters (R8 to R10, R59, R83, R95, R479, R541 to R545, R551): judgement, then the
register's own behaviour. -/
namespace Sys2Proof.Machine

/-! ### Judgement -/

/-- The access type of a field in force (R438, R455, R510): the fixed fault classes and filter profile 0 take no write. -/
def fieldAcc (a : Nat) (f : RField) : Access :=
  if a = Reg.MGT_FLT_CFG 4 ∨ a = Reg.MGT_FLT_CFG 7 ∨ (Reg.MGT_CNT_PROF_CFG 0 ≤ a ∧ a < Reg.MGT_CNT_PROF_CFG 1) then
    (if f.acc = .res then .res else .ro)
  else f.acc

/-- A field accepts a write (R10, R543). -/
def State.accepts (s : State) (a : Nat) (f : RField) : Bool :=
  match fieldAcc a f with
  | .rw => true
  | .wo => true
  | .w1c => true
  | .w1s => true
  | .rwl => s.rwlOpen
  | .ro => false
  | .rc => false
  | .res => false

/-- The host port whose CTL a register is. -/
def ecpCtlPort (a : Nat) : Option Nat := arrIdx a (Reg.MGT_ECP_CTL 0) 0x100 8

/-- The modes allow a master's write to a register (R59, R83, R90, R91, R100, R504, R551). A host START in Headless reaches its
port, where the operation ends REFUSED. -/
def State.admits (s : State) (m a v : Nat) : Bool :=
  if a = Reg.SEC_ALARM_LATCH ∧ (s.md.mode = .lockdown ∨ m = 1) then true
  else if m = 1 ∧ s.md.mode ≠ .maintenance then false
  else if s.md.mode = .headless then
    a == Reg.MGT_HEARTBEAT || a == Reg.MGT_MODE_CTL || ((ecpCtlPort a).isSome && bit v 31)
  else if a = Reg.LPC_PORT_ADMIN ∧ s.md.mode = .drain then false
  else s.hostMayWrite (window a)

/-- The first and the number of the ports that a per-port register names (R95); PRS_PORT_STARTj holds four of them (R111). -/
def regPorts (a : Nat) : Option (Nat × Nat) :=
  match firstOf [arrIdx a (Reg.LPC_PORT_CFG 0) 4 32, arrIdx a (Reg.FWD_PORT_CFG 0) 4 32, arrIdx a (Reg.FSE_EGR_CFG 0) 4 32,
    (arrIdx a (Reg.XPR_PORT_KEY 0) 4 64).map (· / 2)] with
  | some p => some (p, 1)
  | none => (arrIdx a (Reg.PRS_PORT_START 0) 4 8).map (fun j => (4 * j, 4))

/-- The register names only ports that their octet's mode does not use (R95). -/
def State.absentPort (s : State) (a : Nat) : Bool :=
  match regPorts a with
  | some (p, n) => (List.range n).all (fun k => !s.portExists (p + k))
  | none => false

/-- The fields that accept the write hold values of their ranges (R119, R419, R544), and a start node exists (R111). -/
def State.inRange (s : State) (fs : List RField) (a v : Nat) : Bool :=
  let takes := fun hi lo => fs.any (fun f => s.accepts a f && decide (f.lo ≤ lo) && decide (hi ≤ f.hi))
  let steps := arrIdx a (Reg.FWD_STEP_HI 0 0) 8 64
  rangesOk a v takes &&
    (!(decide (Reg.PRS_PORT_START 0 ≤ a) && decide (a < Reg.PRS_PORT_START 8)) ||
      (List.range 4).all (fun j => decide (bits v (8 * j + 7) (8 * j) < s.graphLen))) &&
    (match steps with
     | none => true
     | some _ =>
       let k := bits (s.reg (a - 4)) 31 28
       let w := bits v 28 24
       if 1 ≤ k ∧ k ≤ 8 then decide (1 ≤ w) else w == 0)

/-! ### Plain fields -/

/-- The stored content after a write: RW fields and open RWL fields take their bits (R8). -/
def State.merged (s : State) (fs : List RField) (a v : Nat) : Nat :=
  fs.foldl (fun x f => if (fieldAcc a f == .rw || fieldAcc a f == .rwl) && s.accepts a f
    then setBits x f.hi f.lo (bits v f.hi f.lo) else x) (s.reg a)

/-- Fields without behaviour of their own take a write; a layout register only reads back what Maintenance wrote (R544). In
both the reserved bits stay zero (R9). -/
def storeReg (fs : List RField) (a v : Nat) (s : State) : State :=
  let x := s.merged fs a v
  if isLayout a && s.rwlOpen then { s with back := s.back.set a (some (BitVec.ofNat 32 x)) } else setReg a x s

/-! ### Registers with behaviour -/

/-- A register of a host port (R482, R487, R512). -/
def writeEcp (m : Nat) (w : Option Window) (n off v : Nat) (s : State) : State :=
  let p := s.ecp.get n
  if off = 0 then
    let s := if bit v 30 then doEcpAbort n s else s
    if p.busy then (if bit v 30 then s else ignoreWrite m w s)
    else if bit v 31 then doEcpStart n (v % 16) (w.getD .bar0) m {} s
    else updEcp n (fun q => { q with op := v % 16 }) s
  else if p.busy then ignoreWrite m w s
  else if off = 4 then updEcp n (fun q => { q with tbl := v % 256 }) s
  else if off = 8 then updEcp n (fun q => { q with idx := v }) s
  else updEcp n (fun q => { q with dat := datPut q.dat (off - 0x80) 4 v }) s

/-- A register of a ring or conduit (R494, R498, R499, R512). -/
def writeRing (m : Nat) (w : Option Window) (c off v : Nat) (s : State) : State :=
  let r := s.ring.get c
  if off = 0x10 then writeRingCfg m w c v s
  else if off = 0x14 then writeHostIdx m w c (BitVec.ofNat 32 v) s
  else if off = 0x24 then (if bit v 0 then doCdtFlush c s else s)
  else if r.enable || (off == 0 && v % 64 != 0) || (off == 8 && v % 8 != 0) then ignoreWrite m w s
  else if off < 8 then updRing c (fun r => { r with base := datPut r.base off 4 v }) s
  else updRing c (fun r => { r with wb := datPut r.wb (off - 8) 4 v }) s

/-- A word of the MSI-X table (R478, R500): unmasking a pending vector sends its message. -/
def writeMsix (a v : Nat) (s : State) : State :=
  let n := (a - 0x3F0000) / 16
  let x : Word32 := BitVec.ofNat 32 v
  match (a % 16) / 4 with
  | 0 => { s with msix := s.msix.upd n (fun e => { e with addrLo := x &&& 0xFFFFFFFC }) }
  | 1 => { s with msix := s.msix.upd n (fun e => { e with addrHi := x }) }
  | 2 => { s with msix := s.msix.upd n (fun e => { e with data := x }) }
  | _ =>
    let p := (s.msix.get n).pend
    let s := { s with msix := s.msix.upd n (fun e => { e with unmasked := !bit v 0, pend := e.pend && bit v 0 }) }
    if p && !bit v 0 then emit (.msix n) s else s

/-- SEC_OTP_CMD (R459, R476): what the fuses read back after the burn is a free value. -/
def writeOtp (v : Nat) (s : State) : State :=
  let confirm := bits v 23 16
  let d := draw s
  match v % 8 with
  | 1 => doProgRoot confirm (BitVec.ofNat 256 (Config.pick d.1)) d.2
  | 2 => doBurnCtrl confirm (bit (Config.pick d.1) 0) .jtagDisable d.2
  | 3 => doBurnCtrl confirm (bit (Config.pick d.1) 0) .kill d.2
  | _ => otpResult 4 s

/-- TBE_CFG (R49): a changed period is a boundary at once when the index differs. -/
def writeTbeCfg (v : Nat) (s : State) : State :=
  let e := s.epoch
  let g := s.ageStamp
  let s := setReg Reg.TBE_CFG v s
  let s := if s.epoch = e then { s with tbe := { s.tbe with epochSeen := s.now / s.epochPeriod } } else epochAt true s
  if s.ageStamp = g then { s with tbe := { s.tbe with ageSeen := s.now / s.agePeriod } } else ageAt s

/-- TBE_TWIN_CFGn (R49): a window that is switched on begins at the current index. -/
def writeTwin (n v : Nat) (s : State) : State :=
  let w := s.twin n
  let was := s.twinOn n
  let s := setReg (Reg.TBE_TWIN_CFG n) v s
  if was && s.twinOn n && s.twin n != w then twinAt n s
  else { s with tbe := { s.tbe with twinSeen := s.tbe.twinSeen.set n (s.now / s.twinPeriod n) } }

/-- TBE_CTL (R46, R55). -/
def writeTbeCtl (v : Nat) (s : State) : State :=
  let s := if bit v 0 then doSnap s else s
  if bit v 1 then doRealign s else s

/-- CLS_CTL: DISARM, then COPY, then ARM (R137, R138, R141). -/
def writeClsCtl (v : Nat) (s : State) : State :=
  let s := if bit v 1 then doDisarm s else s
  let s := if bit v 2 then doCopy s else s
  if bit v 0 then doArm s else s

/-- MGT_FLT_CFGk (R439): the leak goes on from the current index of the new period. -/
def writeFlt (k v : Nat) (s : State) : State :=
  let s := setReg (Reg.MGT_FLT_CFG k) v s
  { s with tbe := { s.tbe with leakSeen := s.tbe.leakSeen.set k (s.now / s.leakPeriod k) } }

/-- The registers of MGT and SEC that act on a write; none for the others. -/
def actLow (m : Nat) (w : Option Window) (a v : Nat) (s : State) : Option State :=
  if a = Reg.MGT_MODE_CTL then some (modeCtl v s)
  else if a = Reg.MGT_HEARTBEAT then some (if m = 0 then doHeartbeat s else s)
  else if a = Reg.SEC_ALARM_LATCH then
    some { s with isl := { s.isl with latch := s.isl.latch &&& ~~~(BitVec.ofNat 17 v) } }
  else if a = Reg.SEC_OTP_CMD then some (writeOtp v s)
  else match arrIdx a (Reg.MGT_ECP_CTL 0) 4 512 with
  | some k => some (writeEcp m w (k / 64) (4 * (k % 64)) v s)
  | none =>
    match arrIdx a (Reg.MGT_RING_BASE_LO 0) 4 656 with
    | some k => some (writeRing m w (k / 16) (4 * (k % 16)) v s)
    | none => (arrIdx a (Reg.MGT_FLT_CFG 0) 4 8).map (fun k => writeFlt k v s)

/-- The registers of the other windows that act on a write. -/
def actHigh (fs : List RField) (a v : Nat) (s : State) : Option State :=
  let x : Word32 := BitVec.ofNat 32 v
  if a = Reg.TBE_STATUS then some (if bit v 11 then { s with tbe := { s.tbe with realignRefused := false } } else s)
  else if a = Reg.TBE_CFG then some (writeTbeCfg (s.merged fs a v) s)
  else if a = Reg.TBE_CTL then some (writeTbeCtl v s)
  else if a = Reg.LPC_PORT_ADMIN then some (writeAdmin v s)
  else if a = Reg.CLS_CTL then some (writeClsCtl v s)
  else if a = Reg.ASA_TEST then some (doAsaTest x s)
  else if a = Reg.FSE_LB_LATCH then some { s with svc := { s.svc with latch := s.svc.latch &&& ~~~x } }
  else if a = Reg.FSE_TEL_CTL then some (if bit v 0 then doResend s else s)
  else if a = Reg.ENG_PREEMPT then some (doEngPreempt x s)
  else if a = Reg.ENG_TEST then some (doEngTest x s)
  else if a = Reg.HMC_TEST then some (hmcTestWrite v s)
  else if a = Reg.XPR_CTL then some (doForceOut x s)
  else if a = Reg.XPR_TEST then some (doXprTest x s)
  else match arrIdx a (Reg.TBE_TWIN_CFG 0) 4 8 with
  | some n => some (writeTwin n (s.merged fs a v) s)
  | none => (arrIdx a (Reg.HMC_DLY 0 0) 4 384).map (fun k => doHmcDlyWrite (k / 4) (k % 4) x s)

/-! ### One write of 4 bytes -/

/-- A write that the modes, the register and the ranges allow. -/
def takeWrite (m : Nat) (w : Option Window) (fs : List RField) (a v : Nat) (s : State) : State :=
  match (if window a ≤ 1 then actLow m w a v s else actHigh fs a v s) with
  | some t => t
  | none => storeReg fs a v s

/-- The conduit and offset of an address in the word windows (R501). -/
def windowAt (a : Nat) : Option (Nat × Nat) :=
  if 0xE000 ≤ a ∧ a < 0xEA40 then some ((a - 0xE000) / 64, (a - 0xE000) % 64) else none

/-- A master of R508 from its number. -/
def masterOf (m : Nat) : Master := if m = 0 then .host else .sideband

/-- One aligned write of 4 bytes by a master at a BAR0 address (R10, R541). -/
def writeReg (m : Nat) (w : Option Window) (a v : Nat) (s : State) : State :=
  match windowAt a with
  | some (c, off) => doWordWindowWrite (masterOf m) (w.getD .bar0) c off 4 (BitVec.ofNat 512 v) s
  | none =>
    if 0x3F0000 ≤ a ∧ a < 0x3F0400 then (if s.admits m a v then writeMsix a v s else ignoreWrite m w s)
    else match regAt a with
    | none => ignoreWrite m w s
    | some g =>
      if !s.admits m a v || !g.fields.any (s.accepts a) || s.absentPort a || !s.inRange g.fields a v then ignoreWrite m w s
      else takeWrite m w g.fields a v s

/-! ### The host's writes (R478, R479, R542) -/

/-- The MGT offsets that BAR4 reaches (R479). -/
def bar4Reaches (a : Nat) : Bool :=
  (decide (0x8000 ≤ a) && decide (a < 0x8800)) || (windowAt a).isSome ||
    (match arrIdx (a / 4 * 4) (Reg.MGT_RING_BASE_LO 0) 4 656 with
     | some k => decide (5 ≤ k % 16) && decide (k % 16 ≤ 9)
     | none => false)

/-- One aligned write of 4 bytes through a BAR. -/
def hostWrite (win : Window) (a v : Nat) (s : State) : State :=
  if win = .bar4 ∧ bar4Reaches a = false then ignoreWrite 0 (some win) s else writeReg 0 (some win) a v s

/-- The DAT bytes of one host port lie from an address for n bytes (R478). -/
def inDat (a n : Nat) : Bool :=
  decide (Reg.MGT_ECP_DAT 0 0 ≤ a) && decide (0x80 ≤ a % 0x100) && decide (a % 0x100 + n ≤ 0x100) && decide (a < 0x8800)

/-- The accesses that R478 admits for writes: 4 or 8 bytes, aligned; in DAT any aligned power of two up to 128. -/
def writeSizeOk (win : Window) (a n : Nat) : Bool :=
  let limit := match win with | .bar0 => 0x4000000 | .bar4 => 0x10000
  decide (a + n ≤ limit) &&
    (((n == 4 || n == 8) && a % n == 0) ||
      ((n == 16 || n == 32 || n == 64 || n == 128) && a % n == 0 && inDat a n) ||
      (n == 64 && a % 64 == 0 && (windowAt a).isSome))

/-- A host write of DAT bytes wider than 8 bytes is ignored whole (R10, R59, R83, R482). -/
def State.datIgnored (s : State) (a : Nat) : Bool :=
  !s.admits 0 a 0 || (s.ecp.get ((a - Reg.MGT_ECP_CTL 0) / 0x100)).busy

/-- The access is of 8 bytes and covers a counter (R508, R542). -/
def wideCounter (win : Window) (a n : Nat) : Bool := n == 8 && win == .bar0 && isCounter a

/-- A host write, each 4 bytes of it judged on its own, the lower address first (R542). A whole word of a word window goes at
once (R501), and a write of a counter or of more than 8 DAT bytes is one write, counted once where it is ignored (R10, R508). -/
def doRegisterWrite (win : Window) (a n v : Nat) (s : State) : State :=
  if !s.hostUp then s
  else if !writeSizeOk win a n then badAccess win s
  else match windowAt a with
  | some (c, off) => doWordWindowWrite .host win c off n (BitVec.ofNat 512 v) s
  | none =>
    if wideCounter win a n || (decide (8 < n) && s.datIgnored a) then ignoreWrite 0 (some win) s
    else (List.range (n / 4)).foldl (fun s k => hostWrite win (a + 4 * k) (word32 v k) s) s

/-- REGISTER_WRITE (R10). -/
def execRegisterWrite (win : Window) (addr : Nat) (size : Nat) (value : Nat) (s : State) : Res :=
  coreCmd (doRegisterWrite win addr size value) s

end Sys2Proof.Machine
end

