-- ==== Sys2Proof/Machine/Apply.lean ====
section
/-! DEFINITION. Step 9 of R77: an image is applied, and Service is entered. -/
namespace Sys2Proof.Machine

/-! ### Registers (R70, R72, R545) -/

/-- Every field marked "image" of a register that the reset of the blocks left standing is zero before LREG is written (R545). -/
def clearImageFields (s : State) : State :=
  { s with regs := ⟨s.regs.cells.filterMap (fun c =>
      let m := match regAt c.1 with | some g => imageMask g.fields | none => 0
      let v := c.2 &&& ~~~(BitVec.ofNat 32 m)
      if v = 0 then none else some (c.1, v))⟩ }

/-- A pair of LREG is written; the delay registers take the delay records in its place (R70, R424). -/
def writePair (p : Nat × Nat) (s : State) : State :=
  if (arrIdx p.1 (Reg.HMC_DLY 0 0) 4 384).isSome then s else
    let m := match regAt p.1 with | some g => lregBits g p.1 | none => 0
    setReg p.1 (s.reg p.1 - (s.reg p.1 &&& m) + (p.2 &&& m)) s

/-- LREG is written in list order; registers and bits of ports that do not exist keep zero (R70, R95). -/
def applyLreg (b : Blob) (s : State) : State :=
  let s := (lregPairs b).foldl (fun s p => writePair p s) (clearImageFields s)
  let s := { s with regs := s.regs.keep (fun a _ => !s.absentPort a) }
  let admin := (List.range 32).foldl (fun v p => if s.portExists p then v else setBit v p false) (s.reg Reg.LPC_PORT_ADMIN)
  setReg Reg.LPC_PORT_ADMIN admin s

/-- Sources that are active and whose new grade is higher than that at which they were answered are answered again (R469). -/
def regrade (s : State) : State :=
  (List.range 12).foldl (fun s src =>
    if bit s.sec.status.toNat src ∧ s.sec.answered.get src < s.grade src then answerAlarm src (s.grade src) s else s) s

/-- POLICY takes effect (R72, R469). -/
def applyPolicy (b : Blob) (s : State) : State :=
  let p := sectBytes b 3
  let s := setReg Reg.MGT_HB_CFG (fieldU p 0 2) (setReg Reg.MGT_DRAIN_CFG (fieldU p 2 2) s)
  let s := (List.range 4).foldl (fun s k => setReg (Reg.SEC_ALARM_GRADE k) (fieldU p (4 + 4 * k) 4) s) s
  regrade { s with sec := { s.sec with policy := true } }

/-! ### Delays (R422 to R424) -/

/-- The first factory record that cannot be used (R423). -/
def factoryFault (o : Otp) : Option Nat := (List.range 96).find? (fun n => !dlyCrcOk (o.hbmFactory.get n))

/-- The delay records are loaded, and pseudo-channels marked RETIRE are retired (R423, R432). -/
def applyDelays (b : Blob) (factory : Bool) (s : State) : State :=
  let rs := if factory then (List.range 96).map s.otp.hbmFactory.get else imgDelays b
  let s := rs.zipIdx.foldl (fun s x => updPc x.2 (fun p => { p with dly := x.1 }) s) s
  rs.zipIdx.foldl (fun s x => if !factory && dlyRetire x.1 then retirePc x.2 1 s else s) s

/-! ### Stores and geometry (R69, R71, R73, R74, R183, R333, R552) -/

/-- The listed values of consecutive keys as a table. -/
def denseMap {α : Type} [Inhabited α] [DecidableEq α] (l : List α) : SMap α :=
  ⟨(l.zipIdx.filter (fun x => decide (x.1 ≠ default))).map (fun x => (x.2, x.1))⟩

/-- The microcode of CSTORE and DISPATCH (R69, R306). -/
def applyCode (b : Blob) (s : State) : State :=
  let cs := sectBytes b 4
  let ds := sectBytes b 5
  { s with eng := { s.eng with
      cstore := denseMap ((records 4 65536 cs).map (bvOfBytes 32)),
      disp := denseMap ((records 2 256 ds).map (fun r => if leVal r = 0xFFFF then none else some (leVal r))) } }

/-- A partition's geometry, with its free indices (R74, R238, R552). -/
def applyPart (p : List Byte) (i : Nat) (s : State) : State :=
  let n := fieldU p (16 * i) 4
  let base := ((List.range i).map (fun k => fieldU p (16 * k) 4)).sum
  let s := setReg (Reg.FSE_PART_CFG i)
    (fieldU p (16 * i + 4) 1 + 2 ^ 8 * fieldU p (16 * i + 5) 1 + 2 ^ 16 * fieldU p (16 * i + 6) 2) s
  let s := setReg (Reg.FSE_PART_BASE i) base (setReg (Reg.FSE_PART_CLOVES i) n s)
  updPart i (fun q => { q with freeCache := [(base, 4096)], freeBits := [(base + 4096, n - 4096)], refillPos := 4096 }) s

/-- A pool's geometry, with its ring of every buffer in ascending order (R73, R333). -/
def applyPool (p : List Byte) (k : Nat) (s : State) : State :=
  let r := poolRec p k
  let s := setReg (Reg.BPM_POOL_CFG k) (r.1 + 2 ^ 31 * r.2) s
  updPool k (fun q => { q with ring := if r.1 = 0 then [] else [(0, r.1)] }) s

/-- The 16,384 port next-hops (R183). -/
def portNextHops : List (Nat × Dat) :=
  (List.range 16384).map (fun k => (tblKey 0x13 k, BitVec.ofNat 1024 (1 + 2 ^ 16 * (k / 32) + 2 ^ 32 * (k % 32))))

/-- The parts of the image that are neither registers nor table entries. -/
def applyStores (b : Blob) (s : State) : State :=
  let g := graphNodes b
  let s := applyCode b { s with topo := bvOfBytes 2048 (sectBytes b 2), graph := denseMap g, graphLen := g.length, tbl := ⟨portNextHops⟩ }
  let s := placeFwd s
  let s := (List.range 4).foldl (fun s k => applyPool (sectBytes b 7) k s) s
  let s := (List.range 4).foldl (fun s i => applyPart (sectBytes b 8) i s) s
  podStart s

/-! ### Keys, incarnation and leaf (R211, R369, R462) -/

/-- The keys and seeds are drawn, and the incarnation (R369, R471). -/
def drawKeys (inc : Nat) (s : State) : State :=
  let k := s.free
  { s with free := k + 8, sec := { s.sec with keys := freshKeys (fun n => Config.trng (k + n)) },
           swc := { s.swc with inc := inc }, isl := { s.isl with inc := inc } }

/-- The boot leaf is taken (R462). -/
def takeLeaf (ok : Bool) (s : State) : State :=
  let b := s.bootsUsed
  if 1024 ≤ b then raise 1 10 noUnit 1 { s with sec := { s.sec with ident := .exhausted } }
  else if ok then
    { s with otp := { s.otp with bootCount := s.otp.bootCount ||| BitVec.ofNat 1024 (2 ^ b) },
             sec := { s.sec with leaf := some b, ident := .building } }
  else raise 1 7 noUnit 1 s

/-! ### PRELOAD (R75) -/

/-- The records of PRELOAD are applied in list order; the index of the one that fails, if any. -/
def applyPreload : List (List Byte) → Nat → State → Option Nat × State
  | [], _, s => (none, s)
  | r :: rest, i, s =>
    let d : Dat := bvOfBytes 1024 (slice r 8 (fieldU r 2 2))
    match loaderOp (fieldU r 0 1) (fieldU r 1 1) (fieldU r 4 4) d s with
    | (0, s) => applyPreload rest (i + 1) s
    | (_, s) => (some i, s)

/-! ### The whole of step 9 -/

/-- How step 9 ends: in Lockdown by POLICY, in failure with SECTION and detail, or passed. -/
inductive ApplyEnd where
  | lockdown | failed (sect detail : Nat) | passed
deriving DecidableEq, Repr

/-- Step 9 from the delays on. The device ID is in force for the tables. -/
def applyRest (b : Blob) (a : ApplyRead) (s : State) : ApplyEnd × State :=
  let factory := bit (imgFlags (imgHeader b)) 1
  match (if factory then factoryFault s.otp else none) with
  | some n => (.failed 0xFF n, s)
  | none =>
    if a.hwOk = false then (.failed 0xFF 0, s) else
      let s := applyStores b (applyDelays b factory s)
      let s := takeLeaf a.leafOk (drawKeys a.inc s)
      match applyPreload (preloads b) 0 s with
      | (some i, s) => (.failed (sectIdx b 10) i, s)
      | (none, s) =>
        if a.serdesOk = false then (.failed 0xFF 0, s) else if s.setOk 0 then (.passed, s) else (.failed 0xFE 0, s)

/-- Step 9. -/
def applyImage (b : Blob) (a : ApplyRead) (s : State) : ApplyEnd × State :=
  let h := imgHeader b
  let s := applyPolicy b (applyLreg b (resetBlocks s))
  if s.md.mode ≠ .load then (.lockdown, s)
  else applyRest b a { s with load := { s.load with devId := imgDeviceId h, flags := imgFlags h, secVersion := imgSecVersion h,
                                                    buildId := imgBuildId h } }

/-- Step 9 fails (R77): every block outside MGT, SEC and TBE returns to cold reset, and the registers of those three hold what they
held before it. Fuses, events and draws stand. -/
def applyFail (sect detail : Nat) (before s : State) : State :=
  let s := resetBlocks s
  loadFail 11 9 sect detail { s with regs := before.regs, sec := { s.sec with keys := {}, leaf := none, ident := .none } }

/-- COMMIT_VERSION at Service entry (R78, R460): `count` is the ROLLBACK count as it reads back. -/
def commitVersion (flags version count : Nat) (s : State) : State :=
  let old := s.fusedVersion
  if bit flags 0 = false ∨ version ≤ old then s else
    let new := max old (min version count)
    let s := { s with otp := { s.otp with rollback := s.otp.rollback ||| BitVec.ofNat 64 (2 ^ new - 2 ^ old) } }
    if new < version then raise 1 7 noUnit 0 s else raise 1 3 noUnit new s

/-- The scanners and scrubbers begin their rounds at the end of Load (DESIGN CHOICE). -/
def startScans (s : State) : State :=
  { s with fwd := { s.fwd with scanAt := s.now }, asa := { s.asa with scrubAt := s.now }, pod := { s.pod with scrubAt := s.now },
           hmc := { s.hmc with pcs := (List.range 96).foldl (fun m n => m.upd n (fun p => { p with scrubAt := s.now })) s.hmc.pcs },
           part := (List.range 4).foldl (fun m i => m.upd i (fun p => { p with visitAt := s.now })) s.part }

/-- Load passes and Service is entered (R77, R78, R80, R82, R94, R99, R411); slot 0 becomes active (R142, R145). -/
def loadPass (a : ApplyRead) (s : State) : State :=
  let s := { s with load := { s.load with phase := .idle, ok := true, step := 9, applied := true },
                    port := (List.range 32).foldl (fun m p => m.set p { rawSince := s.now }) s.port }
  let s := enterService 1 (reindex s)
  let s := startScans (updCls (fun c => { c with slotEpoch0 := s.epoch }) s)
  let s := raise 1 1 noUnit (s.load.secVersion + 2 ^ 16 * s.load.devId) s
  runnerStart (podService (commitVersion s.load.flags s.load.secVersion a.rollback s))

/-- Step 9 of an image whose checks have passed. A draw of 0, or of the incarnation before, is not one the TRNG draw gives (R369). -/
def doApplyDone (a : ApplyRead) (s : State) : State :=
  if s.md.mode ≠ .load ∨ s.load.phase ≠ .applying ∨ a.inc = 0 ∨ a.inc = s.isl.inc ∨ 65536 ≤ a.inc then s else
    match applyImage s.load.image a s with
    | (.passed, t) => loadPass a t
    | (.lockdown, t) => t
    | (.failed sect detail, t) => applyFail sect detail s t

/-- APPLY_DONE (R77). -/
def execApplyDone (a : ApplyRead) (s : State) : Res := coreCmd (doApplyDone a) s

end Sys2Proof.Machine
end

