-- ==== Sys2Proof/Machine/Pipeline.lean ====
section
/-! DEFINITION. The pipelines from end to end: a pass through an ingress pipeline (R108, R115, R131, R135), the packets that
leave a cluster (R301, R303), and the entry of an egress pipeline (R193, R208). -/
namespace Sys2Proof.Machine

/-- A bad packet that goes nowhere it could be stomped is discarded (R97, R357). -/
def discardBad (p : Pkt) (s : State) : State := if p.fabric then poisonDrop p s else s

/-! ### Ends of an ingress pass -/

/-- A punt of ingress pipeline i (R347, R496). -/
def ingressPunt (i conduit source : Nat) (p : Pkt) (s : State) : State :=
  if p.bad then discardBad p s else puntIngress i conduit source p s

/-- A pass that ends with RECIRC (R17, R135). Its pipeline's queue is full when its charge or the free cells do not allow it (R324). -/
def recirculate (i node : Nat) (p : Pkt) (s : State) : State :=
  let c := p.cls % 8
  if 3 ≤ p.pass then countC c (Cnt.CLS_RECIRC_LIMIT i) s
  else if p.bad then discardBad p s
  else if s.regF (Reg.PBF_LIMIT 11 c) 18 0 < s.pbfUsed 11 c + pktCells p ∨ s.freeCells < pktCells p then
    countC c (Cnt.CLS_RECIRC_DROP i) s
  else
    let k := { p with pass := p.pass + 1, node := node, recirc := none, clove := none, gen := 0, counted := false }
    countC c (Cnt.CLS_RECIRC i) (updSwc (fun w => { w with recirc := w.recirc.upd i (fun l => l ++ [k]) })
      (chargeCells 11 c (pktCells p) s))

/-- The hash that selects a member for a packet by its FIVE_TUPLE key (R265). A packet without one has no stated hash: it is a free
value. -/
def spreadHash (key : Option (BitVec 384)) (s : State) : Nat × State :=
  match key with
  | some k => (s.lbHash k, s)
  | none => let d := draw s; (Config.pick d.1 % 2 ^ 32, d.2)

/-- FORWARD at ingress (R184, R267, R301): the next hop is resolved, and the packet goes to its virtual output queue. -/
def ingressForward (i : Nat) (key : Option (BitVec 384)) (p : Pkt) (s : State) : State :=
  match takeNextHop i p.nexthop p s with
  | (.dest p, s) =>
    let e := s.nextHop p.nexthop
    if datU e 0 1 ≠ 2 then voqEnter i p s else
      let g := datU e 6 2 % 2 ^ 14
      let (h, s) := spreadHash key s
      match s.lbChoose g h with
      | none => lbNoMember i g p.cls s
      | some (m, fallback) =>
        let s := if fallback then countC p.cls (Cnt.FSE_LB_FALLBACK i) s else s
        match takeNextHop i (s.lbNextHop g m) p s with
        | (.dest p, s) => voqEnter i p s
        | (_, s) => s
  | (_, s) => s

/-- The FIVE_TUPLE key of a packet by the header codes of its profile (R209, R265). -/
def State.fiveTuple (s : State) (p : Pkt) : Option (BitVec 384) :=
  let pr := s.profile p.flowProfile
  if profValid pr then buildKey (datPut pr 1 1 1) p false else none

/-- What forwarding leaves of a packet goes on (R131, R180, R181). -/
def afterForward (i : Nat) (o : FwdOut) (s : State) : State :=
  match o with
  | .drop => s
  | .punt conduit source p => ingressPunt i conduit source p s
  | .wait step ctx p => { s with fwdq := s.fwdq.upd i (fun l => l ++ [(p, step, ctx)]) }
  | .dest p =>
    if p.noFlow then ingressForward i (s.fiveTuple p) p s
    else { s with fseq := s.fseq.upd (2 * i) (fun l => l ++ [p]) }

/-! ### A pass (R17, R108, R115) -/

/-- The outcome counters of a parse (R115, R118). -/
def countParse (i : Nat) (r : ParseRes) (s : State) : State :=
  match r.outcome with
  | 0 => count (Cnt.PRS_OK i) s
  | 1 => count (Cnt.PRS_TOO_DEEP i) s
  | 2 => count (Cnt.PRS_MAL_REASON i (r.reason % 32)) (count (Cnt.PRS_MALFORMED i) s)
  | _ => count (Cnt.PRS_TRUNCATED i) s

/-- One pass of a packet through parser, classifier and forwarding. `bad` lists the array entries whose read finds a parity
error (R169). -/
def ingressPass (i : Nat) (bad : List Nat) (p : Pkt) (s : State) : State :=
  let r := parseFrame s.graph p.node p.bytes
  match classify i { p with parse := r, inp := i } bad (countParse i r s) with
  | (.drop, s) => s
  | (.punt conduit p, s) => ingressPunt i conduit 1 p s
  | (.recirc p, s) => recirculate i (p.recirc.getD 0) p s
  | (.forward p, s) => let x := fwdStart i p s; afterForward i x.1 x.2

/-- An ingress pipeline accepts a packet (R17): line packets first, which wait while the pipeline refuses them (R19), else the
packet at its recirculation input. A MODE 1 packet starts at its port's node (R497). None is accepted while the forwarding stage's read
queue holds 1,024 packets (R181). -/
def doIngressPass (i : Nat) (bad : List Nat) (s : State) : State :=
  if s.moves = false ∨ 3 < i ∨ 1024 ≤ (s.fwdq.get i).length then s else
    match (if s.refusesFrames i then [] else s.swc.line.get i) with
    | p :: rest => ingressPass i bad p (updSwc (fun w => { w with line := w.line.set i rest }) s)
    | [] =>
      match s.swc.reentry.get i with
      | [] => s
      | p :: rest =>
        let p := if p.pass = 0 then { p with node := s.startNode p.inPort } else p
        ingressPass i bad p (updSwc (fun w => { w with reentry := w.reentry.set i rest }) s)

/-- INGRESS_PASS (R17). -/
def execIngressPass (pipe : Nat) (bad : List Nat) (s : State) : Res := coreCmd (doIngressPass pipe bad) s

/-- The forwarding read of the k-th packet that waits for one returns (R181, R430). -/
def doFwdReadDone (i k : Nat) (poisoned : Bool) (s : State) : State :=
  match (s.fwdq.get i)[k]? with
  | none => s
  | some (p, step, ctx) =>
    if s.moves = false then s else
      let x := fwdResume i step ctx p poisoned { s with fwdq := s.fwdq.upd i (fun l => l.eraseIdx k) }
      afterForward i x.1 x.2

/-- FWD_READ_DONE (R181). -/
def execFwdReadDone (pipe : Nat) (k : Nat) (poisoned : Bool) (s : State) : Res := coreCmd (doFwdReadDone pipe k poisoned) s

/-! ### Leaving a cluster (R301, R303) -/

/-- The ordering key of a run: the clove, the flow hash, or the ingress port (R303). -/
def orderKey (h : Thread) : Nat × Nat :=
  match h.clove with
  | some i => (0, i)
  | none => if h.keyed then (1, h.hash) else (2, h.pkt.inPort)

/-- No packet of the same ordering key that entered FSE before is still in the side of the cluster (R303). -/
def State.mayExit (s : State) (t : Nat) : Bool :=
  let h := s.th t
  let c := thCluster t
  !(s.eng.th.pairsIn (1024 * c) (1024 * c + 1024)).any (fun x =>
    x.2.wait != .free && x.2.egress == h.egress && decide (x.2.order < h.order) && orderKey x.2 == orderKey h)

/-- The program that a thread ran translated the packet for NAT64 under a clove of a format (R246, R257). -/
def State.translates (s : State) (i : Nat) (h : Thread) (fmt : Nat) : Bool :=
  match h.clove with
  | none => false
  | some idx => let c := s.cloveNow i idx; h.started && datU c 64 1 == fmt && (fmt == 2 || datB c 65 1 1 == 1)

/-- Verdicts at ingress (R301), or the no-state action of a packet that ran no program (R225). -/
def exitIngress (i : Nat) (h : Thread) (s : State) : State :=
  match h.verdict with
  | 1 => s
  | 2 => ingressPunt i h.varg (if h.started then 4 else 5) h.pkt s
  | 3 => recirculate i h.varg h.pkt s
  | _ => ingressForward i (if h.keyed && datU h.key 0 1 == 1 then some h.key else s.fiveTuple h.pkt)
      { h.pkt with nat64 := s.translates i h 2 } s

/-- A packet has left its egress pipeline. Where it did not reach a queue, what still comes of its tail is discarded (R356). -/
def reapTail (p : Pkt) (s : State) : State :=
  match p.tail with
  | none => s
  | some n =>
    if (s.leafOfTail n).isSome || s.buf.staged.any (fun t => t.pkt.tail == some n) then s else dropTail (some n) s

/-- A frame for a port that is down is discarded as it arrives at the egress pipeline (R104). -/
def State.meetsDownPort (s : State) (p : Pkt) : Bool := !p.natOwner && s.portExists p.port && !(s.port.get p.port).up

/-- A translated frame that is too long for its port (R257). The marks of the fabric do not say that another device translated it. -/
def State.tooBig (s : State) (p : Pkt) : Bool :=
  p.nat64 && decide (s.regF (Reg.LPC_PORT_CFG (p.port % 32)) 13 0 < s.pktLen p + 4)

/-- A packet goes on to the final rewrite and TMS (R104, R257, R301). -/
def egressForward (j : Nat) (p : Pkt) (s : State) : State :=
  if s.tooBig p then countC p.cls (Cnt.FSE_NAT_TOOBIG j) s
  else if s.meetsDownPort p then countC p.cls (Cnt.LPC_TX_DOWN_DROP p.port) s
  else tmsEnqueue j p s

/-- Verdicts at egress (R301, R257). -/
def exitEgress (j : Nat) (h : Thread) (s : State) : State :=
  match h.verdict with
  | 1 => s
  | 2 =>
    let p := s.joined h.pkt
    if p.bad then discardBad p s else puntNow h.varg (if h.started then 6 else 5) p s
  | 3 => countC h.pkt.cls (Cnt.ENG_EGR_RECIRC j) s
  | _ => egressForward j { h.pkt with nat64 := h.pkt.nat64 || s.translates j h 0x12 } s

/-- A finished packet leaves its cluster and its thread becomes free (R301, R303). A punt waits for the packet's tail. -/
def doClusterExit (t : Nat) (s : State) : State :=
  let h := s.th t
  if s.moves = false ∨ h.wait ≠ .ended ∨ s.mayExit t = false ∨ (h.verdict = 2 ∧ s.tailOpen h.pkt = true) then s
  else
    let s := setTh t {} s
    if h.egress then reapTail h.pkt (exitEgress (thCluster t) h s) else exitIngress (thCluster t) h s

/-- CLUSTER_EXIT (R303). -/
def execClusterExit (th : Nat) (s : State) : Res := coreCmd (doClusterExit th) s

/-! ### Entry of an egress pipeline (R193, R208, R290) -/

/-- A bridged frame from another device teaches its source (R193, R194): the MAC address in bytes 6 to 11 of the frame (DESIGN CHOICE,
assumption 72). -/
def egressLearn (j : Nat) (p : Pkt) (s : State) : State :=
  let d := s.tblGet 0x14 p.context
  if p.fabric && p.bridged && decide (p.context < 4096) && datB d 0 0 1 == 1 && datB d 0 2 1 == 1 then
    queueCheck j { bd := p.context, mac := beAt p.bytes 6 6, nexthop := 32 * p.originDev + p.originPort } s
  else s

/-- The bytes by which a packet is parsed at its egress pipeline. The length of one whose tail is still arriving is not known: it is
taken as that of the longest frame (DESIGN CHOICE). -/
def State.parseBytes (s : State) (p : Pkt) : List Byte := if s.tailOpen p then padTo 9212 p.bytes else (s.joined p).bytes

/-- The parse result of a packet at its egress pipeline: a packet that brings none is parsed from the start node of its egress port
(DEDUCED). -/
def State.egressParse (s : State) (j : Nat) (p : Pkt) : ParseRes :=
  if p.fabric || p.inp == 10 then parseFrame s.graph (s.startNode (if p.natOwner then 8 * j else p.port % 32)) (s.parseBytes p) else p.parse

/-- A packet delivered by the switch core enters egress pipeline j (R208, R290). -/
def doEgressEntry (j : Nat) (s : State) : State :=
  if s.moves = false then s else
    match s.swc.egq.get j with
    | [] => s
    | p :: rest =>
      let s := egressLearn j p (updSwc (fun w => { w with egq := w.egq.set j rest }) s)
      let p := { p with parse := s.egressParse j p }
      if s.meetsDownPort p then dropTail p.tail (countC p.cls (Cnt.LPC_TX_DOWN_DROP p.port) s)
      else if p.skipEgr then reapTail p (egressForward j p s)
      else { s with fseq := s.fseq.upd (2 * j + 1) (fun l => l ++ [p]) }

/-- EGRESS_ENTRY (R208). -/
def execEgressEntry (pipe : Nat) (s : State) : Res := coreCmd (doEgressEntry pipe) s

end Sys2Proof.Machine
end

