-- ==== Sys2Proof/Machine/Reassembly.lean ====
section
/-! DEFINITION. Cells from the Malmin lanes become packets again (R325, R353, R356, R357, R360, R374, R415). A stream is named by its
source device and a number: the class of a BULK stream, or 8 for EXPRESS. A packet may go on before its tail has arrived; its
tail is then followed in a record of its own. -/
namespace Sys2Proof.Machine

def State.rxStream (s : State) (d k : Nat) : RxStream := (s.peer d).rx.get k
def updRx (d k : Nat) (f : RxStream → RxStream) (s : State) : State := updPeer d (fun p => { p with rx := p.rx.upd k f }) s
def updTail (n : Nat) (f : TailSt → TailSt) (s : State) : State := updSwc (fun w => { w with tails := w.tails.upd n f }) s

/-- Cells of BULK class k from D arrive: the credits of as many are used (R368). -/
def useCredits (d k n : Nat) (s : State) : State :=
  if k = 8 then s else updPeer d (fun p => { p with granted := p.granted.upd k (· - n) }) s

/-! ### What becomes of a packet -/

/-- A packet from its descriptor and frame as the fabric brought them (R361). -/
def fabricPkt (s : State) (g : Nat) (bs : List Byte) (cut bad : Bool) (tail : Option Nat) : Pkt :=
  let b := fun k => (byteAt bs k).toNat
  let u := fun off n => leVal (slice bs off n)
  let cl := u 20 4
  { bytes := bs.drop 32, inp := 4 + g, fabric := true, originDev := u 14 2 % 512, originPort := u 14 2 / 512 % 32,
    epoch := u 16 4, cls := b 3 % 8, colour := b 3 / 8 % 4, queue := b 3 / 32, dev := s.devId,
    port := if bit (b 2) 7 then b 2 % 4 else b 2 % 32, natOwner := bit (b 2) 7, subscriber := u 4 2, rewrite := u 8 4 % 2 ^ 20,
    context := u 26 2, bridged := bit (b 13) 2, egrProfile := if bit (b 13) 0 then some (b 12) else none,
    skipEgr := bit (b 13) 1, clove := if bit cl 31 then some (cl / 2 ^ 28 % 4, cl % 2 ^ 27) else none, gen := b 24,
    stEntry := u 28 4, bad := bad, cut := cut, tail := tail }

/-- A bulk packet enters the receive queue of its pipeline (R353). -/
def receiveBulk (g : Nat) (p : Pkt) (s : State) : State :=
  updSwc (fun w => { w with rxq := w.rxq.upd (4 * g + egrPipe p) (fun q => q ++ [p]) }) s

/-- A whole packet of a BULK stream (R325, R353), of which `held` cells are staged already. -/
def deliverBulk (g d k : Nat) (bs : List Byte) (cut bad : Bool) (held : Nat) (s : State) : State :=
  let p := fabricPkt s g bs cut bad none
  let n := pktCells p
  let s := useCredits d k (n - held) s
  let s := if bad then countC p.cls Cnt.SWC_POISON_RX s else s
  if n ≤ held ∨ s.stageRoom (4 + g) (n - held) = true then receiveBulk g p (addStage (4 + g) (n - held) s)
  else countC p.cls Cnt.PBF_STAGE_DROP (subStage (4 + g) held s)

/-- A whole packet of an EXPRESS stream goes to the express queue of its port (R415). A poisoned one has not been started, and is
discarded (R357). -/
def deliverExpress (bs : List Byte) (bad : Bool) (s : State) : State :=
  let s := count Cnt.XPR_FROM_FABRIC s
  if bad then count Cnt.SWC_POISON_DROP (count Cnt.SWC_POISON_RX s)
  else expressQueue ((byteAt bs 2).toNat % 32) { bytes := bs.drop 32, fabric := true } s

/-- The packet in assembly may go on before its tail has arrived: an EXPRESS packet with START_CELLS of its cells (R356, R415), a
bulk one, where its fabric input and class cut through (R354), with the bytes that its pipeline reads (DESIGN CHOICE). -/
def State.mayGoOn (s : State) (k g n : Nat) : Bool :=
  if k = 8 then decide (256 * s.regF Reg.SWC_CT_CFG 5 0 ≤ n) else bit (s.reg (Reg.SWC_CT_EN (4 + g))) k && decide (512 ≤ n)

/-- The packet in assembly goes on, and its tail is followed (R356). `need` bytes of it are still to come, 0 where END shows its
end. -/
def goOn (g d k : Nat) (bs : List Byte) (need : Nat) (s : State) : State :=
  let n := s.swc.nextTail
  let c := if k = 8 then 0 else cdiv (bs.length - 32) 256
  let s := updSwc (fun w => { w with nextTail := n + 1,
                                     tails := w.tails.set n { state := .arriving, inp := 4 + g, held := c, cls := k % 8 } }) s
  let s := updRx d k (fun r => { r with part := [], got := bs.length - 32, grp := g, tail := some n, need := need }) s
  if k = 8 then
    expressQueue ((byteAt bs 2).toNat % 32) { bytes := bs.drop 32, fabric := true, tail := some n } (count Cnt.XPR_FROM_FABRIC s)
  else receiveBulk g (fabricPkt s g bs (need == 0) false (some n)) s

/-- A packet in assembly takes a cell for which staging has no room: it is dropped at that cell (R325), and what still comes of it is
discarded. -/
def dropAtCell (d k need : Nat) (cls : Nat) (s : State) : State :=
  let n := s.swc.nextTail
  countC cls Cnt.PBF_STAGE_DROP (updRx d k (fun r => { r with part := [], tail := some n, need := need })
    (updSwc (fun w => { w with nextTail := n + 1 }) s))

/-- The packet in assembly holds the bytes `bs` and its end has not come (R325). -/
def keepPart (g d k : Nat) (bs : List Byte) (s : State) : State :=
  let r := s.rxStream d k
  let len := leVal (bs.take 2)
  let need := if len = 0 then 0 else 32 + len - bs.length
  let got := bs.length - 32
  let held := cdiv r.got 256
  let n := cdiv got 256 - held
  let s := useCredits d k n s
  if k ≠ 8 ∧ 0 < n ∧ s.stageRoom (4 + g) n = false then dropAtCell d k need ((byteAt bs 3).toNat % 8) (subStage (4 + g) held s)
  else
    let s := if k = 8 then s else addStage (4 + g) n s
    if decide (32 ≤ bs.length) && s.mayGoOn k g got then goOn g d k bs need s
    else updRx d k (fun r => { r with part := bs, got := got, grp := g }) s

/-- Whether an express frame whose tail is record n may take c more cells (R414): within its queue's limit and the express buffer. -/
def State.expTailFits (s : State) (n c : Nat) : Bool :=
  match s.expOfTail n with
  | none => true
  | some (port, _, _) =>
    c == 0 || (decide (s.expCells (s.pod.exq.get port) + c ≤ s.regF Reg.XPR_QLIMIT 13 0) && decide (s.expUsed + c ≤ 8192))

/-- Bytes of a packet that has gone on (R325, R326, R356). A cell that staging has no room for ends the packet; one that its queue has
linked cut-through has its cells reserved. -/
def tailBytes (d k n : Nat) (bs : List Byte) (s : State) : State :=
  let r := s.rxStream d k
  let c := cdiv (r.got + bs.length) 256 - cdiv r.got 256
  let s := useCredits d k c (updRx d k (fun r => { r with got := r.got + bs.length }) s)
  let t := s.swc.tails.get n
  if t.state ≠ .arriving then s
  else if k = 8 then
    if s.expTailFits n c then updTail n (fun t => { t with rest := t.rest ++ bs }) s else endTail n .lost (count Cnt.XPR_BUF_DROP s)
  else if t.linked then updTail n (fun t => { t with rest := t.rest ++ bs }) s
  else if c = 0 ∨ s.stageRoom t.inp c = true then
    updTail n (fun t => { t with rest := t.rest ++ bs, held := t.held + c }) (addStage t.inp c s)
  else endTail n .lost (countC t.cls Cnt.PBF_STAGE_DROP s)

/-- The end of a packet that has gone on (R357). -/
def tailEnds (k n : Nat) (poison : Bool) (s : State) : State :=
  let s := if poison then (if k = 8 then count Cnt.SWC_POISON_RX s else countC (k % 8) Cnt.SWC_POISON_RX s) else s
  endTail n (if poison then .poisoned else .whole) s

/-! ### Bytes and cells of a stream -/

/-- The bytes of a cell in their turn (R360). `fin` and `poison` are its marks; the first argument bounds the packets. -/
def feedStream (g d k : Nat) (fin poison : Bool) : Nat → List Byte → State → State
  | 0, _, s => s
  | n + 1, bs, s =>
    let r := s.rxStream d k
    let clear := updRx d k (fun r => { r with part := [], got := 0, tail := none, need := 0 })
    match r.tail with
    | some id =>
      if r.need = 0 then
        let s := tailBytes d k id bs s
        if fin then tailEnds k id poison (clear s) else s
      else
        let s := tailBytes d k id (bs.take r.need) s
        if r.need ≤ bs.length then feedStream g d k fin poison n (bs.drop r.need) (tailEnds k id false (clear s))
        else updRx d k (fun x => { x with need := r.need - bs.length }) s
    | none =>
      let all := r.part ++ bs
      let grp := if r.part.isEmpty then g else r.grp
      let len := leVal (all.take 2)
      let whole := fun (x : List Byte) (cut bad : Bool) (s : State) =>
        if k = 8 then deliverExpress x bad (clear s) else deliverBulk grp d k x cut bad (cdiv r.got 256) (clear s)
      if all.length < 32 then (if all.isEmpty then s else keepPart grp d k all s)
      else if len = 0 then (if fin then whole all true poison s else keepPart grp d k all s)
      else if 32 + len ≤ all.length then feedStream g d k fin poison n (all.drop (32 + len)) (whole (all.take (32 + len)) false false s)
      else keepPart grp d k all s

/-- A cell in its turn (R374): while cells are skipped, only one with a packet start is read, from its FPO. -/
def feedCell (g d k : Nat) (c : Cell) (s : State) : State :=
  let body := c.payload.take (min 240 c.len)
  let skip := (s.rxStream d k).skip
  let s := updRx d k (fun r => { r with seq := (c.seq + 1) % 65536 }) s
  if skip && c.fpo == 0xFF then s
  else feedStream g d k c.fin c.poison 10 (if skip then body.drop c.fpo else body) (updRx d k (fun r => { r with skip := false }) s)

/-- The early cells whose turn has come (R374), with their staging cells; the first argument bounds them. -/
def drainEarly (d k : Nat) : Nat → State → State
  | 0, s => s
  | n + 1, s =>
    let r := s.rxStream d k
    match r.early.find? (fun e => !e.lost && e.cell.seq == r.seq) with
    | none => s
    | some e =>
      drainEarly d k n (feedCell e.grp d k e.cell (subStage (4 + e.grp) 1 (updRx d k (fun r => { r with early := r.early.erase e }) s)))

/-- A cell of a stream (R374). An early cell is held while the staging of its fabric input has room for it (R325); a lost one that
arrives after all takes its place. -/
def takeStream (g d k : Nat) (c : Cell) (s : State) : State :=
  let r := s.rxStream d k
  let off := (c.seq + 65536 - r.seq) % 65536
  if 32768 ≤ off ∨ r.early.any (fun e => !e.lost && e.cell.seq == c.seq) = true then count Cnt.SWC_DUP s
  else
    let others := r.early.filter (fun e => e.cell.seq != c.seq)
    if off = 0 then drainEarly d k (r.early.length + 1) (feedCell g d k c (updRx d k (fun r => { r with early := others }) s))
    else if s.stageRoom (4 + g) 1 then
      addStage (4 + g) 1 (updRx d k (fun r => { r with early := others ++ [{ grp := g, cell := c, at_ := s.now }] }) s)
    else
      updRx d k (fun r => { r with early := others ++ [{ grp := g, cell := c, at_ := s.now, lost := true }] })
        (countC (k % 8) Cnt.PBF_STAGE_DROP s)

/-- A numbered cell of a stream arrives (R353, R365, R370, R374). -/
def doStreamCell (l k : Nat) (c : Cell) (s : State) : State :=
  if !s.laneLive l then s else
    let (ok, s) := acceptNumbered l c s
    if !ok then s else
      let (ok, s) := acceptSource c s
      if !ok then s else takeStream (l / 8) (c.src % 512) k c s

/-- BULK_CELL (R370). -/
def execBulkCell (lane : Nat) (cell : Cell) (s : State) : Res := coreCmd (doStreamCell lane (cell.cls % 8) cell) s

/-- EXPRESS_CELL (R415). -/
def execExpressCell (lane : Nat) (cell : Cell) (s : State) : Res := coreCmd (doStreamCell lane 8 cell) s

/-! ### Gaps (R374) -/

/-- How far a SEQ lies ahead of the one expected. -/
def seqAhead (r : RxStream) (seq : Nat) : Nat := (seq + 65536 - r.seq) % 65536

/-- ST since which the first gap of a stream lasts (R374): the first cell from beyond it that arrived showed it. -/
def gapSince (r : RxStream) : Option Nat := (r.early.map EarlyCell.at_).min?

/-- The SEQ with which the stream goes on after its first gap (R374): that of the nearest early cell, or the one after the last cell that
found no room. -/
def gapEnd (r : RxStream) : Nat :=
  match ((r.early.filter (fun e => !e.lost)).map (fun e => seqAhead r e.cell.seq)).min? with
  | some n => (r.seq + n) % 65536
  | none => (r.seq + (r.early.map (fun e => seqAhead r e.cell.seq + 1)).foldl max 0) % 65536

/-- Packets that the missing cells of a gap up to a SEQ touch (R374). The cells that did arrive show that there is one; how many more
lay wholly in the missing cells, at most eight in each, is open. -/
def gapLoss (r : RxStream) (upto : Nat) (s : State) : Nat × State :=
  let d := draw s
  (1 + Config.pick d.1 % (8 * seqAhead r upto + 1), d.2)

/-- The device gives up on the first gap of a stream (R374). -/
def doReseqTimeout (d k : Nat) (s : State) : State :=
  let r := s.rxStream d k
  match gapSince r with
  | none => s
  | some g =>
    if 8 < k ∨ s.moves = false then s else
      let upto := gapEnd r
      let x := gapLoss r upto (runTo (g + s.regF Reg.SWC_RESEQ_CFG 15 0) s)
      let s := dropPart k r (countA {} Cnt.SWC_RESEQ_LOSS x.1 x.2)
      let s := updRx d k (fun r => { r with seq := upto, early := r.early.filter (fun e => decide (seqAhead r upto ≤ seqAhead r e.cell.seq)),
                                            part := [], got := 0, tail := none, need := 0, skip := true }) s
      drainEarly d k (r.early.length + 1) s

/-- RESEQ_TIMEOUT (R374). -/
def execReseqTimeout (peer : Nat) (stream : Nat) (s : State) : Res := coreCmd (doReseqTimeout peer stream) s

end Sys2Proof.Machine
end

