-- ==== Sys2Proof/Machine/Sideband.lean ====
section
/-! DEFINITION. The side-band port: Kaseni requests and responses (R502 to R507, R556), the SMBus alert response (R518) and the
port's timeout (R534). -/
namespace Sys2Proof

/-- The status codes of R505. -/
inductive SbStatus where
  | ok | busy | refused | badCmd | badLen | badAddr | coreOff | noResponse | badParam
deriving DecidableEq, Repr

def SbStatus.code : SbStatus → Nat
  | .ok => 0 | .busy => 1 | .refused => 2 | .badCmd => 3 | .badLen => 4 | .badAddr => 5 | .coreOff => 6 | .noResponse => 7
  | .badParam => 8

end Sys2Proof
namespace Sys2Proof.Machine

/-! ### SMBus transactions (R502, R503) -/

/-- One byte through CRC-8 with polynomial x^8 + x^2 + x + 1, most significant bit first. -/
def pecByte : Nat → Nat → Nat
  | 0, c => c
  | k + 1, c => pecByte k (if c ≥ 0x80 then ((c * 2) ^^^ 7) % 256 else c * 2)

/-- The PEC of a transaction's bytes, address bytes included (PRESUMED: the CRC-8 of SMBus 3.x, which R502 names). -/
def smbPec (bs : List Byte) : Byte := BitVec.ofNat 8 (bs.foldl (fun c b => pecByte 8 (c ^^^ b.toNat)) 0)

/-- What the device sends in a Block Read of command 0x7F: the byte count, SEQ, STATUS, the data and PEC (R503). -/
def blockRead (addr : Nat) (r : SbResp) : List Byte :=
  let body := BitVec.ofNat 8 (2 + r.data.length) :: r.seq :: r.status :: r.data
  body ++ [smbPec ([BitVec.ofNat 8 (2 * addr), 0x7F, BitVec.ofNat 8 (2 * addr + 1)] ++ body)]

/-- What the device sends to the Alert Response Address: its own address and PEC (R502, R518; the address 0x0C is SMBus's). -/
def alertAnswer (addr : Nat) : List Byte := [BitVec.ofNat 8 (2 * addr), smbPec [0x19, BitVec.ofNat 8 (2 * addr)]]

/-- The side-band address (R502). -/
def State.sbAddr (s : State) : Nat := 0x58 + s.pins.bpos

/-- The core is on (R472, R506, R526). -/
def State.coreOn (s : State) : Bool := !s.coreHeld

/-! ### Requests and responses (R503) -/

/-- The response that stands until the next request. -/
def sbRespond (seq : Byte) (st : SbStatus) (data : List Byte) (s : State) : State :=
  { s with isl := { s.isl with resp := { seq := seq, status := BitVec.ofNat 8 st.code, data := data } } }

/-- The port does not acknowledge; the counter runs with the core. -/
def sbNack (cnt : Nat) (s : State) : State := emit .smbNack (if s.live then count cnt s else s)

/-- One request (R503, R505, R506): its length, whether the mode admits it, and what it does. -/
def sbRequest (seq : Byte) (n len : Nat) (pecOk valid : Bool) (f : State → State) (s : State) : State :=
  if s.isl.aonDown then s
  else if s.isl.busy.isSome then sbNack Cnt.MGT_SB_NACK s
  else if !pecOk then sbNack Cnt.MGT_SB_PEC_ERR s
  else if n ≠ len then sbRespond seq .badLen [] s
  else if !valid then sbRespond seq .refused [] s
  else f s

/-- The mode is one of those given, and the core is on (R506). -/
def State.sbIn (s : State) (ms : List Mode) : Bool := s.coreOn && ms.contains s.md.mode

/-! ### IDENTIFY and STATUS (R504, R506) -/

/-- The data of IDENTIFY. -/
def State.identify (s : State) : List Byte :=
  if s.coreOn then
    leBytes 2 0x3216 ++ leBytes 1 s.pins.bpos ++ leBytes 1 s.md.mode.code ++ leBytes 8 s.otp.serial.toNat ++
      leBytes 2 s.load.devId ++ leBytes 2 s.swc.inc ++ leBytes 8 s.load.buildId
  else leBytes 2 0 ++ leBytes 1 s.pins.bpos ++ leBytes 21 0

/-- A Block Write whose command code R504 does not list (R505): its byte count is not judged. -/
def doUnknownCode (seq : Byte) (pecOk : Bool) (s : State) : State := sbRequest seq 0 0 pecOk true (sbRespond seq .badCmd []) s

/-- IDENTIFY (R504). The command carries its code; the table has no row of its own for a code that R504 does not list, and such a
request is this one with that code (R505; DESIGN CHOICE). A code of another row is that row's. -/
def execSbIdentify (code : Byte) (seq : Byte) (n : Nat) (pecOk : Bool) (s : State) : Res :=
  islandCmd (fun s =>
    if code = 1 then sbRequest seq n 1 pecOk true (fun s => sbRespond seq .ok s.identify s) s
    else if code = 0 ∨ 0x0D < code.toNat then doUnknownCode seq pecOk s
    else s) s

/-- The data of STATUS. -/
def State.sbStatus (s : State) : List Byte :=
  let on := fun (v : Nat) => if s.coreOn then v else 0
  leBytes 1 (if s.coreOn then s.md.mode.code else 0xFF) ++ leBytes 1 (b2n s.pins.coreRails) ++
    leBytes 1 (on s.tbe.state.code) ++ leBytes 1 (on s.podState) ++ leBytes 4 (on s.sec.status.toNat) ++
    leBytes 4 s.isl.latch.toNat ++ leBytes 4 s.isl.total.toNat ++ leBytes 4 (on s.loadStatus) ++
    leBytes 4 (if s.coreOn then s.fuseState else 2 ^ 26 * b2n s.isl.scorchPending) ++ leBytes 1 (b2n s.isl.alert) ++ leBytes 3 0

/-- STATUS (R504). -/
def execSbStatus (seq : Byte) (n : Nat) (pecOk : Bool) (s : State) : Res :=
  islandCmd (sbRequest seq n 1 pecOk true (fun s => sbRespond seq .ok s.sbStatus s)) s

/-! ### READ_REG and READ_LOG (R504) -/

/-- The island's registers (R506). -/
def islandReg (a : Nat) : Bool :=
  a == Reg.MGT_ELOG_TOTAL || (arrIdx a (Reg.MGT_ELOG_SLOT 0 0) 4 4096).isSome || a == Reg.SEC_ALARM_LATCH

/-- The side-band master reads one register, with what the read does (R501, R508); `e` is the check of the word that a read of a word
window's first bytes takes (R495). -/
def sbReadOne (a : Nat) (e : WordCheck) (s : State) : Nat × State :=
  match windowAt a with
  | some (c, off) =>
    let s := if off = 0 then let d := windowPop c e s; setLatch .sideband c d.1 d.2 else s
    (datU (windowLatch .sideband (s.cdt.get c)) off 4, s)
  | none =>
    if isCounter (counterOf a) then readCounter .sideband a false s
    else
      match arrIdx a (Reg.MGT_CDT_PTR 0) 0x40 41 with
      | some c => (s.readReg a, takeWindowCredit c s)
      | none => (s.readReg a, s)

/-- A read of the register takes a word from a conduit (R501). -/
def popsWord (a : Nat) : Bool := match windowAt a with | some (_, off) => off == 0 | none => false

/-- Registers read in rising order; `es` holds the checks of the words taken, in order. -/
def sbReadMany : Nat → Nat → List WordCheck → State → List Byte × State
  | 0, _, _, s => ([], s)
  | n + 1, a, es, s =>
    let d := sbReadOne a (es.headD .ok) s
    let r := sbReadMany n (a + 4) (if popsWord a then es.drop 1 else es) d.2
    (leBytes 4 d.1 ++ r.1, r.2)

/-- READ_REG's effect. -/
def doReadReg (seq : Byte) (addr cnt : Nat) (es : List WordCheck) (s : State) : State :=
  if addr % 4 ≠ 0 ∨ 0x4000000 < addr + 4 * cnt then sbRespond seq .badAddr [] s
  else if cnt = 0 ∨ 60 < cnt then sbRespond seq .badParam [] s
  else if !s.coreOn && !(List.range cnt).all (fun k => islandReg (addr + 4 * k)) then sbRespond seq .coreOff [] s
  else
    let r := sbReadMany cnt addr es s
    sbRespond seq .ok r.1 r.2

/-- READ_REG (R504). -/
def execSbReadReg (seq : Byte) (n : Nat) (pecOk : Bool) (addr : Nat) (cnt : Nat) (es : List WordCheck) (s : State) : Res :=
  islandCmd (sbRequest seq n 6 pecOk true (doReadReg seq addr cnt es)) s

/-- READ_LOG's effect. -/
def doReadLog (seq : Byte) (slot cnt : Nat) (s : State) : State :=
  if 1023 < slot ∨ cnt = 0 ∨ 15 < cnt then sbRespond seq .badParam [] s
  else sbRespond seq .ok (bvBytes 4 s.isl.total ++
    ((List.range cnt).map (fun k => (s.isl.log.get ((slot + k) % 1024)).bytes)).flatten) s

/-- READ_LOG (R504). -/
def execSbReadLog (seq : Byte) (n : Nat) (pecOk : Bool) (slot : Nat) (cnt : Nat) (s : State) : Res :=
  islandCmd (sbRequest seq n 4 pecOk true (doReadLog seq slot cnt)) s

/-! ### WRITE_REG (R504) -/

/-- The host may write the register in Maintenance, so that WRITE_REG reaches it there: a register with a field that is not read
only, a word window or the MSI-X table. -/
def sbReaches (a : Nat) : Bool :=
  (windowAt a).isSome || (decide (0x3F0000 ≤ a) && decide (a < 0x3F0400)) ||
    (match regAt a with
     | none => false
     | some g => g.fields.any (fun f => match fieldAcc a f with
       | .ro => false
       | .rc => false
       | .res => false
       | .rw => true
       | .wo => true
       | .w1c => true
       | .w1s => true
       | .rwl => true))

/-- WRITE_REG's effect. -/
def doWriteReg (seq : Byte) (a v : Nat) (s : State) : State :=
  if a = Reg.SEC_ALARM_LATCH ∨ (s.sbIn [.maintenance] = true ∧ a % 4 = 0 ∧ sbReaches a = true) then
    sbRespond seq .ok [] (writeReg 1 none a v s)
  else if a % 4 = 0 ∧ s.coreOn = false then sbRespond seq .coreOff [] s
  else sbRespond seq .badAddr [] s

/-- WRITE_REG (R504). -/
def execSbWriteReg (seq : Byte) (n : Nat) (pecOk : Bool) (addr : Nat) (value : Word32) (s : State) : Res :=
  islandCmd (sbRequest seq n 9 pecOk true (doWriteReg seq addr value.toNat)) s

/-! ### ECP and ECP_ABORT (R481, R503, R504) -/

/-- The port's operation runs; its response follows at its end. -/
def doSbEcp (seq : Byte) (tbl op idx dlen : Nat) (dat : Dat) (x : TableSide) (s : State) : State :=
  if 128 < dlen then sbRespond seq .badParam [] s
  else
    let s := { s with isl := { s.isl with busy := some seq } }
    let d : Dat := BitVec.ofNat 1024 (dat.toNat % 2 ^ (8 * dlen))
    let s := updEcp 8 (fun p => { p with tbl := tbl % 256, idx := idx % 2 ^ 32, dat := d }) s
    ecpLatch 8 (op % 256) .bar0 x s

/-- ECP (R504). -/
def execSbEcp (seq : Byte) (n : Nat) (pecOk : Bool) (tbl : Nat) (op : Nat) (idx : Nat) (dlen : Nat) (dat : Dat) (x : TableSide) (s : State) : Res :=
  islandCmd (fun s => sbRequest seq n (8 + dlen) pecOk (s.sbIn [.service, .headless, .drain, .maintenance])
    (doSbEcp seq tbl op idx dlen dat x) s) s

/-- ECP_ABORT's effect: it is accepted during execution and answers nothing itself. -/
def doSbEcpAbort (seq : Byte) (n : Nat) (pecOk : Bool) (s : State) : State :=
  if s.isl.aonDown then s
  else if !pecOk then sbNack Cnt.MGT_SB_PEC_ERR s
  else if s.isl.busy.isSome then (if n = 1 then doEcpAbort 8 s else s)
  else if n ≠ 1 then sbRespond seq .badLen [] s
  else if !s.sbIn [.service, .headless, .drain, .maintenance] then sbRespond seq .refused [] s
  else s

/-- ECP_ABORT (R504). -/
def execSbEcpAbort (seq : Byte) (n : Nat) (pecOk : Bool) (s : State) : Res := islandCmd (doSbEcpAbort seq n pecOk) s

/-! ### Mode commands (R80, R84, R88) -/

/-- HEADLESS (R80, R504). -/
def execSbHeadless (seq : Byte) (n : Nat) (pecOk : Bool) (s : State) : Res :=
  islandCmd (fun s => sbRequest seq n 1 pecOk (s.sbIn [.service])
    (fun s => changeMode .headless 5 (sbRespond seq .ok [] s)) s) s

/-- DRAIN's effect with a target. -/
def doSbDrain (seq : Byte) (target : Nat) (s : State) : State :=
  if 2 < target then sbRespond seq .badParam [] s else startDrain target 5 (sbRespond seq .ok [] s)

/-- DRAIN (R84, R504). -/
def execSbDrain (seq : Byte) (n : Nat) (pecOk : Bool) (target : Nat) (s : State) : Res :=
  islandCmd (fun s => sbRequest seq n 2 pecOk (s.sbIn [.headless, .drain]) (doSbDrain seq target) s) s

/-- RESTART (R84, R504): DRAIN with target 2. -/
def execSbRestart (seq : Byte) (n : Nat) (pecOk : Bool) (s : State) : Res :=
  islandCmd (fun s => sbRequest seq n 1 pecOk (s.sbIn [.headless, .drain]) (doSbDrain seq 2) s) s

/-- RELOAD (R80, R504). -/
def execSbReload (seq : Byte) (n : Nat) (pecOk : Bool) (s : State) : Res :=
  islandCmd (fun s => sbRequest seq n 1 pecOk (s.sbIn [.maintenance])
    (fun s => warmReload 5 (sbRespond seq .ok [] s)) s) s

/-! ### PORT_ADMIN (R84, R504) -/

/-- The bits of ports that exist (R95). -/
def State.portMask (s : State) : Nat := maskOf 32 s.portExists

/-- PORT_ADMIN's effect: bits of ports that do not exist are ignored. -/
def doSbPortAdmin (seq : Byte) (mask value : Nat) (s : State) : State :=
  let old := s.reg Reg.LPC_PORT_ADMIN
  let sel := mask &&& s.portMask
  let new := (List.range 32).foldl (fun v p => if bit sel p then setBit v p (bit value p) else v) old
  let s := writeAdmin new s
  sbRespond seq .ok (leBytes 4 (s.reg Reg.LPC_PORT_ADMIN)) s

/-- PORT_ADMIN (R504). -/
def execSbPortAdmin (seq : Byte) (n : Nat) (pecOk : Bool) (mask : Word32) (value : Word32) (s : State) : Res :=
  islandCmd (fun s => sbRequest seq n 9 pecOk (s.sbIn [.headless]) (doSbPortAdmin seq mask.toNat value.toNat) s) s

/-! ### Alerts, the fetch of a response, and the port's timeout -/

/-- ALERT_N is released (R507). -/
def releaseAlert (s : State) : State := { s with isl := { s.isl with alert := false } }

/-- ALERT_ACK (R507). -/
def execSbAlertAck (seq : Byte) (n : Nat) (pecOk : Bool) (s : State) : Res :=
  islandCmd (sbRequest seq n 1 pecOk true (fun s => sbRespond seq .ok (bvBytes 4 s.isl.total) (releaseAlert s))) s

/-- ALERT_RESPONSE (R507, R518): an asserting device sends its address, and releases ALERT_N when its address wins. -/
def execAlertResponse (wins : Bool) (s : State) : Res :=
  islandCmd (fun s =>
    if s.isl.aonDown || !s.isl.alert || !wins then s
    else emit (.smbAddr (alertAnswer s.sbAddr)) (releaseAlert s)) s

/-- RESPONSE_FETCH (R503): while a request executes the response is BUSY with no data. -/
def execResponseFetch (s : State) : Res :=
  islandCmd (fun s =>
    if s.isl.aonDown then s
    else match s.isl.busy with
      | some q => emit (.smbResp (blockRead s.sbAddr { seq := q, status := 1 })) s
      | none => emit (.smbResp (blockRead s.sbAddr s.isl.resp)) s) s

/-- SMB_TIMEOUT (R534): the port state is reset. What it resets is a transfer in progress, and a command of this model is a whole
transfer, so none is in progress between commands; the standing response stands (R503). -/
def execSmbTimeout (s : State) : Res := islandCmd id s

end Sys2Proof.Machine
end

