-- ==== Sys2Proof/Machine/StartUp.lean ====
section
/-! DEFINITION. Reset, the supplies, the boot token and the verification of the image (R57, R60 to R64, R77, R452, R470, R472, R513,
R526). -/
namespace Sys2Proof.Machine

/-! ### Reset (R57, R452, R472) -/

/-- Every block outside the island in reset: pins, fuses, the island and what stands outside the device stay (R57). -/
def coldState (s : State) : State :=
  { pins := { s.pins with tknOut := false, xspiDriven := false, tknInSince := 0, tknOutSince := 0, casMout := false },
    isl := { s.isl with wrapped := false }, otp := s.otp, regs := resetRegs, free := s.free, pending := s.pending }

/-- The mode in force, as the island last saw it (R452): what it saw before the blocks went into reset. -/
def seenMode (s : State) : Option Mode := if s.coreHeld then s.isl.lastMode else some s.md.mode

/-- RESET_N falls (R57, R60, R556). -/
def doResetNFall (s : State) : State :=
  if s.pins.resetN = false then s else
    let m := seenMode s
    let t := coldState (sbStop s)
    { t with pins := { t.pins with resetN := false },
             isl := if s.isl.aonDown then t.isl else { t.isl with lastMode := m, railHold := false, tripHold := false } }

/-- RESET_N_FALL (R57). -/
def execResetNFall (s : State) : Res := islandCmd doResetNFall s

/-- The island's marker at a rise of RESET_N (R452). -/
def resetMarker (s : State) : State :=
  raise 0 1 noUnit (256 * (match s.isl.lastMode with | some m => m.code | none => 0)) s

/-- What the monitors find when the blocks leave reset (R48, R449, R456, R468): the cells of OTP as sensed, and TIME_REFCLK. Every
limiter is clear. -/
def senseSources (otpDisagree : Bool) (s : State) : State :=
  let p := s.pins.sources &&& ~~~((1 : BitVec 17) <<< 10)
  let p := if otpDisagree then p ||| ((1 : BitVec 17) <<< 10) else p
  { s with lim := {}, pins := { s.pins with sources := p }, tbe := { s.tbe with refclkLost := bit p.toNat 5 } }

/-- A cold start (R57, R63, R452, R473): the marker in the log, the sources whose condition holds, then Load. -/
def coldStart (otpDisagree : Bool) (s : State) : State :=
  let s := answerSources (senseSources otpDisagree (resetMarker s))
  if s.md.mode = .load then beginLoad s else s

/-- RESET_N rises (R57, R452, R472, R513): the straps are sampled at every rise. After a thermal trip, a rise at 105 C or above
releases nothing. -/
def doResetNRise (bpos : Nat) (junction : Int) (t : OtpSense) (s : State) : State :=
  if s.pins.resetN = true ∨ 8 ≤ bpos then s
  else
    let s := { s with pins := { s.pins with resetN := true, bpos := bpos } }
    if s.isl.aonDown then s
    else if s.pins.thermTrip = true ∧ 105 ≤ junction then resetMarker { s with isl := { s.isl with tripHold := true } }
    else coldStart t.disagree { s with pins := { s.pins with thermTrip := false, coreRails := true } }

/-- RESET_N_RISE (R57). -/
def execResetNRise (bpos : Nat) (junction : Int) (t : OtpSense) (s : State) : Res := islandCmd (doResetNRise bpos junction t) s

/-! ### Supplies (R452, R526) -/

/-- VDD_AON falls below 0.72 V (R526): the island loses all it holds, and the device is held until VDD_AON returns. -/
def doVddAonFall (s : State) : State :=
  if s.isl.aonDown then s else
    let t := coldState s
    { t with pins := { t.pins with thermTrip := false }, isl := { aonDown := true } }

/-- VDD_AON_FALL (R526). -/
def execVddAonFall (s : State) : Res := islandCmd doVddAonFall s

/-- VDD_AON returns (R452, R526): the log holds ISLAND_RESET, and a device whose RESET_N is high starts as after a cold reset. -/
def doIslandReset (s : State) : State :=
  if s.isl.aonDown = false then s else
    let t := { s with isl := { log := ⟨[(0, islandResetRec)]⟩, total := 1, held := 1 } }
    if t.coreHeld then t else coldStart false t

/-- ISLAND_RESET (R452). -/
def execIslandReset (s : State) : Res := islandCmd doIslandReset s

/-- A core rail falls (R526): its source, if it has one, is answered at its grade; then every block outside the island is held in
reset until RESET_N has fallen and risen again. -/
def doCoreRailFall (src : Nat) (s : State) : State :=
  if s.pins.resetN = false ∨ s.isl.aonDown = true then { s with pins := { s.pins with coreRails := false } }
  else if s.coreHeld then
    let s := doAlarm src s
    { s with pins := { s.pins with coreRails := false }, isl := { s.isl with railHold := true } }
  else
    let s := doAlarm src s
    let m := s.md.mode
    let t := coldState (sbStop s)
    { t with pins := { t.pins with coreRails := false }, isl := { t.isl with lastMode := some m, railHold := true } }

/-- CORE_RAIL_FALL (R526). -/
def execCoreRailFall (src : Nat) (s : State) : Res := islandCmd (doCoreRailFall src) s

/-! ### The boot token (R61 to R64) -/

/-- BOOT_TKN_IN takes a level (R61). -/
def setTknIn (v : Bool) (s : State) : State :=
  if s.pins.tknIn = v then s else tokenOut { s with pins := { s.pins with tknIn := v, tknInSince := s.now } }

/-- BOOT_TKN_IN_RISE (R61). -/
def execBootTknInRise (s : State) : Res := islandCmd (setTknIn true) s

/-- BOOT_TKN_IN falls (R63, R64): a holder stops its read and waits afresh, and the time-out counts from now. -/
def doBootTknInFall (s : State) : State :=
  if s.pins.tknIn = false then s else
    let s := setTknIn false s
    if s.coreHeld || s.md.mode != .load || s.load.done then s
    else
      let reading := s.load.phase == .reading
      { s with load := { s.load with entered := s.now, phase := if reading then .wait else s.load.phase,
                                     dir := if reading then none else s.load.dir },
               pins := { s.pins with xspiDriven := false } }

/-- BOOT_TKN_IN_FALL (R64). -/
def execBootTknInFall (s : State) : Res := islandCmd doBootTknInFall s

/-- The token is taken after 20,000 ns of BOOT_TKN_IN high and BOOT_TKN_OUT low (R61): the flash is reset, its directory read, and
octal mode entered where the directory is valid. -/
def doBootTokenTake (dir : Option (List Byte)) (s : State) : State :=
  if s.md.mode = .load ∧ s.load.phase = .wait ∧ s.load.done = false ∧ s.pins.tknIn = true ∧ s.pins.tknOut = false then
    let s := runTo (max s.pins.tknInSince s.pins.tknOutSince + 20000) s
    let s := { s with load := { s.load with phase := .reading, step := 2, dir := dir }, pins := { s.pins with xspiDriven := true } }
    let s := emitAll (softReset ++ [dirRead]) s
    match s.goodDir with
    | some d => emitAll (enterCmds d) s
    | none => s
  else s

/-- BOOT_TOKEN_TAKE (R61). -/
def execBootTokenTake (dir : Option (List Byte)) (s : State) : Res := coreCmd (doBootTokenTake dir) s

/-- The token has not been taken within 30 s (R63). -/
def doTokenTimeout (s : State) : State :=
  if s.md.mode = .load ∧ s.load.done = false ∧ (s.load.phase = .wait ∨ s.load.phase = .idle) then
    loadFail 3 2 0xFF 0 (runTo (s.load.entered + 30000000000) s)
  else s

/-- TOKEN_TIMEOUT (R63). -/
def execTokenTimeout (s : State) : Res := coreCmd doTokenTimeout s

/-! ### Steps 2 to 8 of R77 -/

/-- Steps 2 to 5 on the directory and what the flash gave: the code, step, SECTION and detail of a failure. -/
def readFault (dir : Option (List Byte)) (f : FlashRead) (bpos : Nat) (root : BitVec 256) : Option (Nat × Nat × Nat × Nat) :=
  match dir with
  | none => some (4, 2, 0xFF, f.fail.getD 0)
  | some d =>
    if !dirOk d bpos then some (2, 2, 0xFF, 0)
    else match f.fail with
      | some a => some (4, 2, 0xFF, a)
      | none =>
        if !formatOk f.image bpos (dirLength d bpos) then some (5, 3, 0xFF, 0)
        else if sha256 (f.image.bytes 32 60) ≠ root then some (6, 4, 0xFF, 0)
        else match badCrc f.image with
          | some x => some (7, 5, x.2, (dirOffset d bpos + x.1.off) % 2 ^ 32)
          | none => none

/-- The octal reads of an image (R61, R77): header and section table; then, where steps 3 and 4 pass, the signature and the signed
message from offset 0. R61 gives neither their order, nor how they are split, nor the width and byte order of their addresses: this is the
model's choice (DESIGN CHOICE, assumption 75). -/
def imageReads (d : List Byte) (f : FlashRead) (bpos : Nat) (root : BitVec 256) : List Out :=
  let h := imgHeader f.image
  let at_ := dirOffset d bpos
  let on := formatOk f.image bpos (dirLength d bpos) && sha256 (f.image.bytes 32 60) == root
  octalRead d at_ (256 + 16 * sectionCount h) ::
    (if on then [octalRead d (at_ + sigOffset h) 3124, octalRead d at_ (sigOffset h)] else [])

/-- The image's reads and the profile's exit commands appear on the pins (R61); a flash that stops answering ends them. -/
def driveReads (f : FlashRead) (s : State) : State :=
  match s.goodDir with
  | some d => flashExit (if f.fail.isSome then s else emitAll (imageReads d f s.pins.bpos s.otp.rootHash) s)
  | none => s

/-- The read of the flash ends (R61, R62, R77): the pins are released, and verification begins. -/
def doFlashReadDone (f : FlashRead) (s : State) : State :=
  if s.md.mode ≠ .load ∨ s.load.phase ≠ .reading then s else
    let s := driveReads f s
    match readFault s.load.dir f s.pins.bpos s.otp.rootHash with
    | some (code, step, sect, detail) => loadFail code step sect detail s
    | none =>
      flashDone { s with load := { s.load with phase := .verify, step := 6, image := f.image, sig := f.sig, dir := none,
                                               dirCount := fieldU (s.load.dir.getD []) 6 1 } }

/-- FLASH_READ_DONE (R61). -/
def execFlashReadDone (f : FlashRead) (s : State) : Res := coreCmd (doFlashReadDone f) s

/-- Verification ends (R77 steps 6 to 8). Among content failures of several sections the one reported is a free pick: the spec gives
the rules of step 8 no order. -/
def doHssVerifyDone (s : State) : State :=
  if s.md.mode ≠ .load ∨ s.load.phase ≠ .verify then s
  else if imageSigned s.load.image s.load.sig = false then loadFail 8 6 0xFF 0 s
  else if imgSecVersion (imgHeader s.load.image) < s.fusedVersion then loadFail 9 7 0xFF 0 s
  else
    match contentFaults s.load.image s.pins.bpos s.load.dirCount (Config.pick s.free) with
    | [] => { s with load := { s.load with phase := .applying, step := 9 } }
    | x :: r =>
      let f := (x :: r).getD (Config.pick (s.free + 1) % (r.length + 1)) x
      loadFail 10 8 f.1 f.2 { s with free := s.free + 2 }

/-- HSS_VERIFY_DONE (R77). -/
def execHssVerifyDone (s : State) : Res := coreCmd doHssVerifyDone s

/-! ### The KILL burn of a Scorch response (R470) -/

/-- The burn of KILL ends, and reads back burned or not; a Load that waited for it goes on with step 1. -/
def doKillBurned (burned : Bool) (s : State) : State :=
  if s.sec.burning = false then s else
    let s := { s with sec := { s.sec with burning := false } }
    let s := if burned then
        raise 1 6 noUnit 0 { s with otp := { s.otp with kill := true }, isl := { s.isl with scorchPending := false } }
      else raise 1 7 noUnit 3 s
    if s.md.mode = .load ∧ s.load.phase = .idle ∧ s.load.done = false then loadStep1 s else s

/-- KILL_BURNED (R470). -/
def execKillBurned (burned : Bool) (s : State) : Res := islandCmd (fun s => if s.coreHeld then s else doKillBurned burned s) s

end Sys2Proof.Machine
end

