-- ==== Sys2Proof/Machine/Dispatch.lean ====
section
/-! DEFINITION. The dispatch: one arm per command, one direct call of its meaning. -/
namespace Sys2Proof.Machine

def exec (i : Instr) (s : State) : Host.Outcome State Fault Refusal :=
  match i with
  | .ecpAbort port => Sys2Proof.Machine.execEcpAbort port s
  | .uAdd th d a b imm => Sys2Proof.Machine.execUAdd th d a b imm s
  | .uAddi th d a b imm => Sys2Proof.Machine.execUAddi th d a b imm s
  | .uAdj th d a b imm => Sys2Proof.Machine.execUAdj th d a b imm s
  | .farAdmit th => Sys2Proof.Machine.execFarAdmit th s
  | .ageQuantumBoundary => Sys2Proof.Machine.execAgeQuantumBoundary s
  | .alarm src => Sys2Proof.Machine.execAlarm src s
  | .sbAlertAck seq n pecOk => Sys2Proof.Machine.execSbAlertAck seq n pecOk s
  | .alertResponse wins => Sys2Proof.Machine.execAlertResponse wins s
  | .uAnd th d a b imm => Sys2Proof.Machine.execUAnd th d a b imm s
  | .applyDone a => Sys2Proof.Machine.execApplyDone a s
  | .arm => Sys2Proof.Machine.execArm s
  | .asaScrub bad => Sys2Proof.Machine.execAsaScrub bad s
  | .farAsaSearch th bad => Sys2Proof.Machine.execFarAsaSearch th bad s
  | .farAsaStep th bad => Sys2Proof.Machine.execFarAsaStep th bad s
  | .asaTest value => Sys2Proof.Machine.execAsaTest value s
  | .asaTestDone pass => Sys2Proof.Machine.execAsaTestDone pass s
  | .attach => Sys2Proof.Machine.execAttach s
  | .blockRelease part => Sys2Proof.Machine.execBlockRelease part s
  | .bootTknInFall => Sys2Proof.Machine.execBootTknInFall s
  | .bootTknInRise => Sys2Proof.Machine.execBootTknInRise s
  | .bootTokenTake dir => Sys2Proof.Machine.execBootTokenTake dir s
  | .uBr th cond target => Sys2Proof.Machine.execUBr th cond target s
  | .buffersWithdrawn pc => Sys2Proof.Machine.execBuffersWithdrawn pc s
  | .bufferFree client addr => Sys2Proof.Machine.execBufferFree client addr s
  | .bufferGrant pool => Sys2Proof.Machine.execBufferGrant pool s
  | .bulkCell lane cell => Sys2Proof.Machine.execBulkCell lane cell s
  | .cascadeLaunch slot lost => Sys2Proof.Machine.execCascadeLaunch slot lost s
  | .cascadeTimeout slot => Sys2Proof.Machine.execCascadeTimeout slot s
  | .casMoutDrive slot mini => Sys2Proof.Machine.execCasMoutDrive slot mini s
  | .cdtPtrRead m c => Sys2Proof.Machine.execCdtPtrRead m c s
  | .cellCrcFail lane => Sys2Proof.Machine.execCellCrcFail lane s
  | .cellLockChange lane locked => Sys2Proof.Machine.execCellLockChange lane locked s
  | .channelWithdrawn pc => Sys2Proof.Machine.execChannelWithdrawn pc s
  | .cloveRead part k ue victim => Sys2Proof.Machine.execCloveRead part k ue victim s
  | .clusterExit th => Sys2Proof.Machine.execClusterExit th s
  | .uCmp th d a b imm => Sys2Proof.Machine.execUCmp th d a b imm s
  | .uCmpi th d a b imm => Sys2Proof.Machine.execUCmpi th d a b imm s
  | .uCnt th d a b imm => Sys2Proof.Machine.execUCnt th d a b imm s
  | .coarseSlotVisit => Sys2Proof.Machine.execCoarseSlotVisit s
  | .controlFrame f bad => Sys2Proof.Machine.execControlFrame f bad s
  | .copy => Sys2Proof.Machine.execCopy s
  | .copyDone => Sys2Proof.Machine.execCopyDone s
  | .coreRailFall src => Sys2Proof.Machine.execCoreRailFall src s
  | .counterRead m win addr wide => Sys2Proof.Machine.execCounterRead m win addr wide s
  | .courierCopy c ue => Sys2Proof.Machine.execCourierCopy c ue s
  | .courierInject c words => Sys2Proof.Machine.execCourierInject c words s
  | .peerCredit lane cell => Sys2Proof.Machine.execPeerCredit lane cell s
  | .creditRequestDue peer => Sys2Proof.Machine.execCreditRequestDue peer s
  | .uCsup th d a b imm => Sys2Proof.Machine.execUCsup th d a b imm s
  | .ecpDelete port win x => Sys2Proof.Machine.execEcpDelete port win x s
  | .farDeletePeer th ue => Sys2Proof.Machine.execFarDeletePeer th ue s
  | .podDescriptor lane fseq err => Sys2Proof.Machine.execPodDescriptor lane fseq err s
  | .descriptorTimeout fseq => Sys2Proof.Machine.execDescriptorTimeout fseq s
  | .directoryRead part k ue1 ue2 ue => Sys2Proof.Machine.execDirectoryRead part k ue1 ue2 ue s
  | .disarm => Sys2Proof.Machine.execDisarm s
  | .discharge => Sys2Proof.Machine.execDischarge s
  | .dispEnd th d a b imm => Sys2Proof.Machine.execDispEnd th d a b imm s
  | .dispJump th d a b imm => Sys2Proof.Machine.execDispJump th d a b imm s
  | .dispNext th d a b imm => Sys2Proof.Machine.execDispNext th d a b imm s
  | .sbDrain seq n pecOk target => Sys2Proof.Machine.execSbDrain seq n pecOk target s
  | .drainFlush => Sys2Proof.Machine.execDrainFlush s
  | .sbEcp seq n pecOk tbl op idx dlen dat x => Sys2Proof.Machine.execSbEcp seq n pecOk tbl op idx dlen dat x s
  | .sbEcpAbort seq n pecOk => Sys2Proof.Machine.execSbEcpAbort seq n pecOk s
  | .egressEntry pipe => Sys2Proof.Machine.execEgressEntry pipe s
  | .ringEnable c value => Sys2Proof.Machine.execRingEnable c value s
  | .endRecordExport part => Sys2Proof.Machine.execEndRecordExport part s
  | .engineRetired e => Sys2Proof.Machine.execEngineRetired e s
  | .engPreempt value => Sys2Proof.Machine.execEngPreempt value s
  | .engTest value => Sys2Proof.Machine.execEngTest value s
  | .engTestDone pass => Sys2Proof.Machine.execEngTestDone pass s
  | .thEpoch th => Sys2Proof.Machine.execThEpoch th s
  | .epochBoundary => Sys2Proof.Machine.execEpochBoundary s
  | .expressCell lane cell => Sys2Proof.Machine.execExpressCell lane cell s
  | .uExt th d a b imm => Sys2Proof.Machine.execUExt th d a b imm s
  | .uFar th d a b imm => Sys2Proof.Machine.execUFar th d a b imm s
  | .farResult th => Sys2Proof.Machine.execFarResult th s
  | .uFlag th d a b imm => Sys2Proof.Machine.execUFlag th d a b imm s
  | .flashReadDone f => Sys2Proof.Machine.execFlashReadDone f s
  | .cdtFlush c => Sys2Proof.Machine.execCdtFlush c s
  | .ecpFlushByMask port win x => Sys2Proof.Machine.execEcpFlushByMask port win x s
  | .forceOut value => Sys2Proof.Machine.execForceOut value s
  | .frameTransmit port underrun => Sys2Proof.Machine.execFrameTransmit port underrun s
  | .freeIndexRefill part ue => Sys2Proof.Machine.execFreeIndexRefill part ue s
  | .fseAgeVisit part ue => Sys2Proof.Machine.execFseAgeVisit part ue s
  | .fseLookup part egress => Sys2Proof.Machine.execFseLookup part egress s
  | .fwdReadDone pipe k poisoned => Sys2Proof.Machine.execFwdReadDone pipe k poisoned s
  | .uGetf th d a b imm => Sys2Proof.Machine.execUGetf th d a b imm s
  | .uHash th d a b imm => Sys2Proof.Machine.execUHash th d a b imm s
  | .hbmCommand pc reads writes rmw bad => Sys2Proof.Machine.execHbmCommand pc reads writes rmw bad s
  | .hbmReadData addr outcome => Sys2Proof.Machine.execHbmReadData addr outcome s
  | .hbExpired => Sys2Proof.Machine.execHbExpired s
  | .sbHeadless seq n pecOk => Sys2Proof.Machine.execSbHeadless seq n pecOk s
  | .hmcDlyWrite pc k value => Sys2Proof.Machine.execHmcDlyWrite pc k value s
  | .hmcTestDone pass left right => Sys2Proof.Machine.execHmcTestDone pass left right s
  | .holdoverEnter => Sys2Proof.Machine.execHoldoverEnter s
  | .holdExpired port => Sys2Proof.Machine.execHoldExpired port s
  | .hostDrain target => Sys2Proof.Machine.execHostDrain target s
  | .hostIdx c value => Sys2Proof.Machine.execHostIdx c value s
  | .hostReload => Sys2Proof.Machine.execHostReload s
  | .hssVerifyDone => Sys2Proof.Machine.execHssVerifyDone s
  | .sbIdentify code seq n pecOk => Sys2Proof.Machine.execSbIdentify code seq n pecOk s
  | .identity => Sys2Proof.Machine.execIdentity s
  | .identityReady => Sys2Proof.Machine.execIdentityReady s
  | .ingressPass pipe bad => Sys2Proof.Machine.execIngressPass pipe bad s
  | .uIns th d a b imm => Sys2Proof.Machine.execUIns th d a b imm s
  | .ecpInsert port win x => Sys2Proof.Machine.execEcpInsert port win x s
  | .farInsertPeer th => Sys2Proof.Machine.execFarInsertPeer th s
  | .islandReset => Sys2Proof.Machine.execIslandReset s
  | .peerJoin lane cell => Sys2Proof.Machine.execPeerJoin lane cell s
  | .peerJoinAck lane cell => Sys2Proof.Machine.execPeerJoinAck lane cell s
  | .joinResend peer => Sys2Proof.Machine.execJoinResend peer s
  | .joinSend peer => Sys2Proof.Machine.execJoinSend peer s
  | .jtagDisable confirm burned => Sys2Proof.Machine.execJtagDisable confirm burned s
  | .jtagInstruction instr => Sys2Proof.Machine.execJtagInstruction instr s
  | .keepaliveCell lane c => Sys2Proof.Machine.execKeepaliveCell lane c s
  | .keyFrame issuer slot key wide bad lost => Sys2Proof.Machine.execKeyFrame issuer slot key wide bad lost s
  | .killFuse confirm burned => Sys2Proof.Machine.execKillFuse confirm burned s
  | .killBurned burned => Sys2Proof.Machine.execKillBurned burned s
  | .l2AgeVisit raced => Sys2Proof.Machine.execL2AgeVisit raced s
  | .l2Flushed => Sys2Proof.Machine.execL2Flushed s
  | .laneCellSend lane => Sys2Proof.Machine.execLaneCellSend lane s
  | .laneDown lane => Sys2Proof.Machine.execLaneDown lane s
  | .laneReturned lane => Sys2Proof.Machine.execLaneReturned lane s
  | .laneTraining lane => Sys2Proof.Machine.execLaneTraining lane s
  | .laneUp lane => Sys2Proof.Machine.execLaneUp lane s
  | .farLbSelect th ue => Sys2Proof.Machine.execFarLbSelect th ue s
  | .uLdf th d a b imm ecc => Sys2Proof.Machine.execULdf th d a b imm ecc s
  | .uLdl th d x xen win size off ecc => Sys2Proof.Machine.execULdl th d x xen win size off ecc s
  | .uLdn th d x xen win size off ecc => Sys2Proof.Machine.execULdn th d x xen win size off ecc s
  | .leakBoundary cls => Sys2Proof.Machine.execLeakBoundary cls s
  | .lineInstall part k => Sys2Proof.Machine.execLineInstall part k s
  | .linkCellDue lane => Sys2Proof.Machine.execLinkCellDue lane s
  | .linkRawChange port up => Sys2Proof.Machine.execLinkRawChange port up s
  | .lockGrant part idx => Sys2Proof.Machine.execLockGrant part idx s
  | .ecpLookup port win x => Sys2Proof.Machine.execEcpLookup port win x s
  | .lpcPortAdmin value => Sys2Proof.Machine.execLpcPortAdmin value s
  | .farMap th ue => Sys2Proof.Machine.execFarMap th ue s
  | .marchTest value => Sys2Proof.Machine.execMarchTest value s
  | .matching inject => Sys2Proof.Machine.execMatching inject s
  | .memberDead pos => Sys2Proof.Machine.execMemberDead pos s
  | .messageClose part x => Sys2Proof.Machine.execMessageClose part x s
  | .mgtHeartbeat value => Sys2Proof.Machine.execMgtHeartbeat value s
  | .ecpModify port win x => Sys2Proof.Machine.execEcpModify port win x s
  | .uMovb th d a b imm ecc => Sys2Proof.Machine.execUMovb th d a b imm ecc s
  | .uMovi th d sh imm => Sys2Proof.Machine.execUMovi th d sh imm s
  | .uMovk th d sh imm => Sys2Proof.Machine.execUMovk th d sh imm s
  | .msixTimer c => Sys2Proof.Machine.execMsixTimer c s
  | .uMul th d a b imm => Sys2Proof.Machine.execUMul th d a b imm s
  | .nakCell lane c => Sys2Proof.Machine.execNakCell lane c s
  | .nakRepeat lane => Sys2Proof.Machine.execNakRepeat lane s
  | .natRecordExport part => Sys2Proof.Machine.execNatRecordExport part s
  | .uNop th d a b imm => Sys2Proof.Machine.execUNop th d a b imm s
  | .operationEnd port => Sys2Proof.Machine.execOperationEnd port s
  | .uOr th d a b imm => Sys2Proof.Machine.execUOr th d a b imm s
  | .patrolScrub pc outcome => Sys2Proof.Machine.execPatrolScrub pc outcome s
  | .patternPass lane ok => Sys2Proof.Machine.execPatternPass lane ok s
  | .farPeek th ue => Sys2Proof.Machine.execFarPeek th ue s
  | .peerDead peer => Sys2Proof.Machine.execPeerDead peer s
  | .perstNAssert => Sys2Proof.Machine.execPerstNAssert s
  | .perstNRelease => Sys2Proof.Machine.execPerstNRelease s
  | .podLaneRetired lane => Sys2Proof.Machine.execPodLaneRetired lane s
  | .poisonMark part => Sys2Proof.Machine.execPoisonMark part s
  | .sbPortAdmin seq n pecOk mask value => Sys2Proof.Machine.execSbPortAdmin seq n pecOk mask value s
  | .portDown port => Sys2Proof.Machine.execPortDown port s
  | .portSelect port => Sys2Proof.Machine.execPortSelect port s
  | .portUp port => Sys2Proof.Machine.execPortUp port s
  | .ppsEdge gap rising => Sys2Proof.Machine.execPpsEdge gap rising s
  | .thPreempt th => Sys2Proof.Machine.execThPreempt th s
  | .progRoot confirm read => Sys2Proof.Machine.execProgRoot confirm read s
  | .uPutf th d a b imm => Sys2Proof.Machine.execUPutf th d a b imm s
  | .quote => Sys2Proof.Machine.execQuote s
  | .reachCell lane c => Sys2Proof.Machine.execReachCell lane c s
  | .ecpRead port win x => Sys2Proof.Machine.execEcpRead port win x s
  | .ecpReadClear port win x => Sys2Proof.Machine.execEcpReadClear port win x s
  | .sbReadLog seq n pecOk slot count => Sys2Proof.Machine.execSbReadLog seq n pecOk slot count s
  | .sbReadReg seq n pecOk addr count es => Sys2Proof.Machine.execSbReadReg seq n pecOk addr count es s
  | .realign => Sys2Proof.Machine.execRealign s
  | .reclaimDone unread => Sys2Proof.Machine.execReclaimDone unread s
  | .refclkLost ppm => Sys2Proof.Machine.execRefclkLost ppm s
  | .refclkRestored => Sys2Proof.Machine.execRefclkRestored s
  | .refresh pc bank hot => Sys2Proof.Machine.execRefresh pc bank hot s
  | .registerWrite win addr size value => Sys2Proof.Machine.execRegisterWrite win addr size value s
  | .sbReload seq n pecOk => Sys2Proof.Machine.execSbReload seq n pecOk s
  | .relocationDone pc bad => Sys2Proof.Machine.execRelocationDone pc bad s
  | .peerRequest lane cell => Sys2Proof.Machine.execPeerRequest lane cell s
  | .resendTemplates => Sys2Proof.Machine.execResendTemplates s
  | .reseqTimeout peer stream => Sys2Proof.Machine.execReseqTimeout peer stream s
  | .resetNFall => Sys2Proof.Machine.execResetNFall s
  | .resetNRise bpos junction t => Sys2Proof.Machine.execResetNRise bpos junction t s
  | .responseFetch => Sys2Proof.Machine.execResponseFetch s
  | .sbRestart seq n pecOk => Sys2Proof.Machine.execSbRestart seq n pecOk s
  | .resultFrame f bad => Sys2Proof.Machine.execResultFrame f bad s
  | .peerResync lane cell => Sys2Proof.Machine.execPeerResync lane cell s
  | .uRett th d a b imm => Sys2Proof.Machine.execURett th d a b imm s
  | .returnRead leaf queue outcome => Sys2Proof.Machine.execReturnRead leaf queue outcome s
  | .ringRefill pool ue => Sys2Proof.Machine.execRingRefill pool ue s
  | .ringTraining => Sys2Proof.Machine.execRingTraining s
  | .rowSpared pc bank row bad => Sys2Proof.Machine.execRowSpared pc bank row bad s
  | .runnerDown => Sys2Proof.Machine.execRunnerDown s
  | .runnerKeepalive => Sys2Proof.Machine.execRunnerKeepalive s
  | .runnerUp lap members => Sys2Proof.Machine.execRunnerUp lap members s
  | .rxFrame port bytes r => Sys2Proof.Machine.execRxFrame port bytes r s
  | .uSel th d a b imm => Sys2Proof.Machine.execUSel th d a b imm s
  | .setReleased => Sys2Proof.Machine.execSetReleased s
  | .shadowPass lane err => Sys2Proof.Machine.execShadowPass lane err s
  | .uShl th d a b imm => Sys2Proof.Machine.execUShl th d a b imm s
  | .uShr th d a b imm => Sys2Proof.Machine.execUShr th d a b imm s
  | .slewIncrement => Sys2Proof.Machine.execSlewIncrement s
  | .sourceCheck pipe poisoned => Sys2Proof.Machine.execSourceCheck pipe poisoned s
  | .sourceInactive src => Sys2Proof.Machine.execSourceInactive src s
  | .sbStatus seq n pecOk => Sys2Proof.Machine.execSbStatus seq n pecOk s
  | .ecpStep port win x => Sys2Proof.Machine.execEcpStep port win x s
  | .stepFrame issuer slot key pos entry prio wide bad lost => Sys2Proof.Machine.execStepFrame issuer slot key pos entry prio wide bad lost s
  | .uStf th d a b imm ecc => Sys2Proof.Machine.execUStf th d a b imm ecc s
  | .uStl th d x xen win size off ecc => Sys2Proof.Machine.execUStl th d x xen win size off ecc s
  | .uStn th d x xen win size off ecc => Sys2Proof.Machine.execUStn th d x xen win size off ecc s
  | .uSub th d a b imm => Sys2Proof.Machine.execUSub th d a b imm s
  | .farSvcFail th => Sys2Proof.Machine.execFarSvcFail th s
  | .sweepTest value => Sys2Proof.Machine.execSweepTest value s
  | .tailPlacement inp => Sys2Proof.Machine.execTailPlacement inp s
  | .farTblRead th ue => Sys2Proof.Machine.execFarTblRead th ue s
  | .telemetryPass part win ue => Sys2Proof.Machine.execTelemetryPass part win ue s
  | .templateRefresh part x => Sys2Proof.Machine.execTemplateRefresh part x s
  | .uTime th d a b imm => Sys2Proof.Machine.execUTime th d a b imm s
  | .todMessage gap bytes => Sys2Proof.Machine.execTodMessage gap bytes s
  | .farTouch th ue => Sys2Proof.Machine.execFarTouch th ue s
  | .twinBoundary n => Sys2Proof.Machine.execTwinBoundary n s
  | .podVote fseq err => Sys2Proof.Machine.execPodVote fseq err s
  | .thWatchdog th => Sys2Proof.Machine.execThWatchdog th s
  | .wordWindowRead m win c off size ue => Sys2Proof.Machine.execWordWindowRead m win c off size ue s
  | .wordWindowWrite m win c off size value => Sys2Proof.Machine.execWordWindowWrite m win c off size value s
  | .ecpWrite port win x => Sys2Proof.Machine.execEcpWrite port win x s
  | .sbWriteReg seq n pecOk addr value => Sys2Proof.Machine.execSbWriteReg seq n pecOk addr value s
  | .uXor th d a b imm => Sys2Proof.Machine.execUXor th d a b imm s
  | .xprTest value => Sys2Proof.Machine.execXprTest value s
  | .xprTestDone pass => Sys2Proof.Machine.execXprTestDone pass s
  | .xpScrub errs => Sys2Proof.Machine.execXpScrub errs s
  | .zeroised trngOk => Sys2Proof.Machine.execZeroised trngOk s
  | .smbTimeout => Sys2Proof.Machine.execSmbTimeout s
  | .snap => Sys2Proof.Machine.execSnap s
  | .thermalTrip => Sys2Proof.Machine.execThermalTrip s
  | .tokenTimeout => Sys2Proof.Machine.execTokenTimeout s
  | .trackerClear => Sys2Proof.Machine.execTrackerClear s
  | .vddAonFall => Sys2Proof.Machine.execVddAonFall s
  | .wheelEntry => Sys2Proof.Machine.execWheelEntry s
  | .xpTableCommit => Sys2Proof.Machine.execXpTableCommit s

end Sys2Proof.Machine
end

