-- ==== Sys2Proof/Safety.lean ====
section
/-! DEFINITION. What counts as a safe run of the block, and the conditions under which statements speak of a command. -/
namespace Sys2Proof

/-! ### Classes of commands -/

/-- The commands that the always-on island serves, or that drive its pins, and those of the monitors and the debug port that do not wait
for the other blocks: they act while those are held in reset (R57, R452, R468, R472, R474, R502, R526, R556). -/
def Instr.island : Instr → Bool
  | .perstNAssert | .perstNRelease | .alarm _ | .zeroised _ | .killBurned _ | .resetNFall | .resetNRise _ _ _ | .vddAonFall
  | .islandReset | .coreRailFall _ | .bootTknInRise | .bootTknInFall | .responseFetch | .alertResponse _ | .smbTimeout
  | .sbIdentify _ _ _ _ | .sbStatus _ _ _ | .sbReadReg _ _ _ _ _ _ | .sbReadLog _ _ _ _ _ | .sbWriteReg _ _ _ _ _
  | .sbEcp _ _ _ _ _ _ _ _ _ | .sbEcpAbort _ _ _ | .sbHeadless _ _ _ | .sbDrain _ _ _ _ | .sbRestart _ _ _ | .sbReload _ _ _
  | .sbPortAdmin _ _ _ _ _ | .sbAlertAck _ _ _ | .thermalTrip | .sourceInactive _ | .jtagInstruction _ => true
  | _ => false

/-- The commands of TBE, which runs on the timebase clock (R32, R530): they act while the core clocks are gated. -/
def Instr.timebase : Instr → Bool
  | .ppsEdge _ _ | .todMessage _ _ | .slewIncrement | .holdoverEnter | .refclkLost _ | .refclkRestored => true
  | _ => false

/-- The window (R5) of the register that a host command writes, where the command is a write to one register whose block acts on it. -/
def Instr.hostWindow : Instr → Option Nat
  | .realign | .snap => some 2
  | .arm | .disarm | .copy => some 5
  | .asaTest _ => some 6
  | .hmcDlyWrite _ _ _ | .marchTest _ | .sweepTest _ => some 14
  | .xprTest _ | .forceOut _ => some 15
  | .lpcPortAdmin _ => some 3
  | .cdtFlush _ | .ringEnable _ _ | .hostIdx _ _ => some 0
  | .progRoot _ _ | .jtagDisable _ _ | .killFuse _ _ => some 1
  | .resendTemplates => some 8
  | .engPreempt _ | .engTest _ => some 9
  | _ => none

end Sys2Proof
namespace Sys2Proof.Machine

/-- A step that ends in a next state. -/
def SafeStep (s : State) : Prop := ∃ t, step s = .next t

/-- No end of a command can find the device newly drained (R87): it is not in Drain, or is drained already. -/
abbrev State.calm (s : State) : Prop := s.md.mode = .drain → s.md.drained = true

/-- The blocks outside the always-on island run (R57, R472), and no end of a command can find the device newly drained. -/
abbrev State.steady (s : State) : Prop := s.live = true ∧ s.calm

/-- A host write to window `win` takes effect (R58, R59, R83, R90, R91), and no end of a command can find the device newly drained. -/
abbrev State.hostWrites (s : State) (win : Nat) : Prop :=
  s.hostUp = true ∧ s.hostMayWrite win = true ∧ s.calm

/-- In Drain the device has drained already or still holds packets (R87): the end of a command that moves no packet does not find it
newly drained. -/
abbrev State.quiet (s : State) : Prop := s.md.mode = .drain → s.md.drained = true ∨ s.holdsPackets = true

/-- The blocks outside the always-on island run (R57, R472), in Drain with the device drained already or still holding packets. -/
abbrev State.running (s : State) : Prop := s.live = true ∧ s.quiet

/-- A host write to window `win` takes effect (R58, R59, R83, R90, R91), in Drain with the device drained already or still holding
packets. -/
abbrev State.hostSets (s : State) (win : Nat) : Prop :=
  s.hostUp = true ∧ s.hostMayWrite win = true ∧ s.quiet

/-- A running device in Drain that holds no packet is drained (R87). -/
abbrev State.drainSettled (s : State) : Prop :=
  s.live = true → s.md.mode = .drain → s.holdsPackets = false → s.md.drained = true

/-- The record that an event of `raise` writes at the current ST (R447). -/
def recordOf (s : State) (block code unit detail : Nat) : EventRec :=
  { st := BitVec.ofNat 64 s.now, block := BitVec.ofNat 4 block, code := BitVec.ofNat 8 code, unit := BitVec.ofNat 16 unit,
    detail := BitVec.ofNat 32 detail }

/-- t is s but for what the record of an event touches: the log and ALERT_N of the always-on island, counters, the event
conduit, MSI-X and the outputs (R449, R452, R500, R507). -/
def eventFrame (s t : State) : Prop :=
  ∃ l n k w a c d m o, t = { s with isl := { s.isl with log := l, total := n, held := k, wrapped := w, alert := a },
                                    cnt := c, cdt := d, msix := m, out := o }

/-- t is u after the event of a block and code was raised with a UNIT and a DETAIL: its record stands in the log slot that came
next (R453), and nothing else changed but what a record touches. -/
def Raised (block code unit detail : Nat) (u t : State) : Prop :=
  eventFrame u t ∧ t.isl.log.get (u.isl.total.toNat % 1024) = recordOf u block code unit detail

/-! ### Frames -/

/-- The fields of State. -/
inductive Fld where
  | pins | isl | otp | md | load | tbe | sec | regs | back | tbl | cnt | hostShadow | sbShadow | hostStamp | sbStamp | flt |
  fltRow | lim | ecp | cdt | ring | msix | temp | port | graph | graphLen | topo | cls | asa | fwd | fwdq | fseq | part | dir |
  clove | svc | eng | buf | swc | tms | pod | hmc | free | out | pending
deriving DecidableEq, Repr

/-- s and t agree in a field. -/
def State.same (s t : State) : Fld → Prop
  | .pins => t.pins = s.pins
  | .isl => t.isl = s.isl
  | .otp => t.otp = s.otp
  | .md => t.md = s.md
  | .load => t.load = s.load
  | .tbe => t.tbe = s.tbe
  | .sec => t.sec = s.sec
  | .regs => t.regs = s.regs
  | .back => t.back = s.back
  | .tbl => t.tbl = s.tbl
  | .cnt => t.cnt = s.cnt
  | .hostShadow => t.hostShadow = s.hostShadow
  | .sbShadow => t.sbShadow = s.sbShadow
  | .hostStamp => t.hostStamp = s.hostStamp
  | .sbStamp => t.sbStamp = s.sbStamp
  | .flt => t.flt = s.flt
  | .fltRow => t.fltRow = s.fltRow
  | .lim => t.lim = s.lim
  | .ecp => t.ecp = s.ecp
  | .cdt => t.cdt = s.cdt
  | .ring => t.ring = s.ring
  | .msix => t.msix = s.msix
  | .temp => t.temp = s.temp
  | .port => t.port = s.port
  | .graph => t.graph = s.graph
  | .graphLen => t.graphLen = s.graphLen
  | .topo => t.topo = s.topo
  | .cls => t.cls = s.cls
  | .asa => t.asa = s.asa
  | .fwd => t.fwd = s.fwd
  | .fwdq => t.fwdq = s.fwdq
  | .fseq => t.fseq = s.fseq
  | .part => t.part = s.part
  | .dir => t.dir = s.dir
  | .clove => t.clove = s.clove
  | .svc => t.svc = s.svc
  | .eng => t.eng = s.eng
  | .buf => t.buf = s.buf
  | .swc => t.swc = s.swc
  | .tms => t.tms = s.tms
  | .pod => t.pod = s.pod
  | .hmc => t.hmc = s.hmc
  | .free => t.free = s.free
  | .out => t.out = s.out
  | .pending => t.pending = s.pending

/-- s and t agree in every field but the listed ones. -/
def State.changesOnly (s t : State) (fs : List Fld) : Prop := ∀ f : Fld, f ∉ fs → s.same t f

/-- The fields that event records and counts touch: the log and ALERT_N in the island, counters, limiters, the event conduit, MSI-X and
the outputs. -/
def Fld.events : List Fld := [.isl, .cnt, .lim, .cdt, .msix, .out]

/-! ### Threads of the action engines -/

/-- A ready thread stands at the microword w and may issue it, neither at the end of its budget nor of its routine (R285, R310,
R314). -/
abbrev State.issues (s : State) (t w : Nat) : Prop :=
  s.running ∧ s.canIssue t = true ∧ s.nextWord t = w ∧ ((s.th t).tm = false → (s.th t).live.budget + 1 < s.budget) ∧
    ((s.th t).tm = true → (s.th t).trapUsed < 64)

/-- A thread that has issued one micro-operation, before what the operation does: the micro-PC stands at the next word and the
operation is counted (R310, R314). -/
def issuedThread (h : Thread) : Thread :=
  { h with trapUsed := if h.tm then h.trapUsed + 1 else h.trapUsed,
           live := { h.live with upc := (h.live.upc + 1) % 65536,
                                 budget := if h.tm then h.live.budget else h.live.budget + 1 } }

/-- s with thread t holding h. -/
def State.withThread (s : State) (t : Nat) (h : Thread) : State :=
  { s with eng := { s.eng with th := s.eng.th.set t h } }

/-- s in which thread t has issued a micro-operation and then holds h: the issue is counted, and nothing else has changed. -/
def State.uop (s : State) (t : Nat) (h : Thread) : State := (count (Cnt.ENG_UOPS (thCluster t)) s.fresh).withThread t h

/-- A thread whose register d takes v. -/
def withReg (h : Thread) (d : Nat) (v : Word64) : Thread := { h with live := { h.live with m := h.live.m.set d v } }

/-- s in which the owner has answered the far operation o of thread t, with a result code and a block of `len` bytes. -/
def State.answered (s : State) (t : Nat) (o : FarOp) (code len : Nat) (blk : Dat) : State :=
  s.fresh.withThread t { s.th t with far := some { o with answer := some (code, len, blk) } }

/-- The epoch, the age quantum and the first n telemetry windows have had every boundary that comes by the instant t: none of them goes
before an item of that instant (R45). -/
abbrev State.caughtUp (s : State) (t n : Nat) : Prop :=
  s.tbe.epochSeen = t / s.epochPeriod ∧ s.tbe.ageSeen = t / s.agePeriod ∧ ∀ m < n, s.tbe.twinSeen.get m = t / s.twinPeriod m

/-- The L2 entry that a host INSERT makes of DAT, with GEN clear: VALID, and an AGE of 0 replaced by the current stamp (R198). -/
def State.hostStation (s : State) (d : Dat) : Ent16 :=
  let e := datPutB (l2OfDat d) 14 0 1 1
  if l2Age e = 0 then datPut e 12 2 s.ageStamp else e

/-- The UDP frame of an exporter with records of partition i, under reception for leaf queue q (R275, R325). -/
def State.udpStaged (s : State) (i x q : Nat) (recs : List (Nat × List Byte)) : Staged :=
  let d := s.exporter x
  let b := udpFrame d (s.ipfix i recs)
  { pkt := { bytes := b, inPort := exTarget d % 32, inp := i, cls := datU d 8 1 % 8, dev := s.devId, port := exTarget d % 32 },
    leaf := true, queue := q, inp := i, cls := datU d 8 1 % 8, cells := cdiv b.length 256 }

/-- The port of a UDP exporter is up, and the leaf queue q of its unnumbered subscriber takes that frame (R275, R325, R380, R381). -/
abbrev State.udpTakes (s : State) (i x q : Nat) (recs : List (Nat × List Byte)) : Prop :=
  let k := s.udpStaged i x q recs
  exUdp (s.exporter x) = true ∧ (s.port.get k.pkt.port).up = true ∧
    s.resolveLeaf (k.pkt.port / 8) k.pkt = (q / 8, k.pkt.port, 0) ∧ q % 8 = 0 ∧ datB (s.tmQueue q) 2 0 1 ≠ 0 ∧
    s.depthBytes (s.pqueue true q) + (k.pkt.bytes.length + 4) ≤ dropLimit (s.tblGet 0x45 (datB (s.tmQueue q) 0 4 4)) 0 ∧
    (s.pqueue true q).items.length + 1 ≤ datU (s.tblGet 0x45 (datB (s.tmQueue q) 0 4 4)) 12 4 ∧
    bit (s.reg (Reg.SWC_CT_EN i)) k.cls = false ∧ s.stageRoom i k.cells = true

/-- A packet as the next hop that it carries sends it on (R182). -/
def State.hopped (s : State) (p : Pkt) : Pkt :=
  let e := s.nextHop p.nexthop
  { p with cls := if datB e 1 0 1 = 1 then datB e 5 0 3 else p.cls, dev := datB e 2 0 9, port := datB e 4 0 5,
           natOwner := datU e 0 1 == 3, subscriber := datU e 8 2, rewrite := datU e 12 4 % 2 ^ 20 }

end Sys2Proof.Machine
end

