-- ==== Sys2Proof/Certificates/Slice0/Obligations.lean ====
section
/-! DEFINITION. The statements about the model, in the order of OBLIGATIONS.json. -/
section
open Sys2Proof Sys2Proof.Machine

/-- A step runs the command at the front of the queue. With commands waiting, a step takes the first of the queue and is exec of that
command on the state with the queue's rest. The queue is the form of the model (log entry 10), not the spec's.
(95_what_each_step_holds.md) -/
def Obligations.StepRunsTheFrontCommand : Prop :=
  ∀ (c : Instr) (rest : List Instr) (s : State), s.pending = c :: rest →
    step s = exec c { s with pending := rest }

/-- A step with no command waiting lets one nanosecond pass. The model's choice (log entry 3, DESIGN CHOICE), not the spec's: with an
empty queue a step changes nothing but State.out while the blocks are held in reset, lets ST alone advance by 1 ns while only the
core clocks are gated (outside Drain), and on a device that is running, not in Drain, and whose threads are all free it advances
ST by 1 ns, takes the temperatures that the sensors then give (a free value) and clears State.out. (R32, R40, R49, R472) -/
def Obligations.IdleStepIsANanosecond : Prop :=
  ∀ s : State, s.pending = [] →
    (s.coreHeld = true → step s = .next s.fresh) ∧
    (s.coreHeld = false → s.live = false →
      step s = .next { s.fresh with tbe := { s.tbe with st := s.tbe.st + 1 } }) ∧
    (s.steady → s.eng.th.cells = [] →
      step s = .next
        { s.fresh with
          tbe := { s.tbe with st := s.tbe.st + 1 },
          temp := Config.sensors (s.tbe.st + 1) })

/-- Every command answers a next state and leaves the waiting commands alone. For every command and every state, exec answers a next
state whose queue is the one it was given. The one other answer is the refusal jtagOpenInstruction, for an instruction of the
debug port other than IDCODE and BYPASS while the blocks run and the port is open: R474 gives it no effect (log entry 14). (R474,
95_what_each_step_holds.md) -/
def Obligations.EveryCommandAnswersAndKeepsTheQueue : Prop :=
  ∀ (c : Instr) (s : State),
    (∃ t, exec c s = .next t ∧ t.pending = s.pending) ∨
    (c = .jtagInstruction .other ∧ s.live = true ∧ s.jtagOpen = true ∧ exec c s = .refused .jtagOpenInstruction)

/-- Every step keeps: a running device in Drain without packets is drained. If a state has the property that a device whose blocks
run, that is in Drain and holds no packet has DRAINED set, so has every state that a step from it answers, whichever command it
runs. What the device holds is as log entry 38 reads R87. (R86, R87, R88) -/
def Obligations.DrainSettledIsKept : Prop :=
  ∀ s t : State, s.drainSettled → step s = .next t → t.drainSettled

/-- The state after reset meets the invariant of Drain. At State.reset a device whose blocks run, that is in Drain and holds no packet
has DRAINED set. (R86, R87) -/
def Obligations.DrainSettledAtReset : Prop := State.reset.drainSettled

/-- While the blocks are held in reset or gated, commands of the blocks do nothing. A command that is none of the always-on island's
changes nothing but State.out (which every command clears) while the blocks outside the island are held in reset; while the core
clocks are gated the same holds of every command that is none of the timebase's either, whose clock runs on. Which commands are
the island's is Instr.island, and which the timebase's Instr.timebase. (R32, R57, R472, R530) -/
def Obligations.HeldBlocksDoNothing : Prop :=
  ∀ (c : Instr) (s : State), c.island = false →
    (s.coreHeld = true → exec c s = .next s.fresh) ∧
    (c.timebase = false → s.live = false → exec c s = .next s.fresh)

/-- A host write that the mode does not let through is ignored and counted once. For a command that is a host write to one register of
a window, on a device that serves the host and whose mode does not let that window be written (in Drain: on one that has drained
or still holds packets, so that the end of the command does not end the drain): nothing changes but MGT_WR_IGNORED, which counts
one with the host as master and BAR0 as window (and State.out, which every command clears). (R10, R59, R83, R90, R91, R510) -/
def Obligations.IgnoredHostWrites : Prop :=
  ∀ (c : Instr) (win : Nat) (s : State), c.hostWindow = some win → s.hostUp = true → s.hostMayWrite win = false → s.quiet →
    exec c s = .next (countA { master := some 0, win := some .bar0 } Cnt.MGT_WR_IGNORED 1 s.fresh)

/-- The state after power-on. At State.reset the blocks are held in reset, the mode is Load, no command waits, TBE is UNSYNC at ST 0,
the event log holds the record ISLAND_RESET with TOTAL 1 and no other, and every counter filter profile holds its reset values.
That RESET_N is low then, and so that the blocks are held, is log entry 10's reading of the power-on state. (R40, R57, R80, R452,
R512) -/
def Obligations.ResetState : Prop :=
  State.reset.coreHeld = true ∧ State.reset.md.mode = .load ∧ State.reset.pending = [] ∧ State.reset.tbe.state = .unsync ∧
    State.reset.tbe.st = 0 ∧ State.reset.isl.total = 1 ∧ State.reset.isl.held = 1 ∧
    State.reset.isl.log.get 0 = { block := 0, code := 7, unit := 0xFFFF } ∧ (∀ i < 1023, State.reset.isl.log.get (i + 1) = {}) ∧
    (∀ k < 32, State.reset.regs.get (Reg.MGT_CNT_PROF_CFG k) = 0x00FF033F ∧ State.reset.regs.get (Reg.MGT_CNT_PROF_TBL k) = 0xFF00 ∧
      State.reset.regs.get (Reg.MGT_CNT_PROF_IDX_HI k) = 0xFFFFFFFF)

/-- Event records, their limiters, and counters. Raising an event writes its record, with ST, block, code, UNIT and DETAIL, into the
log slot TOTAL mod 1,024, raises TOTAL by 1, and asserts ALERT_N where the event does so whatever the mask or MGT_SB_ALERT_MASK
names its block; nothing else changes but what a record touches. The first overwrite is followed by LOG_WRAPPED (log entry 11:
with TOTAL counting the record before it). In a log that is full and has wrapped, a record overwrites the oldest, every other slot
keeps its record, and no LOG_WRAPPED follows. A limiter of n per second that is open records the event with SUPPRESSED as kept,
and counts it in its second of ST; a limiter that is closed only counts MGT_EVENTS_SUPPRESSED, on a device whose blocks run, and
keeps that a record was held back. A counter bound to profile 0 counts n modulo 2^64 whatever the attributes; a counter of another
profile counts a packet event of class c exactly where the profile's CLASSES names c. (R447, R449, R451, R453, R507, R508, R510,
R511) -/
def Obligations.EventRecords : Prop :=
  (∀ (block code unit detail : Nat) (s : State), block < 16 → 0 < code → code < 256 → s.isl.held < 1024 →
    Raised block code unit detail s (raise block code unit detail s) ∧
    (raise block code unit detail s).isl.total = s.isl.total + 1 ∧ (raise block code unit detail s).isl.held = s.isl.held + 1 ∧
    (raise block code unit detail s).isl.alert =
      (s.isl.alert || alertAlways block code || bit (s.reg Reg.MGT_SB_ALERT_MASK) block)) ∧
  (∀ (block code unit detail : Nat) (s : State), block < 16 → 0 < code → code < 256 → s.isl.held = 1024 → s.isl.wrapped = false →
    Raised block code unit detail s (raise block code unit detail s) ∧
    (raise block code unit detail s).isl.total = s.isl.total + 2 ∧ (raise block code unit detail s).isl.wrapped = true ∧
    (raise block code unit detail s).isl.log.get ((s.isl.total + 1).toNat % 1024) =
      { st := BitVec.ofNat 64 s.now, block := 0, code := 6, unit := 0xFFFF, detail := s.isl.total + 1 }) ∧
  -- once the log has wrapped, a record overwrites the oldest and nothing more
  (∀ (block code unit detail : Nat) (s : State), block < 16 → 0 < code → code < 256 → s.isl.held = 1024 → s.isl.wrapped = true →
    Raised block code unit detail s (raise block code unit detail s) ∧
    (raise block code unit detail s).isl.total = s.isl.total + 1 ∧ (raise block code unit detail s).isl.held = 1024 ∧
    (raise block code unit detail s).isl.wrapped = true ∧
    (∀ k < 1024, k ≠ s.isl.total.toNat % 1024 → (raise block code unit detail s).isl.log.get k = s.isl.log.get k)) ∧
  (∀ (n scope block code unit detail : Nat) (s : State), limOpen n scope block code s = true → 0 < n →
    raiseLim n scope block code unit detail s =
      recWrite { recordOf s block code unit detail with
                 suppressed := (s.lim.get ((block * 256 + code) * 2 ^ 32 + scope)).suppressed }
        { s with
          lim := s.lim.upd ((block * 256 + code) * 2 ^ 32 + scope) (fun l =>
            { used := true, sec := s.now / 1000000000, suppressed := false,
              n := (if l.used && l.sec == s.now / 1000000000 then l.n else 0) + 1 }) }) ∧
  (∀ (n scope block code unit detail : Nat) (s : State), limOpen n scope block code s = false → s.coreHeld = false →
    raiseLim n scope block code unit detail s = count Cnt.MGT_EVENTS_SUPPRESSED
      { s with lim := s.lim.upd ((block * 256 + code) * 2 ^ 32 + scope) (fun l => { l with suppressed := true }) }) ∧
  (∀ (at_ : Attr) (a n : Nat) (s : State), s.binding a = 0 →
    countA at_ a n s = { s with cnt := s.cnt.upd a (fun c => c + BitVec.ofNat 64 n) }) ∧
  (∀ (c a : Nat) (s : State), s.binding a ≠ 0 →
    countC c a s =
      if bit (s.regF (Reg.MGT_CNT_PROF_CFG (s.binding a)) 23 16) c then { s with cnt := s.cnt.upd a (fun x => x + 1) } else s)

/-- Changes of mode, DRAIN, RELOAD and the drain timeout. Every change of mode records its cause and raises MODE_CHANGE with the new
mode, the old mode and the cause. A host DRAIN with target 0 to 2 in Service, on a device that holds packets, enters Drain with
cause 4, that target and the present ST as its start. A host RELOAD in Maintenance re-enters Load at step 2 with cause 4: the
timebase and the fuses are kept, and direct tables, port states, services (but for the marks of the telemetry windows), buffers
and conduits are as at reset. A command in Drain, here a heartbeat, that finds no packet left raises DRAIN_DONE with the
microseconds since Drain began: with target 0 DRAINED is set, with target 1 Maintenance is entered and with target 2 Load, each
with cause 6. A DRAIN in Drain takes a new target, which a device that is drained already enters at once (target 1 here). In Drain
a port takes no frame: LPC_RX_MODE_DROP counts it. When DRAIN_TIMEOUT_MS of ST pass in Drain with target 0, here with no packet in
a queue of PBF or TMS and no reclaim sweep waiting, the packets still held are discarded, DRAIN_FLUSH is raised with their number,
and DRAINED is set; with target 1 it enters Maintenance with cause 7. What the device holds is as log entry 38 reads R87. Commands
shown to answer a next state by their own effect: drainFlush, hostDrain, hostReload, mgtHeartbeat, rxFrame. (R80, R86, R87, R88,
R89, R92, R94, R99) -/
def Obligations.HostModeCommands : Prop :=
  (∀ (m : Mode) (cause : Nat) (s : State),
    Raised 0 1 noUnit (m.code + 256 * s.md.mode.code + 65536 * cause)
      { s with md := { s.md with mode := m, cause := cause,
                                 drained := if s.md.mode = .drain ∧ m ≠ .drain then false else s.md.drained } }
      (changeMode m cause s)) ∧
  (∀ (target : Nat) (s : State), s.hostUp = true → s.md.mode = .service → target ≤ 2 → s.holdsPackets = true →
    ∃ t, exec (.hostDrain target) s = .next t ∧
      Raised 0 1 noUnit 0x040103
        { s.fresh with
          regs := s.regs.set Reg.MGT_MODE_CTL (BitVec.ofNat 32 (256 * target)),
          md := { s.md with mode := .drain, cause := 4, refused := false, target := target, drainStart := s.now, drained := false } } t) ∧
  (∀ (s : State), s.hostUp = true → s.md.mode = .maintenance → s.otp.rootHash ≠ 0 → s.isl.scorchPending = false →
    ∃ t, exec .hostReload s = .next t ∧ t.md = { mode := .load, cause := 4 } ∧
      t.load = { entered := s.now, phase := .wait, step := 2 } ∧ t.tbl = {} ∧ t.port = {} ∧
      t.svc = { part := s.svc.part.mapAll (fun p => { unrel := p.unrel }) } ∧ t.buf = {} ∧ t.cdt = {} ∧
      t.otp = s.otp ∧ t.tbe = s.tbe) ∧
  -- a command in Drain that finds no packet left ends it, and a target is entered at once
  (∀ (v : Word32) (s : State), s.hostUp = true → s.md.mode = .drain → s.md.drained = false → s.holdsPackets = false →
    (s.md.target = 0 → exec (.mgtHeartbeat v) s = .next (raise 0 3 noUnit (sat32 ((s.now - s.md.drainStart) / 1000))
      { s.fresh with md := { s.md with hbLast := s.now, drained := true } })) ∧
    (s.md.target = 1 → ∃ t, exec (.mgtHeartbeat v) s = .next t ∧
      t.md = { s.md with mode := .maintenance, cause := 6, hbLast := s.now, drained := false } ∧
      t.isl.log.get (s.isl.total.toNat % 1024) = recordOf s 0 3 noUnit (sat32 ((s.now - s.md.drainStart) / 1000))) ∧
    (s.md.target = 2 → s.otp.rootHash ≠ 0 → s.isl.scorchPending = false → ∃ t, exec (.mgtHeartbeat v) s = .next t ∧
      t.md = { mode := .load, cause := 6 } ∧ t.load = { entered := s.now, phase := .wait, step := 2 } ∧ t.tbl = {} ∧ t.port = {})) ∧
  -- a new target for a device that is drained already is entered at once; one for a device that still holds packets is kept
  (∀ (target : Nat) (s : State), s.hostUp = true → s.md.mode = .drain → target ≤ 2 →
    (s.md.drained = false → s.holdsPackets = true →
      exec (.hostDrain target) s = .next
        { s.fresh with
          regs := s.regs.set Reg.MGT_MODE_CTL (BitVec.ofNat 32 (256 * target)), md := { s.md with refused := false, target := target } }) ∧
    (s.md.drained = true → target = 1 → ∃ t, exec (.hostDrain target) s = .next t ∧
      t.md = { s.md with mode := .maintenance, cause := 6, refused := false, target := 1, drained := false })) ∧
  -- in Drain frames are not taken from a port
  (∀ (p : Nat) (bytes : List Byte) (r : RxSide) (s : State), s.live = true → s.md.mode = .drain → s.md.drained = true →
    s.portExists p = true → (s.port.get p).raw = true →
    exec (.rxFrame p bytes r) s = .next (count (Cnt.LPC_RX_MODE_DROP p) (countLineFec p r s.fresh))) ∧
  (∀ s : State, s.live = true → s.md.mode = .drain → s.md.drained = false → s.md.target = 0 → s.buf.voq = {} → s.buf.leaf = {} →
    s.buf.sweeps = [] →
    ∃ t, exec .drainFlush s = .next t ∧ t.md.drained = true ∧
      t.tbe.st = max s.tbe.st (s.md.drainStart + s.regF Reg.MGT_DRAIN_CFG 15 0 * 1000000) ∧
      t.buf.staged = [] ∧ t.swc.recirc = {} ∧ t.swc.rxq = {} ∧ t.tms.fifo = {} ∧ t.pod.frames = [] ∧ t.pod.exq = {} ∧
      t.isl.log.get (s.isl.total.toNat % 1024) = recordOf t 0 4 noUnit (sat32 s.heldPackets) ∧
      s.fresh.changesOnly t (Fld.events ++ [.md, .tbe, .buf, .swc, .tms, .pod, .part])) ∧
  (∀ s : State, s.live = true → s.md.mode = .drain → s.md.drained = false → s.md.target = 1 →
    ∃ t, exec .drainFlush s = .next t ∧ t.md = { s.md with mode := .maintenance, cause := 7, drained := false })

/-- ATTACH returns the device from Headless to Service, and is refused in every other mode. A host ATTACH in Headless enters Service
with cause 4, raises MODE_CHANGE, and re-arms the watchdog at the present ST. In every other mode but Lockdown, where R91 ignores
the write itself and counts it, ATTACH is refused: RESULT reads REFUSED, CMD and TARGET of MGT_MODE_CTL are written, and the mode
is kept (in Drain the equation takes a device that has drained or still holds packets, so that the end of the command does not end
the drain). In no mode but Headless and Service is the device in Service after ATTACH. Commands shown to answer a next state by
their own effect: attach. (R85) -/
def Obligations.AttachReturnsToService : Prop :=
  (∀ s : State, s.hostUp = true → s.md.mode = .headless →
    ∃ t, exec .attach s = .next t ∧
      Raised 0 1 noUnit 0x040201
        { s.fresh with
          regs := s.regs.set Reg.MGT_MODE_CTL 0,
          md := { s.md with mode := .service, cause := 4, refused := false, hbLast := s.now } } t) ∧
  (∀ s : State, s.hostUp = true → s.md.mode ≠ .headless → s.md.mode ≠ .lockdown → s.md.mode ≠ .drain →
    exec .attach s = .next { s.fresh with regs := s.regs.set Reg.MGT_MODE_CTL 0, md := { s.md with refused := true } }) ∧
  (∀ s : State, s.hostUp = true → s.md.mode = .drain → s.md.drained = true ∨ s.holdsPackets = true →
    exec .attach s = .next { s.fresh with regs := s.regs.set Reg.MGT_MODE_CTL 0, md := { s.md with refused := true } }) ∧
  (∀ s : State, s.md.mode ≠ .headless → s.md.mode ≠ .service →
    ∃ t, exec .attach s = .next t ∧ t.md.mode ≠ .service) ∧
  -- in Lockdown the write itself is ignored
  (∀ s : State, s.hostUp = true → s.md.mode = .lockdown → exec .attach s = .next (ignoreWrite 0 (some .bar0) s.fresh))

/-- The heartbeat watchdog. A host write to MGT_HEARTBEAT restarts the watchdog at the present ST (in Lockdown R91 ignores it; in
Drain the statement takes a device that has drained or still holds packets, so that the end of the command does not end the
drain). Entry to Service arms the watchdog. When HB_TIMEOUT_MS of ST have passed in Service since then, the device raises
HB_EXPIRED with HB_TIMEOUT_MS and enters Headless with cause 3. In every other mode (in Drain on such a device), and with
HB_TIMEOUT_MS 0 (R72), the watchdog does nothing. Commands shown to answer a next state by their own effect: hbExpired,
mgtHeartbeat. (R82) -/
def Obligations.HeartbeatWatchdog : Prop :=
  (∀ (v : Word32) (s : State), s.hostUp = true → s.md.mode ≠ .lockdown → s.md.mode ≠ .drain →
    exec (.mgtHeartbeat v) s = .next { s.fresh with md := { s.md with hbLast := s.now } }) ∧
  (∀ (v : Word32) (s : State), s.hostUp = true → s.md.mode = .drain → s.md.drained = true ∨ s.holdsPackets = true →
    exec (.mgtHeartbeat v) s = .next { s.fresh with md := { s.md with hbLast := s.now } }) ∧
  (∀ (cause : Nat) (s : State), (enterService cause s).md.mode = .service ∧ (enterService cause s).md.hbLast = s.now) ∧
  (∀ s : State, s.live = true → s.md.mode = .service → s.regF Reg.MGT_HB_CFG 15 0 ≠ 0 →
    exec .hbExpired s = .next (changeMode .headless 3 (raise 0 2 noUnit (s.regF Reg.MGT_HB_CFG 15 0)
      { s.fresh with
        tbe := { s.tbe with st := max s.tbe.st (s.md.hbLast + s.regF Reg.MGT_HB_CFG 15 0 * 1000000) } }))) ∧
  (∀ s : State, s.md.mode ≠ .service → s.md.mode ≠ .drain → exec .hbExpired s = .next s.fresh) ∧
  (∀ s : State, s.md.mode = .service → s.regF Reg.MGT_HB_CFG 15 0 = 0 → exec .hbExpired s = .next s.fresh) ∧
  (∀ s : State, s.md.mode = .drain → s.md.drained = true ∨ s.holdsPackets = true → exec .hbExpired s = .next s.fresh)

/-- RESET_N, the core rails and VDD_AON. RESET_N falling holds everything in reset but the always-on island, the fuses and the pins,
and ends a side-band request in execution with REFUSED (R556). VDD_AON falling takes the island with it; its return is
ISLAND_RESET with one record in a fresh log. A core rail falling, here one that is no alarm source (number 12 and above, log entry
10) and with no request in execution, holds the blocks until RESET_N rises; one that falls while the blocks are held keeps them
held. RESET_N rising, on a device that no thermal trip holds, with its fuses read alike, a root hash, no pending Scorch and no
alarm source active, samples the straps, raises MODE_CHANGE to Load with cause 0 and waits for the boot token at step 2. After a
thermal trip with the junction at 105 degrees or more the rise samples the straps, writes that record and releases nothing; with
VDD_AON down it samples the straps only. Commands shown to answer a next state by their own effect: coreRailFall, islandReset,
resetNFall, resetNRise, vddAonFall. (R57, R60, R63, R452, R468, R513, R526, R556) -/
def Obligations.ResetAndSupplies : Prop :=
  (∀ s : State, s.pins.resetN = true → s.coreHeld = false →
    exec .resetNFall s = .next
      { pins := { s.pins with resetN := false, tknOut := false, xspiDriven := false, tknInSince := 0, tknOutSince := 0, casMout := false },
        isl := { s.isl with wrapped := false, lastMode := some s.md.mode, railHold := false, tripHold := false, busy := none,
                            resp := match s.isl.busy with | some q => { seq := q, status := 2 } | none => s.isl.resp },
        otp := s.otp, regs := resetRegs, free := s.free, pending := s.pending }) ∧
  (∀ s : State, s.isl.aonDown = false →
    exec .vddAonFall s = .next
      { pins := { s.pins with tknOut := false, xspiDriven := false, tknInSince := 0, tknOutSince := 0, casMout := false, thermTrip := false },
        isl := { aonDown := true }, otp := s.otp, regs := resetRegs, free := s.free, pending := s.pending }) ∧
  (∀ s : State, s.isl.aonDown = true → s.pins.resetN = false → s.md.mode = .load →
    exec .islandReset s = .next { s.fresh with isl := { log := ⟨[(0, islandResetRec)]⟩, total := 1, held := 1 } }) ∧
  (∀ (src : Nat) (s : State), s.coreHeld = false → 12 ≤ src → s.isl.busy = none →
    exec (.coreRailFall src) s = .next
      { pins := { s.pins with coreRails := false, tknOut := false, xspiDriven := false, tknInSince := 0, tknOutSince := 0, casMout := false },
        isl := { s.isl with wrapped := false, lastMode := some s.md.mode, railHold := true },
        otp := s.otp, regs := resetRegs, free := s.free, pending := s.pending }) ∧
  (∀ (bpos : Nat) (junction : Int) (t : OtpSense) (s : State), s.pins.resetN = false → bpos < 8 → s.isl.aonDown = false →
    s.isl.railHold = false → s.isl.tripHold = false → s.pins.thermTrip = false ∨ junction < 105 → t.disagree = false →
    s.md.mode = .load → s.pins.tknOut = false → s.isl.scorchPending = false → s.otp.rootHash ≠ 0 → s.pins.sources = 0 →
    exec (.resetNRise bpos junction t) s = .next
      { raise 0 1 noUnit (256 * (match s.isl.lastMode with | some m => m.code | none => 0))
          { s.fresh with
            pins := { s.pins with resetN := true, thermTrip := false, coreRails := true, bpos := bpos } } with
        lim := {}, tbe := { s.tbe with refclkLost := false }, load := { entered := s.now, phase := .wait, step := 2 } }) ∧
  -- after a thermal trip a rise at 105 C or above writes the marker and releases nothing
  (∀ (bpos : Nat) (junction : Int) (t : OtpSense) (s : State), s.pins.resetN = false → bpos < 8 → s.isl.aonDown = false →
    s.pins.thermTrip = true → 105 ≤ junction →
    exec (.resetNRise bpos junction t) s = .next
      (raise 0 1 noUnit (256 * (match s.isl.lastMode with | some m => m.code | none => 0))
        { s.fresh with pins := { s.pins with resetN := true, bpos := bpos }, isl := { s.isl with tripHold := true } })) ∧
  -- with VDD_AON down a rise only samples the straps
  (∀ (bpos : Nat) (junction : Int) (t : OtpSense) (s : State), s.pins.resetN = false → bpos < 8 → s.isl.aonDown = true →
    exec (.resetNRise bpos junction t) s = .next { s.fresh with pins := { s.pins with resetN := true, bpos := bpos } }) ∧
  -- a rail that falls while the blocks are held already keeps them held
  (∀ (src : Nat) (s : State), s.pins.resetN = true → s.isl.aonDown = false → s.coreHeld = true → 12 ≤ src →
    exec (.coreRailFall src) s = .next
      { s.fresh with pins := { s.pins with coreRails := false }, isl := { s.isl with railHold := true } })

/-- The boot token and the flash pins. A device whose load is done and whose blocks run passes BOOT_TKN_IN on to BOOT_TKN_OUT; one
whose load is not done only sees its input rise. The fall of the input takes the output with it, and during the read of the flash
it releases the pins and waits again. A device that waits in Load with the token at its input takes the flash 20,000 ns after the
later of the two changes of the token lines: the soft reset in both forms and the read of the directory stand on the pins, and
where the directory is valid its enter commands after them. Commands shown to answer a next state by their own effect:
bootTknInFall, bootTknInRise, bootTokenTake. (R61, R62, R63, R64, R66) -/
def Obligations.BootToken : Prop :=
  (∀ s : State, s.pins.tknIn = false → s.pins.tknOut = false → s.coreHeld = false → s.load.done = true → s.quiet →
    exec .bootTknInRise s = .next
      { s.fresh with pins := { s.pins with tknIn := true, tknInSince := s.now, tknOut := true, tknOutSince := s.now } }) ∧
  (∀ s : State, s.pins.tknIn = false → s.pins.tknOut = false → s.load.done = false → s.quiet →
    exec .bootTknInRise s = .next { s.fresh with pins := { s.pins with tknIn := true, tknInSince := s.now } }) ∧
  (∀ s : State, s.pins.tknIn = true → s.pins.tknOut = true → s.load.done = true → s.quiet →
    exec .bootTknInFall s = .next
      { s.fresh with pins := { s.pins with tknIn := false, tknInSince := s.now, tknOut := false, tknOutSince := s.now } }) ∧
  (∀ s : State, s.pins.tknIn = true → s.pins.tknOut = false → s.coreHeld = false → s.md.mode = .load → s.load.done = false →
    s.load.phase = .reading →
    exec .bootTknInFall s = .next
      { s.fresh with
        pins := { s.pins with tknIn := false, tknInSince := s.now, xspiDriven := false },
        load := { s.load with phase := .wait, entered := s.now, dir := none } }) ∧
  -- the flash is reset and its directory read; a valid one puts it into octal mode
  (∀ (d : Option (List Byte)) (s : State), s.live = true → s.md.mode = .load → s.load.phase = .wait → s.load.done = false →
    s.pins.tknIn = true → s.pins.tknOut = false →
    exec (.bootTokenTake d) s = .next
      { s.fresh with
        tbe := { s.tbe with st := max s.tbe.st (max s.pins.tknInSince s.pins.tknOutSince + 20000) },
        load := { s.load with phase := .reading, step := 2, dir := d },
        pins := { s.pins with xspiDriven := true },
        out := softReset ++ [dirRead] ++
          (match d with
           | some b => if dirOk b s.pins.bpos then enterCmds b else []
           | none => []) })

/-- How a load ends. A failure enters Maintenance with cause 2, keeps code, step, section and detail, releases the flash pins and
raises LOAD_FAIL. Waiting 30 s for the token is NO_TOKEN (code 3). Steps 2 to 5 end Load with the code of the first that fails: no
answer from the flash (4) or no valid directory (2), FORMAT (5), the root hash (6), the CRC of a section (7, with the section's
place and its address); where all pass, the reads and the exit commands stand on the pins, which are released, BOOT_TKN_OUT rises
and step 6 follows. A signature that does not verify under the image's key is code 8 at step 6, a version below the fuses' is code
9 at step 7, contents that break a rule are code 10 at step 8 with the section and detail of one of the faults (which, is a free
value), and where none fails step 9 follows. APPLY_DONE with an incarnation that differs from the one before enters Service with
cause 1 when the image applies, and ends in code 11 at step 9 with the section and detail of the fault when it does not. The
operands of the commands, what the sections hold, the reads and when a failure releases the pins are as log entries 15, 40, 41, 68
and 75 read the rules. Commands shown to answer a next state by their own effect: applyDone, flashReadDone, hssVerifyDone,
tokenTimeout. (R61, R62, R66, R69, R70, R76, R77, R80, R93, R94) -/
def Obligations.LoadOutcomes : Prop :=
  (∀ (code step sect detail : Nat) (s : State),
    (loadFail code step sect detail s).md =
      { s.md with
        mode := .maintenance, cause := 2, loadFailed := true, drained := if s.md.mode = .drain then false else s.md.drained } ∧
    (loadFail code step sect detail s).load =
      { s.load with
        phase := .idle, done := true, ok := false, code := code, step := step, sect := sect, detail := detail, applied := false,
        image := {}, dir := none, sig := [], devId := 0, flags := 0, secVersion := 0, buildId := 0 } ∧
    (loadFail code step sect detail s).pins.xspiDriven = false ∧
    (loadFail code step sect detail s).isl.log.get (s.isl.total.toNat % 1024) = recordOf s 1 2 noUnit (code * 2 ^ 24 + detail % 2 ^ 24)) ∧
  (∀ s : State, s.live = true → s.md.mode = .load → s.load.done = false → s.load.phase = .wait →
    exec .tokenTimeout s = .next (loadFail 3 2 0xFF 0 (runTo (s.load.entered + 30000000000) s.fresh))) ∧
  -- what the flash gave passes steps 2 to 5: the reads and the exit commands stand on the pins, which are then released
  (∀ (d : List Byte) (f : FlashRead) (s : State), s.live = true → s.md.mode = .load → s.load.phase = .reading → s.load.dir = some d →
    dirOk d s.pins.bpos = true → f.fail = none → formatOk f.image s.pins.bpos (dirLength d s.pins.bpos) = true →
    sha256 (f.image.bytes 32 60) = s.otp.rootHash → badCrc f.image = none → s.pins.tknIn = true → s.pins.tknOut = false →
    exec (.flashReadDone f) s = .next
      { s.fresh with
        pins := { s.pins with xspiDriven := false, tknOut := true, tknOutSince := s.now },
        load := { s.load with phase := .verify, step := 6, image := f.image, sig := f.sig, dir := none, dirCount := fieldU d 6 1,
                              done := true },
        out := imageReads d f s.pins.bpos s.otp.rootHash ++ exitCmds d }) ∧
  -- the first of steps 2 to 5 that fails ends Load with its code: no flash, no directory, FORMAT, the root, the section checks
  (∀ (f : FlashRead) (s : State), s.live = true → s.md.mode = .load → s.load.phase = .reading → s.load.dir = none →
    exec (.flashReadDone f) s = .next (loadFail 4 2 0xFF (f.fail.getD 0) s.fresh)) ∧
  (∀ (d : List Byte) (f : FlashRead) (s : State), s.live = true → s.md.mode = .load → s.load.phase = .reading → s.load.dir = some d →
    (dirOk d s.pins.bpos = false →
      exec (.flashReadDone f) s = .next (loadFail 2 2 0xFF 0 s.fresh)) ∧
    (dirOk d s.pins.bpos = true →
      (∀ a, f.fail = some a → exec (.flashReadDone f) s = .next (loadFail 4 2 0xFF a { s.fresh with out := exitCmds d })) ∧
      (f.fail = none →
        (formatOk f.image s.pins.bpos (dirLength d s.pins.bpos) = false →
          exec (.flashReadDone f) s = .next (loadFail 5 3 0xFF 0
            { s.fresh with out := imageReads d f s.pins.bpos s.otp.rootHash ++ exitCmds d })) ∧
        (formatOk f.image s.pins.bpos (dirLength d s.pins.bpos) = true → sha256 (f.image.bytes 32 60) ≠ s.otp.rootHash →
          exec (.flashReadDone f) s = .next (loadFail 6 4 0xFF 0
            { s.fresh with out := imageReads d f s.pins.bpos s.otp.rootHash ++ exitCmds d })) ∧
        (∀ x, formatOk f.image s.pins.bpos (dirLength d s.pins.bpos) = true → sha256 (f.image.bytes 32 60) = s.otp.rootHash →
          badCrc f.image = some x →
          exec (.flashReadDone f) s = .next (loadFail 7 5 x.2 ((dirOffset d s.pins.bpos + x.1.off) % 2 ^ 32)
            { s.fresh with out := imageReads d f s.pins.bpos s.otp.rootHash ++ exitCmds d }))))) ∧
  -- a signature that verifies, a version not below the fuses', and content without a fault
  (∀ s : State, s.live = true → s.md.mode = .load → s.load.phase = .verify → imageSigned s.load.image s.load.sig = true →
    s.fusedVersion ≤ imgSecVersion (imgHeader s.load.image) →
    (∀ k, contentFaults s.load.image s.pins.bpos s.load.dirCount k = []) →
    exec .hssVerifyDone s = .next { s.fresh with load := { s.load with phase := .applying, step := 9 } }) ∧
  -- the first of steps 6 to 8 that fails ends Load with its code
  (∀ s : State, s.live = true → s.md.mode = .load → s.load.phase = .verify → imageSigned s.load.image s.load.sig = false →
    exec .hssVerifyDone s = .next (loadFail 8 6 0xFF 0 s.fresh)) ∧
  (∀ s : State, s.live = true → s.md.mode = .load → s.load.phase = .verify → imageSigned s.load.image s.load.sig = true →
    imgSecVersion (imgHeader s.load.image) < s.fusedVersion →
    exec .hssVerifyDone s = .next (loadFail 9 7 0xFF 0 s.fresh)) ∧
  (∀ s : State, s.live = true → s.md.mode = .load → s.load.phase = .verify → imageSigned s.load.image s.load.sig = true →
    s.fusedVersion ≤ imgSecVersion (imgHeader s.load.image) →
    contentFaults s.load.image s.pins.bpos s.load.dirCount (Config.pick s.free) ≠ [] →
    ∃ f ∈ contentFaults s.load.image s.pins.bpos s.load.dirCount (Config.pick s.free),
      exec .hssVerifyDone s = .next (loadFail 10 8 f.1 f.2 { s.fresh with free := s.free + 2 })) ∧
  (∀ (a : ApplyRead) (s : State), s.live = true → s.md.mode = .load → s.load.phase = .applying → a.inc ≠ 0 → a.inc ≠ s.isl.inc →
    a.inc < 65536 → (applyImage s.load.image a s.fresh).1 = .passed →
    ∃ u, exec (.applyDone a) s = .next u ∧ u.md.mode = .service ∧ u.md.cause = 1 ∧ u.load.ok = true ∧ u.load.applied = true ∧
      u.load.phase = .idle ∧ u.md.hbLast = (applyImage s.load.image a s.fresh).2.now) ∧
  (∀ (a : ApplyRead) (s t : State) (sect detail : Nat), s.live = true → s.md.mode = .load → s.load.phase = .applying → a.inc ≠ 0 →
    a.inc ≠ s.isl.inc → a.inc < 65536 → applyImage s.load.image a s.fresh = (.failed sect detail, t) →
    ∃ u, exec (.applyDone a) s = .next u ∧ u.md.mode = .maintenance ∧ u.load.code = 11 ∧ u.load.step = 9 ∧ u.load.sect = sect ∧
      u.load.detail = detail)

/-- Alarms and the responses to them. A source of grade Log that becomes active is latched and recorded. One of grade Guard or Scorch
also enters Lockdown, closes the volatile secrets, starts the overwrite at the present ST and takes the cascade ring down; Scorch
also starts the burn of KILL. While the blocks are held the island latches a source, and what holds is kept until they run (log
entry 12). A source that becomes inactive leaves SEC_ALARM_STATUS. A thermal trip enters Lockdown, gates the clocks, asserts
THERM_TRIP and starts the overwrite; while the blocks are held it asserts THERM_TRIP and latches its source. The end of the burn
sets KILL and raises KILL_BURNED. The end of the overwrite raises ZEROISED with its duration and leaves TRNG output (free values,
log entry 2) in the root stage, the working state, the response buffers and the hash keys, and no identity, leaf key or queue;
while the TRNG fails its tests it leaves zeros, and the TRNG output follows when source 11 becomes inactive. Commands shown to
answer a next state by their own effect: alarm, killBurned, sourceInactive, zeroised, thermalTrip. (R91, R468, R469, R470, R471,
R472, R473, R475) -/
def Obligations.Alarms : Prop :=
  (∀ (src : Nat) (s : State), src < 11 → s.isl.aonDown = false → s.coreHeld = false → bit s.sec.status.toNat src = false →
    s.grade src = 0 → s.quiet →
    exec (.alarm src) s = .next (raiseAlarm src 0
      { s.fresh with
        pins := { s.pins with sources := s.pins.sources ||| ((1 : BitVec 17) <<< src) },
        isl := { s.isl with latch := s.isl.latch ||| ((1 : BitVec 17) <<< src) },
        sec := { s.sec with status := s.sec.status ||| ((1 : BitVec 17) <<< src), answered := s.sec.answered.set src 0 } })) ∧
  (∀ (src grade : Nat) (s : State), src < 11 → s.isl.aonDown = false → s.coreHeld = false → bit s.sec.status.toNat src = false →
    s.grade src = grade → (grade = 1 ∨ grade = 2) →
    ∃ t, exec (.alarm src) s = .next t ∧ t.md.mode = .lockdown ∧ t.sec.secretClosed = true ∧ t.sec.zeroStart = some s.now ∧
      t.isl.latch = s.isl.latch ||| ((1 : BitVec 17) <<< src) ∧ (grade = 2 → t.isl.scorchPending = true ∧ t.sec.burning = true) ∧
      (s.md.mode ≠ .lockdown → t.asa.run.state = .down) ∧
      s.fresh.changesOnly t (Fld.events ++ [.md, .load, .sec, .pins, .swc, .asa, .ecp, .eng])) ∧
  -- while the blocks are held the island latches the source, and what holds is kept
  (∀ (src : Nat) (s : State), src < 12 → s.isl.aonDown = false → s.coreHeld = true → bit s.pins.sources.toNat src = false →
    ∃ t, exec (.alarm src) s = .next t ∧ t.pins = { s.pins with sources := s.pins.sources ||| ((1 : BitVec 17) <<< src) } ∧
      t.isl.latch = s.isl.latch ||| ((1 : BitVec 17) <<< src) ∧ s.fresh.changesOnly t [.isl, .lim, .pins]) ∧
  (∀ (src : Nat) (s : State), src < 12 → s.running → (src = 11 → s.sec.refill = false) →
    exec (.sourceInactive src) s = .next
      { s.fresh with
        pins := { s.pins with sources := s.pins.sources &&& ~~~((1 : BitVec 17) <<< src) },
        sec := { s.sec with status := s.sec.status &&& ~~~((1 : BitVec 17) <<< src), answered := s.sec.answered.set src 0 } }) ∧
  (∀ (src : Nat) (s : State), src < 12 → s.coreHeld = true →
    exec (.sourceInactive src) s = .next
      { s.fresh with pins := { s.pins with sources := s.pins.sources &&& ~~~((1 : BitVec 17) <<< src) } }) ∧
  (∀ s : State, s.running → s.sec.refill = true →
    ∃ t, exec (.sourceInactive 11) s = .next t ∧ t.sec.refill = false ∧ t.sec.keys = freshKeys (fun n => Config.trng (s.free + n)) ∧
      s.fresh.changesOnly t [.pins, .sec, .regs, .free]) ∧
  (∀ s : State, s.live = true → s.pins.thermTrip = false →
    ∃ t, exec .thermalTrip s = .next t ∧ t.md.mode = .lockdown ∧ t.sec.gated = true ∧ t.pins.thermTrip = true ∧ t.live = false ∧
      t.sec.secretClosed = true ∧ t.sec.zeroStart = some s.now ∧ (s.md.mode ≠ .lockdown → t.asa.run.state = .down) ∧
      s.fresh.changesOnly t (Fld.events ++ [.md, .load, .sec, .pins, .swc, .asa, .ecp, .eng])) ∧
  (∀ s : State, s.coreHeld = false → s.sec.burning = true → s.md.mode = .lockdown →
    exec (.killBurned true) s = .next (raise 1 6 noUnit 0
      { s.fresh with
        otp := { s.otp with kill := true },
        isl := { s.isl with scorchPending := false },
        sec := { s.sec with burning := false } })) ∧
  (∀ s : State, s.coreHeld = true → s.isl.aonDown = false → s.pins.thermTrip = false →
    ∃ t, exec .thermalTrip s = .next t ∧ t.pins = { s.pins with thermTrip := true } ∧
      t.isl.latch = s.isl.latch ||| ((1 : BitVec 17) <<< 16) ∧ s.fresh.changesOnly t [.isl, .lim, .pins]) ∧
  (∀ (s : State) (t : Nat), s.coreHeld = false → s.sec.zeroStart = some t → s.quiet →
    ∃ u, exec (.zeroised true) s = .next u ∧ u.free = s.free + 29 ∧
      u.sec = { s.sec with zeroStart := none, ident := .none, leaf := none, topRoot := false, idKey := [], queue := [], refill := false,
                           keys := freshKeys (fun n => Config.trng (s.free + n)), seed := Config.trng (s.free + 16),
                           tree := Config.trng (s.free + 17), topSig := Config.trng (s.free + 18), trng := Config.trng (s.free + 28),
                           attest := ⟨(List.range 9).map (fun p => (p, { resp := leBytes 5492 (Config.trng (s.free + (19 + p))) }))⟩ } ∧
      (∀ n < 8, u.regs.get (Reg.SEC_ROOT_STAGE n) = BitVec.ofNat 32 (Config.trng (s.free + (8 + n)))) ∧
      u.isl.log.get (s.isl.total.toNat % 1024) = recordOf s 1 5 noUnit (sat32 (s.now - t)) ∧
      s.fresh.changesOnly u (Fld.events ++ [.sec, .regs, .free])) ∧
  -- while the TRNG fails its tests the overwrite leaves zeros, and waits for TRNG output
  (∀ (s : State) (t : Nat), s.coreHeld = false → s.sec.zeroStart = some t → s.quiet →
    ∃ u, exec (.zeroised false) s = .next u ∧ u.free = s.free ∧ u.sec.zeroStart = none ∧ u.sec.refill = true ∧ u.sec.seed = 0 ∧
      u.sec.keys = freshKeys (fun _ => 0) ∧ (∀ n < 8, u.regs.get (Reg.SEC_ROOT_STAGE n) = 0) ∧
      u.isl.log.get (s.isl.total.toNat % 1024) = recordOf s 1 5 noUnit (sat32 (s.now - t)) ∧
      s.fresh.changesOnly u (Fld.events ++ [.sec, .regs]))

/-- Programming fuses. In Maintenance, with confirm 0xA5 and the root unlocked: PROG_ROOT whose burn reads as staged sets and locks
the root hash and raises ROOT_PROGRAMMED with RESULT DONE; one that reads short of it leaves the cells burned and RESULT
INCOMPLETE; one with a cell burned that is not staged leaves RESULT CORRUPT and locks the root. Outside Maintenance, with the root
locked or with another confirm, RESULT is REFUSED and nothing burns. JTAG_DISABLE and KILL_FUSE burn their bits with RESULT DONE;
a bit that reads back unburned leaves RESULT INCOMPLETE and raises FUSE_FAIL, and one burned before reads burned; outside
Maintenance or with another confirm they are REFUSED. That a burn is over within its command is log entry 13's. Commands shown to
answer a next state by their own effect: jtagDisable, killFuse, progRoot. (R456, R458, R459, R475, R476) -/
def Obligations.FuseCommands : Prop :=
  (∀ (read : BitVec 256) (s : State), s.hostSets 1 → s.md.mode = .maintenance → s.otp.rootLock = false → s.otp.rootHash ||| read = s.rootStage →
    exec (.progRoot 0xA5 read) s = .next (raise 1 8 noUnit 0
      { s.fresh with
        otp := { s.otp with rootHash := s.rootStage, rootLock := true },
        regs := s.regs.set Reg.SEC_OTP_CMD 0x01000000 })) ∧
  (∀ (read : BitVec 256) (s : State), s.hostSets 1 → s.md.mode = .maintenance → s.otp.rootLock = false → s.otp.rootHash ||| read ≠ s.rootStage →
    (s.otp.rootHash ||| read) &&& ~~~s.rootStage = 0 →
    exec (.progRoot 0xA5 read) s = .next
      { s.fresh with
        otp := { s.otp with rootHash := s.otp.rootHash ||| read },
        regs := s.regs.set Reg.SEC_OTP_CMD 0x02000000 }) ∧
  -- a cell that reads burned and is not staged: CORRUPT, and the root is locked
  (∀ (read : BitVec 256) (s : State), s.hostSets 1 → s.md.mode = .maintenance → s.otp.rootLock = false →
    (s.otp.rootHash ||| read) &&& ~~~s.rootStage ≠ 0 →
    exec (.progRoot 0xA5 read) s = .next
      { s.fresh with
        otp := { s.otp with rootHash := s.otp.rootHash ||| read, rootLock := true },
        regs := s.regs.set Reg.SEC_OTP_CMD 0x03000000 }) ∧
  (∀ (confirm : Nat) (read : BitVec 256) (s : State), s.hostSets 1 → (s.md.mode ≠ .maintenance ∨ s.otp.rootLock = true ∨ confirm ≠ 0xA5) →
    exec (.progRoot confirm read) s = .next { s.fresh with regs := s.regs.set Reg.SEC_OTP_CMD 0x04000000 }) ∧
  (∀ s : State, s.hostSets 1 → s.md.mode = .maintenance →
    exec (.jtagDisable 0xA5 true) s = .next
      { s.fresh with
        otp := { s.otp with jtagDisable := true },
        regs := s.regs.set Reg.SEC_OTP_CMD 0x01000000 } ∧
    exec (.killFuse 0xA5 true) s = .next
      { s.fresh with
        otp := { s.otp with kill := true },
        regs := s.regs.set Reg.SEC_OTP_CMD 0x01000000 }) ∧
  -- a burn that reads back unburned; a bit burned before reads burned
  (∀ s : State, s.hostSets 1 → s.md.mode = .maintenance →
    (s.otp.jtagDisable = false → exec (.jtagDisable 0xA5 false) s = .next (raise 1 7 noUnit 3
      { s.fresh with regs := s.regs.set Reg.SEC_OTP_CMD 0x02000000 })) ∧
    (s.otp.kill = false → exec (.killFuse 0xA5 false) s = .next (raise 1 7 noUnit 3
      { s.fresh with regs := s.regs.set Reg.SEC_OTP_CMD 0x02000000 })) ∧
    (s.otp.jtagDisable = true → exec (.jtagDisable 0xA5 false) s = .next
      { s.fresh with regs := s.regs.set Reg.SEC_OTP_CMD 0x01000000 }) ∧
    (s.otp.kill = true → exec (.killFuse 0xA5 false) s = .next
      { s.fresh with regs := s.regs.set Reg.SEC_OTP_CMD 0x01000000 })) ∧
  (∀ (confirm : Nat) (burned : Bool) (s : State), s.hostSets 1 → (s.md.mode ≠ .maintenance ∨ confirm ≠ 0xA5) →
    exec (.jtagDisable confirm burned) s = .next { s.fresh with regs := s.regs.set Reg.SEC_OTP_CMD 0x04000000 } ∧
    exec (.killFuse confirm burned) s = .next { s.fresh with regs := s.regs.set Reg.SEC_OTP_CMD 0x04000000 })

/-- The debug port. IDCODE answers the identity and BYPASS answers the bypass, in every state of the port, while the blocks are held
too; each first takes source 9 out of SEC_ALARM_STATUS when the command is its end. Another instruction at a locked port counts
SEC_JTAG_ATTEMPT and is source 9; at an open port it is the one refusal of the model: R474 gives it no effect (log entry 14).
Commands shown to answer a next state by their own effect: jtagInstruction. (R474) -/
def Obligations.DebugPort : Prop :=
  (∀ s : State, s.running → 
    exec (.jtagInstruction .idcode) s = .next (emit (.jtag 0)
      { s.fresh with
        pins := { s.pins with sources := s.pins.sources &&& ~~~((1 : BitVec 17) <<< 9) },
        sec := { s.sec with status := s.sec.status &&& ~~~((1 : BitVec 17) <<< 9), answered := s.sec.answered.set 9 0 } })) ∧
  (∀ s : State, s.running → 
    exec (.jtagInstruction .bypass) s = .next (emit (.jtag 1)
      { s.fresh with
        pins := { s.pins with sources := s.pins.sources &&& ~~~((1 : BitVec 17) <<< 9) },
        sec := { s.sec with status := s.sec.status &&& ~~~((1 : BitVec 17) <<< 9), answered := s.sec.answered.set 9 0 } })) ∧
  -- both act while the blocks are held, too
  (∀ s : State, s.coreHeld = true →
    exec (.jtagInstruction .idcode) s = .next (emit (.jtag 0)
      { s.fresh with pins := { s.pins with sources := s.pins.sources &&& ~~~((1 : BitVec 17) <<< 9) } }) ∧
    exec (.jtagInstruction .bypass) s = .next (emit (.jtag 1)
      { s.fresh with pins := { s.pins with sources := s.pins.sources &&& ~~~((1 : BitVec 17) <<< 9) } })) ∧
  -- any other at a locked port is counted, and is source 9
  (∀ s : State, s.steady → s.jtagOpen = false →
    exec (.jtagInstruction .other) s = .next (doAlarm 9 (count Cnt.SEC_JTAG_ATTEMPT s.fresh))) ∧
  (∀ s : State, s.live = true → s.jtagOpen = true → exec (.jtagInstruction .other) s = .refused .jtagOpenInstruction)

/-- Identity and attestation. The identity becomes ready in Service after a load that passed, on a device whose secret is open, with a
bottom seed from the TRNG, the bottom tree and its top signature (free values, log entry 2), and IDENTITY_READY of the boot index;
with the secret closed nothing is built. A QUOTE request at the front of the queue, well formed and on a device that is not
killed, answers with its body and a signature by the leaf key (an opaque function, log entry 2) and uses up one of the boot's
signatures. An IDENTITY request answers with its body without a signature of the leaf. Commands shown to answer a next state by
their own effect: identity, identityReady, quote. (R458, R463, R464, R465, R466, R467, R475) -/
def Obligations.Attestation : Prop :=
  (∀ (s : State) (q : Nat), s.live = true → s.md.mode = .service → s.md.loadFailed = false → s.load.applied = true → s.sec.ident = .building →
    s.sec.leaf = some q → s.secretOpen = true →
    exec .identityReady s = .next (raise 1 9 noUnit (q % 1024)
      { s.fresh with
        free := s.free + 1,
        sec := { s.sec with topRoot := true, idKey := padTo 48 (Config.identity s.otp.secret), ident := .ready,
                            seed := Config.trng s.free, tree := Config.bottomTree (Config.trng s.free),
                            topSig := Config.topSignature s.otp.secret q (Config.bottomTree (Config.trng s.free)) } })) ∧
  (∀ s : State, s.md.mode = .service → s.secretOpen = false → exec .identityReady s = .next s.fresh) ∧
  (∀ (s : State) (p q : Nat) (rest : List Nat), s.live = true → s.md.mode = .service → s.sec.queue = p :: rest →
    attestReqOk (s.sec.attest.get p).req = true → datU (s.sec.attest.get p).req 1 1 = 1 → s.otp.kill = false → s.sec.leaf = some q →
    s.sec.ident = .ready → s.sec.sigs < 32767 →
    ∃ t, exec .quote s = .next t ∧ t.sec.queue = rest ∧ t.sec.sigs = s.sec.sigs + 1 ∧ t.sec.ident = .ready ∧
      t.sec.attest = s.sec.attest.set p
        { pending := false, req := (s.sec.attest.get p).req,
          resp := attestBody s (s.sec.attest.get p).req 0 (some s.sec.sigs) ++
            hssSignature q s.sec.sigs (leBytes 2544 s.sec.topSig)
              (Config.signature s.sec.seed s.sec.sigs (attestBody s (s.sec.attest.get p).req 0 (some s.sec.sigs))) } ∧
      s.fresh.changesOnly t (Fld.events ++ [.sec, .free])) ∧
  (∀ (s : State) (p : Nat) (rest : List Nat), s.live = true → s.md.mode = .service → s.sec.queue = p :: rest →
    attestReqOk (s.sec.attest.get p).req = true → datU (s.sec.attest.get p).req 1 1 = 2 → s.otp.kill = false → s.sec.topRoot = true →
    s.sec.sigs < 32768 →
    exec .identity s = .next
      { s.fresh with
        sec := { s.sec with queue := rest,
                            attest := s.sec.attest.set p { pending := false, req := (s.sec.attest.get p).req,
                                                           resp := attestBody s (s.sec.attest.get p).req 0 none } } })

/-- The count of a thermometer field. The count of a thermometer field is 0 when no bit is burned, and one more than the index of the
highest burned bit whatever the bits below it are; the anti-rollback version and the count of boots are read so. (R457) -/
def Obligations.ThermometerFields : Prop :=
  (∀ n v : Nat, (∀ i < n, bit v i = false) → thermo n v = 0) ∧
  (∀ n v k : Nat, k < n → bit v k = true → (∀ i < n, k < i → bit v i = false) → thermo n v = k + 1) ∧
  (∀ (k : Nat) (s : State), k < 64 → s.otp.rollback.getLsbD k = true → (∀ i < 64, k < i → s.otp.rollback.getLsbD i = false) →
    s.fusedVersion = k + 1) ∧
  (∀ (k : Nat) (s : State), k < 1024 → s.otp.bootCount.getLsbD k = true → (∀ i < 1024, k < i → s.otp.bootCount.getLsbD i = false) →
    s.bootsUsed = k + 1)

/-- Pulses, messages and slews. An edge of the other polarity only lets time pass. One within 500 ms of the last accepted edge is
counted as a glitch. An accepted pulse with no message counts TBE_TOD_MISSING and forgets the pulse before. In LOCKED, a pulse
with a message of the next second that agrees with the pulse before within 100 ns and whose phase error (log entry 44) lies within
SLEW_LIMIT starts a slew of its negative. A sound message is bound to the next pulse. A slew adds or withholds one ns every 20,000
ns of the timebase, so that the next falls due 20,001 or 19,999 ns of ST after ST has changed. Commands shown to answer a next
state by their own effect: ppsEdge, slewIncrement, todMessage. (R33, R34, R35, R36, R37, R41, R42, R54, R555) -/
def Obligations.TimeInputs : Prop :=
  -- an edge of the other polarity only lets time pass
  (∀ (gap : Nat) (rising : Bool) (s : State), s.running → rising = bit (s.reg Reg.TBE_PPS_CFG) 16 →
    exec (.ppsEdge gap rising) s = .next { s.fresh with tbe := { s.tbe with st := s.tbe.st + gap } }) ∧
  -- an edge within 500 ms of the accepted one before is a glitch
  (∀ (gap e : Nat) (rising : Bool) (s : State), s.running → rising ≠ bit (s.reg Reg.TBE_PPS_CFG) 16 → s.tbe.lastEdge = some e →
    s.tbe.st + gap - e < 500000000 →
    exec (.ppsEdge gap rising) s = .next
      (count Cnt.TBE_PPS_GLITCH { s.fresh with tbe := { s.tbe with st := s.tbe.st + gap } })) ∧
  -- an accepted pulse with no message
  (∀ (gap : Nat) (rising : Bool) (s : State), s.running → rising ≠ bit (s.reg Reg.TBE_PPS_CFG) 16 →
    (∀ e, s.tbe.lastEdge = some e → 500000000 ≤ s.tbe.st + gap - e) → s.tbe.bound = none →
    exec (.ppsEdge gap rising) s = .next
      (count Cnt.TBE_TOD_MISSING
        { s.fresh with
          tbe := { s.tbe with st := s.tbe.st + gap, lastEdge := some (s.tbe.st + gap), bound := none, kept := none, prev := none } })) ∧
  -- in LOCKED a pulse that confirms the one before, with no label error and a phase error within SLEW_LIMIT, is slewed
  (∀ (gap sec : Nat) (rising : Bool) (phase before : Int) (s : State), s.running → rising ≠ bit (s.reg Reg.TBE_PPS_CFG) 16 →
    (∀ e, s.tbe.lastEdge = some e → 500000000 ≤ s.tbe.st + gap - e) → s.tbe.bound = some (sec + 1) → s.tbe.state = .locked →
    (((s.tbe.st + gap - s.tbe.off : Nat) : Int) - s.ppsComp = ((sec + 1 : Nat) : Int) * 1000000000 + phase) →
    s.tbe.prev = some (sec, 0, before) → (before - phase).natAbs ≤ 100 → phase.natAbs ≤ s.slewLimit → phase.natAbs < 500000000 →
    exec (.ppsEdge gap rising) s = .next
      { s.fresh with
        tbe := { s.tbe with st := s.tbe.st + gap, lastEdge := some (s.tbe.st + gap), bound := none, prev := some (sec + 1, 0, phase),
                            phaseErr := phase, lastGood := s.tbe.st + gap, slew := -phase, slewDue := s.tbe.st + gap + 20000 } }) ∧
  -- a sound message is bound to the next accepted pulse
  (∀ (gap : Nat) (bytes : List Byte) (s : State), s.running → todOk bytes = true → s.tbe.bound = none →
    exec (.todMessage gap bytes) s = .next
      { s.fresh with
        tbe := { s.tbe with st := s.tbe.st + gap, bound := some (leVal (slice bytes 2 6)), lastTod := bvOfBytes 128 bytes,
                            leap := bit (byteAt bytes 8).toNat 1, traceable := bit (byteAt bytes 8).toNat 0 } }) ∧
  -- a slew adds or withholds one increment every 20,000 ns
  (∀ s : State, s.running → 0 < s.tbe.slew →
    exec .slewIncrement s = .next
      { s.fresh with
        tbe := { s.tbe with st := max s.tbe.st s.tbe.slewDue + 1, slew := s.tbe.slew - 1,
                            slewDue := max s.tbe.st s.tbe.slewDue + 20001 } }) ∧
  (∀ s : State, s.running → s.tbe.slew < 0 →
    exec .slewIncrement s = .next
      { s.fresh with
        tbe := { s.tbe with st := max s.tbe.st s.tbe.slewDue, slew := s.tbe.slew + 1,
                            slewDue := max s.tbe.st s.tbe.slewDue + 19999 } })

/-- HOLDOVER and the loss of the reference clock. 2 s after the last good pulse a LOCKED timebase enters HOLDOVER, counts it and
raises HOLDOVER_ENTER with detail 0. The loss of TIME_REFCLK raises REFCLK_LOST, and on a LOCKED timebase first enters HOLDOVER
with detail 1; where alarm source 5 was inactive, it becomes active and is answered (stated for grade Log). Its return clears
REFCLK_LOST and ends source 5. That the loss of TIME_REFCLK is the condition of source 5 is log entry 12's reading. Commands shown
to answer a next state by their own effect: holdoverEnter, refclkLost, refclkRestored. (R40, R47, R48, R468, R470) -/
def Obligations.HoldoverAndReference : Prop :=
  (∀ s : State, s.running → s.tbe.state = .locked →
    exec .holdoverEnter s = .next (raise 2 4 noUnit 0 (count Cnt.TBE_HOLDOVER_ENTRY
      { s.fresh with
        tbe := { s.tbe with st := max s.tbe.st (s.tbe.lastGood + 2000000000), state := .holdover, slew := 0 } }))) ∧
  (∀ (ppm : Int) (s : State), s.running → s.tbe.refclkLost = false → s.tbe.state ≠ .locked → bit s.sec.status.toNat 5 = true →
    exec (.refclkLost ppm) s = .next (raise 2 6 noUnit (wrap 32 ppm)
      { s.fresh with
        tbe := { s.tbe with refclkLost := true }, pins := { s.pins with sources := s.pins.sources ||| 32 } })) ∧
  (∀ (ppm : Int) (s : State), s.running → s.tbe.refclkLost = false → s.tbe.state = .locked → bit s.sec.status.toNat 5 = false →
    s.grade 5 = 0 →
    exec (.refclkLost ppm) s = .next (raiseAlarm 5 0 (raise 2 6 noUnit (wrap 32 ppm) (raise 2 4 noUnit 1 (count Cnt.TBE_HOLDOVER_ENTRY
      { s.fresh with
        tbe := { s.tbe with refclkLost := true, state := .holdover, slew := 0 },
        pins := { s.pins with sources := s.pins.sources ||| 32 }, isl := { s.isl with latch := s.isl.latch ||| 32 },
        sec := { s.sec with status := s.sec.status ||| 32, answered := s.sec.answered.set 5 0 } }))))) ∧
  (∀ s : State, s.running → exec .refclkRestored s = .next
    { s.fresh with
      tbe := { s.tbe with refclkLost := false },
      pins := { s.pins with sources := s.pins.sources &&& ~~~(32 : BitVec 17) },
      sec := { s.sec with status := s.sec.status &&& ~~~(32 : BitVec 17), answered := s.sec.answered.set 5 0 } })

/-- Boundaries of ST, SNAP, DISCHARGE and REALIGN. A boundary command lets ST reach the next multiple of its period; an epoch boundary
of the same instant goes before an age quantum's. An epoch boundary flags the threads that have EPW set and fires an armed swap
whose epoch has come, or was among those the step skipped (log entry 71). SNAP copies NT, ST and E. DISCHARGE ends a skipped
interval. REALIGN in a drained, LOCKED device whose queues are empty and with nothing armed sets ST to NT and O to 0 and raises
REALIGNED (with TBE_OFF in microseconds); in Service it answers REALIGN_REFUSED and changes nothing else. Commands shown to answer
a next state by their own effect: ageQuantumBoundary, discharge, epochBoundary, realign, snap. (R44, R45, R46, R49, R55, R139,
R308) -/
def Obligations.Boundaries : Prop :=
  (∀ s : State, s.running → s.tbe.epochSeen = max s.tbe.st ((s.tbe.ageSeen + 1) * s.agePeriod) / s.epochPeriod →
    exec .ageQuantumBoundary s = .next
      { s.fresh with
        tbe := { s.tbe with st := max s.tbe.st ((s.tbe.ageSeen + 1) * s.agePeriod),
                            ageSeen := max s.tbe.st ((s.tbe.ageSeen + 1) * s.agePeriod) / s.agePeriod } }) ∧
  -- an epoch boundary at the same instant goes first
  (∀ s : State, s.running → s.cls.armed = none →
    ∃ t, exec .ageQuantumBoundary s = .next t ∧ t.tbe.st = max s.tbe.st ((s.tbe.ageSeen + 1) * s.agePeriod) ∧
      t.tbe.ageSeen = t.tbe.st / s.agePeriod ∧ t.tbe.epochSeen = t.tbe.st / s.epochPeriod ∧
      s.fresh.changesOnly t (Fld.events ++ [.tbe, .cls, .eng, .asa, .ecp])) ∧
  (∀ s : State, s.running → s.cls.armed = none →
    ∃ t, exec .epochBoundary s = .next t ∧ t.tbe.st = max s.tbe.st ((s.tbe.epochSeen + 1) * s.epochPeriod) ∧
      t.tbe.epochSeen = t.tbe.st / s.epochPeriod ∧
      (s.asa.run.rejoin = none → t.eng.th = s.eng.th.mapAll (flagEpoch t.epoch)) ∧
      s.fresh.changesOnly t (Fld.events ++ [.tbe, .cls, .eng, .asa, .ecp])) ∧
  (∀ (e : Nat) (s : State), s.running → s.cls.armed = some e → s.swapMode = true → s.asa.run.rejoin = none →
    ((((max s.tbe.st ((s.tbe.epochSeen + 1) * s.epochPeriod)) / s.epochPeriod % 2 ^ 32) + 2 ^ 32 - e % 2 ^ 32) % 2 ^ 32 < 2 ^ 31 ∨
      (e + 2 ^ 32 - s.tbe.epochSeen % 2 ^ 32) % 2 ^ 32 ≤
        max s.tbe.st ((s.tbe.epochSeen + 1) * s.epochPeriod) / s.epochPeriod - s.tbe.epochSeen) →
    ∃ t, exec .epochBoundary s = .next t ∧ t.cls.active = 1 - s.cls.active ∧ t.cls.armed = none ∧ t.cls.draining = true ∧
      t.isl.log.get (s.isl.total.toNat % 1024) = recordOf t 5 2 noUnit t.epoch ∧
      s.fresh.changesOnly t (Fld.events ++ [.tbe, .cls, .eng, .asa, .ecp])) ∧
  (∀ s : State, s.hostSets 2 →
    exec .snap s = .next { s.fresh with tbe := { s.tbe with snapNt := s.nt, snapSt := s.now, snapE := s.epoch } }) ∧
  (∀ (n : Nat) (s : State), s.steady → s.tbe.skip = some n →
    ∃ t, exec .discharge s = .next t ∧ t.tbe.skip = none ∧ t.tbe.st = s.tbe.st ∧ t.tbe.ageSeen = s.tbe.st / s.agePeriod ∧
      s.fresh.changesOnly t (Fld.events ++ [.tbe, .svc, .cls, .tms, .eng, .asa, .ecp])) ∧
  (∀ s : State, s.hostUp = true → s.hostMayWrite 2 = true → s.md.mode = .drain → s.md.drained = true → s.tbe.state = .locked →
    s.queuesHold = false → s.cls.armed = none → s.cls.draining = false →
    ∃ t, exec .realign s = .next t ∧ t.tbe.st = s.nt ∧ t.tbe.off = 0 ∧ t.tbe.skip = none ∧
      t.isl.log.get (s.isl.total.toNat % 1024) = recordOf t 2 8 noUnit (sat32 (s.tbe.off / 1000))) ∧
  (∀ s : State, s.hostUp = true → s.md.mode = .service →
    exec .realign s = .next { s.fresh with tbe := { s.tbe with realignRefused := true } })

/-- Register and counter accesses of the host. A write of MGT_SCRATCH takes its value. A write to an aligned offset that holds no
register is ignored and counted. A misaligned access, a write or a read of a counter, is an unsupported request and counted in
MGT_PCIE_BAD_ACCESS with the host as master and the window. A counter reads as zero in BAR4. In BAR0 an 8-byte counter read gives
the counter (zero for a counter of a port that is absent) and the stamp of ST; a 4-byte read of its low half also keeps the high
half, which the next read of the high half gives. Commands shown to answer a next state by their own effect: counterRead,
registerWrite. (R8, R10, R58, R95, R478, R508, R509, R541) -/
def Obligations.RegisterAccess : Prop :=
  (∀ (v : Word32) (s : State), s.live = true → s.pins.perstN = true → s.md.mode = .service →
    exec (.registerWrite .bar0 Reg.MGT_SCRATCH 4 v.toNat) s = .next { s.fresh with regs := s.regs.set Reg.MGT_SCRATCH v }) ∧
  (∀ (a v : Nat) (s : State), s.live = true → s.pins.perstN = true → s.md.mode = .service → a % 4 = 0 → a + 4 ≤ 0x4000000 →
    windowAt a = none → ¬ (0x3F0000 ≤ a ∧ a < 0x3F0400) → regAt a = none →
    exec (.registerWrite .bar0 a 4 v) s = .next (ignoreWrite 0 (some .bar0) s.fresh)) ∧
  (∀ (win : Window) (a v : Nat) (s : State), s.running → s.pins.perstN = true → a % 4 ≠ 0 →
    exec (.registerWrite win a 4 v) s = .next (emit .unsupported
      (countA { master := some 0, win := some win } Cnt.MGT_PCIE_BAD_ACCESS 1 s.fresh))) ∧
  (∀ (win : Window) (a : Nat) (s : State), s.live = true → s.pins.perstN = true → s.md.mode = .service → a % 8 ≠ 0 →
    exec (.counterRead .host win a true) s = .next (emit .unsupported
      (countA { master := some 0, win := some win } Cnt.MGT_PCIE_BAD_ACCESS 1 s.fresh))) ∧
  -- BAR4 reaches no counter: it reads zero there
  (∀ (a : Nat) (s : State), s.live = true → s.pins.perstN = true → s.md.mode = .service → isCounter a = true → a % 8 = 0 → a < 0x10000 →
    exec (.counterRead .host .bar4 a true) s = .next (emit (.readData 0) s.fresh)) ∧
  (∀ (a : Nat) (s : State), s.live = true → s.pins.perstN = true → s.md.mode = .service → isCounter a = true → a % 8 = 0 →
    exec (.counterRead .host .bar0 a true) s = .next (emit (.readData (s.cntValue a).toNat)
      { s.fresh with hostStamp := BitVec.ofNat 64 s.now, hostShadow := {} }) ∧
    exec (.counterRead .host .bar0 a false) s = .next (emit (.readData ((s.cntValue a).toNat % 2 ^ 32))
      { s.fresh with
        hostStamp := BitVec.ofNat 64 s.now,
        hostShadow := { last := some a, hi := BitVec.ofNat 32 ((s.cntValue a).toNat / 2 ^ 32) } }) ∧
    s.cntValue a = match cntPort a with
      | some p => if s.portExists p then s.cnt.get a else 0
      | none => s.cnt.get a) ∧
  (∀ (a : Nat) (s : State), s.live = true → s.pins.perstN = true → s.md.mode = .service → isCounter a = true → a % 8 = 0 →
    s.hostShadow.last = some a →
    exec (.counterRead .host .bar0 (a + 4) false) s = .next (emit (.readData s.hostShadow.hi.toNat)
      { s.fresh with hostStamp := BitVec.ofNat 64 s.now, hostShadow := {} }))

/-- Operations of an entry command port. On an idle host port in Service, with no operation of another port waiting: READ, WRITE,
MODIFY and READ_CLEAR of a direct table within its size, LOOKUP, DELETE and INSERT of an L2 station, and STEP from an index to the
next valid station begin with BUSY set and hold the outcome (result, index, count, data) that OPERATION_END delivers; each changes
the entry as its operation says. INSERT writes the host's station over the entry of a station that is present, which keeps its
GEN, and else into the lowest free slot of the bucket (log entry 72) with GEN one higher; in a bucket of static stations it ends
FULL and changes nothing. LOOKUP and DELETE of a station that is not there and STEP past the last one end NOT_FOUND and change
nothing. CNT is as log entry 23 reads R482. FLUSH_BY_MASK over one matching entry has either changed nothing yet or cleared that
entry's VALID (log entry 24: how far it is at START is open); in both cases OPERATION_END ends it with the entry cleared, DONE, OK
and CNT 1. Commands shown to answer a next state by their own effect: ecpDelete, ecpFlushByMask, ecpInsert, ecpLookup, ecpModify,
operationEnd, ecpRead, ecpReadClear, ecpStep, ecpWrite. (R194, R198, R477, R479, R480, R481, R482, R483, R484, R485) -/
def Obligations.EntryCommandPorts : Prop :=
  (∀ (n : Nat) (x : TableSide) (s : State), n < 8 → s.live = true → s.pins.perstN = true → s.md.mode = .service → (s.ecp.get n).busy = false →
    (∀ k < 9, k ≠ n → (s.ecp.get k).waitNo = 0) → 1 ≤ (s.ecp.get n).tbl → (s.ecp.get n).tbl ≤ 8 → (s.ecp.get n).idx < s.regF (Reg.FWD_DIRECT_CFG ((s.ecp.get n).tbl - 1)) 20 0 →
    (∃ t, exec (.ecpRead n .bar0 x) s = .next t ∧ t.tbl = s.tbl ∧ (t.ecp.get n).busy = true ∧
      (t.ecp.get n).outcome =
        some { result := 0, idx := (s.ecp.get n).idx, cnt := 1, dat := s.tblGet (s.ecp.get n).tbl (s.ecp.get n).idx }) ∧
    (∃ t, exec (.ecpWrite n .bar0 x) s = .next t ∧ (t.ecp.get n).busy = true ∧
      t.tbl = s.tbl.set (tblKey (s.ecp.get n).tbl (s.ecp.get n).idx)
        ((s.ecp.get n).dat &&& BitVec.ofNat 1024 (Tbl.bits (.direct (s.ecp.get n).tbl))) ∧
      (t.ecp.get n).outcome = some { result := 0, idx := (s.ecp.get n).idx, cnt := 1, dat := (s.ecp.get n).dat }) ∧
    (∃ t, exec (.ecpModify n .bar0 x) s = .next t ∧ (t.ecp.get n).busy = true ∧
      t.tbl = s.tbl.set (tblKey (s.ecp.get n).tbl (s.ecp.get n).idx)
        (mergeBits (Tbl.bits (.direct (s.ecp.get n).tbl) &&& modMask (s.ecp.get n).dat)
          (s.tblGet (s.ecp.get n).tbl (s.ecp.get n).idx) (modVal (s.ecp.get n).dat) &&&
          BitVec.ofNat 1024 (Tbl.bits (.direct (s.ecp.get n).tbl))) ∧
      (t.ecp.get n).outcome = some { result := 0, idx := (s.ecp.get n).idx, cnt := 1, dat := (s.ecp.get n).dat }) ∧
    (∃ t, exec (.ecpReadClear n .bar0 x) s = .next t ∧ (t.ecp.get n).busy = true ∧
      t.tbl = s.tbl.set (tblKey (s.ecp.get n).tbl (s.ecp.get n).idx) 0 ∧
      (t.ecp.get n).outcome =
        some { result := 0, idx := (s.ecp.get n).idx, cnt := 1, dat := s.tblGet (s.ecp.get n).tbl (s.ecp.get n).idx })) ∧
  (∀ (n k : Nat) (x : TableSide) (s : State), n < 8 → s.live = true → s.pins.perstN = true → s.md.mode = .service → (s.ecp.get n).busy = false →
    (∀ k < 9, k ≠ n → (s.ecp.get k).waitNo = 0) → (s.ecp.get n).tbl = 0x12 →
    l2Find s (l2Bd (l2OfDat (s.ecp.get n).dat)) (l2Mac (l2OfDat (s.ecp.get n).dat)) = some k →
    (∃ t, exec (.ecpLookup n .bar0 x) s = .next t ∧ t.fwd.l2 = s.fwd.l2 ∧ (t.ecp.get n).busy = true ∧
      (t.ecp.get n).outcome = some { result := 0, idx := k, cnt := 1, dat := l2Dat (s.fwd.l2.get k) }) ∧
    (∃ t, exec (.ecpDelete n .bar0 x) s = .next t ∧ (t.ecp.get n).busy = true ∧ t.fwd = (l2Clear k s).fwd ∧
      (t.ecp.get n).outcome = some { result := 0, idx := (s.ecp.get n).idx, cnt := 1, dat := (s.ecp.get n).dat }) ∧
    (∃ t, exec (.ecpInsert n .bar0 x) s = .next t ∧ (t.ecp.get n).busy = true ∧
      t.fwd.l2 = s.fwd.l2.set k (datPut (s.hostStation (s.ecp.get n).dat) 15 1 (l2Gen (s.fwd.l2.get k))) ∧
      (t.ecp.get n).outcome = some { result := 0, idx := k, cnt := 1, dat := (s.ecp.get n).dat })) ∧
  -- a station that is not there is not found; an INSERT takes a free slot of its bucket, or finds the bucket full of static ones
  (∀ (n : Nat) (x : TableSide) (s : State), n < 8 → s.live = true → s.pins.perstN = true → s.md.mode = .service → (s.ecp.get n).busy = false →
    (∀ k < 9, k ≠ n → (s.ecp.get k).waitNo = 0) → (s.ecp.get n).tbl = 0x12 →
    l2Find s (l2Bd (l2OfDat (s.ecp.get n).dat)) (l2Mac (l2OfDat (s.ecp.get n).dat)) = none →
    (∃ t, exec (.ecpLookup n .bar0 x) s = .next t ∧ t.fwd = s.fwd ∧ (t.ecp.get n).busy = true ∧
      (t.ecp.get n).outcome = some { result := 3, idx := (s.ecp.get n).idx, cnt := 0, dat := (s.ecp.get n).dat }) ∧
    (∃ t, exec (.ecpDelete n .bar0 x) s = .next t ∧ t.fwd = s.fwd ∧ (t.ecp.get n).busy = true ∧
      (t.ecp.get n).outcome = some { result := 3, idx := (s.ecp.get n).idx, cnt := 0, dat := (s.ecp.get n).dat }) ∧
    (∀ k, (l2Slots (s.l2Bucket (l2Bd (l2OfDat (s.ecp.get n).dat)) (l2Mac (l2OfDat (s.ecp.get n).dat)))).find?
        (fun i => !l2Valid (s.fwd.l2.get i)) = some k →
      ∃ t, exec (.ecpInsert n .bar0 x) s = .next t ∧ (t.ecp.get n).busy = true ∧
        t.fwd.l2 = s.fwd.l2.set k (datPut (s.hostStation (s.ecp.get n).dat) 15 1 ((l2Gen (s.fwd.l2.get k) + 1) % 256)) ∧
        (t.ecp.get n).outcome = some { result := 0, idx := k, cnt := 1, dat := (s.ecp.get n).dat }) ∧
    ((∀ i ∈ l2Slots (s.l2Bucket (l2Bd (l2OfDat (s.ecp.get n).dat)) (l2Mac (l2OfDat (s.ecp.get n).dat))),
        l2Valid (s.fwd.l2.get i) = true ∧ l2Static (s.fwd.l2.get i) = true) →
      ∃ t, exec (.ecpInsert n .bar0 x) s = .next t ∧ t.fwd = s.fwd ∧ (t.ecp.get n).busy = true ∧
        (t.ecp.get n).outcome = some { result := 5, idx := (s.ecp.get n).idx, cnt := 0, dat := (s.ecp.get n).dat })) ∧
  (∀ (n k : Nat) (e : Ent16) (x : TableSide) (s : State), n < 8 → s.live = true → s.pins.perstN = true → s.md.mode = .service →
    (s.ecp.get n).busy = false → (∀ k < 9, k ≠ n → (s.ecp.get k).waitNo = 0) → (s.ecp.get n).tbl = 0x12 →
    s.fwd.l2.cells.find? (fun c => decide ((s.ecp.get n).idx ≤ c.1) && l2Valid c.2) = some (k, e) →
    ∃ t, exec (.ecpStep n .bar0 x) s = .next t ∧ (t.ecp.get n).busy = true ∧
      (t.ecp.get n).outcome = some { result := 0, idx := k, cnt := 1, dat := l2Dat e } ∧
      s.fresh.changesOnly t ([.ecp, .free])) ∧
  (∀ (n : Nat) (x : TableSide) (s : State), n < 8 → s.live = true → s.pins.perstN = true → s.md.mode = .service →
    (s.ecp.get n).busy = false → (∀ k < 9, k ≠ n → (s.ecp.get k).waitNo = 0) → (s.ecp.get n).tbl = 0x12 →
    s.fwd.l2.cells.find? (fun c => decide ((s.ecp.get n).idx ≤ c.1) && l2Valid c.2) = none →
    ∃ t, exec (.ecpStep n .bar0 x) s = .next t ∧ (t.ecp.get n).busy = true ∧
      (t.ecp.get n).outcome = some { result := 3, idx := (s.ecp.get n).idx, cnt := 0, dat := (s.ecp.get n).dat } ∧
      s.fresh.changesOnly t ([.ecp, .free])) ∧
  (∀ (n k i : Nat) (x : TableSide) (s : State), n < 8 → s.live = true → s.pins.perstN = true → s.md.mode = .service → (s.ecp.get n).busy = false →
    (∀ k < 9, k ≠ n → (s.ecp.get k).waitNo = 0) → 1 ≤ k → k ≤ 8 → (s.ecp.get n).tbl = k → s.flushKeys (.direct k) 0 = [i] → s.flushHit (.direct k) (s.ecp.get n).dat i = true →
    ∃ t, exec (.ecpFlushByMask n .bar0 x) s = .next t ∧ (t.ecp.get n).busy = true ∧
      ((t.tbl = s.tbl ∧ (t.ecp.get n).outcome = none) ∨
       (t.tbl = s.tbl.set (tblKey k i) (datPutB (s.tblGet k i) 8 0 1 0) ∧
        (t.ecp.get n).outcome = some { result := 0, idx := (s.ecp.get n).idx, cnt := 1, dat := (s.ecp.get n).dat })) ∧
      s.fresh.changesOnly t ([.ecp, .free, .tbl]) ∧
      (s.pod.writes.contains n = false →
        ∃ u, exec (.operationEnd n) t = .next u ∧ u.tbl = s.tbl.set (tblKey k i) (datPutB (s.tblGet k i) 8 0 1 0) ∧
          (u.ecp.get n).busy = false ∧ (u.ecp.get n).done = true ∧ (u.ecp.get n).result = 0 ∧ (u.ecp.get n).cnt = 1))

/-- The end, the abort and the express commit of a port operation. ABORT on a busy port, the host's or the side-band's, sets the
request and changes nothing else; OPERATION_END of an operation that has no result by then ends it ABORTED, not DONE, with the
number of entries it had changed in CNT and no entry changed further. OPERATION_END of a port with an outcome delivers result,
index, count and data, clears BUSY, sets DONE, ends the port's cascaded searches and raises its MSI-X vector. XP_TABLE_COMMIT of a
write to an express entry with valid fields, with no commit held and no operation of another port waiting, ends the queue's front
and leaves its outcome OK with CNT 1 (log entry 23's reading of R482). Commands shown to answer a next state by their own effect:
ecpAbort, operationEnd, xpTableCommit. (R402, R480, R482, R486, R487) -/
def Obligations.EntryCommandEnds : Prop :=
  (∀ (n : Nat) (s : State), n < 8 → s.hostSets 0 → (s.ecp.get n).busy = true →
    exec (.ecpAbort n) s = .next { s.fresh with ecp := s.ecp.upd n (fun p => { p with abort := true }) }) ∧
  (∀ s : State, s.running → (s.ecp.get 8).busy = true →
    exec (.ecpAbort 8) s = .next { s.fresh with ecp := s.ecp.upd 8 (fun p => { p with abort := true }) }) ∧
  -- an operation without a result so far then ends ABORTED, with the entries it has changed in CNT
  (∀ (n : Nat) (s : State), n < 8 → s.hostSets 0 → (s.ecp.get n).busy = true → (s.ecp.get n).outcome = none →
    ∃ t u, exec (.ecpAbort n) s = .next t ∧ exec (.operationEnd n) t = .next u ∧ (u.ecp.get n).busy = false ∧
      (u.ecp.get n).aborted = true ∧ (u.ecp.get n).done = false ∧ (u.ecp.get n).result = 0 ∧
      (u.ecp.get n).cnt = (s.ecp.get n).walkCnt ∧ u.tbl = s.tbl ∧ u.fwd = s.fwd ∧ u.clove = s.clove ∧ u.asa.ents = s.asa.ents) ∧
  (∀ (n : Nat) (r : EcpRes) (s : State), n < 8 → s.running → (s.ecp.get n).busy = true → (s.ecp.get n).outcome = some r →
    exec (.operationEnd n) s = .next (msixRaise (41 + n)
      { s.fresh with
        ecp := s.ecp.upd n (fun p =>
          { p with busy := false, done := true, aborted := false, result := r.result, idx := r.idx, cnt := r.cnt, dat := r.dat,
                   outcome := none, abort := false, walkPos := 0, walkCnt := 0, sent := false, waitNo := 0 }),
        pod := { s.pod with writes := s.pod.writes.filter (fun k => k != n) },
        asa := { s.asa with run := { s.asa.run with waiting := s.asa.run.waiting.filter (fun q => q.owner != .port n),
                                                    flight := s.asa.run.flight.filter (fun q => q.owner != .port n) } } })) ∧
  (∀ (n : Nat) (s : State), s.live = true → s.md.mode = .service → s.commitHeld = false → s.pod.writes = [n] → n < 8 →
    (∀ k < 9, k ≠ n → (s.ecp.get k).waitNo = 0) →
    (s.ecp.get n).busy = true → (s.ecp.get n).abort = false → (s.ecp.get n).outcome = none → (s.ecp.get n).sent = false →
    (s.ecp.get n).lop = some .write → (s.ecp.get n).ltbl = 0x51 → (s.ecp.get n).lwin = .bar0 → (s.ecp.get n).lidx < 4096 →
    bits (s.ecp.get n).ldat.toNat 3 2 ≠ 3 → bits (s.ecp.get n).ldat.toNat 4 3 ≠ 3 →
    ∃ t, exec .xpTableCommit s = .next t ∧ t.pod.writes = [] ∧
      (t.ecp.get n).outcome = some { result := 0, idx := (s.ecp.get n).lidx, cnt := 1, dat := (s.ecp.get n).ldat } ∧
      s.fresh.changesOnly t ([.ecp, .pod]))

/-- Conduits: flush, pointers and word windows. FLUSH on a conduit whose producer stands inside a packet waits; on a punt conduit at a
packet boundary it empties the conduit and counts the words; on an inject conduit it also ends the packet's transfer through the
core and waits for a START. CDT_PTR gives both pointers, and on an inject conduit without the courier it also grants the window
writer the room there is. A 64-byte read of a punt conduit's word window pops its front word, or gives the idle word when it is
empty. A 64-byte write of an inject conduit's window with room pushes the word and takes it from the grant, with END where no
FLUSH waits. The end of the transfer at FLUSH and the grant of all free words at a read of CDT_PTR are log entry 37's readings.
Commands shown to answer a next state by their own effect: cdtPtrRead, cdtFlush, wordWindowRead, wordWindowWrite. (R490, R492,
R494, R496, R497, R501) -/
def Obligations.Conduits : Prop :=
  (∀ (c : Nat) (s : State), s.hostSets 0 → c ≤ 40 → (s.cdt.get c).inPkt ≠ 0 →
    exec (.cdtFlush c) s = .next { s.fresh with cdt := s.cdt.upd c (fun k => { k with flush := true }) }) ∧
  (∀ (c : Nat) (s : State), s.hostSets 0 → c < 16 → (s.cdt.get c).inPkt = 0 →
    exec (.cdtFlush c) s = .next (countA {} (Cnt.MGT_CDT_FLUSHED c) (s.cdt.get c).fill
      { s.fresh with
        cdt := (s.cdt.upd c (fun k => { k with flush := true })).upd c
          (fun k => { k.emptied with flush := false, skipToStart := false }) })) ∧
  -- the flush of an inject conduit leaves it waiting for a START, and ends the transfer of its packet through the core
  (∀ (c : Nat) (s : State), s.hostWrites 0 → 16 ≤ c → c < 32 → (s.cdt.get c).inPkt = 0 →
    ∃ t, exec (.cdtFlush c) s = .next t ∧
      t.cdt = (s.cdt.upd c (fun k => { k with flush := true })).upd c
        (fun k => { k.emptied with flush := false, skipToStart := true }) ∧
      t.swc = { s.swc with xfers := s.swc.xfers.filter (fun x => x.queue != 10000 + c) } ∧
      s.fresh.changesOnly t ([.cdt, .swc, .cnt])) ∧
  (∀ (c : Nat) (s : State), s.running → s.hostUp = true → c < 16 →
    exec (.cdtPtrRead .host c) s = .next (emit (.readData (65536 * (s.cdt.get c).wr + (s.cdt.get c).rd)) s.fresh)) ∧
  (∀ (c : Nat) (s : State), s.running → s.hostUp = true → 16 ≤ c → c < 32 → (s.ring.get c).courier = false →
    exec (.cdtPtrRead .host c) s = .next (emit (.readData (65536 * (s.cdt.get c).wr + (s.cdt.get c).rd))
      { s.fresh with cdt := s.cdt.upd c (fun k => { k with granted := 1024 - k.fill }) })) ∧
  (∀ (c : Nat) (s : State), s.running → s.hostUp = true → c < 16 → (s.ring.get c).courier = false → (s.cdt.get c).fill ≠ 0 →
    exec (.wordWindowRead .host .bar0 c 0 64 .ok) s = .next (emit (.readData (s.cdt.get c).front.toNat)
      { s.fresh with cdt := s.cdt.upd c Conduit.pop }) ∧
    exec (.wordWindowRead .host .bar4 c 0 64 .ok) s = .next (emit (.readData (s.cdt.get c).front.toNat)
      { s.fresh with cdt := s.cdt.upd c Conduit.pop })) ∧
  (∀ (c : Nat) (s : State), s.running → s.hostUp = true → c < 16 → (s.ring.get c).courier = false → (s.cdt.get c).fill = 0 →
    exec (.wordWindowRead .host .bar0 c 0 64 .ok) s = .next (emit (.readData 0x20) s.fresh)) ∧
  (∀ (c : Nat) (w : Word512) (s : State), s.running → s.hostSets 0 → s.md.mode ≠ .load → 16 ≤ c → c < 32 →
    (s.ring.get c).courier = false → (s.cdt.get c).fill < 1024 → wordEnd w = false →
    exec (.wordWindowWrite .host .bar0 c 0 64 w) s = .next
      { s.fresh with cdt := s.cdt.upd c (fun k => { k.push w with granted := k.granted - 1 }) }) ∧
  -- the END word of a packet ends it there, at which a FLUSH that waits would act
  (∀ (c : Nat) (w : Word512) (s : State), s.running → s.hostSets 0 → s.md.mode ≠ .load → 16 ≤ c → c < 32 →
    (s.ring.get c).courier = false → (s.cdt.get c).fill < 1024 → wordEnd w = true → (s.cdt.get c).flush = false →
    exec (.wordWindowWrite .host .bar0 c 0 64 w) s = .next
      { s.fresh with cdt := s.cdt.upd c (fun k => { k.push w with granted := k.granted - 1 }) })

/-- Host rings, the courier, MSI-X timers and PERST_N. ENABLE of a ring that is not enabled takes SIZE 6 to 16, the thresholds and the
courier bit with both indices 0; on an enabled ring with ENABLE set it is ignored and counted. HOST_IDX of a punt ring moves on
within the produced entries. The courier copies the front word of a conduit to the next entry of its ring, and an inject entry
with credit into its conduit (one word a command, log entry 37). The timer of a ring raises its vector. PERST_N asserted resets
MSI-X and the rings and keeps the mode and the direct tables; its release only raises the pin. Commands shown to answer a next
state by their own effect: courierCopy, courierInject, ringEnable, hostIdx, msixTimer, perstNAssert, perstNRelease. (R58, R498,
R499, R500) -/
def Obligations.HostRings : Prop :=
  (∀ (c : Nat) (v : Word32) (s : State), s.hostSets 0 → c ≤ 40 → (s.ring.get c).enable = false → bit v.toNat 31 = true →
    6 ≤ bits v.toNat 20 16 → bits v.toNat 20 16 ≤ 16 →
    exec (.ringEnable c v) s = .next
      { s.fresh with
        ring := s.ring.upd c (fun r =>
          { r with enable := true, courier := bit v.toNat 30, sizeLog2 := bits v.toNat 20 16, irqThresh := bits v.toNat 15 8,
                   irqUs := bits v.toNat 7 0, hostIdx := 0, devIdx := 0, ends := 0, since := 0, firstAt := none }) }) ∧
  (∀ (c : Nat) (v : Word32) (s : State), s.hostSets 0 → c ≤ 40 → (s.ring.get c).enable = true → bit v.toNat 31 = true →
    exec (.ringEnable c v) s = .next (ignoreWrite 0 (some .bar0) s.fresh)) ∧
  (∀ (c : Nat) (v : Word32) (s : State), s.hostSets 0 → c < 16 → ((s.ring.get c).devIdx - v).toNat < 2 ^ 31 →
    exec (.hostIdx c v) s = .next { s.fresh with ring := s.ring.upd c (fun r => { r with hostIdx := v }) }) ∧
  (∀ (c : Nat) (s : State), s.running → s.couriers c = true → c < 16 → (s.cdt.get c).fill ≠ 0 →
    ((s.ring.get c).devIdx - (s.ring.get c).hostIdx).toNat < (s.ring.get c).size →
    ∃ t, exec (.courierCopy c .ok) s = .next t ∧
      (∃ o, t.out = .memWrite ((s.ring.get c).base.toNat + 64 * ((s.ring.get c).devIdx.toNat % (s.ring.get c).size))
          (bvBytes 64 (s.cdt.get c).front) :: o) ∧
      t.cdt = (s.cdt.upd c Conduit.pop).upd c (fun k => { k with partMoved := !wordEnd (s.cdt.get c).front }) ∧
      s.fresh.changesOnly t ([.cdt, .ring, .cnt, .msix, .out])) ∧
  (∀ (c : Nat) (w : Word512) (s : State), s.running → s.couriers c = true → s.md.mode = .service → 16 ≤ c → c < 32 →
    ((s.ring.get c).hostIdx - (s.ring.get c).devIdx).toNat = 1 → (s.cdt.get c).skipToStart = false → (s.cdt.get c).inPkt = 0 →
    injectWords w ≤ (s.cdt.get c).credit → (s.cdt.get c).fill < 1024 → wordEnd w = false →
    ∃ t, exec (.courierInject c [w]) s = .next t ∧
      t.cdt = s.cdt.upd c (fun k => { k.push w with skipToStart := false }) ∧
      s.fresh.changesOnly t ([.cdt, .ring, .cnt, .msix, .out])) ∧
  (∀ (c t : Nat) (s : State), s.running → (s.ring.get c).firstAt = some t → (s.ring.get c).irqUs ≠ 0 → s.pins.perstN = true →
    exec (.msixTimer c) s = .next (msixRaise c
      { s.fresh with
        tbe := { s.tbe with st := max s.tbe.st (t + (s.ring.get c).irqUs * 1000) },
        ring := s.ring.upd c (fun r => { r with since := 0, firstAt := none }) })) ∧
  (∀ s : State, s.quiet →
    ∃ t, exec .perstNAssert s = .next t ∧ t.pins = { s.pins with perstN := false } ∧ t.msix = {} ∧ t.ring = {} ∧ t.md = s.md ∧ t.tbl = s.tbl ∧
      s.fresh.changesOnly t ([.pins, .ring, .msix, .cdt, .cnt])) ∧
  (∀ s : State, s.quiet → exec .perstNRelease s = .next { s.fresh with pins := { s.pins with perstN := true } })

/-- The pointers of a conduit. A conduit holds (WR - RD) mod 2,048 words; it is empty when WR equals RD and full (1,024 words) when
bits 9:0 are equal while bit 10 differs. A word written stands at bits 9:0 of WR and the word read at bits 9:0 of RD; writing
moves WR by one modulo 2,048 and raises PKTS for an END word, reading moves RD and lowers PKTS for an END word. (R491) -/
def Obligations.ConduitPointers : Prop :=
  (∀ c : Conduit, c.wr < 2048 → c.rd < 2048 → (c.fill : Int) = ((c.wr : Int) - (c.rd : Int)) % 2048) ∧
  (∀ c : Conduit, c.wr < 2048 → c.rd < 2048 → (c.fill = 0 ↔ c.wr = c.rd)) ∧
  (∀ c : Conduit, c.wr < 2048 → c.rd < 2048 →
    (c.fill = 1024 ↔ bits c.wr 9 0 = bits c.rd 9 0 ∧ bit c.wr 10 ≠ bit c.rd 10)) ∧
  (∀ (c : Conduit) (w : Word512), (c.push w).words.get (bits c.wr 9 0) = w) ∧
  (∀ (c : Conduit) (w : Word512), (c.push w).wr = (c.wr + 1) % 2048 ∧ (c.push w).rd = c.rd ∧
    (c.push w).pkts = c.pkts + (if wordEnd w then 1 else 0)) ∧
  (∀ c : Conduit, c.front = c.words.get (bits c.rd 9 0) ∧ c.pop.rd = (c.rd + 1) % 2048 ∧ c.pop.wr = c.wr ∧
    c.pop.pkts = c.pkts - (if wordEnd c.front then 1 else 0))

/-- Side-band commands that read. With no request in execution: IDENTIFY, STATUS, READ_REG of one aligned word that is no counter,
CDT_PTR or word window, READ_LOG of one slot and ALERT_ACK leave a response with status OK and the data of R504; a command code
that the table does not list leaves BAD_CMD (log entry 39: any such request is this command's operand). In Drain the device is one
that has drained or still holds packets. A fetch sends the byte count, SEQ, STATUS, the data and the PEC of the transaction, or
BUSY with the sequence number of the request in execution. The Alert Response Address returns the device's address with its PEC
and releases ALERT_N, as ALERT_ACK does. That an SMBus timeout changes nothing of State is log entry 39's reading of R534.
Commands shown to answer a next state by their own effect: sbAlertAck, alertResponse, sbIdentify, sbReadLog, sbReadReg,
responseFetch, sbStatus, smbTimeout. (R502, R503, R504, R505, R506, R507, R518, R534) -/
def Obligations.SidebandReads : Prop :=
  (∀ (seq : Byte) (s : State), s.isl.aonDown = false → s.isl.busy = none → s.quiet → s.coreHeld = false →
    exec (.sbIdentify 1 seq 1 true) s = .next
      { s.fresh with
        isl := { s.isl with resp := ⟨seq, 0, leBytes 2 0x3216 ++ leBytes 1 s.pins.bpos ++ leBytes 1 s.md.mode.code ++
          leBytes 8 s.otp.serial.toNat ++ leBytes 2 s.load.devId ++ leBytes 2 s.swc.inc ++ leBytes 8 s.load.buildId⟩ } }) ∧
  -- a command code that is not listed, whatever the request's length
  (∀ (code seq : Byte) (n : Nat) (s : State), s.isl.aonDown = false → s.isl.busy = none → s.quiet → code = 0 ∨ 13 < code.toNat →
    exec (.sbIdentify code seq n true) s = .next { s.fresh with isl := { s.isl with resp := { seq := seq, status := 3, data := [] } } }) ∧
  (∀ (seq : Byte) (s : State), s.isl.aonDown = false → s.isl.busy = none → s.quiet →
    exec (.sbStatus seq 1 true) s = .next { s.fresh with isl := { s.isl with resp := { seq := seq, status := 0, data := s.sbStatus } } }) ∧
  (∀ (seq : Byte) (a : Nat) (s : State), s.isl.aonDown = false → s.isl.busy = none → s.quiet → s.coreHeld = false → a % 4 = 0 →
    a + 4 ≤ 0x4000000 → windowAt a = none → isCounter (counterOf a) = false → arrIdx a (Reg.MGT_CDT_PTR 0) 0x40 41 = none →
    exec (.sbReadReg seq 6 true a 1 []) s = .next
      { s.fresh with isl := { s.isl with resp := { seq := seq, status := 0, data := leBytes 4 (s.readReg a) } } }) ∧
  (∀ (seq : Byte) (slot : Nat) (s : State), s.isl.aonDown = false → s.isl.busy = none → s.quiet → slot ≤ 1023 →
    exec (.sbReadLog seq 4 true slot 1) s = .next
      { s.fresh with
        isl := { s.isl with resp := { seq := seq, status := 0, data := bvBytes 4 s.isl.total ++ (s.isl.log.get slot).bytes } } }) ∧
  -- the fetch sends the byte count, SEQ, STATUS, the data and the PEC of the transaction
  (∀ s : State, s.isl.aonDown = false → s.isl.busy = none → s.quiet →
    ∃ pec, exec .responseFetch s = .next (emit (.smbResp (BitVec.ofNat 8 (2 + s.isl.resp.data.length) :: s.isl.resp.seq ::
        s.isl.resp.status :: s.isl.resp.data ++ [pec])) s.fresh) ∧
      pec = smbPec ([BitVec.ofNat 8 (2 * (0x58 + s.pins.bpos)), 0x7F, BitVec.ofNat 8 (2 * (0x58 + s.pins.bpos) + 1),
        BitVec.ofNat 8 (2 + s.isl.resp.data.length), s.isl.resp.seq, s.isl.resp.status] ++ s.isl.resp.data)) ∧
  (∀ (q : Byte) (s : State), s.isl.aonDown = false → s.isl.busy = some q → s.quiet →
    ∃ pec, exec .responseFetch s = .next (emit (.smbResp [2, q, 1, pec]) s.fresh)) ∧
  (∀ (seq : Byte) (s : State), s.isl.aonDown = false → s.isl.busy = none → s.quiet →
    exec (.sbAlertAck seq 1 true) s = .next
      { s.fresh with
        isl := { s.isl with alert := false, resp := { seq := seq, status := 0, data := bvBytes 4 s.isl.total } } }) ∧
  (∀ s : State, s.isl.aonDown = false → s.isl.alert = true → s.quiet →
    exec (.alertResponse true) s = .next (emit (.smbAddr
        [BitVec.ofNat 8 (2 * (0x58 + s.pins.bpos)), smbPec [0x19, BitVec.ofNat 8 (2 * (0x58 + s.pins.bpos))]])
      { s.fresh with isl := { s.isl with alert := false } })) ∧
  (∀ s : State, s.quiet → exec .smbTimeout s = .next s.fresh)

/-- Side-band commands that act. With no request in execution: with the core off a WRITE_REG of an aligned register other than
SEC_ALARM_LATCH answers CORE_OFF; WRITE_REG clears bits of SEC_ALARM_LATCH, and writes MGT_SCRATCH in Maintenance after a load
that did not fail; ECP starts the side-band port (here a READ of an L2 station, outcome OK with CNT 1 as log entry 23 reads R482);
ECP_ABORT asks the port in execution to stop; HEADLESS in Service enters Headless with cause 5; DRAIN and RESTART in Headless, on
a device that holds packets, enter Drain with cause 5 (RESTART with target Load), and on a running device that holds none DRAIN
with target 1 ends in Maintenance at once; RELOAD in Maintenance re-enters Load; PORT_ADMIN in Headless writes the masked bits of
the ports that exist and answers with the register. Commands shown to answer a next state by their own effect: sbDrain, sbEcp,
sbEcpAbort, sbHeadless, sbPortAdmin, sbReload, sbRestart, sbWriteReg. (R80, R87, R89, R473, R504, R505, R506, R553) -/
def Obligations.SidebandWrites : Prop :=
  -- with the core off a write of any other register, here aligned, finds the core off
  (∀ (seq : Byte) (a : Nat) (v : Word32) (s : State), s.isl.aonDown = false → s.isl.busy = none → s.coreHeld = true → a % 4 = 0 →
    a ≠ Reg.SEC_ALARM_LATCH →
    exec (.sbWriteReg seq 9 true a v) s = .next { s.fresh with isl := { s.isl with resp := { seq := seq, status := 6, data := [] } } }) ∧
  (∀ (seq : Byte) (v : Word32) (s : State), s.isl.aonDown = false → s.isl.busy = none → s.quiet →
    exec (.sbWriteReg seq 9 true Reg.SEC_ALARM_LATCH v) s = .next
      { s.fresh with
        isl := { s.isl with latch := s.isl.latch &&& ~~~(BitVec.ofNat 17 v.toNat), resp := { seq := seq, status := 0, data := [] } } }) ∧
  (∀ (seq : Byte) (v : Word32) (s : State), s.live = true → s.isl.busy = none → s.md.mode = .maintenance → s.md.loadFailed = false →
    exec (.sbWriteReg seq 9 true Reg.MGT_SCRATCH v) s = .next
      { s.fresh with
        regs := s.regs.set Reg.MGT_SCRATCH v,
        isl := { s.isl with resp := { seq := seq, status := 0, data := [] } } }) ∧
  (∀ (seq : Byte) (idx : Nat) (x : TableSide) (s : State), s.coreHeld = false → s.isl.busy = none → s.md.mode = .service →
    idx < 2097152 → (∀ k < 8, (s.ecp.get k).waitNo = 0) →
    ∃ t, exec (.sbEcp seq 8 true 0x12 1 idx 0 0 x) s = .next t ∧ t.isl.busy = some seq ∧ (t.ecp.get 8).busy = true ∧
      (t.ecp.get 8).outcome = some { result := 0, idx := idx, cnt := 1, dat := l2Dat (s.fwd.l2.get idx) } ∧
      s.fresh.changesOnly t ([.isl, .ecp, .free, .cnt, .out])) ∧
  (∀ (seq q : Byte) (s : State), s.isl.aonDown = false → s.isl.busy = some q → s.quiet → (s.ecp.get 8).busy = true →
    exec (.sbEcpAbort seq 1 true) s = .next { s.fresh with ecp := s.ecp.upd 8 (fun p => { p with abort := true }) }) ∧
  (∀ (seq : Byte) (s : State), s.coreHeld = false → s.isl.busy = none → s.md.mode = .service →
    exec (.sbHeadless seq 1 true) s = .next (changeMode .headless 5
      { s.fresh with isl := { s.isl with resp := { seq := seq, status := 0, data := [] } } })) ∧
  (∀ (seq : Byte) (target : Nat) (s : State), s.coreHeld = false → s.isl.busy = none → s.md.mode = .headless → s.holdsPackets = true →
    target ≤ 2 →
    ∃ t, exec (.sbDrain seq 2 true target) s = .next t ∧ Raised 0 1 noUnit 0x050203
      { s.fresh with
        isl := { s.isl with resp := { seq := seq, status := 0, data := [] } },
        md := { s.md with mode := .drain, cause := 5, target := target, drainStart := s.now, drained := false } } t) ∧
  -- on a running device that holds no packet DRAIN ends at once: DRAIN_DONE, and the target's mode
  (∀ (seq : Byte) (s : State), s.live = true → s.isl.busy = none → s.md.mode = .headless → s.holdsPackets = false →
    ∃ t, exec (.sbDrain seq 2 true 1) s = .next t ∧
      t.md = { s.md with mode := .maintenance, cause := 6, target := 1, drainStart := s.now, drained := false } ∧
      t.isl.resp = { seq := seq, status := 0, data := [] }) ∧
  (∀ (seq : Byte) (s : State), s.coreHeld = false → s.isl.busy = none → s.md.mode = .headless → s.holdsPackets = true →
    ∃ t, exec (.sbRestart seq 1 true) s = .next t ∧ Raised 0 1 noUnit 0x050203
      { s.fresh with
        isl := { s.isl with resp := { seq := seq, status := 0, data := [] } },
        md := { s.md with mode := .drain, cause := 5, target := 2, drainStart := s.now, drained := false } } t) ∧
  (∀ (seq : Byte) (s : State), s.coreHeld = false → s.isl.busy = none → s.md.mode = .maintenance → s.otp.rootHash ≠ 0 →
    s.isl.scorchPending = false →
    ∃ t, exec (.sbReload seq 1 true) s = .next t ∧ t.md = { mode := .load, cause := 5 } ∧
      t.load = { entered := s.now, phase := .wait, step := 2 } ∧ t.tbl = {} ∧ t.tbe = s.tbe ∧
      t.isl.resp = { seq := seq, status := 0, data := [] }) ∧
  (∀ (seq : Byte) (mask value : Word32) (s : State), s.coreHeld = false → s.isl.busy = none → s.md.mode = .headless →
    ∃ t, exec (.sbPortAdmin seq 9 true mask value) s = .next t ∧
      t.regs = s.regs.set Reg.LPC_PORT_ADMIN (BitVec.ofNat 32
        ((List.range 32).foldl (fun w p => if s.portExists p && bit mask.toNat p then setBit w p (bit value.toNat p) else w)
          (s.reg Reg.LPC_PORT_ADMIN))) ∧
      t.isl.resp = { seq := seq, status := 0, data := leBytes 4 (t.reg Reg.LPC_PORT_ADMIN) } ∧
      s.fresh.changesOnly t (Fld.events ++ [.regs, .port, .svc, .buf, .tms, .pod, .fwd, .swc, .tbe, .part]))

/-- Copying, arming, disarming and releasing rule sets. ARM of a future epoch with a sound shadow, nothing draining, copying or armed,
arms the swap and raises SWAP_ARMED; with a swap armed it is ALREADY_ARMED. DISARM cancels an armed swap. COPY starts where the
shadow takes writes and is refused otherwise; its end leaves the shadow's 65,536 bytes as those of the active image and every
other byte as it was. The drain window ends DRAIN_US after the swap, in a mode in which swaps run, and raises SET_RELEASED.
Commands shown to answer a next state by their own effect: arm, copy, copyDone, disarm, setReleased. (R121, R136, R137, R138,
R139, R140, R141, R143) -/
def Obligations.RuleSetSwaps : Prop :=
  (∀ s : State, s.hostSets 5 → s.cls.draining = false → s.cls.copyBusy = false → s.cls.armed = none →
    (s.reg Reg.CLS_SWAP_EPOCH + 2 ^ 32 - s.epoch) % 2 ^ 32 ≠ 0 → (s.reg Reg.CLS_SWAP_EPOCH + 2 ^ 32 - s.epoch) % 2 ^ 32 < 2 ^ 31 →
    s.setOk s.shadowSlot = true →
    exec .arm s = .next (raise 5 1 noUnit (s.reg Reg.CLS_SWAP_EPOCH)
      { s.fresh with cls := { s.cls with lastArm := 0, armed := some (s.reg Reg.CLS_SWAP_EPOCH), fired := false } })) ∧
  (∀ s : State, s.hostSets 5 → s.cls.draining = false → s.cls.copyBusy = false → s.cls.armed.isSome = true →
    exec .arm s = .next { s.fresh with cls := { s.cls with lastArm := 4 } }) ∧
  (∀ (e : Nat) (s : State), s.hostSets 5 → s.cls.armed = some e →
    exec .disarm s = .next (raise 5 4 noUnit e { s.fresh with cls := { s.cls with armed := none, lastDisarm := 1 } })) ∧
  (∀ s : State, s.hostSets 5 → s.shadowBusy = false →
    exec .copy s = .next { s.fresh with cls := { s.cls with copyRefused := false, copyBusy := true, copyStart := s.now } }) ∧
  (∀ s : State, s.hostSets 5 → s.shadowBusy = true →
    exec .copy s = .next { s.fresh with cls := { s.cls with copyRefused := true } }) ∧
  (∀ s : State, s.running → s.cls.copyBusy = true →
    ∃ m, exec .copyDone s = .next { s.fresh with cls := { s.cls with copyBusy := false, img := m } } ∧
      (∀ i < 65536, m.get (65536 * s.shadowSlot + i) = s.cls.img.get (65536 * s.cls.active + i)) ∧
      ∀ a : Nat, a / 65536 ≠ s.shadowSlot → m.get a = s.cls.img.get a) ∧
  (∀ s : State, s.running → s.cls.draining = true → s.swapMode = true →
    exec .setReleased s = .next (raise 5 3 noUnit (1 - s.cls.active)
      { s.fresh with
        tbe := { s.tbe with st := max s.tbe.st (s.cls.drainSt + s.regF Reg.CLS_DRAIN_WIN 13 0 * 1000) },
        cls := { s.cls with draining := false } }))

/-- The scrub and the march test of the associative array. The scrubber visits the 65,536 rows in turn at an even pace, one round in
10,000,000 ns (the even pace: log entry 54). A row that fails its parity, below the threshold of its bank, clears VALID of the
entry that holds it and enters the count of its bank. A march test starts in Maintenance for any bank. Outside Maintenance a START
for a bank that is not retired gives IN_SERVICE and changes nothing else; a write without START sets the unit of the register. The
end of a test raises its event with the bank and PASS or FAIL. Commands shown to answer a next state by their own effect:
asaScrub, asaTest, asaTestDone. (R169, R171, R446) -/
def Obligations.AsaMaintenance : Prop :=
  -- the scrubber reads the 65,536 rows in turn, at an even pace of one round in 10,000,000 ns
  (∀ s : State, s.running →
    exec (.asaScrub false) s = .next
      { s.fresh with
        tbe := { s.tbe with st := max s.tbe.st (paceDue 10000000 65536 s.asa.scrub s.asa.scrubAt) },
        asa := { s.asa with scrub := (s.asa.scrub + 1) % 65536, scrubAt := paceDue 10000000 65536 s.asa.scrub s.asa.scrubAt } }) ∧
  -- a row that fails its parity loses its entry, and the error enters the count of its bank
  (∀ s : State, s.running → s.asa.scrub < 65536 → bit s.asaUsable (s.asa.scrub / 2048) = true →
    (s.flt.get (fltKey 6 (s.asa.scrub / 2048))).retired = false → (s.flt.get (fltKey 6 (s.asa.scrub / 2048))).count < 65535 →
    s.thresh 6 ≠ (s.flt.get (fltKey 6 (s.asa.scrub / 2048))).count + 1 →
    ∃ t, exec (.asaScrub true) s = .next t ∧ t.asa.scrub = (s.asa.scrub + 1) % 65536 ∧ t.asa.retired = s.asa.retired ∧
      t.asa.ents = s.asa.ents.upd (s.asaHead s.asa.scrub)
        (fun e => { e with attr := BitVec.ofNat 64 (setBit e.attr.toNat 48 false) }) ∧
      (t.flt.get (fltKey 6 (s.asa.scrub / 2048))).count = (s.flt.get (fltKey 6 (s.asa.scrub / 2048))).count + 1 ∧
      s.fresh.changesOnly t (Fld.events ++ [.tbe, .asa, .flt])) ∧
  (∀ (v : Word32) (s : State), s.hostSets 6 → bit v.toNat 8 = true → s.asa.testBusy = false → s.md.mode = .maintenance →
    exec (.asaTest v) s = .next
      { s.fresh with
        regs := s.regs.set Reg.ASA_TEST (BitVec.ofNat 32 (v.toNat % 32)),
        asa := { s.asa with testBusy := true, testBank := v.toNat % 32, testResult := 0 } }) ∧
  -- without START the write sets the unit; a START for a bank in service changes nothing but its result
  (∀ (v : Word32) (s : State), s.hostSets 6 → bit v.toNat 8 = false →
    exec (.asaTest v) s = .next { s.fresh with regs := s.regs.set Reg.ASA_TEST (BitVec.ofNat 32 (v.toNat % 32)) }) ∧
  (∀ (v : Word32) (s : State), s.hostSets 6 → bit v.toNat 8 = true → s.md.mode ≠ .maintenance →
    bit s.asa.retired (v.toNat % 32) = false →
    exec (.asaTest v) s = .next { s.fresh with asa := { s.asa with testResult := 3 } }) ∧
  (∀ (pass : Bool) (s : State), s.running → s.asa.testBusy = true →
    exec (.asaTestDone pass) s = .next (raise 6 8 s.asa.testBank (s.asa.testBank + 256 * (if pass then 1 else 2))
      { s.fresh with asa := { s.asa with testBusy := false, testResult := if pass then 1 else 2 } }))

/-- Searches over the cascade ring. The oldest waiting search is launched at a slot of this device's turn, and its KEY or STEP frame
goes onto the ring; the second slot of a wide launch takes no other. A KEY frame of another device is searched here and passed on,
and so is a STEP frame, which matches nothing here when it comes from a later position. A frame that fails its check or is of the
other length is a ring error and is not searched. A member in bypass sends a KEY frame on unchanged. CAS_MOUT is driven by the
search's hit and the daisy-chained input; the first member to match sends the RESULT, and a member after it puts its own match
into MULTI and END at the last member. A last RESULT frame without a hit ends the issuer's search with no match; the outcome has
CNT 1 as log entry 23 reads R482. A search that got no answer ends 5,462 ns after its launch. The codes and bytes of the frames,
what a bypass passes, what counts as a lap, and that a wide launch in slot s takes slot s + N too, are log entry 53's choices.
Commands shown to answer a next state by their own effect: cascadeLaunch, cascadeTimeout, casMoutDrive, keyFrame, resultFrame,
stepFrame. (R155, R160, R161, R162, R163, R166, R167, R438) -/
def Obligations.CascadedSearches : Prop :=
  -- the request that has waited longest takes this member's next launch slot, and its key goes onto the ring
  (∀ (slot : Nat) (q : CasReq) (rest : List CasReq) (lost : List Nat) (s : State), s.running → s.asa.run.state = .running →
    s.asa.run.retired = false → s.runnerCount ≠ 0 → slot % s.runnerCount = s.runnerPos % s.runnerCount → s.slotTaken slot = false →
    s.asa.run.waiting = q :: rest →
    ∃ t, exec (.cascadeLaunch slot lost) s = .next t ∧ t.asa.run.waiting = rest ∧
      t.asa.run.flight = s.asa.run.flight ++ [{ q with slot := some (slot % 2048), at_ := s.now }] ∧
      (lost = [] →
        t.out = [.ring (keyBytes s.ringWide s.runnerPos slot q.key q.resume)] ∧ s.fresh.changesOnly t ([.asa, .cnt, .out])) ∧
      s.fresh.changesOnly t (Fld.events ++ [.asa, .flt])) ∧
  -- the second of the two slots of a wide launch takes no other
  (∀ (slot : Nat) (lost : List Nat) (s : State), s.running → s.asa.run.state = .running → s.asa.run.retired = false → s.runnerCount ≠ 0 →
    slot % s.runnerCount = s.runnerPos % s.runnerCount → s.slotTaken slot = true →
    exec (.cascadeLaunch slot lost) s = .next { s.fresh with asa := { s.asa with run := { s.asa.run with wideAt := none } } }) ∧
  -- a member searches the key of another, and sends the frame on
  (∀ (issuer slot key : Nat) (s : State), s.running → s.asa.run.state = .running → issuer ≠ s.runnerPos →
    (s.runnerPos + 1) % max 1 s.runnerCount ≠ issuer →
    ∃ t, exec (.keyFrame issuer slot key s.ringWide false []) s = .next t ∧
      t.out = [.ring (keyBytes s.ringWide issuer slot key none)] ∧
      (∃ m ∈ t.asa.run.matched, m.slot = slot % 2048 ∧ m.issuer = issuer ∧ m.driven = false ∧
        m.hit = (asaSearch s.asa.ents s.casScope key none).hit ∧ m.entry = (asaSearch s.asa.ents s.casScope key none).entry) ∧
      s.fresh.changesOnly t ([.asa, .out])) ∧
  (∀ (issuer slot key pos entry prio : Nat) (s : State), s.running → s.asa.run.state = .running → issuer ≠ s.runnerPos →
    (s.runnerPos + 1) % max 1 s.runnerCount ≠ issuer →
    ∃ t, exec (.stepFrame issuer slot key pos entry prio s.ringWide false []) s = .next t ∧
      t.out = [.ring (keyBytes s.ringWide issuer slot key (some (pos, entry, prio)))] ∧
      (∃ m ∈ t.asa.run.matched, m.slot = slot % 2048 ∧ m.issuer = issuer ∧
        m.hit = (decide (pos ≤ s.runnerPos) &&
          (asaSearch s.asa.ents s.casScope key (if s.runnerPos = pos then some (prio, entry) else none)).hit)) ∧
      s.fresh.changesOnly t ([.asa, .out])) ∧
  -- one that fails its check, or is of the other length, is a ring error and is not searched
  (∀ (issuer slot key : Nat) (wide bad : Bool) (lost : List Nat) (s : State), s.running → s.asa.run.state = .running →
    (bad = true ∨ wide ≠ s.ringWide) → (s.flt.get (fltKey 1 0)).retired = false → (s.flt.get (fltKey 1 0)).count < 65535 →
    s.thresh 1 ≠ (s.flt.get (fltKey 1 0)).count + 1 →
    ∃ t, exec (.keyFrame issuer slot key wide bad lost) s = .next t ∧ t.out = [] ∧
      t.asa = { s.asa with run := { s.asa.run with lapAt := s.now } } ∧
      (t.flt.get (fltKey 1 0)).count = (s.flt.get (fltKey 1 0)).count + 1 ∧ s.fresh.changesOnly t ([.asa, .flt])) ∧
  -- a member in bypass sends every frame on unchanged
  (∀ (issuer slot key : Nat) (wide bad : Bool) (lost : List Nat) (s : State), s.running → s.asa.run.state = .bypass →
    (s.runnerPos + 1) % max 1 s.runnerCount ≠ issuer →
    exec (.keyFrame issuer slot key wide bad lost) s = .next (emit (.ring (keyBytes wide issuer slot key none))
      { s.fresh with asa := { s.asa with run := { s.asa.run with lapAt := s.now } } })) ∧
  -- the match flag of a slot is driven once, over that of the members before; the first to match sends the RESULT
  (∀ (slot : Nat) (mini : Bool) (s : State), s.running → s.asa.run.state = .running →
    ∃ t, exec (.casMoutDrive slot mini) s = .next t ∧ t.pins.casMin = mini ∧
      t.pins.casMout = (mini || (((s.casMatch? slot).filter (fun m => !m.driven)).map CasMatch.hit).getD false) ∧
      s.fresh.changesOnly t ([.pins, .asa, .out])) ∧
  (∀ (slot : Nat) (m : CasMatch) (s : State), s.running → s.asa.run.state = .running → s.asa.run.retired = false →
    s.casMatch? slot = some m → m.driven = false → m.hit = true →
    ∃ t, exec (.casMoutDrive slot false) s = .next t ∧ t.casMatch? slot = none ∧
      t.out = [.ring (resultBytes
        { issuer := m.issuer, slot := slot % 2048, position := s.runnerPos, hit := true, multi := m.multi,
          fin := s.runnerPos == runnerLast s.asa.run.members, entry := m.entry, prio := m.prio, action := m.action })] ∧
      s.fresh.changesOnly t ([.pins, .asa, .out])) ∧
  -- a RESULT that passes a member after the winner takes its match into MULTI, and END at the last member
  (∀ (f : ResultFrame) (s : State), s.running → s.asa.run.state = .running → f.issuer ≠ s.runnerPos → f.hit = true → f.fin = false →
    f.position < s.runnerPos →
    ∃ t, exec (.resultFrame f false) s = .next t ∧ t.casMatch? f.slot = none ∧
      t.out = [.ring (resultBytes
        { f with
          multi := f.multi || ((s.casMatch? f.slot).map CasMatch.hit).getD false,
          fin := s.runnerPos == runnerLast s.asa.run.members })] ∧
      s.fresh.changesOnly t ([.asa, .out])) ∧
  (∀ (f : ResultFrame) (q : CasReq) (t : Nat) (s : State), s.running → s.asa.run.state = .running → f.issuer = s.runnerPos → f.hit = false → f.fin = true →
    s.asa.run.flight.find? (fun q => q.slot == some (f.slot % 2048)) = some q → q.owner = .port t → (s.ecp.get t).sent = true →
    ∃ u, exec (.resultFrame f false) s = .next u ∧
      u.asa.run.flight = s.asa.run.flight.filter (fun x => x.slot != some (f.slot % 2048)) ∧
      u.ecp = s.ecp.upd t (fun p =>
        { p with outcome := some { result := 0, idx := p.lidx, cnt := 1,
                                   dat := BitVec.ofNat 1024 (AsaRes.bytes { cascaded := true, degraded := s.runnerDegraded }) } }) ∧
      s.fresh.changesOnly u ([.asa, .ecp, .eng, .cnt, .out, .tbe])) ∧
  (∀ (slot : Nat) (q : CasReq) (s : State), s.running → s.asa.run.flight.find? (fun q => q.slot == some (slot % 2048)) = some q →
    ∃ u, exec (.cascadeTimeout slot) s = .next u ∧ u.tbe.st = max s.tbe.st (q.at_ + 5462) ∧
      u.asa.run.flight = s.asa.run.flight.filter (fun x => x.slot != some (slot % 2048)) ∧
      s.fresh.changesOnly u ([.asa, .ecp, .eng, .cnt, .out, .tbe]))

/-- Membership of the cascade ring. A KEEPALIVE renews its sender and goes on to the next device but its sender; a MEMBERSHIP with a
rejoin instant is kept, and goes on until the master. A frame that fails its check tells nothing, goes no further and enters the
ring's error count; a member in bypass sends it on unchanged. A MEMBERSHIP without an instant that brings a member back takes
effect in a member that runs, with MEMBER_REJOINED (log entry 73: at every member). 64,000 ns of silence of a member let the
master drop it under a new generation. A KEEPALIVE is sent every 1,000 ns. 64,000 ns after the last frame that came in the ring is
DOWN, and RUNNER_DOWN is raised; training starts every 100 ms while it fails; a lap longer than LEAD leaves the ring DOWN with
RUNNER_DOWN, and one within it, with this device among the members, brings it up with RUNNER_UP. The bytes of CONTROL frames, how
they go on and when a lap counts as failed are log entry 53's choices. Commands shown to answer a next state by their own effect:
controlFrame, memberDead, ringTraining, runnerDown, runnerKeepalive, runnerUp. (R15, R158, R162, R165, R166, R167, R172, R438) -/
def Obligations.RunnerMembership : Prop :=
  (∀ (pos : Nat) (s : State), s.running → s.asa.run.state = .running → bit s.asa.run.members pos = true →
    exec (.controlFrame (.keepalive pos false false) false) s = .next
      { s.fresh with
        asa := { s.asa with run := { s.asa.run with heard := s.asa.run.heard.set (pos % 8) s.now, lapAt := s.now } },
        out := if (s.runnerPos + 1) % max 1 s.runnerCount = pos then [] else [.ring (controlBytes (.keepalive pos false false))] }) ∧
  (∀ (gen mask e : Nat) (s : State), s.running → s.asa.run.state = .running →
    exec (.controlFrame (.membership gen mask (some e)) false) s = .next
      { s.fresh with
        asa := { s.asa with run := { s.asa.run with rejoin := some (gen, mask, e), lapAt := s.now } },
        out := if bit s.asa.run.members s.runnerPos = true ∧ s.runnerPos = runnerMaster s.asa.run.members then []
          else [.ring (controlBytes (.membership gen mask (some e)))] }) ∧
  -- a frame that fails its check is a ring error, and tells nothing; a member in bypass sends it on
  (∀ (f : ControlFrame) (s : State), s.running → s.asa.run.state = .running → (s.flt.get (fltKey 1 0)).retired = false →
    (s.flt.get (fltKey 1 0)).count < 65535 → s.thresh 1 ≠ (s.flt.get (fltKey 1 0)).count + 1 →
    ∃ t, exec (.controlFrame f true) s = .next t ∧ t.out = [] ∧ t.asa = { s.asa with run := { s.asa.run with lapAt := s.now } } ∧
      (t.flt.get (fltKey 1 0)).count = (s.flt.get (fltKey 1 0)).count + 1 ∧ s.fresh.changesOnly t [.asa, .flt]) ∧
  (∀ (pos : Nat) (ready retired : Bool) (s : State), s.running → s.asa.run.state = .bypass →
    (s.runnerPos + 1) % max 1 s.runnerCount ≠ pos →
    exec (.controlFrame (.keepalive pos ready retired) true) s = .next (emit (.ring (controlBytes (.keepalive pos ready retired)))
      { s.fresh with asa := { s.asa with run := { s.asa.run with lapAt := s.now } } })) ∧
  -- a membership that brings a member back applies to a member that runs
  (∀ (gen mask pos : Nat) (s : State), s.running → s.asa.run.state = .running → pos < 8 → pos ≠ s.runnerPos →
    bit s.asa.run.members pos = false → s.asa.run.members < 256 → mask = s.asa.run.members + 2 ^ pos → bit mask s.runnerPos = true →
    ∃ t, exec (.controlFrame (.membership gen mask none) false) s = .next t ∧ t.asa.run.members = mask ∧ t.asa.run.gen = gen % 256 ∧
      t.asa.run.state = .running ∧ t.isl.log.get (s.isl.total.toNat % 1024) = recordOf t 6 5 noUnit (256 * (gen % 256) + pos)) ∧
  (∀ (pos : Nat) (s : State), s.running → s.asa.run.state = .running → pos < 8 → bit s.asa.run.members pos = true → pos ≠ s.runnerPos →
    s.isMaster pos = true →
    ∃ t, exec (.memberDead pos) s = .next t ∧ t.tbe.st = max s.tbe.st (s.asa.run.heard.get pos + 64000) ∧
      t.asa.run.members = setBits s.asa.run.members pos pos 0 % 256 ∧ t.asa.run.gen = (s.asa.run.gen + 1) % 256 ∧
      s.fresh.changesOnly t (Fld.events ++ [.tbe, .asa, .ecp, .eng])) ∧
  (∀ s : State, s.running → s.asa.run.state = .running →
    exec .runnerKeepalive s = .next (emit (.ring (controlBytes (.keepalive s.runnerPos false s.asa.run.retired)))
      { s.fresh with
        tbe := { s.tbe with st := max s.tbe.st (s.asa.run.sent + 1000) },
        asa := { s.asa with run := { s.asa.run with sent := max s.tbe.st (s.asa.run.sent + 1000) } } })) ∧
  (∀ s : State, s.running → (s.asa.run.state = .running ∨ s.asa.run.state = .bypass) → s.asa.run.flight = [] → s.asa.run.waiting = [] →
    exec .runnerDown s = .next (raise 6 6 noUnit 0
      { s.fresh with
        tbe := { s.tbe with st := max s.tbe.st (s.asa.run.lapAt + 64000) },
        asa := { s.asa with run := { s.asa.run with state := .down, rejoin := none, matched := [],
                                                    trainAt := max s.tbe.st (s.asa.run.lapAt + 64000) } } })) ∧
  (∀ s : State, s.running → (s.asa.run.state = .down ∨ s.asa.run.state = .training) → s.ringAllowed = true →
    exec .ringTraining s = .next
      { s.fresh with
        tbe := { s.tbe with st := max s.tbe.st (s.asa.run.trainAt + 100000000) },
        asa := { s.asa with run := { s.asa.run with state := .training,
                                                    trainAt := max s.tbe.st (s.asa.run.trainAt + 100000000) } } }) ∧
  -- a lap longer than LEAD is reported, and the Runner stays down
  (∀ (lap members : Nat) (s : State), s.running → s.asa.run.state = .training → s.ringAllowed = true →
    s.regF Reg.ASA_RUNNER_CFG 15 8 < lap →
    exec (.runnerUp lap members) s = .next (raise 6 6 noUnit 0
      { s.fresh with asa := { s.asa with run := { s.asa.run with state := .down, trainAt := s.now } } })) ∧
  (∀ (lap members : Nat) (s : State), s.running → s.asa.run.state = .training → s.ringAllowed = true → s.asa.run.retired = false →
    lap ≤ s.regF Reg.ASA_RUNNER_CFG 15 8 → bit (members % 2 ^ s.runnerCount) s.runnerPos = true →
    ∃ t, exec (.runnerUp lap members) s = .next t ∧ t.asa.run.state = .running ∧ t.asa.run.members = members % 2 ^ s.runnerCount ∧
      t.isl.log.get (s.isl.total.toNat % 1024) = recordOf s 6 3 noUnit (256 * s.asa.run.gen + members % 2 ^ s.runnerCount) ∧
      s.fresh.changesOnly t (Fld.events ++ [.asa, .ecp, .eng]))

/-- Frames received and sent by a port. In Service a sound frame of a port that is up, of 64 bytes to its maximum, no flow control and
none of the express path, joins its pipeline's queue without its FCS, and the codewords that FEC corrected are counted; one that
fails its FCS or that an uncorrectable codeword touches is discarded and counted where no part of it has left; a short one is a
runt; on a port that is administratively down a frame is only counted. A port that is up sends the oldest bulk frame of its FIFO,
which counts as started (log entry 58), with its FCS; with the FIFO empty it sends the oldest express frame. Commands shown to
answer a next state by their own effect: frameTransmit, rxFrame. (R22, R97, R98, R100, R106, R355) -/
def Obligations.LineFrames : Prop :=
  (∀ (p : Nat) (bytes : List Byte) (r : RxSide) (s : State), s.live = true → s.md.mode = .service → s.portExists p = true →
    (s.port.get p).raw = true → s.adminUp p = true → 64 ≤ bytes.length → bytes.length ≤ s.regF (Reg.LPC_PORT_CFG p) 13 0 → beAt bytes 12 2 ≠ 0x8808 →
    s.expressEntry p (bytes.take (bytes.length - 4)) = none → s.refusesFrames (p / 8) = false →
    r.fcsOk = true → r.uncorr = 0 →
    exec (.rxFrame p bytes r) s = .next
      { countA {} (Cnt.LPC_FEC_CORR p) r.corr s.fresh with
        swc := { s.swc with line := s.swc.line.upd (p / 8) (fun l => l ++
          [{ bytes := bytes.take (bytes.length - 4), inPort := p, inp := p / 8, originDev := s.devId, originPort := p, node := s.startNode p }]) } }) ∧
  -- a frame that fails its FCS, or that an uncorrectable codeword touches, is discarded where no part of it has left
  (∀ (p : Nat) (bytes : List Byte) (r : RxSide) (s : State), s.live = true → s.md.mode = .service → s.portExists p = true →
    (s.port.get p).raw = true → s.adminUp p = true → 64 ≤ bytes.length → bytes.length ≤ s.regF (Reg.LPC_PORT_CFG p) 13 0 →
    beAt bytes 12 2 ≠ 0x8808 → s.expressEntry p (bytes.take (bytes.length - 4)) = none → (r.fcsOk = false ∨ r.uncorr ≠ 0) →
    (r.left = false ∨ s.reg (Reg.SWC_CT_EN (p / 8)) = 0) →
    exec (.rxFrame p bytes r) s = .next (count (Cnt.LPC_RX_FCS_ERR p) (countLineFec p r s.fresh))) ∧
  (∀ (p : Nat) (bytes : List Byte) (r : RxSide) (s : State), s.live = true → s.md.mode = .service → s.portExists p = true →
    (s.port.get p).raw = true → s.adminUp p = true → bytes.length < 64 →
    exec (.rxFrame p bytes r) s = .next (count (Cnt.LPC_RX_RUNT p) (countLineFec p r s.fresh))) ∧
  (∀ (p : Nat) (bytes : List Byte) (r : RxSide) (s : State), s.live = true → s.md.mode = .service → s.portExists p = true →
    (s.port.get p).raw = true → s.adminUp p = false →
    exec (.rxFrame p bytes r) s = .next (count (Cnt.LPC_RX_ADMIN_DROP p) (countLineFec p r s.fresh))) ∧
  (∀ (p : Nat) (k : Pkt) (rest : List Pkt) (s : State), s.live = true → s.md.mode = .service → s.portExists p = true →
    (s.port.get p).up = true → s.tms.fifo.get p = k :: rest → k.bad = false → k.tail = none →
    60 ≤ k.bytes.length →
    exec (.frameTransmit p none) s = .next (emit (.frame p (k.bytes ++ leBytes 4 (crc32 k.bytes)) false)
      { s.fresh with tms := { s.tms with fifo := s.tms.fifo.set p rest } })) ∧
  -- an express frame goes when no bulk frame is under transmission
  (∀ (p : Nat) (f : ExpFrame) (rest : List ExpFrame) (s : State), s.live = true → s.md.mode = .service → s.portExists p = true →
    (s.port.get p).up = true → s.tms.fifo.get p = [] → s.pod.exq.get p = f :: rest → f.bad = false → f.tail = none →
    60 ≤ f.bytes.length →
    exec (.frameTransmit p none) s = .next (emit (.frame p (f.bytes ++ leBytes 4 (crc32 f.bytes)) false)
      (chargeNode (portNode p) (f.bytes.length + 4) { s.fresh with pod := { s.pod with exq := s.pod.exq.set p rest } })))

/-- Declared port states. A change of the raw link starts its debounce. A port whose raw state has been up for UP_MS is declared up
with PORT_UP. One whose raw state has been down for DOWN_US is declared down with PORT_DOWN. Under HOLD it then starts to hold,
and its queues, buffers and express queue keep what they have; that the frame of the transmit FIFO is the one partly sent, which
is lost, is log entry 32's reading. Under FLUSH a leaf queue whose packets are on chip is emptied, and (stated for a port without
leaf queues) the express queue is emptied, LPC_TX_FLUSH counts its frames and FLUSHED follows PORT_DOWN. A port that comes up
within its hold keeps its queues and raises HOLD_RESUMED with the frames they hold. A hold that ends empties the express queue and
(for a port without leaf queues) raises HOLD_EXPIRED. A host write of LPC_PORT_ADMIN outside Drain changes the bits of the ports
that exist and no other register. Commands shown to answer a next state by their own effect: holdExpired, linkRawChange,
lpcPortAdmin, portDown, portUp. (R99, R100, R101, R102, R103, R266, R338, R553) -/
def Obligations.PortStates : Prop :=
  (∀ (p : Nat) (up : Bool) (s : State), s.running → s.md.mode ≠ .load → s.portExists p = true → (s.port.get p).raw ≠ up → s.portOff p = false →
    exec (.linkRawChange p up) s = .next
      { s.fresh with port := s.port.upd p (fun x => { x with raw := up, rawSince := s.now }) }) ∧
  (∀ (p : Nat) (s : State), s.live = true → s.md.mode = .service → s.portExists p = true → (s.port.get p).up = false → (s.port.get p).raw = true →
    s.adminUp p = true → (s.port.get p).holding = false →
    exec (.portUp p) s = .next (raise 3 2 p p
      { s.fresh with
        tbe := { s.tbe with st := max s.tbe.st ((s.port.get p).rawSince + s.regF Reg.LPC_DEBOUNCE 31 16 * 1000000) },
        port := s.port.upd p (fun x => { x with up := true, holding := false }) })) ∧
  (∀ (p : Nat) (s : State), s.live = true → s.md.mode = .service → s.portExists p = true → (s.port.get p).up = true → (s.port.get p).raw = false →
    s.regF (Reg.LPC_PORT_CFG p) 30 30 = 1 →
    ∃ t, exec (.portDown p) s = .next t ∧
      t.tbe.st = max s.tbe.st ((s.port.get p).rawSince + s.regF Reg.LPC_DEBOUNCE 15 0 * 1000) ∧
      t.svc.latch = s.svc.latch ||| ((1 : Word32) <<< p) ∧ t.tms.fifo = s.tms.fifo.set p [] ∧
      t.port = (s.port.upd p (fun x => { x with up := false, holding := false })).upd p
        (fun x => { x with holding := true, holdSince := t.tbe.st }) ∧
      t.isl.log.get (s.isl.total.toNat % 1024) = recordOf t 3 1 p p ∧
      -- its queues keep their packets
      t.buf.leaf = s.buf.leaf ∧ t.buf.voq = s.buf.voq ∧ t.buf.staged = s.buf.staged ∧ t.buf.pools = s.buf.pools ∧ t.buf.bufs = s.buf.bufs ∧
      s.fresh.changesOnly t (Fld.events ++ [.port, .svc, .buf, .tms, .fwd, .swc, .tbe])) ∧
  -- under the policy FLUSH the frames queued for the port are discarded and counted, and FLUSHED follows PORT_DOWN
  (∀ (p : Nat) (s : State), s.live = true → s.md.mode = .service → s.portExists p = true → (s.port.get p).up = true → (s.port.get p).raw = false →
    s.regF (Reg.LPC_PORT_CFG p) 30 30 = 0 → (s.isl.wrapped = true ∨ s.isl.held < 1023) → s.portQueues p = [] → s.buf.staged = [] →
    s.buf.pools = {} →
    ∃ t, exec (.portDown p) s = .next t ∧ t.port = s.port.upd p (fun x => { x with up := false, holding := false }) ∧
      t.tms.fifo = s.tms.fifo.set p [] ∧ t.pod.exq = s.pod.exq.set p [] ∧
      t.cnt.get (Cnt.LPC_TX_FLUSH p) = s.cnt.get (Cnt.LPC_TX_FLUSH p) + BitVec.ofNat 64 (s.pod.exq.get p).length ∧
      t.isl.log.get (s.isl.total.toNat % 1024) = recordOf t 3 1 p p ∧
      t.isl.log.get ((s.isl.total + 1).toNat % 1024) = recordOf t 3 5 p (portDetail p (s.pod.exq.get p).length) ∧
      s.fresh.changesOnly t (Fld.events ++ [.port, .svc, .buf, .tms, .pod, .fwd, .swc, .tbe])) ∧
  (∀ (p q : Nat) (s : State), s.live = true → s.md.mode = .service → s.portExists p = true → (s.port.get p).up = true → (s.port.get p).raw = false →
    s.regF (Reg.LPC_PORT_CFG p) 30 30 = 0 → q ∈ s.portQueues p → (∀ it ∈ (s.buf.leaf.get q).items, it.tier = .chip) →
    ∃ t, exec (.portDown p) s = .next t ∧ (t.buf.leaf.get q).items = []) ∧
  -- a port that comes up within its hold keeps its queues and says how many frames they hold
  (∀ (p : Nat) (s : State), s.live = true → s.md.mode = .service → s.portExists p = true → (s.port.get p).up = false → (s.port.get p).raw = true →
    s.adminUp p = true → (s.port.get p).holding = true →
    max s.tbe.st ((s.port.get p).rawSince + s.regF Reg.LPC_DEBOUNCE 31 16 * 1000000) < s.holdEnd p →
    exec (.portUp p) s = .next (raise 3 3 p (portDetail p (s.portFrames p)) (raise 3 2 p p
      { s.fresh with
        tbe := { s.tbe with st := max s.tbe.st ((s.port.get p).rawSince + s.regF Reg.LPC_DEBOUNCE 31 16 * 1000000) },
        port := s.port.upd p (fun x => { x with up := true, holding := false }) }))) ∧
  (∀ (p : Nat) (s : State), s.live = true → s.md.mode = .service → (s.port.get p).holding = true →
    ∃ t, exec (.holdExpired p) s = .next t ∧ t.tbe.st = max s.tbe.st (s.holdEnd p) ∧ t.pod.exq = s.pod.exq.set p [] ∧
      t.port = s.port.upd p (fun x => { x with holding := false }) ∧
      (s.portQueues p = [] → s.buf.staged = [] → s.buf.pools = {} →
        t.isl.log.get (s.isl.total.toNat % 1024) = recordOf t 3 4 p (portDetail p (s.pod.exq.get p).length)) ∧
      s.fresh.changesOnly t (Fld.events ++ [.port, .svc, .buf, .tms, .pod, .fwd, .swc, .tbe, .part])) ∧
  (∀ (v : Word32) (s : State), s.hostWrites 3 → s.md.mode ≠ .drain →
    ∃ t, exec (.lpcPortAdmin v) s = .next t ∧
      t.regs = s.regs.set Reg.LPC_PORT_ADMIN (BitVec.ofNat 32
        ((List.range 32).foldl (fun w p => if s.portExists p then setBit w p (bit v.toNat p) else w) (s.reg Reg.LPC_PORT_ADMIN))) ∧
      s.fresh.changesOnly t (Fld.events ++ [.regs, .port, .svc, .buf, .tms, .pod, .fwd, .swc, .tbe, .part]))

/-- The passes of an ingress pipeline. The packet at the head of the line, where the pipeline refuses no frame, is taken and runs its
pass; without one, the packet at the recirculation input, which a MODE 1 packet enters at its port's start node. A pass that ends
with RECIRC enters the recirculation queue with its pass number increased by 1, where the limit of output 11 and the free cells
allow it, and a request for a fifth pass discards the packet and is counted in CLS_RECIRC_LIMIT. A malformed packet of the first
pass whose set's action punts those joins the punts of its pipeline. A recirculated packet of an epoch that no rule set serves is
counted in CLS_EPOCH_STALE and discarded. What the classifier forwards and a walk of the tables gives a destination joins the
queue of the flow engine. A walk whose read comes back poisoned (as its source says, or as the place it reads is marked) drops its
packet; another one takes the walk on, here also to its destination. Commands shown to answer a next state by their own effect:
fwdReadDone, ingressPass. (R16, R17, R108, R115, R135, R177, R181, R430) -/
def Obligations.IngressPasses : Prop :=
  -- the packet at the head of the line is taken, and passes through parser, classifier and forwarding
  (∀ (i : Nat) (bad : List Nat) (p : Pkt) (rest : List Pkt) (s : State), s.steady → s.moves = true → i < 4 →
    (s.fwdq.get i).length < 1024 → s.refusesFrames i = false → s.swc.line.get i = p :: rest →
    exec (.ingressPass i bad) s = .next (ingressPass i bad p
      { s.fresh with swc := { s.swc with line := s.swc.line.set i rest } })) ∧
  -- without one, the packet at the recirculation input; a MODE 1 packet starts at its port's node
  (∀ (i : Nat) (bad : List Nat) (p : Pkt) (rest : List Pkt) (s : State), s.steady → s.moves = true → i < 4 →
    (s.fwdq.get i).length < 1024 → s.refusesFrames i = true ∨ s.swc.line.get i = [] → s.swc.reentry.get i = p :: rest →
    exec (.ingressPass i bad) s = .next (ingressPass i bad (if p.pass = 0 then { p with node := s.startNode p.inPort } else p)
      { s.fresh with swc := { s.swc with reentry := s.swc.reentry.set i rest } })) ∧
  -- a pass that ends with RECIRC enters the recirculation queue with the next pass number; the fourth pass is the last
  (∀ (i : Nat) (bad : List Nat) (p q : Pkt) (rest : List Pkt) (s u : State), s.steady → s.moves = true → i < 4 →
    (s.fwdq.get i).length < 1024 → s.refusesFrames i = false → s.swc.line.get i = p :: rest →
    classify i { p with parse := parseFrame s.graph p.node p.bytes, inp := i } bad
      (countParse i (parseFrame s.graph p.node p.bytes) { s.fresh with swc := { s.swc with line := s.swc.line.set i rest } }) =
        (.recirc q, u) → q.bad = false →
    (q.pass < 3 → u.pbfUsed 11 (q.cls % 8) + pktCells q ≤ u.regF (Reg.PBF_LIMIT 11 (q.cls % 8)) 18 0 → pktCells q ≤ u.freeCells →
      ∃ t, exec (.ingressPass i bad) s = .next t ∧
        t.swc = { u.swc with
          recirc := u.swc.recirc.upd i (fun l => l ++
            [{ q with pass := q.pass + 1, node := q.recirc.getD 0, recirc := none, clove := none, gen := 0, counted := false }]) } ∧
        t.pbfUsed 11 (q.cls % 8) = u.pbfUsed 11 (q.cls % 8) + pktCells q ∧ u.changesOnly t [.swc, .buf, .cnt]) ∧
    (3 ≤ q.pass → exec (.ingressPass i bad) s = .next (countC (q.cls % 8) (Cnt.CLS_RECIRC_LIMIT i) u))) ∧
  -- a malformed packet whose set punts those joins the punts of its pipeline; the first pass takes the active set
  (∀ (i : Nat) (bad : List Nat) (p : Pkt) (rest : List Pkt) (s : State) (a : ActEntry), s.steady → s.moves = true → i < 4 →
    (s.fwdq.get i).length < 1024 → s.refusesFrames i = false → s.swc.line.get i = p :: rest → p.pass = 0 →
    (parseFrame s.graph p.node p.bytes).outcome = 2 → p.bad = false →
    a = setAct (s.slotImg s.cls.active) (setU (s.slotImg s.cls.active) 26 2) → a.drop = false → a.metered = false → a.punt = true →
    exec (.ingressPass i bad) s = .next (puntIngress i a.conduit 1
      { p with
        parse := parseFrame s.graph p.node p.bytes, inp := i, epoch := s.epoch, cls := a.cls, colour := a.colour, queue := a.queue,
        noFlow := a.noFlow, flowProfile := a.flowProfile, recirc := if a.recirc then some a.recircNode else none }
      (countC a.cls (Cnt.CLS_PUNT i) (count (Cnt.CLS_MALFORMED_ACT i)
        (countParse i (parseFrame s.graph p.node p.bytes)
          { s.fresh with swc := { s.swc with line := s.swc.line.set i rest } }))))) ∧
  -- a recirculated packet of an epoch that no rule set serves is discarded
  (∀ (i : Nat) (bad : List Nat) (p : Pkt) (rest : List Pkt) (s : State), s.steady → s.moves = true → i < 4 →
    (s.fwdq.get i).length < 1024 → s.refusesFrames i = true ∨ s.swc.line.get i = [] → s.swc.reentry.get i = p :: rest →
    p.pass ≠ 0 → selectSlot s p.epoch = none → (parseFrame s.graph p.node p.bytes).outcome = 0 →
    exec (.ingressPass i bad) s = .next (count (Cnt.CLS_EPOCH_STALE i) (count (Cnt.PRS_OK i)
      { s.fresh with swc := { s.swc with reentry := s.swc.reentry.set i rest } }))) ∧
  -- what the classifier forwards and a walk of the tables gives a destination joins the queue of the flow engine
  (∀ (i : Nat) (bad : List Nat) (p q d : Pkt) (rest : List Pkt) (s u v : State), s.running → s.moves = true → i < 4 →
    (s.fwdq.get i).length < 1024 → s.refusesFrames i = false → s.swc.line.get i = p :: rest →
    classify i { p with parse := parseFrame s.graph p.node p.bytes, inp := i } bad
      (countParse i (parseFrame s.graph p.node p.bytes) { s.fresh with swc := { s.swc with line := s.swc.line.set i rest } }) =
        (.forward q, u) →
    fwdStart i q u = (.dest d, v) → d.noFlow = false →
    exec (.ingressPass i bad) s = .next { v with fseq := v.fseq.upd (2 * i) (fun l => l ++ [d]) }) ∧
  -- a poisoned forwarding read discards its packet; another one takes the walk on
  (∀ (i k step ctx : Nat) (p : Pkt) (s : State), s.running → s.moves = true → (s.fwdq.get i)[k]? = some (p, step, ctx) →
    exec (.fwdReadDone i k true) s = .next (countC p.cls Cnt.HMC_POISON_DROP
      { s.fresh with fwdq := s.fwdq.upd i (fun l => l.eraseIdx k) })) ∧
  (∀ (i k step ctx prof : Nat) (p : Pkt) (s : State), s.running → s.moves = true → (s.fwdq.get i)[k]? = some (p, step, ctx) →
    prof = bits (s.reg (Reg.FWD_PORT_CFG p.inPort)) 19 16 →
    s.stepBad (s.reg (Reg.FWD_STEP_LO prof step)) (s.reg (Reg.FWD_STEP_HI prof step)) ctx p = true →
    exec (.fwdReadDone i k false) s = .next (countC p.cls Cnt.HMC_POISON_DROP
      { s.fresh with fwdq := s.fwdq.upd i (fun l => l.eraseIdx k) })) ∧
  (∀ (i k step ctx prof : Nat) (p : Pkt) (s : State), s.steady → s.moves = true → (s.fwdq.get i)[k]? = some (p, step, ctx) →
    prof = bits (s.reg (Reg.FWD_PORT_CFG p.inPort)) 19 16 →
    s.stepBad (s.reg (Reg.FWD_STEP_LO prof step)) (s.reg (Reg.FWD_STEP_HI prof step)) ctx p = false →
    exec (.fwdReadDone i k false) s = .next (afterForward i
      (fwdGo i prof (4 - step) step ctx true p { s.fresh with fwdq := s.fwdq.upd i (fun l => l.eraseIdx k) }).1
      (fwdGo i prof (4 - step) step ctx true p { s.fresh with fwdq := s.fwdq.upd i (fun l => l.eraseIdx k) }).2)) ∧
  (∀ (i k step ctx prof : Nat) (p d : Pkt) (s v : State), s.running → s.moves = true → (s.fwdq.get i)[k]? = some (p, step, ctx) →
    prof = bits (s.reg (Reg.FWD_PORT_CFG p.inPort)) 19 16 →
    s.stepBad (s.reg (Reg.FWD_STEP_LO prof step)) (s.reg (Reg.FWD_STEP_HI prof step)) ctx p = false →
    fwdGo i prof (4 - step) step ctx true p { s.fresh with fwdq := s.fwdq.upd i (fun l => l.eraseIdx k) } = (.dest d, v) →
    d.noFlow = false →
    exec (.fwdReadDone i k false) s = .next { v with fseq := v.fseq.upd (2 * i) (fun l => l ++ [d]) })

/-- Packets that leave a cluster, and the egress entry. A run that may leave with verdict DROP frees its thread, and what still comes
of a packet cut through is not wanted. With verdict FORWARD at ingress the packet, of a single next hop of this device, comes
under reception for its virtual output queue; with PUNT it joins the punts. An egress run with verdict RECIRCULATE counts it and
frees its thread; one that forwards puts its frame under reception for the leaf queue of its port and subscriber, or, to a port
that is down, is counted and discarded (log entry 27). A packet that reaches an egress pipeline from the switch core enters the
cluster's queue, or goes to its port when it skips the run; one for a port that is down is discarded. Commands shown to answer a
next state by their own effect: clusterExit, egressEntry. (R104, R208, R290, R301, R303, R323, R352, R380) -/
def Obligations.ClusterExitsAndEgress : Prop :=
  (∀ (th : Nat) (s : State), s.running → s.moves = true → (s.th th).wait = .ended → s.mayExit th = true → (s.th th).verdict = 1 →
    ((s.th th).egress = false ∨ (s.th th).pkt.tail = none) →
    exec (.clusterExit th) s = .next { s.fresh with eng := { s.eng with th := s.eng.th.set th {} } }) ∧
  -- what still comes of a packet that was cut through and is discarded is not wanted
  (∀ (th : Nat) (s : State), s.steady → s.moves = true → (s.th th).wait = .ended → s.mayExit th = true → (s.th th).verdict = 1 →
    (s.th th).egress = true →
    exec (.clusterExit th) s = .next (reapTail (s.th th).pkt { s.fresh with eng := { s.eng with th := s.eng.th.set th {} } })) ∧
  (∀ (th : Nat) (s : State), s.running → s.moves = true → (s.th th).wait = .ended → s.mayExit th = true → (s.th th).verdict = 3 →
    (s.th th).egress = true → (s.th th).pkt.tail = none →
    exec (.clusterExit th) s = .next (countC (s.th th).pkt.cls (Cnt.ENG_EGR_RECIRC (thCluster th))
      { s.fresh with eng := { s.eng with th := s.eng.th.set th {} } })) ∧
  -- verdict FORWARD at ingress: the packet goes with its next hop to the virtual output queue of this device
  (∀ (th i : Nat) (q : Pkt) (s : State), i = thCluster th → s.steady → s.moves = true → (s.th th).wait = .ended →
    s.mayExit th = true → (s.th th).verdict = 0 → (s.th th).egress = false → (s.th th).clove = none →
    (s.th th).pkt.nat64 = false → (s.th th).pkt.tail = none → (s.th th).pkt.bad = false →
    q = s.hopped (s.th th).pkt → (datU (s.nextHop q.nexthop) 0 1 = 1 ∨ datU (s.nextHop q.nexthop) 0 1 = 3) →
    q.dev = s.devId → s.devId < s.systemDevices → s.wantsCut false (s.voqKey q) i (q.cls % 8) = false →
    s.stageRoom i (pktCells q) = true →
    ∃ t, exec (.clusterExit th) s = .next t ∧ t.eng.th = s.eng.th.set th {} ∧
      t.buf.staged = s.buf.staged ++ [{ pkt := { q with inp := i, cut := false }, leaf := false, queue := s.voqKey q, inp := i,
                                        cls := q.cls % 8, cells := pktCells q }] ∧
      s.fresh.changesOnly t ([.eng, .buf])) ∧
  -- verdict PUNT at ingress
  (∀ (th : Nat) (s : State), s.steady → s.moves = true → (s.th th).wait = .ended → s.mayExit th = true → (s.th th).verdict = 2 →
    (s.th th).egress = false → (s.th th).started = true → (s.th th).pkt.tail = none → (s.th th).pkt.bad = false →
    exec (.clusterExit th) s = .next (puntIngress (thCluster th) (s.th th).varg 4 (s.th th).pkt
      { s.fresh with eng := { s.eng with th := s.eng.th.set th {} } })) ∧
  -- verdict FORWARD at egress: the frame comes under reception for its leaf queue, or meets a port that is down
  (∀ (th j sub port : Nat) (p : Pkt) (s : State), j = thCluster th → p = (s.th th).pkt → s.steady → s.moves = true →
    (s.th th).wait = .ended → s.mayExit th = true → (s.th th).verdict = 0 → (s.th th).egress = true → (s.th th).clove = none →
    p.natOwner = false → p.nat64 = false → p.tail = none → p.bad = false → (s.port.get p.port).up = true →
    s.resolveLeaf j p = (sub, port, 0) → datB (s.tmQueue (8 * sub + p.queue % 8)) 2 0 1 = 1 →
    s.depthBytes (s.pqueue true (8 * sub + p.queue % 8)) + (p.bytes.length + 4) ≤
      dropLimit (s.tblGet 0x45 (datB (s.tmQueue (8 * sub + p.queue % 8)) 0 4 4)) p.colour →
    (s.pqueue true (8 * sub + p.queue % 8)).items.length < datU (s.tblGet 0x45 (datB (s.tmQueue (8 * sub + p.queue % 8)) 0 4 4)) 12 4 →
    s.wantsCut true (8 * sub + p.queue % 8) p.inp (p.cls % 8) = false → s.stageRoom p.inp (pktCells p) = true →
    ∃ t, exec (.clusterExit th) s = .next t ∧ t.eng.th = s.eng.th.set th {} ∧
      t.buf.staged = s.buf.staged ++ [{ pkt := { p with port := port, cut := false }, leaf := true, queue := 8 * sub + p.queue % 8,
                                        inp := p.inp, cls := p.cls % 8, cells := pktCells p }] ∧
      s.fresh.changesOnly t ([.eng, .buf])) ∧
  (∀ (th : Nat) (s : State), s.running → s.moves = true → (s.th th).wait = .ended → s.mayExit th = true → (s.th th).verdict = 0 →
    (s.th th).egress = true → (s.th th).clove = none → (s.th th).pkt.natOwner = false → (s.th th).pkt.nat64 = false →
    (s.th th).pkt.tail = none → s.portExists (s.th th).pkt.port = true → (s.port.get (s.th th).pkt.port).up = false →
    exec (.clusterExit th) s = .next (countC (s.th th).pkt.cls (Cnt.LPC_TX_DOWN_DROP (s.th th).pkt.port)
      { s.fresh with eng := { s.eng with th := s.eng.th.set th {} } })) ∧
  -- a packet that the switch core delivered goes on to the flow engine, or past it to the traffic manager
  (∀ (j : Nat) (p : Pkt) (rest : List Pkt) (s : State), s.steady → s.moves = true → s.swc.egq.get j = p :: rest → p.fabric = true →
    p.bridged = false → p.natOwner = false → p.tail = none → p.skipEgr = false → s.meetsDownPort p = false →
    exec (.egressEntry j) s = .next
      { s.fresh with
        swc := { s.swc with egq := s.swc.egq.set j rest },
        fseq := s.fseq.upd (2 * j + 1)
          (fun l => l ++ [{ p with parse := parseFrame s.graph (s.startNode (p.port % 32)) p.bytes }]) }) ∧
  (∀ (j : Nat) (p : Pkt) (rest : List Pkt) (s : State), s.steady → s.moves = true → s.swc.egq.get j = p :: rest → p.fabric = false →
    p.inp ≠ 10 → p.skipEgr = true → p.nat64 = false → p.tail = none → s.meetsDownPort p = false →
    exec (.egressEntry j) s = .next (tmsEnqueue j p
      { s.fresh with swc := { s.swc with egq := s.swc.egq.set j rest } })) ∧
  (∀ (j : Nat) (p : Pkt) (rest : List Pkt) (s : State), s.steady → s.moves = true → s.swc.egq.get j = p :: rest → p.fabric = false →
    p.inp ≠ 10 → p.skipEgr = false → s.meetsDownPort p = false →
    exec (.egressEntry j) s = .next
      { s.fresh with
        swc := { s.swc with egq := s.swc.egq.set j rest },
        fseq := s.fseq.upd (2 * j + 1) (fun l => l ++ [p]) }) ∧
  (∀ (j : Nat) (p : Pkt) (rest : List Pkt) (s : State), s.steady → s.moves = true → s.swc.egq.get j = p :: rest → p.fabric = false →
    p.inp ≠ 10 → p.tail = none → s.meetsDownPort p = true →
    exec (.egressEntry j) s = .next (countC p.cls (Cnt.LPC_TX_DOWN_DROP p.port)
      { s.fresh with swc := { s.swc with egq := s.swc.egq.set j rest } }))

/-- Learning, moving, ageing and flushing stations. A check whose read is poisoned is given up. A station at its next hop takes the
present age stamp. One that moved takes the new next hop if it is not static, and changes nothing if it is. An unknown station
takes the lowest free slot of its bucket (log entry 72) with LEARNED set and GEN increased, within the limit of its pipeline. In
Drain none is learned or moved (log entry 17 of the moves). The scanner visits the slots at the even pace of its sweep (log entry
54), frees a station older than L2_AGE, keeping its generation (log entry 17), and passes one that is not; it sets a stamp that
lies ahead to the current one unless the entry changed since it was read. A flush that has scanned everything raises its record
with the number of stations it freed. Commands shown to answer a next state by their own effect: l2AgeVisit, l2Flushed,
sourceCheck. (R191, R194, R195, R196, R197, R430, R550) -/
def Obligations.StationTable : Prop :=
  -- a poisoned read abandons the oldest check
  (∀ (i : Nat) (c : SrcCheck) (rest : List SrcCheck) (s : State), s.running → i < 4 → s.fwd.checks.get i = c :: rest →
    exec (.sourceCheck i true) s = .next { s.fresh with fwd := { s.fwd with checks := s.fwd.checks.set i rest } }) ∧
  -- a known station at its next hop is refreshed
  (∀ (i k : Nat) (c : SrcCheck) (rest : List SrcCheck) (s : State), s.running → i < 4 → s.fwd.checks.get i = c :: rest →
    s.hbmBad (s.fwdAddr 2 (64 * s.l2Bucket c.bd c.mac)) 64 = false →
    l2Find s c.bd c.mac = some k → l2Nh (s.fwd.l2.get k) = c.nexthop →
    ∃ t, exec (.sourceCheck i false) s = .next t ∧ t.fwd.checks = s.fwd.checks.set i rest ∧
      t.fwd.l2 = s.fwd.l2.set k (datPut (s.fwd.l2.get k) 12 2 s.ageStamp) ∧ t.cnt = s.cnt ∧ t.isl = s.isl ∧
    s.fresh.changesOnly t ([.fwd])) ∧
  -- one that moved takes its new next hop, if it is not static
  (∀ (i k : Nat) (c : SrcCheck) (rest : List SrcCheck) (s : State), s.running → s.md.mode ≠ .drain → i < 4 →
    s.fwd.checks.get i = c :: rest → s.hbmBad (s.fwdAddr 2 (64 * s.l2Bucket c.bd c.mac)) 64 = false →
    l2Find s c.bd c.mac = some k → l2Nh (s.fwd.l2.get k) ≠ c.nexthop → l2Static (s.fwd.l2.get k) = false →
    ∃ t, exec (.sourceCheck i false) s = .next t ∧ t.fwd.checks = s.fwd.checks.set i rest ∧
      t.fwd.l2 = s.fwd.l2.set k (datPut (datPut (s.fwd.l2.get k) 8 4 c.nexthop) 12 2 s.ageStamp) ∧
    s.fresh.changesOnly t (Fld.events ++ [.fwd])) ∧
  (∀ (i k : Nat) (c : SrcCheck) (rest : List SrcCheck) (s : State), s.running → s.md.mode ≠ .drain → i < 4 →
    s.fwd.checks.get i = c :: rest → s.hbmBad (s.fwdAddr 2 (64 * s.l2Bucket c.bd c.mac)) 64 = false →
    l2Find s c.bd c.mac = some k → l2Nh (s.fwd.l2.get k) ≠ c.nexthop → l2Static (s.fwd.l2.get k) = true →
    ∃ t, exec (.sourceCheck i false) s = .next t ∧ t.fwd.checks = s.fwd.checks.set i rest ∧ t.fwd.l2 = s.fwd.l2 ∧
    s.fresh.changesOnly t [.fwd, .cnt]) ∧
  -- an unknown station takes a free slot of its bucket, while its pipeline has not learned L2_RATE of them in this millisecond
  (∀ (i k : Nat) (c : SrcCheck) (rest : List SrcCheck) (s : State), s.running → s.md.mode ≠ .drain → i < 4 →
    s.fwd.checks.get i = c :: rest → s.hbmBad (s.fwdAddr 2 (64 * s.l2Bucket c.bd c.mac)) 64 = false → l2Find s c.bd c.mac = none →
    (l2Slots (s.l2Bucket c.bd c.mac)).find? (fun k => !l2Valid (s.fwd.l2.get k)) = some k →
    (if (s.fwd.learnWin.get i).1 = s.now / 1000000 then (s.fwd.learnWin.get i).2 else 0) < s.regF Reg.FWD_L2_RATE 15 0 →
    ∃ t, exec (.sourceCheck i false) s = .next t ∧ t.fwd.checks = s.fwd.checks.set i rest ∧
      t.fwd.l2 = s.fwd.l2.set k (l2Entry c.mac c.bd c.nexthop s.ageStamp 5 ((l2Gen (s.fwd.l2.get k) + 1) % 256)) ∧
      s.fresh.changesOnly t [.fwd, .cnt]) ∧
  -- in Drain none is learned or moved
  (∀ (i : Nat) (c : SrcCheck) (rest : List SrcCheck) (s : State), s.running → s.md.mode = .drain → i < 4 →
    s.fwd.checks.get i = c :: rest → (∀ k, l2Find s c.bd c.mac = some k → l2Nh (s.fwd.l2.get k) ≠ c.nexthop) →
    ∃ t, exec (.sourceCheck i false) s = .next t ∧ t.fwd.l2 = s.fwd.l2 ∧ s.fresh.changesOnly t [.fwd]) ∧
  -- the ageing scanner frees a station older than L2_AGE, and passes by one that is not
  (∀ (due : Nat) (u s : State), s.running → s.moves = true →
    due = paceDue (s.regF Reg.FWD_L2_AGE 31 16 * 1000000000) 2097152 s.fwd.scan s.fwd.scanAt → u = runTo due s.fresh →
    l2Valid (s.fwd.l2.get s.fwd.scan) = true → l2Static (s.fwd.l2.get s.fwd.scan) = false →
    s.regF Reg.FWD_L2_AGE 15 0 < (u.ageStamp + 65536 - l2Age (s.fwd.l2.get s.fwd.scan)) % 65536 →
    (u.ageStamp + 65536 - l2Age (s.fwd.l2.get s.fwd.scan)) % 65536 < 32768 →
    ∃ t, exec (.l2AgeVisit false) s = .next t ∧ t.fwd.scan = (s.fwd.scan + 1) % 2097152 ∧ t.fwd.scanAt = due ∧
      t.fwd.l2 = s.fwd.l2.set s.fwd.scan (l2Entry 0 0 0 0 0 (l2Gen (s.fwd.l2.get s.fwd.scan))) ∧
      u.changesOnly t ([.fwd, .cnt])) ∧
  (∀ (due : Nat) (raced : Bool) (u s : State), s.running → s.moves = true →
    due = paceDue (s.regF Reg.FWD_L2_AGE 31 16 * 1000000000) 2097152 s.fwd.scan s.fwd.scanAt → u = runTo due s.fresh →
    (u.ageStamp + 65536 - l2Age (s.fwd.l2.get s.fwd.scan)) % 65536 ≤ s.regF Reg.FWD_L2_AGE 15 0 →
    (u.ageStamp + 65536 - l2Age (s.fwd.l2.get s.fwd.scan)) % 65536 < 32768 →
    exec (.l2AgeVisit raced) s = .next { u with fwd := { s.fwd with scan := (s.fwd.scan + 1) % 2097152, scanAt := due } }) ∧
  -- a stamp that lies ahead becomes the current one, unless the entry changed since it was read
  (∀ (due : Nat) (raced : Bool) (u s : State), s.running → s.moves = true →
    due = paceDue (s.regF Reg.FWD_L2_AGE 31 16 * 1000000000) 2097152 s.fwd.scan s.fwd.scanAt → u = runTo due s.fresh →
    l2Valid (s.fwd.l2.get s.fwd.scan) = true → l2Static (s.fwd.l2.get s.fwd.scan) = false →
    32768 ≤ (u.ageStamp + 65536 - l2Age (s.fwd.l2.get s.fwd.scan)) % 65536 →
    ∃ t, exec (.l2AgeVisit raced) s = .next t ∧ t.fwd.scan = (s.fwd.scan + 1) % 2097152 ∧ t.fwd.scanAt = due ∧
      t.fwd.l2 = (if raced then s.fwd.l2 else s.fwd.l2.set s.fwd.scan (datPut (s.fwd.l2.get s.fwd.scan) 12 2 u.ageStamp)) ∧
      u.changesOnly t [.fwd]) ∧
  -- a finished flush scan leaves its record
  (∀ (fl : L2Flush) (rest : List L2Flush) (s : State), s.running → s.fwd.flushes = fl :: rest →
    ∃ t, exec .l2Flushed s = .next t ∧ t.fwd.flushes = rest ∧
      t.isl.log.get (s.isl.total.toNat % 1024) = recordOf s 7 2 fl.port (fl.port + 256 * min
        (s.fwd.l2.cells.filter (fun c => l2Valid c.2 && l2Learned c.2 && !l2Static c.2 && l2Nh c.2 == 32 * s.devId + fl.port)).length
        0xFFFFFF) ∧
    s.fresh.changesOnly t (Fld.events ++ [.fwd]))

/-- Lookups of the flow engine. A keyed packet (of SERVICE 2 one that is no fragment, of SERVICE 1 no later fragment) takes a free
thread: on a miss it waits for the directory in a pending miss of its two candidate buckets, on a hit for the clove's lock.
Without a free thread the packet waits. The first request of a free line is granted and its run starts at the clove's program.
Directory slots whose tag matches are read in turn; the clove whose key is that of the packet is installed in the cache, and
another one is passed by; one that cannot be read is lost, its index stays used, and the lookup begins again. Where no tag
matches, a profile with LEARN, in Service and within the limits, learns the flow: it takes the lowest free slot (log entry 72) of
the emptier bucket and the oldest free index, or the slot and index of the first eligible clove of the fuller bucket under EVICT
1, which ends with reason EVICTED; the lookup that learned the clove waits for it exclusively. What is not learned takes the no-
state action, here DROP. Commands shown to answer a next state by their own effect: cloveRead, directoryRead, fseLookup,
lineInstall, lockGrant. (R209, R210, R212, R213, R214, R217, R219, R221, R223, R224, R232, R286) -/
def Obligations.FlowLookups : Prop :=
  -- a keyed packet whose line is not in the cache takes a thread and a place in the pending-miss queue
  (∀ (i th : Nat) (key : BitVec 384) (p : Pkt) (rest : List Pkt) (s : State), s.running → i < 4 → s.fseq.get (2 * i) = p :: rest →
    s.freeThread i false = some th → profValid (s.profile p.flowProfile) = true →
    (spService (s.svcParam p.flowProfile) ≠ 2 ∨ isFragment (s.profile p.flowProfile) p = false) →
    (spService (s.svcParam p.flowProfile) ≠ 1 ∨ nonFirst (s.profile p.flowProfile) p = none) →
    buildKey (s.profile p.flowProfile) p false = some key → s.cacheHit i key (s.hashOf i key) = none →
    (s.part.get i).misses.length < 1024 → (∀ m ∈ (s.part.get i).misses, m.key ≠ key) →
    ∃ t, exec (.fseLookup i false) s = .next t ∧ t.fseq = s.fseq.set (2 * i) rest ∧ t.eng.nextOrder = s.eng.nextOrder + 1 ∧
      (t.th th).wait = .miss ∧ (t.th th).key = key ∧ (t.th th).order = s.eng.nextOrder ∧
      (t.part.get i).misses = (s.part.get i).misses ++
        [{ key := key, profile := p.flowProfile, prof := s.profile p.flowProfile, hash := s.hashOf i key,
           b1 := (s.candidates i (s.hashOf i key)).1, b2 := (s.candidates i (s.hashOf i key)).2, threads := [th] }] ∧
    s.fresh.changesOnly t ([.fseq, .part, .eng, .cnt])) ∧
  -- one whose line is in the cache waits for its lock
  (∀ (i th : Nat) (key : BitVec 384) (p : Pkt) (rest : List Pkt) (l : Line) (s : State), s.running → i < 4 →
    s.fseq.get (2 * i) = p :: rest → s.freeThread i false = some th → profValid (s.profile p.flowProfile) = true →
    (spService (s.svcParam p.flowProfile) ≠ 2 ∨ isFragment (s.profile p.flowProfile) p = false) →
    (spService (s.svcParam p.flowProfile) ≠ 1 ∨ nonFirst (s.profile p.flowProfile) p = none) →
    buildKey (s.profile p.flowProfile) p false = some key → s.cacheHit i key (s.hashOf i key) = some l →
    ∃ t, exec (.fseLookup i false) s = .next t ∧ t.fseq = s.fseq.set (2 * i) rest ∧ (t.th th).wait = .lock ∧
      (∃ l' ∈ (t.part.get i).lines, l'.idx = l.idx ∧
        l'.fifo.getLast? = some { thread := th, shared := profShared (s.profile (cvProfile (s.cloveNow i l.idx))) }) ∧
    s.fresh.changesOnly t ([.fseq, .part, .eng, .cnt])) ∧
  -- no free thread: the packet waits
  (∀ (i : Nat) (egress : Bool) (p : Pkt) (rest : List Pkt) (s : State), s.running → i < 4 →
    s.fseq.get (2 * i + b2n egress) = p :: rest → s.freeThread i egress = none →
    exec (.fseLookup i egress) s = .next (countC p.cls (Cnt.ENG_NO_THREAD i) s.fresh)) ∧
  -- the first request of a free line is granted, and its run starts at the clove's program
  (∀ (i idx u : Nat) (l : Line) (r : LockReq) (rest : List LockReq) (s : State), s.running → i < 4 → s.line i idx = some l →
    l.fifo = r :: rest → l.lock = .free →
    (s.fiAt (cvProgram (hitUpdate s (s.th r.thread) l.clove))).toNat / 2 ^ 24 ≠ 0 →
    s.eng.disp.get ((s.fiAt (cvProgram (hitUpdate s (s.th r.thread) l.clove))).toNat / 2 ^ 24) = some u →
    ∃ t, exec (.lockGrant i idx) s = .next t ∧ (t.th r.thread).wait = .ready ∧ (t.th r.thread).clove = some idx ∧
      (t.th r.thread).live.fipc = cvProgram (hitUpdate s (s.th r.thread) l.clove) ∧ (t.th r.thread).live.upc = u ∧
      t.line i idx = some { l with
        lock := if r.shared then .shared [r.thread] else .excl r.thread,
        fifo := rest, clove := hitUpdate s (s.th r.thread) l.clove, dirty := true } ∧
    s.fresh.changesOnly t ([.part, .eng, .cnt])) ∧
  -- the buckets of a miss arrive, and a tag matches
  (∀ (i k : Nat) (ue : Bool) (m : Miss) (s : State), s.running → i < 4 → (s.part.get i).misses[k]? = some m → m.stage = .reading →
    s.bucketBad i m.b1 = false → s.bucketBad i m.b2 = false →
    ((s.dir.get m.b1).slots ++ (s.dir.get m.b2).slots).filter (fun x => x.tag == hashTag m.hash) ≠ [] →
    ∃ t, exec (.directoryRead i k false false ue) s = .next t ∧ t.dir = s.dir ∧
      (t.part.get i).misses = (s.part.get i).misses.modify k (fun _ =>
        { m with
          v1 := (s.dir.get m.b1).version, v2 := (s.dir.get m.b2).version,
          stage := .candidates ((((s.dir.get m.b1).slots ++ (s.dir.get m.b2).slots).filter
            (fun x => x.tag == hashTag m.hash)).map DirSlot.idx) }) ∧
    s.fresh.changesOnly t ([.part, .free])) ∧
  -- no tag matches: under LEARN the flow takes the lowest free slot of the emptier bucket and the oldest free index, and its line is
  -- installed with the lookup that learned it ahead, exclusive
  (∀ (i k th idx b slot : Nat) (ue : Bool) (runs : List (Nat × Nat)) (c : Clove) (m : Miss) (s : State), s.running → i < 4 →
    s.md.mode = .service → (s.part.get i).misses[k]? = some m → m.stage = .reading → m.threads = [th] →
    s.bucketBad i m.b1 = false → s.bucketBad i m.b2 = false → ((s.dir.get m.b1).gone && (s.dir.get m.b2).gone) = false →
    ((s.dir.get m.b1).slots ++ (s.dir.get m.b2).slots).filter (fun x => x.tag == hashTag m.hash) = [] →
    profLearn m.prof = true → s.learnRoom i = true → (profPin m.prof = false ∨ s.pinRoom i = true) →
    freeBucket s m.b1 m.b2 = some (b, slot) → runsPop (s.part.get i).freeCache = some (idx, runs) → s.line i idx = none →
    ((s.part.get i).lines.filter (fun x => x.set == hashSet m.hash)).length < 16 → (s.part.get i).held = [] →
    c = datPut (datPut (datPutB (learnedClove s m.key m.profile m.prof) 48 0 1 1) 49 1 (((s.part.get i).learnSeq + 1).toNat % 256))
      60 4 (8 * b + slot) →
    ∃ t, exec (.directoryRead i k false false ue) s = .next t ∧ t.clove = s.clove.set idx c ∧
      t.dir = s.dir.upd b (fun d =>
        { d with
          version := (d.version + 1) % 2 ^ 32,
          slots := d.slots ++ [{ slot := slot, idx := idx, tag := hashTag m.hash, pinned := cvPinned c }] }) ∧
      (t.part.get i).misses = (s.part.get i).misses.eraseIdx k ∧ (t.part.get i).freeCache = runs ∧
      (t.part.get i).used = (s.part.get i).used + 1 ∧ (t.th th).wait = .lock ∧ (t.th th).learned = true ∧
      (∃ l, t.line i idx = some l ∧ l.clove = c ∧ l.fifo = [{ thread := th, shared := false }]) ∧
    s.fresh.changesOnly t (Fld.events ++ [.part, .eng, .clove, .dir, .svc, .free])) ∧
  -- with no free slot the first eligible clove of the fuller bucket ends, evicted, and the flow takes its slot and its index
  (∀ (i k th : Nat) (ue : Bool) (x : DirSlot) (more : List DirSlot) (c : Clove) (m : Miss) (s : State), s.running → i < 4 →
    s.md.mode = .service → (s.part.get i).misses[k]? = some m → m.stage = .reading → m.threads = [th] →
    s.bucketBad i m.b1 = false → s.bucketBad i m.b2 = false → ((s.dir.get m.b1).gone && (s.dir.get m.b2).gone) = false →
    ((s.dir.get m.b1).slots ++ (s.dir.get m.b2).slots).filter (fun x => x.tag == hashTag m.hash) = [] →
    profLearn m.prof = true → s.learnRoom i = true → (profPin m.prof = false ∨ s.pinRoom i = true) →
    freeBucket s m.b1 m.b2 = none → bit (s.reg (Reg.FSE_PART_CFG i)) 0 = true → s.eligible i m.b1 = x :: more →
    (s.eligible i m.b2).length ≤ (s.eligible i m.b1).length → s.line i x.idx = none → s.readFails i x.idx ue = false →
    cvDirSlot (s.clove.get x.idx) = 8 * m.b1 + x.slot → x.slot < 8 → datU (s.clove.get x.idx) 64 1 = 0 →
    (s.part.get i).endq.length < 512 →
    ((s.part.get i).lines.filter (fun x => x.set == hashSet m.hash)).length < 16 → (s.part.get i).held = [] →
    c = datPut (datPut (datPutB (learnedClove s m.key m.profile m.prof) 48 0 1 1) 49 1 (((s.part.get i).learnSeq + 1).toNat % 256))
      60 4 (8 * m.b1 + x.slot) →
    ∃ t, exec (.directoryRead i k false false ue) s = .next t ∧ t.clove.get x.idx = c ∧
      (t.dir.get m.b1).slots = (s.dir.get m.b1).slots.filter (fun y => y.slot != x.slot) ++
        [{ slot := x.slot, idx := x.idx, tag := hashTag m.hash, pinned := cvPinned c }] ∧
      (t.part.get i).endq = (s.part.get i).endq ++ [{ clove := s.clove.get x.idx, idx := x.idx, reason := 3, at_ := s.now }] ∧
      (t.part.get i).misses = (s.part.get i).misses.eraseIdx k ∧ (t.part.get i).freeCache = (s.part.get i).freeCache ∧
      (t.th th).wait = .lock ∧ (∃ l, t.line i x.idx = some l ∧ l.clove = c ∧ l.fifo = [{ thread := th, shared := false }]) ∧
    s.fresh.changesOnly t (Fld.events ++ [.part, .eng, .clove, .dir, .svc, .free])) ∧
  -- what is not learned, for want of LEARN or of a place under the learn limit, takes the no-state action, here DROP
  (∀ (i k th : Nat) (ue : Bool) (m : Miss) (s : State), s.running → i < 4 → (s.part.get i).misses[k]? = some m → m.stage = .reading →
    m.threads = [th] → s.bucketBad i m.b1 = false → s.bucketBad i m.b2 = false →
    ((s.dir.get m.b1).slots ++ (s.dir.get m.b2).slots).filter (fun x => x.tag == hashTag m.hash) = [] →
    (profLearn m.prof = false ∨ s.learnRoom i = false) →
    datB (s.tblGet 0x25 (s.regF (Reg.FSE_PART_CFG i) 11 8)) 0 0 2 = 0 → (s.part.get i).held = [] →
    ∃ t, exec (.directoryRead i k false false ue) s = .next t ∧ (t.part.get i).misses = (s.part.get i).misses.eraseIdx k ∧
      (t.th th).wait = .ended ∧ (t.th th).verdict = 1 ∧ s.fresh.changesOnly t (Fld.events ++ [.part, .eng, .free])) ∧
  -- the clove read is that of the key: it is installed; another one: the next is read
  (∀ (i k idx : Nat) (victim : Bool) (rest : List Nat) (m : Miss) (s : State), s.running → i < 4 →
    (s.part.get i).misses[k]? = some m →
    m.stage = .candidates (idx :: rest) → s.line i idx = none → cvValid (s.clove.get idx) = true → cvKey (s.clove.get idx) = m.key →
    s.cloveBad i idx = false →
    missStale s m = false → ((s.part.get i).lines.filter (fun x => x.set == hashSet m.hash)).length < 16 → (s.part.get i).held = [] →
    ∃ t, exec (.cloveRead i k false victim) s = .next t ∧ (t.part.get i).misses = (s.part.get i).misses.eraseIdx k ∧
      (∃ l, t.line i idx = some l ∧ l.clove = s.clove.get idx ∧ l.set = hashSet m.hash ∧ l.lock = .free) ∧
    s.fresh.changesOnly t (Fld.events ++ [.part, .eng, .clove, .dir, .svc])) ∧
  (∀ (i k idx next : Nat) (victim : Bool) (rest : List Nat) (m : Miss) (s : State), s.running → i < 4 →
    (s.part.get i).misses[k]? = some m →
    m.stage = .candidates (idx :: next :: rest) → cvKey (s.cloveNow i idx) ≠ m.key → s.readFails i idx false = false →
    exec (.cloveRead i k false victim) s = .next
      { s.fresh with
        part := s.part.upd i (fun p =>
          { p with misses := p.misses.modify k (fun m => { m with stage := .candidates (next :: rest) }) }) }) ∧
  -- a clove that cannot be read is lost, its index counts as used, and the lookup begins again
  (∀ (i k idx : Nat) (ue victim : Bool) (rest : List Nat) (m : Miss) (s : State), s.running → i < 4 →
    (s.part.get i).misses[k]? = some m → m.stage = .candidates (idx :: rest) → s.readFails i idx ue = true →
    ∃ t, exec (.cloveRead i k ue victim) s = .next t ∧ t.clove = s.clove.set idx 0 ∧
      (t.part.get i).misses = (s.part.get i).misses.modify k (fun m => { m with stage := .reading }) ∧
      (t.part.get i).freeCache = runsCut (s.part.get i).freeCache idx (idx + 1) ∧
    s.fresh.changesOnly t (Fld.events ++ [.part, .clove, .dir])) ∧
  -- an install that waited finds a way
  (∀ (i k idx : Nat) (c : Clove) (dirty : Bool) (m : Miss) (s : State), s.running → i < 4 → (s.part.get i).misses[k]? = some m →
    m.stage = .install idx c dirty true → s.line i idx = none → cvValid (s.clove.get idx) = true → cvKey (s.clove.get idx) = m.key →
    ((s.part.get i).lines.filter (fun x => x.set == hashSet m.hash)).length < 16 → (s.part.get i).held = [] →
    ∃ t, exec (.lineInstall i k) s = .next t ∧ (t.part.get i).misses = (s.part.get i).misses.eraseIdx k ∧
      (∃ l, t.line i idx = some l ∧ l.clove = s.clove.get idx ∧ l.dirty = dirty) ∧
    s.fresh.changesOnly t (Fld.events ++ [.part, .eng, .clove, .dir, .svc]))

/-- Free indices, ageing, poison marks and block releases. A refill moves the free indices of one bitmap line into the cache, and
takes none from a line that cannot be read. The scanner visits the places of its partition at the even pace of SWEEP_S. It passes
a place without a clove, and ends a clove idle for longer than its profile allows (reason IDLE), or older (reason LIFETIME): its
VALID is cleared, its directory slot goes, the bucket's version rises, and an end record waits. A stamp that lies ahead takes the
current one and the clove stays. A clove whose read fails is lost and its index stays used. A poison mark of a clove that is still
the same adds one to its count, and otherwise is only counted. A stalled release of a block enters the NAT log. The withdrawal of
a retired channel that named no clove raises its record. Commands shown to answer a next state by their own effect: blockRelease,
channelWithdrawn, freeIndexRefill, fseAgeVisit, poisonMark. (R216, R227, R228, R229, R230, R231, R232, R233, R253, R430, R550,
R552) -/
def Obligations.CloveUpkeep : Prop :=
  -- a bitmap read appends its free indices to the cache; on uncorrectable data they count as used
  (∀ (i : Nat) (ue : Bool) (s : State), s.running → s.moves = true → i < 4 → runsLen (s.part.get i).freeCache + 512 ≤ 4096 →
    s.cloves i ≠ 0 → s.cloves i % 512 = 0 → (s.part.get i).refillPos % 512 = 0 → (s.part.get i).refillPos < s.cloves i →
    exec (.freeIndexRefill i ue) s = .next
      { s.fresh with
        part := s.part.set i { s.part.get i with
          freeBits := runsCut (s.part.get i).freeBits (s.cloveBase i + (s.part.get i).refillPos)
            (s.cloveBase i + (s.part.get i).refillPos + 512),
          refillPos := ((s.part.get i).refillPos + 512) % s.cloves i,
          freeCache := if ue then (s.part.get i).freeCache else (s.part.get i).freeCache ++
            runsIn (s.part.get i).freeBits (s.cloveBase i + (s.part.get i).refillPos)
              (s.cloveBase i + (s.part.get i).refillPos + 512) } }) ∧
  -- the scanner visits a place that holds no clove
  (∀ (i due : Nat) (s : State), s.running → i < 4 → s.scanRuns = true →
    due = paceDue (s.regF (Reg.FSE_PART_CFG i) 31 16 * 1000000000) (s.cloves i) (s.part.get i).sweep (s.part.get i).visitAt →
    cvValid (s.clove.get (s.cloveBase i + (s.part.get i).sweep)) = false →
    s.readFails i (s.cloveBase i + (s.part.get i).sweep) false = false →
    exec (.fseAgeVisit i false) s = .next
      { runTo due s.fresh with
        part := s.part.set i { s.part.get i with sweep := ((s.part.get i).sweep + 1) % max 1 (s.cloves i), visitAt := due } }) ∧
  -- a clove idle for longer than its profile allows ends
  (∀ (i idx due reason : Nat) (u s : State), s.running → i < 4 → s.scanRuns = true →
    idx = s.cloveBase i + (s.part.get i).sweep →
    due = paceDue (s.regF (Reg.FSE_PART_CFG i) 31 16 * 1000000000) (s.cloves i) (s.part.get i).sweep (s.part.get i).visitAt →
    u = runTo due s.fresh →
    s.line i idx = none → s.cloveBad i idx = false → cvValid (s.clove.get idx) = true → datU (s.clove.get idx) 64 1 = 0 →
    ((s.dir.get (cvDirSlot (s.clove.get idx) / 8)).slots.any
      (fun x => x.slot == cvDirSlot (s.clove.get idx) % 8 && x.idx == idx)) = true →
    (u.ms + 2 ^ 32 - cvCreated (s.clove.get idx)) % 2 ^ 32 < 2 ^ 31 →
    (u.ageStamp + 65536 - cvAge (s.clove.get idx)) % 65536 < 32768 →
    (if datU (s.profile (cvProfile (s.clove.get idx))) 4 2 ≠ 0 ∧
        datU (s.profile (cvProfile (s.clove.get idx))) 4 2 < (u.ageStamp + 65536 - cvAge (s.clove.get idx)) % 65536 then
        reason = 1
      else datU (s.profile (cvProfile (s.clove.get idx))) 6 2 ≠ 0 ∧
        datU (s.profile (cvProfile (s.clove.get idx))) 6 2 * 1000 ≤ (u.ms + 2 ^ 32 - cvCreated (s.clove.get idx)) % 2 ^ 32 ∧
        reason = 2) →
    (s.part.get i).endq.length < 512 →
    ∃ t, exec (.fseAgeVisit i false) s = .next t ∧ t.clove = s.clove.set idx (datPutB (s.clove.get idx) 48 0 1 0) ∧
      (t.part.get i).endq = (s.part.get i).endq ++ [{ clove := s.clove.get idx, idx := idx, reason := reason, at_ := u.now }] ∧
      t.dir = s.dir.upd (cvDirSlot (s.clove.get idx) / 8) (fun d =>
        { d with
          version := (d.version + 1) % 2 ^ 32,
          slots := d.slots.filter (fun x => x.slot != cvDirSlot (s.clove.get idx) % 8) }) ∧
    u.changesOnly t (Fld.events ++ [.part, .dir, .clove, .svc, .eng])) ∧
  -- an AGE stamp that lies ahead takes the current one, and the clove stays
  (∀ (i idx due : Nat) (u s : State), s.running → i < 4 → s.scanRuns = true →
    idx = s.cloveBase i + (s.part.get i).sweep →
    due = paceDue (s.regF (Reg.FSE_PART_CFG i) 31 16 * 1000000000) (s.cloves i) (s.part.get i).sweep (s.part.get i).visitAt →
    u = runTo due s.fresh →
    s.line i idx = none → s.cloveBad i idx = false → cvValid (s.clove.get idx) = true →
    ((s.dir.get (cvDirSlot (s.clove.get idx) / 8)).slots.any
      (fun x => x.slot == cvDirSlot (s.clove.get idx) % 8 && x.idx == idx)) = true →
    (u.ms + 2 ^ 32 - cvCreated (s.clove.get idx)) % 2 ^ 32 < 2 ^ 31 →
    32768 ≤ (u.ageStamp + 65536 - cvAge (s.clove.get idx)) % 65536 →
    ∃ t, exec (.fseAgeVisit i false) s = .next t ∧ t.clove = s.clove.set idx (datPut (s.clove.get idx) 54 2 u.ageStamp) ∧
      t.part = s.part.set i { s.part.get i with sweep := ((s.part.get i).sweep + 1) % max 1 (s.cloves i), visitAt := due } ∧
      u.changesOnly t [.part, .clove, .cnt]) ∧
  -- a clove whose read fails is lost
  (∀ (i idx due : Nat) (ue : Bool) (u s : State), s.running → i < 4 → s.scanRuns = true →
    idx = s.cloveBase i + (s.part.get i).sweep →
    due = paceDue (s.regF (Reg.FSE_PART_CFG i) 31 16 * 1000000000) (s.cloves i) (s.part.get i).sweep (s.part.get i).visitAt →
    u = runTo due s.fresh → s.readFails i idx ue = true →
    ∃ t, exec (.fseAgeVisit i ue) s = .next t ∧ t.clove = s.clove.set idx 0 ∧
      (t.part.get i).freeCache = runsCut (s.part.get i).freeCache idx (idx + 1) ∧
      u.changesOnly t (Fld.events ++ [.part, .dir, .clove])) ∧
  -- a poison mark adds one to the clove it names
  (∀ (i idx gen : Nat) (rest : List (Nat × Nat)) (s : State), s.running → i < 4 → (s.part.get i).marks = (idx, gen) :: rest →
    s.cloveIs i idx gen = true → s.line i idx = none →
    ∃ t, exec (.poisonMark i) s = .next t ∧
      t.clove = s.clove.set idx (datPut (s.clove.get idx) 124 2 (min 0xFFFF (datU (s.clove.get idx) 124 2 + 1))) ∧
      t.part = s.part.set i { s.part.get i with marks := rest } ∧
    s.fresh.changesOnly t (Fld.events ++ [.part, .dir, .clove, .svc])) ∧
  (∀ (i idx gen : Nat) (rest : List (Nat × Nat)) (s : State), s.running → i < 4 → (s.part.get i).marks = (idx, gen) :: rest →
    s.cloveIs i idx gen = false →
    exec (.poisonMark i) s = .next (count (Cnt.FSE_POISON_MARK i)
      { s.fresh with part := s.part.set i { s.part.get i with marks := rest } })) ∧
  -- a stalled block release whose record can be entered
  (∀ (i : Nat) (w : RelWait) (rest : List RelWait) (s : State), s.running → i < 4 → (s.svc.part.get i).relWait = w :: rest →
    (s.svc.part.get i).natq.length < 1024 → (s.natBlock i w.block).allocated = true → (s.natBlock i w.block).used = 0 →
    ∃ t, exec (.blockRelease i) s = .next t ∧ (t.svc.part.get i).relWait = rest ∧
      (t.svc.part.get i).natq = (s.svc.part.get i).natq ++
        [{ event := 17, v6 := (s.natBlock i w.block).nat64, zone := (s.natBlock i w.block).zone,
           saddr := (s.natBlock i w.block).saddr, pubAddr := s.blockAddr i w.block, portLo := s.blockPort i w.block,
           portHi := s.blockPort i w.block + 2 ^ s.blockLog i - 1, exporter := (s.natBlock i w.block).exporter, at_ := s.now }] ∧
    s.fresh.changesOnly t (Fld.events ++ [.part, .dir, .clove, .svc])) ∧
  -- the withdrawal of a retired channel that named no clove ends with its record
  (∀ (pc : Nat) (s : State), s.running → s.pcRetired pc = true → (s.part.get 0).withdrawn.contains pc = false → s.dir = {} →
    ∃ t, exec (.channelWithdrawn pc) s = .next t ∧
      t.isl.log.get (s.isl.total.toNat % 1024) = recordOf s 8 5 pc pc ∧
      (∀ i < 4, (t.part.get i).withdrawn = pc :: (s.part.get i).withdrawn) ∧
    s.fresh.changesOnly t (Fld.events ++ [.part, .dir, .clove, .svc]))

/-- Export of telemetry. An end record of a profile that exports it joins its exporter's open message, where it fits, and is dropped
otherwise. A message closes 1,000,000 ns after its first record: for a UDP exporter its frame is queued at the port like a bulk
frame (its packet comes under reception for the port's leaf queue, or is dropped at a port that is down), and for a conduit its
words are pushed where the conduit has the credit. The sequence number goes on by its data records. A NAT log record opens a
message. RESEND with no conduit exporter does nothing and otherwise asks all four partitions. A pass ends when no clove is left,
and passes a clove that exports no interval records. The templates of a UDP exporter are sent at their period, at a port that is
up as at one that is down. A window boundary starts a pass at every partition that has none, after the boundaries that go before
it at its instant. Commands shown to answer a next state by their own effect: endRecordExport, messageClose, natRecordExport,
resendTemplates, telemetryPass, templateRefresh, twinBoundary. (R45, R273, R274, R275, R276, R277, R278, R279, R280) -/
def Obligations.Telemetry : Prop :=
  -- a clove whose profile exports its end becomes a record of the open message
  (∀ (i x : Nat) (r : EndRec) (rest : List EndRec) (m : TelMsg) (s : State), s.steady → s.moves = true → i < 4 →
    (s.part.get i).endq = r :: rest → r.bare = false → spFlag (s.svcParam (cvProfile r.clove)) 3 = true →
    x = datU (s.svcParam (cvProfile r.clove)) 3 1 → exValid (s.exporter x) = true → (s.svc.part.get i).msgs.get x = some m →
    16 + (setBytes (m.recs ++ [((if datB r.clove 40 0 1 = 1 then 256 else 257),
      s.recCommon r.clove ++ beBytes 1 (endReason r.reason) ++ s.recPen r.clove)])).length ≤ msgMax (s.exporter x) →
    ∃ t, exec (.endRecordExport i) s = .next t ∧ t.part = s.part.set i { s.part.get i with endq := rest } ∧
      (t.svc.part.get i).msgs = (s.svc.part.get i).msgs.set x (some { m with
        recs := m.recs ++ [((if datB r.clove 40 0 1 = 1 then 256 else 257),
          s.recCommon r.clove ++ beBytes 1 (endReason r.reason) ++ s.recPen r.clove)] }) ∧
    s.fresh.changesOnly t (Fld.events ++ [.part, .svc, .swc, .buf, .tbe])) ∧
  (∀ (i : Nat) (r : EndRec) (rest : List EndRec) (s : State), s.running → s.moves = true → i < 4 →
    (s.part.get i).endq = r :: rest → spFlag (s.svcParam (cvProfile r.clove)) 3 = false →
    exec (.endRecordExport i) s = .next { s.fresh with part := s.part.set i { s.part.get i with endq := rest } }) ∧
  -- a message closes 1,000,000 ns after its first record: a UDP frame comes under reception for a leaf queue of its port
  (∀ (i x q : Nat) (m : TelMsg) (u s : State), s.steady → s.moves = true → i < 4 → x < 8 → (s.svc.part.get i).msgs.get x = some m →
    u = runTo (m.firstAt + 1000000) s.fresh → u.udpTakes i x q m.recs →
    ∃ t, exec (.messageClose i x) s = .next t ∧ t.tbe.st = max s.tbe.st (m.firstAt + 1000000) ∧
      t.buf.staged = s.buf.staged ++ [u.udpStaged i x q m.recs] ∧
      t.svc.part = s.svc.part.set i { s.svc.part.get i with
        seq := (s.svc.part.get i).seq + BitVec.ofNat 32 (dataRecs m.recs), msgs := (s.svc.part.get i).msgs.set x none } ∧
    s.fresh.changesOnly t ([.svc, .buf, .tbe])) ∧
  -- one to a conduit is pushed into it, or waits for its credit
  (∀ (i x : Nat) (m : TelMsg) (u s : State), s.running → s.moves = true → i < 4 → x < 8 → (s.svc.part.get i).msgs.get x = some m →
    exUdp (s.exporter x) = false → u = runTo (m.firstAt + 1000000) s.fresh →
    exec (.messageClose i x) s = .next
      (if (cdtWords (u.ipfix i m.recs)).length ≤ (s.cdt.get (32 + exTarget (s.exporter x) % 8)).credit then
        { u with
          cdt := s.cdt.upd (32 + exTarget (s.exporter x) % 8) (fun k => (cdtWords (u.ipfix i m.recs)).foldl Conduit.push k),
          svc := { s.svc with part := s.svc.part.upd i (fun p =>
            { p with seq := p.seq + BitVec.ofNat 32 (dataRecs m.recs), msgs := p.msgs.set x none }) } }
      else u)) ∧
  -- a frame at a port that is down is dropped, and the sequence number goes on
  (∀ (i x : Nat) (m : TelMsg) (s : State), s.steady → s.moves = true → i < 4 → x < 8 → (s.svc.part.get i).msgs.get x = some m →
    exUdp (s.exporter x) = true → (s.port.get (exTarget (s.exporter x) % 32)).up = false →
    ∃ t, exec (.messageClose i x) s = .next t ∧ t.tbe.st = max s.tbe.st (m.firstAt + 1000000) ∧
      t.svc.part = s.svc.part.set i { s.svc.part.get i with
        seq := (s.svc.part.get i).seq + BitVec.ofNat 32 (dataRecs m.recs), msgs := (s.svc.part.get i).msgs.set x none } ∧
    s.fresh.changesOnly t (Fld.events ++ [.part, .svc, .swc, .buf, .tbe])) ∧
  -- the oldest NAT log record opens a message that needs no templates
  (∀ (i : Nat) (r : NatRec) (rest : List NatRec) (s : State), s.steady → s.moves = true → i < 4 →
    (s.svc.part.get i).natq = r :: rest → exValid (s.exporter r.exporter) = true → (s.svc.part.get i).msgs.get r.exporter = none →
    s.tmplDue i r.exporter = false →
    ∃ t, exec (.natRecordExport i) s = .next t ∧ (t.svc.part.get i).natq = rest ∧
      (t.svc.part.get i).msgs = (s.svc.part.get i).msgs.set r.exporter (some {
        recs := [((if r.v6 then 261 else 260), beBytes 8 (s.ntMs r.at_) ++ beBytes 1 r.event ++ beBytes 4 r.zone ++
          (if r.v6 then bvBytes 16 r.saddr else (bvBytes 16 r.saddr).drop 12) ++ beBytes 4 r.pubAddr ++ beBytes 2 r.portLo ++
          beBytes 2 r.portHi)],
        firstAt := s.now }) ∧
    s.fresh.changesOnly t (Fld.events ++ [.part, .svc, .swc, .buf, .tbe])) ∧
  -- with no conduit exporter RESEND has nothing to do
  (∀ s : State, s.hostWrites 8 → (∀ x < 8, exValid (s.exporter x) = false ∨ exUdp (s.exporter x) = true) →
    ∃ t, exec .resendTemplates s = .next t ∧ t.svc.resend = false ∧
    s.fresh.changesOnly t (Fld.events ++ [.part, .svc, .swc, .buf, .tbe])) ∧
  (∀ (x : Nat) (s : State), s.hostWrites 8 → x < 8 → exValid (s.exporter x) = true → exUdp (s.exporter x) = false →
    ∃ t, exec .resendTemplates s = .next t ∧ t.svc.resend = true ∧ (∀ i < 4, (t.svc.part.get i).tmplAsk.get x = true) ∧
    s.fresh.changesOnly t (Fld.events ++ [.part, .svc, .swc, .buf, .tbe])) ∧
  -- a pass that has visited every clove is over
  (∀ (i n : Nat) (ue : Bool) (p : TelPass) (s : State), s.running → s.moves = true → i < 4 → n < 8 →
    (s.svc.part.get i).passes.get n = some p → s.nextClove i (s.cloveBase i + p.pos) = none →
    exec (.telemetryPass i n ue) s = .next
      { s.fresh with
        svc := { s.svc with part := s.svc.part.set i { s.svc.part.get i with passes := (s.svc.part.get i).passes.set n none } } }) ∧
  -- the next clove of a pass, of a profile that exports no interval records
  (∀ (i n idx : Nat) (p : TelPass) (s : State), s.running → s.moves = true → i < 4 → n < 8 →
    (s.svc.part.get i).passes.get n = some p → s.nextClove i (s.cloveBase i + p.pos) = some idx → s.readFails i idx false = false →
    spFlag (s.svcParam (cvProfile (s.cloveNow i idx))) 4 = false →
    exec (.telemetryPass i n false) s = .next
      { s.fresh with
        svc := { s.svc with part := s.svc.part.set i { s.svc.part.get i with
          passes := (s.svc.part.get i).passes.set n (some { p with pos := idx + 1 - s.cloveBase i }) } } }) ∧
  -- the templates of a UDP exporter are sent when their period ends, at a port that is up
  (∀ (i x q at_ : Nat) (u s : State), s.steady → s.moves = true → i < 4 → x < 8 → (s.svc.part.get i).tmplAt.get x = some at_ →
    exValid (s.exporter x) = true → u = runTo (at_ + datU (s.exporter x) 6 2 * 1000000000) s.fresh →
    u.udpTakes i x q [(2, s.templates)] →
    ∃ t, exec (.templateRefresh i x) s = .next t ∧
      t.tbe.st = max s.tbe.st (at_ + datU (s.exporter x) 6 2 * 1000000000) ∧
      t.buf.staged = s.buf.staged ++ [u.udpStaged i x q [(2, s.templates)]] ∧
      (t.svc.part.get i).tmplAt = (s.svc.part.get i).tmplAt.set x (some t.tbe.st) ∧
    s.fresh.changesOnly t ([.svc, .buf, .tbe])) ∧
  -- and at one that is down
  (∀ (i x at_ : Nat) (s : State), s.steady → s.moves = true → i < 4 → x < 8 → (s.svc.part.get i).tmplAt.get x = some at_ →
    exValid (s.exporter x) = true → exUdp (s.exporter x) = true → (s.port.get (exTarget (s.exporter x) % 32)).up = false →
    ∃ t, exec (.templateRefresh i x) s = .next t ∧
      t.tbe.st = max s.tbe.st (at_ + datU (s.exporter x) 6 2 * 1000000000) ∧
      (t.svc.part.get i).tmplAt = (s.svc.part.get i).tmplAt.set x (some t.tbe.st) ∧
    s.fresh.changesOnly t (Fld.events ++ [.part, .svc, .swc, .buf, .tbe])) ∧
  -- a window boundary starts a pass in every partition that has none
  (∀ (n due : Nat) (s : State), s.running → s.moves = true → n < 8 → s.twinOn n = true →
    due = max s.tbe.st ((s.tbe.twinSeen.get n + 1) * s.twinPeriod n) → s.caughtUp due n →
    (∀ i < 4, (s.svc.part.get i).passes.get n = none) →
    ∃ t, exec (.twinBoundary n) s = .next t ∧ t.tbe.st = due ∧ t.tbe.twinSeen = s.tbe.twinSeen.set n (due / s.twinPeriod n) ∧
      (∀ i < 4, (t.svc.part.get i).passes.get n = some
        { pos := 0, instant := due, unrel := (s.svc.part.get i).unrel.get n }) ∧
    s.fresh.changesOnly t ([.svc, .tbe])) ∧
  -- the boundaries that go before it at that instant come first
  (∀ (n : Nat) (s : State), s.steady → s.moves = true → n < 8 → s.twinOn n = true →
    exec (.twinBoundary n) s = .next
      (twinAt n (priorItems (2 + n) (runTo ((s.tbe.twinSeen.get n + 1) * s.twinPeriod n) s.fresh))))

/-- Placing packets in the packet buffer. A staged packet whose queue asks for no spill stays on chip and is charged to its input and
class, or is dropped at the limit. The oldest spilled packet of a queue is read back while the return has room in its reserve and
among the free cells; data that cannot be read (as the read says, or as the place is marked) lose the packet; a header that cannot
be read breaks the queue's chain, with its record. Commands shown to answer a next state by their own effect: returnRead,
tailPlacement. (R324, R325, R327, R328, R329, R341) -/
def Obligations.PacketBuffer : Prop :=
  -- a packet whose queue does not spill stays on chip, or is dropped at its limit
  (∀ (inp : Nat) (t : Staged) (s : State), s.steady → s.moves = true →
    s.buf.staged.find? (fun t => t.inp == inp && !s.tailOpen t.pkt) = some t → t.pkt.tail = none →
    s.asking t.leaf t.queue = false → bit (s.bufProfile t.leaf t.queue t.cls) 31 = false →
    s.pbfUsed inp t.cls + pktCells t.pkt ≤ s.regF (Reg.PBF_LIMIT inp t.cls) 18 0 →
    ∃ u, exec (.tailPlacement inp) s = .next u ∧ u.buf.staged = s.buf.staged.erase t ∧
      (∀ p, u.buf.stage.get p = if p = inp then s.buf.stage.get inp - t.cells else s.buf.stage.get p) ∧
      u.buf.used = s.buf.used.upd (8 * inp + t.cls) (· + pktCells t.pkt) ∧
      (u.pqueue t.leaf t.queue).items = (s.pqueue t.leaf t.queue).items ++
        [{ pkt := t.pkt, cells := pktCells t.pkt, inp := inp, cls := t.cls, stIn := s.now }] ∧
    s.fresh.changesOnly u ([.buf, .cnt, .free])) ∧
  (∀ (inp : Nat) (t : Staged) (s : State), s.steady → s.moves = true →
    s.buf.staged.find? (fun t => t.inp == inp && !s.tailOpen t.pkt) = some t → t.pkt.tail = none →
    s.asking t.leaf t.queue = false → bit (s.bufProfile t.leaf t.queue t.cls) 31 = false →
    s.regF (Reg.PBF_LIMIT inp t.cls) 18 0 < s.pbfUsed inp t.cls + pktCells t.pkt →
    ∃ u, exec (.tailPlacement inp) s = .next u ∧ u.buf = { s.buf with staged := s.buf.staged.erase t, stage := u.buf.stage } ∧
      (∀ p, u.buf.stage.get p = if p = inp then s.buf.stage.get inp - t.cells else s.buf.stage.get p) ∧
      u.cnt = (countC t.cls Cnt.PBF_LIMIT_DROP s).cnt ∧ s.fresh.changesOnly u ([.buf, .cnt])) ∧
  -- the oldest spilled packet of a queue is read back
  (∀ (leaf : Bool) (q : Nat) (it : QItem) (s : State), s.steady → s.moves = true →
    (s.pqueue leaf q).items.find? isSpilled = some it →
    (((s.pqueue leaf q).items.filter (fun i => i.tier == .returned)).map (fun i => i.cells)).sum <
      bits (s.bufProfile leaf q it.cls) 27 16 →
    s.buf.retCells + it.cells ≤ s.regF Reg.PBF_RETURN_RES 15 0 → it.cells ≤ s.freeCells →
    s.headerPoisoned it = false → s.dataPoisoned it = false →
    ∃ t, exec (.returnRead leaf q .ok) s = .next t ∧ t.buf.retCells = s.buf.retCells + it.cells ∧
      (t.pqueue leaf q).items = (s.pqueue leaf q).items.map (fun i => if i = it then { i with tier := .returned } else i) ∧
    s.fresh.changesOnly t (Fld.events ++ [.buf])) ∧
  -- data that cannot be read lose the packet, and its buffer is freed
  (∀ (leaf : Bool) (q : Nat) (it : QItem) (o : ReadOutcome) (s : State), s.steady → s.moves = true →
    (s.pqueue leaf q).items.find? isSpilled = some it →
    (((s.pqueue leaf q).items.filter (fun i => i.tier == .returned)).map (fun i => i.cells)).sum <
      bits (s.bufProfile leaf q it.cls) 27 16 →
    s.buf.retCells + it.cells ≤ s.regF Reg.PBF_RETURN_RES 15 0 → it.cells ≤ s.freeCells →
    (o = .data ∨ o = .ok ∧ s.headerPoisoned it = false ∧ s.dataPoisoned it = true) →
    ∃ t, exec (.returnRead leaf q o) s = .next t ∧ t.buf.retCells = s.buf.retCells ∧
      (t.pqueue leaf q).items = (s.pqueue leaf q).items.erase it ∧
    s.fresh.changesOnly t (Fld.events ++ [.buf, .tms])) ∧
  -- a header that cannot be read breaks the chain of its queue
  (∀ (leaf : Bool) (q : Nat) (it : QItem) (s : State), s.steady → s.moves = true →
    (s.pqueue leaf q).items.find? isSpilled = some it →
    (((s.pqueue leaf q).items.filter (fun i => i.tier == .returned)).map (fun i => i.cells)).sum <
      bits (s.bufProfile leaf q it.cls) 27 16 →
    s.buf.retCells + it.cells ≤ s.regF Reg.PBF_RETURN_RES 15 0 → it.cells ≤ s.freeCells →
    ∃ t, exec (.returnRead leaf q .header) s = .next t ∧
      (t.pqueue leaf q).items = (s.pqueue leaf q).items.filter (fun i => !isSpilled i) ∧
      t.isl.log.get (s.isl.total.toNat % 1024) = recordOf s 0xB 1 noUnit (q % 2 ^ 19 + 2 ^ 19 * b2n leaf +
        2 ^ 24 * min 255 ((s.pqueue leaf q).items.filter isSpilled).length) ∧
    s.fresh.changesOnly t (Fld.events ++ [.buf, .tms]))

/-- The pools of HBM buffers. A client frees a buffer it owns, neither leaked nor withdrawn nor barred, into the pool's cache; a free
that fails a check (here the alignment) frees nothing and is latched. A pool grants its waiting request the first buffer of its
cache that is not barred (log entry 35). A ring read takes up to 256 indices into the cache, and a poisoned one rebuilds the ring.
A retired pseudo-channel's buffers are withdrawn with a record. A reclaim sweep ends with the number it reclaimed. Commands shown
to answer a next state by their own effect: buffersWithdrawn, bufferFree, bufferGrant, reclaimDone, ringRefill. (R330, R331, R333,
R335, R336, R340, R341, R430) -/
def Obligations.BufferPools : Prop :=
  -- a client's free of a buffer it owns
  (∀ (client addr k i : Nat) (s : State), s.steady → s.moves = true → client < 16 → addr < 2 ^ 36 → s.bufAt addr = .inr (k, i) →
    (addr - s.poolBase k) % poolSize k = 0 → (s.buf.bufs.get (s.poolFirst k + i)).alloc = true →
    datU (s.buf.bufs.get (s.poolFirst k + i)).hdr 0 1 % 16 = client → (s.buf.bufs.get (s.poolFirst k + i)).leaked = false →
    s.bufWithdrawn k i = false → s.bufBarred k i = false → runsLen (runsPush (s.buf.pools.get k).cache i) < 1792 →
    exec (.bufferFree client addr) s = .next
      (let t := count (Cnt.BPM_FREE k)
        { s.fresh with
          buf := { s.buf with bufs := s.buf.bufs.upd (s.poolFirst k + i) (fun h => { h with alloc := false }) } }
       { t with buf := { t.buf with pools := s.buf.pools.upd k (fun p => { p with cache := runsPush p.cache i }) } })) ∧
  -- a free that fails a check frees nothing and is latched
  (∀ (client addr k i : Nat) (s : State), s.steady → s.moves = true → client < 16 → addr < 2 ^ 36 → s.bufAt addr = .inr (k, i) →
    (addr - s.poolBase k) % poolSize k ≠ 0 →
    ∃ t, exec (.bufferFree client addr) s = .next t ∧ t.buf.bufs = s.buf.bufs ∧ t.buf.pools = s.buf.pools ∧
      t.buf.lastReject = BitVec.ofNat 32 (client + 32 + 128 * i) ∧ t.buf.lastRejLo = BitVec.ofNat 32 addr ∧
      t.buf.lastRejHi = BitVec.ofNat 32 (addr / 2 ^ 32 + 16 * k) ∧
    s.fresh.changesOnly t (Fld.events ++ [.buf])) ∧
  -- a pool grants its one waiting request: the packet is spilled to the buffer
  (∀ (k i : Nat) (r : BufReq) (c : List (Nat × Nat)) (s : State), s.steady → s.moves = true → k < 4 →
    (s.buf.pools.get k).reqs = [r] → r.client < 16 →
    runsFirst (fun i => !s.bufBarred k i) 2048 (s.buf.pools.get k).cache = some (i, c) →
    (s.pqueue r.item.leaf r.item.queue).items = [] →
    ∃ t, exec (.bufferGrant k) s = .next t ∧ (t.buf.pools.get k).cache = c ∧ (t.buf.pools.get k).reqs = [] ∧
      (t.buf.pools.get k).last = r.client ∧ (t.buf.bufs.get (s.poolFirst k + i)).alloc = true ∧
      (t.pqueue r.item.leaf r.item.queue).items =
        [{ pkt := r.item.pkt, cells := r.item.cells, inp := r.item.inp, cls := r.item.cls,
           tier := .spilled (s.poolBase k + i * poolSize k), stIn := s.now }] ∧
    s.fresh.changesOnly t (Fld.events ++ [.buf, .hmc])) ∧
  -- a ring read refills the cache; a poisoned one rebuilds the ring from the bitmap
  (∀ (k : Nat) (s : State), s.steady → k < 4 → runsLen (s.buf.pools.get k).cache ≤ 512 → runsLen (s.buf.pools.get k).ring ≠ 0 →
    exec (.ringRefill k false) s = .next
      { s.fresh with
        buf := { s.buf with pools := s.buf.pools.set k { s.buf.pools.get k with
          cache := (s.buf.pools.get k).cache ++ (runsTake 256 (s.buf.pools.get k).ring).1,
          ring := (runsTake 256 (s.buf.pools.get k).ring).2 } } }) ∧
  (∀ (k : Nat) (s : State), s.steady → k < 4 → runsLen (s.buf.pools.get k).cache ≤ 512 → runsLen (s.buf.pools.get k).ring ≠ 0 →
    exec (.ringRefill k true) s = .next (rebuildRing k s.fresh)) ∧
  -- the buffers of a retired pseudo-channel are withdrawn
  (∀ (pc : Nat) (s : State), s.steady → pc < 96 → s.pcRetired pc = true → s.buf.wdPcs.getLsbD pc = false →
    ∃ t, exec (.buffersWithdrawn pc) s = .next t ∧ t.buf.wdPcs = s.buf.wdPcs ||| ((1 : BitVec 96) <<< pc) ∧
      (t.isl.log.get (s.isl.total.toNat % 1024)).block = 0xA ∧ (t.isl.log.get (s.isl.total.toNat % 1024)).code = 3 ∧
      (t.isl.log.get (s.isl.total.toNat % 1024)).unit = BitVec.ofNat 16 pc ∧
    s.fresh.changesOnly t (Fld.events ++ [.buf])) ∧
  -- a reclaim sweep ends with its record
  (∀ (unread : List Nat) (w : Sweep) (rest : List Sweep) (s : State), s.steady → s.moves = true → s.buf.sweeps = w :: rest →
    ∃ t, exec (.reclaimDone unread) s = .next t ∧ t.buf.sweeps = rest ∧
      t.isl.log.get (s.isl.total.toNat % 1024) = recordOf s 0xA 4 noUnit (w.client + 256 * min (2 ^ 24 - 1)
        (s.buf.bufs.cells.filter (fun c => c.2.alloc && !c.2.leaked && !(unread.contains c.1 || s.hbmBad (s.bufAddr c.1) 64) &&
          datU c.2.hdr 0 1 % 16 == w.client &&
          datU c.2.hdr 16 4 % 2 ^ 19 == w.queue && datB c.2.hdr 2 0 1 == b2n w.leaf && datU c.2.hdr 3 1 == w.gen)).length) ∧
    s.fresh.changesOnly t (Fld.events ++ [.buf]))

/-- Wheels and the scheduler of the traffic manager. The earliest entry of the fine wheel is counted as stale when its node's
generation has gone on, and otherwise brings the node's buckets up to the present; boundaries of its instant go first. A slot of
the coarse wheel comes every 262,144 ns and sends its entries to the fine wheel or one lap on. A port that may ask takes the head
of the queue its tree selects; a port whose bucket is negative waits. Commands shown to answer a next state by their own effect:
coarseSlotVisit, portSelect, wheelEntry. (R45, R51, R385, R386, R387, R388, R389, R393, R394) -/
def Obligations.TrafficManager : Prop :=
  -- the earliest entry of the fine wheel: a stale one is only counted
  (∀ (e : WheelEnt) (s : State), s.steady → wheelNext s.tms.wheel = some e → s.caughtUp (max s.tbe.st e.slot) 8 →
    e.gen ≠ (s.node e.node).gen →
    exec .wheelEntry s = .next (count (Cnt.TMS_WHEEL_STALE (s.nodePipe e.node))
      { s.fresh with
        tbe := { s.tbe with st := max s.tbe.st e.slot },
        tms := { s.tms with wheel := s.tms.wheel.erase e } })) ∧
  -- one of the node's own generation brings its buckets up to date
  (∀ (e : WheelEnt) (s : State), s.steady → wheelNext s.tms.wheel = some e → s.caughtUp (max s.tbe.st e.slot) 8 →
    e.gen = (s.node e.node).gen → e.peak = true →
    0 ≤ (nodeAdvance { s.node e.node with pendP := false } (s.nodeRate e.node) (max s.tbe.st e.slot)).tp →
    0 ≤ (nodeAdvance { s.node e.node with pendP := false } (s.nodeRate e.node) (max s.tbe.st e.slot)).tc →
    ∃ t, exec .wheelEntry s = .next t ∧ t.tbe.st = max s.tbe.st e.slot ∧ t.tms.wheel = s.tms.wheel.erase e ∧
      t.node e.node = nodeAdvance { s.node e.node with pendP := false } (s.nodeRate e.node) (max s.tbe.st e.slot) ∧
    s.fresh.changesOnly t ([.tbe, .tms])) ∧
  -- the boundaries that come by then go before it
  (∀ (e : WheelEnt) (s : State), s.steady → wheelNext s.tms.wheel = some e →
    exec .wheelEntry s = .next (fireEntry e (priorItems 10 (runTo e.slot s.fresh)))) ∧
  -- a slot of the coarse wheel every 262,144 ns
  (∀ s : State, s.steady →
    exec .coarseSlotVisit s = .next
      { s.fresh with
        tbe := { s.tbe with st := max s.tbe.st ((s.tms.coarseSeen + 1) * 262144) },
        tms := { s.tms with
          coarseSeen := s.tms.coarseSeen + 1,
          wheel := s.tms.wheel.map (fun e =>
            if e.coarse && decide (e.due / 262144 % 4096 = (s.tms.coarseSeen + 1) % 4096) && decide (e.ins < s.tms.coarseSeen + 1) then
              (if e.laps = 0 then { e with coarse := false } else { e with laps := e.laps - 1 })
            else e) } }) ∧
  -- a port that may ask its tree sends the head of the queue the tree selects
  (∀ (p v sub k : Nat) (t1 t2 t3 : TmsSt) (it : QItem) (rest : List QItem) (s : State), s.steady → s.moves = true → p < 32 →
    s.portExists p = true → s.portAsks p = true → s.pickSvc s.tms p = some (v, t1) → s.pickSub t1 v = some (sub, t2) →
    s.pickQueue t2 sub = some (k, t3) → (s.pqueue true (8 * sub + k)).items = it :: rest → it.pkt.tail = none →
    ∃ t, exec (.portSelect p) s = .next t ∧ t.tms.fifo = s.tms.fifo.upd p (fun l => l ++ [it.pkt]) ∧
      t.buf.leaf = s.buf.leaf.upd (8 * sub + k) (fun q => { q with items := rest }) ∧
    s.fresh.changesOnly t ([.tms, .buf, .tbl, .cnt])) ∧
  -- a port whose bucket is negative waits for its wheel entry
  (∀ (p : Nat) (s : State), s.running → s.moves = true → p < 32 → s.portExists p = true → (s.node (portNode p)).tp < 0 →
    (s.node (portNode p)).pendP = true → (s.node (portNode p)).pendC = true →
    exec (.portSelect p) s = .next s.fresh)

/-- The switch core and bulk cells. Without a new pair, MATCHING moves one cell of every transfer, and the last cell delivers the
packet to its egress (log entry 29). A lane sends a replay first, then a LINK cell that is due, idle cells when 256 cells are not
acknowledged, and else a PEER cell that waits, numbered and kept. A numbered cell out of order is discarded with a NAK due; one in
its order and in its turn of a stream of an ALIVE peer brings the first bytes of a packet and takes staging for them, and the last
bytes of a packet put it into the receive queue of its pipeline. Commands shown to answer a next state by their own effect:
bulkCell, laneCellSend, matching. (R325, R348, R349, R350, R352, R359, R360, R364, R365, R370, R374) -/
def Obligations.SwitchCore : Prop :=
  -- with nothing new to match, a core cycle moves one cell of every transfer
  (∀ (inject : List (Nat × WordCheck)) (s : State), s.steady → s.moves = true → (∀ c < 16, (s.cdt.get (16 + c)).pkts = 0) →
    s.creditWait = false → (∀ i o, s.offer i o = none) → (∀ x ∈ s.swc.xfers, x.tail = none ∧ 1 < x.left) →
    exec (.matching inject) s = .next (creditCycle
      { s.fresh with swc := { s.swc with xfers := s.swc.xfers.map (fun x => { x with left := x.left - 1 }) } })) ∧
  -- the last cell of a packet for an egress pipeline of this device delivers it
  (∀ (x : Xfer) (it : QItem) (rest : List QItem) (s : State), s.steady → s.moves = true →
    (∀ c < 16, (s.cdt.get (16 + c)).pkts = 0) → s.creditWait = false → (∀ i o, s.offer i o = none) → s.swc.xfers = [x] →
    x.tail = none → x.left ≤ 1 → x.queue < 10000 → x.outp < 4 → (s.buf.voq.get x.queue).items = it :: rest →
    ∃ t, exec (.matching []) s = .next t ∧ t.swc.xfers = [] ∧ t.swc.egq = s.swc.egq.upd x.outp (fun l => l ++ [it.pkt]) ∧
      t.buf.voq = s.buf.voq.upd x.queue (fun q => { q with items := rest }) ∧
    s.fresh.changesOnly t ([.buf, .swc])) ∧
  -- a lane sends the cells of a replay first, then a LINK cell that is due
  (∀ (l : Nat) (c : Cell) (rest : List Cell) (s : State), s.running → s.laneLive l = true → (s.lane l).replay = c :: rest →
    exec (.laneCellSend l) s = .next
      { s.fresh with
        swc := { s.swc with lanes := s.swc.lanes.set l { s.lane l with replay := rest } },
        out := [.cell l (cellBytes c)] }) ∧
  (∀ (l : Nat) (s : State), s.running → s.laneLive l = true → (s.lane l).replay = [] → (s.lane l).linkDue = true →
    exec (.laneCellSend l) s = .next
      { s.fresh with
        swc := { s.swc with
          lanes := s.swc.lanes.set l { s.lane l with linkDue := false, nakDue := false, linkAt := s.now } },
        out := [.cell l (cellBytes (s.linkCell l))] }) ∧
  -- with 256 cells not acknowledged it sends idle cells
  (∀ (l : Nat) (s : State), s.running → s.laneLive l = true → (s.lane l).replay = [] → (s.lane l).linkDue = false →
    (s.lane l).nakDue = false → 256 ≤ (s.lane l).kept.length →
    exec (.laneCellSend l) s = .next { s.fresh with out := [.cell l (cellBytes {})] }) ∧
  -- a PEER cell that waits is numbered, sent and kept
  (∀ (l d : Nat) (c : Cell) (s : State), s.steady → s.laneLive l = true → (s.lane l).replay = [] → (s.lane l).linkDue = false →
    (s.lane l).nakDue = false → (s.lane l).kept.length < 256 → s.waitingCell l .express = none → s.laneStream l [8] = none →
    s.waitingCell l .peer = some (d, c) →
    ∃ t, exec (.laneCellSend l) s = .next t ∧ t.out = [.cell l (cellBytes { c with lseq := (s.lane l).txSeq })] ∧
      (t.lane l).txSeq = ((s.lane l).txSeq + 1) % 4096 ∧ (t.lane l).kept = (s.lane l).kept ++ [{ c with lseq := (s.lane l).txSeq }] ∧
    s.fresh.changesOnly t ([.swc, .out])) ∧
  -- a numbered cell out of its order is discarded, and a NAK is due
  (∀ (l : Nat) (c : Cell) (s : State), s.running → s.laneLive l = true → s.topoElement l = true → c.lseq % 4096 ≠ (s.lane l).rxSeq →
    (s.lane l).gap = none →
    exec (.bulkCell l c) s = .next (count (Cnt.SWC_LANE_CRC l)
      { s.fresh with
        swc := { s.swc with lanes := s.swc.lanes.set l { s.lane l with heard := s.now, nakDue := true, gap := some s.now } } })) ∧
  -- a cell in its order of a peer that is ALIVE, and in its turn of its stream, brings the first bytes of a packet
  (∀ (l d k : Nat) (c : Cell) (bs : List Byte) (s : State), s.steady → s.laneLive l = true →
    c.lseq % 4096 = (s.lane l).rxSeq → c.dst = s.devId → d = c.src % 512 → k = c.cls % 8 → s.isPeer d = true →
    (s.peer d).state = .alive → c.inc = (s.peer d).inc → c.pgen % 16 = (s.peer d).pgen → c.seq < 65536 →
    (s.peer d).rx.get k = { seq := c.seq } → bs = c.payload.take (min 240 c.len) → 32 ≤ bs.length →
    bs.length < 32 + leVal (bs.take 2) → bit (s.reg (Reg.SWC_CT_EN (4 + l / 8))) k = false →
    s.stageRoom (4 + l / 8) (cdiv (bs.length - 32) 256) = true →
    ∃ t, exec (.bulkCell l c) s = .next t ∧ (t.lane l).rxSeq = ((s.lane l).rxSeq + 1) % 4096 ∧ (t.lane l).heard = s.now ∧
      (t.peer d).rx.get k = { seq := (c.seq + 1) % 65536, part := bs, got := bs.length - 32, grp := l / 8 } ∧
      t.buf.stage = s.buf.stage.upd (4 + l / 8) (· + cdiv (bs.length - 32) 256) ∧
    s.fresh.changesOnly t ([.swc, .buf])) ∧
  -- or a whole packet, which enters the receive queue of its pipeline
  (∀ (l d k : Nat) (c : Cell) (bs : List Byte) (p : Pkt) (s : State), s.steady →
    s.laneLive l = true → c.lseq % 4096 = (s.lane l).rxSeq → c.dst = s.devId → d = c.src % 512 → k = c.cls % 8 → s.isPeer d = true →
    (s.peer d).state = .alive → c.inc = (s.peer d).inc → c.pgen % 16 = (s.peer d).pgen → c.seq < 65536 →
    (s.peer d).rx.get k = { seq := c.seq } → bs = c.payload.take (min 240 c.len) → 32 < bs.length →
    bs.length = 32 + leVal (bs.take 2) → p = fabricPkt s (l / 8) bs false false none → s.stageRoom (4 + l / 8) (pktCells p) = true →
    ∃ t, exec (.bulkCell l c) s = .next t ∧ t.swc.rxq = s.swc.rxq.upd (4 * (l / 8) + egrPipe p) (fun q => q ++ [p]) ∧
      t.buf.stage = s.buf.stage.upd (4 + l / 8) (· + pktCells p) ∧
      (t.peer d).rx.get k = { seq := (c.seq + 1) % 65536, grp := ((t.peer d).rx.get k).grp } ∧
    s.fresh.changesOnly t ([.swc, .buf]))

/-- The fabric lanes. A failed CRC enters the lane's count and makes a NAK due; a count at its threshold retires the lane. NAK is
repeated every 1,000 ns. Lock is lost and found; 10,000 ns without it take a lane down, training is tried again after 100 ms, and
a lane that takes lock comes up with LANE_UP. A LINK cell is due every 1,000 ns; one received in agreement with TOPO renews the
lane and its codewords are counted, and one that differs takes it down as miswired. A NAK starts a replay from the cell it names,
while no cell of it has been replayed eight times. REACH renews the peers it names. Commands shown to answer a next state by their
own effect: cellCrcFail, cellLockChange, keepaliveCell, laneDown, laneTraining, laneUp, linkCellDue, nakCell, nakRepeat,
reachCell. (R358, R363, R365, R366, R371, R372, R376, R378, R438, R439, R440) -/
def Obligations.MalminLanes : Prop :=
  -- a failed CRC: the failure is counted, a NAK is due, and the error enters the lane's count
  (∀ (l : Nat) (s : State), s.steady → s.laneLive l = true → (s.flt.get (fltKey 0 l)).retired = false →
    (s.flt.get (fltKey 0 l)).count < 65535 → s.thresh 0 ≠ (s.flt.get (fltKey 0 l)).count + 1 →
    ∃ t, exec (.cellCrcFail l) s = .next t ∧
      t.swc.lanes = s.swc.lanes.set l { s.lane l with nakDue := true, gap := some s.now } ∧
      t.flt = s.flt.set (fltKey 0 l) { s.flt.get (fltKey 0 l) with
        count := (s.flt.get (fltKey 0 l)).count + 1,
        peak := max (s.flt.get (fltKey 0 l)).peak ((s.flt.get (fltKey 0 l)).count + 1) } ∧
    s.fresh.changesOnly t (Fld.events ++ [.swc, .flt, .tbe, .buf])) ∧
  -- a count that reaches its threshold retires the lane
  (∀ (l : Nat) (s : State), s.steady → s.laneLive l = true → (s.flt.get (fltKey 0 l)).retired = false →
    (s.flt.get (fltKey 0 l)).count < 65535 → s.thresh 0 = (s.flt.get (fltKey 0 l)).count + 1 → (s.lane l).kept = [] →
    ∃ t, exec (.cellCrcFail l) s = .next t ∧ t.isl.log.get (s.isl.total.toNat % 1024) = recordOf s 0xD 3 l l ∧
      (t.lane l).up = false ∧ (t.lane l).retired = true ∧
    s.fresh.changesOnly t (Fld.events ++ [.swc, .flt, .tbe, .buf])) ∧
  -- the NAK is repeated every 1,000 ns while the gap lasts
  (∀ (l g : Nat) (s : State), s.running → s.laneLive l = true → (s.lane l).gap = some g →
    exec (.nakRepeat l) s = .next
      { s.fresh with
        tbe := { s.tbe with st := max s.tbe.st (g + 1000) },
        swc := { s.swc with
          lanes := s.swc.lanes.set l { s.lane l with nakDue := true, gap := some (max s.tbe.st (g + 1000)) } } }) ∧
  -- lock is lost or found again
  (∀ (l : Nat) (s : State), s.running → l < 48 → s.laneWired l = true → (s.lane l).lockLost = none →
    exec (.cellLockChange l false) s = .next
      { s.fresh with swc := { s.swc with lanes := s.swc.lanes.set l { s.lane l with lock := false, lockLost := some s.now } } }) ∧
  (∀ (l : Nat) (s : State), s.running → l < 48 → s.laneWired l = true →
    exec (.cellLockChange l true) s = .next
      { s.fresh with swc := { s.swc with lanes := s.swc.lanes.set l { s.lane l with lock := true, lockLost := none } } }) ∧
  -- 10,000 ns without lock take a lane down
  (∀ (l lost : Nat) (s : State), s.steady → s.laneLive l = true → (s.lane l).lockLost = some lost →
    (s.lane l).kept = [] →
    ∃ t, exec (.laneDown l) s = .next t ∧ t.tbe.st = max s.tbe.st (lost + 10000) ∧ (t.lane l).up = false ∧
    s.fresh.changesOnly t (Fld.events ++ [.swc, .flt, .tbe, .buf])) ∧
  -- training is tried again after 100 ms, and a lane that takes lock comes up
  (∀ (l : Nat) (s : State), s.running → s.moves = true → l < 48 → (s.lane l).up = false → (s.lane l).retired = false →
    s.laneWired l = true →
    exec (.laneTraining l) s = .next
      { s.fresh with
        tbe := { s.tbe with st := max s.tbe.st ((s.lane l).trainAt + 100000000) },
        swc := { s.swc with
          lanes := s.swc.lanes.set l
            { s.lane l with training := true, trainAt := max s.tbe.st ((s.lane l).trainAt + 100000000) } } }) ∧
  (∀ (l : Nat) (s : State), s.running → s.moves = true → l < 48 → (s.lane l).up = false → (s.lane l).retired = false →
    s.laneWired l = true →
    exec (.laneUp l) s = .next (raise 0xD 1 l l
      { s.fresh with
        swc := { s.swc with
          lanes := s.swc.lanes.set l
            { up := true, lock := true, ackAt := s.now, linkAt := s.now, heard := s.now, trainAt := (s.lane l).trainAt } } })) ∧
  -- LINK cells: one is due every 1,000 ns; one received is checked against TOPO
  (∀ (l : Nat) (s : State), s.running → s.laneLive l = true →
    exec (.linkCellDue l) s = .next
      { s.fresh with
        tbe := { s.tbe with st := max s.tbe.st ((s.lane l).linkAt + 1000) },
        swc := { s.swc with lanes := s.swc.lanes.set l { s.lane l with linkDue := true } } }) ∧
  (∀ (l : Nat) (c : LinkCell) (s : State), s.running → s.laneLive l = true → s.topoElement l = true → c.sender = s.topoPeer l →
    c.lane = s.topoLane l → c.ack = none →
    exec (.keepaliveCell l c) s = .next
      { countFec l c s.fresh with swc := { s.swc with lanes := s.swc.lanes.set l { s.lane l with heard := s.now } } }) ∧
  (∀ (l : Nat) (c : LinkCell) (s : State), s.steady → s.laneLive l = true → c.sender ≠ s.topoPeer l →
    (s.lane l).kept = [] →
    ∃ t, exec (.keepaliveCell l c) s = .next t ∧ (t.lane l).up = false ∧ (t.lane l).miswired = true ∧
      t.isl.log.get (s.isl.total.toNat % 1024) = recordOf s 0xD 4 l (l + 65536 * (c.sender % 512)) ∧
    s.fresh.changesOnly t (Fld.events ++ [.swc, .flt, .tbe, .buf])) ∧
  -- a NAK starts a replay from the cell it names
  (∀ (l k : Nat) (c : LinkCell) (r : SMap Nat) (s : State), s.running → s.laneLive l = true → s.topoElement l = true →
    c.sender = s.topoPeer l → c.lane = s.topoLane l → c.ack = none →
    (s.lane l).kept.findIdx? (fun x => x.lseq == c.nakSeq % 4096) = some k →
    r = ((s.lane l).kept.drop k).foldl (fun m x => m.upd x.lseq (· + 1)) (s.lane l).replays →
    (∀ x ∈ (s.lane l).kept.drop k, r.get x.lseq < 8) →
    exec (.nakCell l c) s = .next (count (Cnt.SWC_LANE_REPLAY l)
      { countFec l c s.fresh with
        swc := { s.swc with
          lanes := s.swc.lanes.set l
            { s.lane l with heard := s.now, replay := (s.lane l).kept.drop k, replays := r } } })) ∧
  -- a fabric element says which devices it reaches
  (∀ (l : Nat) (c : LinkCell) (s : State), s.steady → s.laneLive l = true → s.topoElement l = true → c.sender = s.topoPeer l →
    c.lane = s.topoLane l → c.ack = none →
    ∃ t, exec (.reachCell l c) s = .next t ∧ (t.lane l).reach = c.reach ∧ (t.lane l).reachAt = some s.now ∧
      (∀ d < 512, c.reach.getLsbD d = true → s.isPeer d = true → (s.peer d).state = .alive → (t.peer d).seenAt = s.now) ∧
    s.fresh.changesOnly t (Fld.events ++ [.swc, .flt, .tbe, .buf]))

/-- Joining peers, their death, and credit. A JOIN goes to a reachable peer that is new, and is repeated after 10,000 ns. A JOIN
received from a dead peer, and a JOIN_ACK of the PGEN proposed, make the peer ALIVE with PEER_JOINED. Silence of 64,000 ns, or
RESYNC of the current PGEN, makes it dead with PEER_DEAD; a RESYNC with another INC with PEER_RESTARTED. REQUEST reports backlogs
and gives credits back. Where no class has a limit it gets no credit; a report of up to 16 cells of one class, within the class's
limit and with no other peer asking, is granted in full by a CREDIT (outside Drain). CREDIT adds to the balance. 10,000 ns after
the oldest report of a class with a backlog a REQUEST goes out with every class whose report is that old. Commands shown to answer
a next state by their own effect: peerCredit, creditRequestDue, peerJoin, peerJoinAck, joinResend, joinSend, peerDead,
peerRequest, peerResync. (R366, R367, R368, R369, R370, R371, R372, R373, R376) -/
def Obligations.Peers : Prop :=
  -- a JOIN goes to a reachable peer that is not joined, and is repeated every 10,000 ns
  (∀ (d : Nat) (s : State), s.steady → s.moves = true → s.isPeer d = true → (s.peer d).state = .new → s.reachable d = true →
    (s.peer d).joinedAt = none →
    ∃ t, exec (.joinSend d) s = .next t ∧ (t.peer d).state = .joining ∧ (t.peer d).proposed = ((s.peer d).pgen + 1) % 16 ∧
      (t.peer d).outq = (s.peer d).outq ++ [s.peerCell d 3 0 (s.peer d).pgen
        (leBytes 2 s.swc.inc ++ leBytes 1 (((s.peer d).pgen + 1) % 16))] ∧
    s.fresh.changesOnly t (Fld.events ++ [.swc, .tbe, .buf])) ∧
  (∀ (d : Nat) (s : State), s.steady → s.moves = true → s.isPeer d = true → (s.peer d).state = .joining →
    ∃ t, exec (.joinResend d) s = .next t ∧ t.tbe.st = max s.tbe.st ((s.peer d).joinAt + 10000) ∧ (t.peer d).joinAt = t.tbe.st ∧
      (t.peer d).outq = (s.peer d).outq ++ [s.peerCell d 3 0 (s.peer d).pgen
        (leBytes 2 s.swc.inc ++ leBytes 1 (s.peer d).proposed)] ∧
    s.fresh.changesOnly t (Fld.events ++ [.swc, .tbe, .buf])) ∧
  -- a JOIN is answered and makes the peer ALIVE
  (∀ (l d : Nat) (c : Cell) (s : State), s.steady → s.laneLive l = true → c.lseq % 4096 = (s.lane l).rxSeq → c.dst = s.devId →
    d = c.src % 512 → s.isPeer d = true → (s.peer d).state = .dead →
    ∃ t, exec (.peerJoin l c) s = .next t ∧ (t.peer d).state = .alive ∧ (t.peer d).pgen = joinGen c ∧ (t.peer d).inc = joinInc c ∧
      t.isl.log.get (s.isl.total.toNat % 1024) = recordOf s 0xD 6 d (d + 4096 * joinGen c + 65536 * (joinInc c % 65536)) ∧
    s.fresh.changesOnly t (Fld.events ++ [.swc, .tbe, .buf])) ∧
  -- so does a JOIN_ACK of the PGEN proposed
  (∀ (l d : Nat) (c : Cell) (s : State), s.steady → s.laneLive l = true → c.lseq % 4096 = (s.lane l).rxSeq → c.dst = s.devId →
    d = c.src % 512 → s.isPeer d = true → (s.peer d).state = .joining → joinGen c = (s.peer d).proposed →
    ∃ t, exec (.peerJoinAck l c) s = .next t ∧ (t.peer d).state = .alive ∧ (t.peer d).pgen = joinGen c ∧
      (t.peer d).joinedAt = some s.now ∧
      t.isl.log.get (s.isl.total.toNat % 1024) = recordOf s 0xD 6 d (d + 4096 * joinGen c + 65536 * (joinInc c % 65536)) ∧
    s.fresh.changesOnly t (Fld.events ++ [.swc, .tbe, .buf])) ∧
  -- a peer silent for 64,000 ns is dead
  (∀ (d : Nat) (s : State), s.steady → s.moves = true → s.isPeer d = true → (s.peer d).state = .alive →
    (∀ c < 8, (s.buf.voq.get (8 * d + c)).items = []) →
    ∃ t, exec (.peerDead d) s = .next t ∧ t.tbe.st = max s.tbe.st ((s.peer d).seenAt + 64000) ∧ (t.peer d).state = .dead ∧
      (t.peer d).tx = {} ∧ (t.peer d).rx = {} ∧
      t.isl.log.get (s.isl.total.toNat % 1024) =
        recordOf { s with tbe := { s.tbe with st := max s.tbe.st ((s.peer d).seenAt + 64000) } } 0xD 5 d d ∧
    s.fresh.changesOnly t (Fld.events ++ [.swc, .tbe, .buf, .tms, .pod])) ∧
  -- so is one that sends RESYNC of the current PGEN
  (∀ (l d : Nat) (c : Cell) (s : State), s.steady → s.laneLive l = true → c.lseq % 4096 = (s.lane l).rxSeq →
    c.dst = s.devId → d = c.src % 512 → s.isPeer d = true → (s.peer d).state = .alive → c.pgen % 16 = (s.peer d).pgen →
    c.inc = (s.peer d).inc → (∀ c < 8, (s.buf.voq.get (8 * d + c)).items = []) →
    ∃ t, exec (.peerResync l c) s = .next t ∧ (t.peer d).state = .dead ∧
      t.isl.log.get (s.isl.total.toNat % 1024) = recordOf s 0xD 5 d d ∧
    s.fresh.changesOnly t (Fld.events ++ [.swc, .tbe, .buf, .tms, .pod])) ∧
  -- one with another INC shows that the peer has restarted
  (∀ (l d : Nat) (c : Cell) (s : State), s.steady → s.laneLive l = true → c.lseq % 4096 = (s.lane l).rxSeq →
    c.dst = s.devId → d = c.src % 512 → s.isPeer d = true → (s.peer d).state = .alive → c.inc ≠ (s.peer d).inc →
    (∀ c < 8, (s.buf.voq.get (8 * d + c)).items = []) →
    ∃ t, exec (.peerResync l c) s = .next t ∧ (t.peer d).state = .dead ∧
      t.isl.log.get (s.isl.total.toNat % 1024) = recordOf s 0xD 7 d (d + 65536 * (c.inc % 65536)) ∧
    s.fresh.changesOnly t (Fld.events ++ [.swc, .tbe, .buf, .tms, .pod])) ∧
  -- a REQUEST reports backlogs and gives credits back; there is no credit to give
  (∀ (l d : Nat) (c : Cell) (s : State), s.steady → s.laneLive l = true → c.lseq % 4096 = (s.lane l).rxSeq → c.dst = s.devId →
    d = c.src % 512 → s.isPeer d = true → (s.peer d).state = .alive → c.inc = (s.peer d).inc → c.pgen % 16 = (s.peer d).pgen →
    (∀ n < 8, s.regF (Reg.SWC_CREDIT_LIMIT n) 18 0 = 0) →
    ∃ t, exec (.peerRequest l c) s = .next t ∧
      (t.peer d).backlog = (peerEntries c).foldl (fun m e => if e.2.1 then m else m.set e.1 e.2.2) (s.peer d).backlog ∧
      (t.peer d).granted = (peerEntries c).foldl (fun m e => if e.2.1 then m.upd e.1 (· - e.2.2) else m) (s.peer d).granted ∧
    s.fresh.changesOnly t ([.swc])) ∧
  -- credits are granted to the peer for the cells it reports, 16 at most at a time, within the limit of their class
  (∀ (l d k v : Nat) (c : Cell) (s : State), s.steady → s.md.mode ≠ .drain → s.laneLive l = true → c.lseq % 4096 = (s.lane l).rxSeq →
    c.dst = s.devId → d = c.src % 512 → s.isPeer d = true → (s.peer d).state = .alive → c.inc = (s.peer d).inc →
    c.pgen % 16 = (s.peer d).pgen → peerEntries c = [(k, false, v)] → k < 8 → 1 ≤ v → v ≤ 16 → s.swc.peers.cells = [(d, s.peer d)] →
    (∀ n < 8, (s.peer d).backlog.get n = 0) → s.creditUse k + v ≤ s.regF (Reg.SWC_CREDIT_LIMIT k) 18 0 →
    ∃ t, exec (.peerRequest l c) s = .next t ∧ (t.peer d).granted.get k = (s.peer d).granted.get k + v ∧
      (t.peer d).backlog.get k = 0 ∧
      (t.peer d).outq = (s.peer d).outq ++ [s.peerCell d 2 1 (s.peer d).pgen (peerEntry k false v)] ∧
    s.fresh.changesOnly t ([.swc])) ∧
  -- a CREDIT adds to the balances of its classes
  (∀ (l d : Nat) (c : Cell) (s : State), s.steady → s.laneLive l = true → c.lseq % 4096 = (s.lane l).rxSeq → c.dst = s.devId →
    d = c.src % 512 → s.isPeer d = true → (s.peer d).state = .alive → c.inc = (s.peer d).inc → c.pgen % 16 = (s.peer d).pgen →
    ∃ t, exec (.peerCredit l c) s = .next t ∧
      (t.peer d).credit = (peerEntries c).foldl (fun m e => m.upd e.1 (· + e.2.2)) (s.peer d).credit ∧
    s.fresh.changesOnly t ([.swc])) ∧
  -- a REQUEST is due 10,000 ns after the last report of a class with a backlog, and reports every such class
  (∀ (d : Nat) (cs : List Nat) (s : State), s.steady → s.moves = true → s.isPeer d = true → (s.peer d).state = .alive →
    s.backlogged d ≠ [] →
    cs = (s.backlogged d).filter (fun c => decide ((s.peer d).reportAt.get c + 10000 ≤ max s.tbe.st (s.requestDue d))) →
    ∃ t, exec (.creditRequestDue d) s = .next t ∧ t.tbe.st = max s.tbe.st (s.requestDue d) ∧
      (∀ c ∈ cs, (t.peer d).reportAt.get c = t.tbe.st) ∧
      (t.peer d).outq = (s.peer d).outq ++ [s.peerCell d 1 cs.length (s.peer d).pgen
        (cs.map (fun c => peerEntry c false (s.uncovered d c))).flatten] ∧
    s.fresh.changesOnly t (Fld.events ++ [.swc, .tbe, .buf]))

/-- Express frames: descriptors, votes and cells. The first descriptor of the duty pair is held for the other, and one whose GEN or
SLOT is not the lane's is discarded and counted; a second that agrees decides the frame (here: an entry that drops it). 40 ns
after the first the frame goes to a vote. Without a reserve it is discarded; a reserve that agrees with slot 0 gives the other
lane a strike, which takes 64 from its health (log entry 36), and decides the frame (here: an entry that drops it). An EXPRESS
cell in its order and turn brings the first bytes of a packet, and the last ones put it into the express queue of its port. A gap
of a stream is given up after its time: the stream goes on at the next early cell, which is discarded too where it starts no
packet. NO_MAJORITY and VOTE_OVERRUN have no clause here. Commands shown to answer a next state by their own effect:
podDescriptor, descriptorTimeout, expressCell, reseqTimeout, podVote. (R356, R374, R401, R404, R405, R406, R407, R409, R411, R414,
R415) -/
def Obligations.PodFrames : Prop :=
  -- the first descriptor of a pair is held for the other
  (∀ (l fseq : Nat) (err : Word512) (f : PodFrame) (s : State), s.running → s.moves = true → l < 3 → bit err.toNat parityBit = false →
    s.pod.frames.find? (fun f => f.fseq == fseq && !f.vote && f.decided.isNone) = some f → s.descSlot l err = 0 →
    s.podAccepts l err = true → f.d0 = none → f.d1 = none →
    exec (.podDescriptor l fseq err) s = .next
      { s.fresh with
        pod := { s.pod with
          frames := s.pod.frames.map (fun g => if g.fseq = fseq then
            { g with
              d0 := some (s.podDesc l (s.podLane l).slot (s.podLane l).gen false f ^^^ err), lane0 := l,
              firstAt := some (g.firstAt.getD s.now) }
            else g) } }) ∧
  -- one whose GEN or SLOT is not the lane's is discarded and counted, whether or not a frame waits
  (∀ (l fseq : Nat) (err : Word512) (s : State), s.running → s.moves = true → l < 3 → s.podAccepts l err = false →
    exec (.podDescriptor l fseq err) s = .next (count (Cnt.XPR_STALE_GEN l) s.fresh)) ∧
  -- a second one that agrees decides the frame; here the pair say that its entry drops it
  (∀ (l fseq : Nat) (a : PodDesc) (f : PodFrame) (s : State), s.steady → s.moves = true → l < 3 → s.pod.frames = [f] →
    f.fseq = fseq → f.vote = false → f.decided = none → (s.podLane l).slot = 1 → s.podAccepts l 0 = true → f.d0 = some a → f.d1 = none →
    podAgree s.pod.gen a (s.podDesc l 1 (s.podLane l).gen false f) = true → datU a 5 1 = 2 → s.pod.shadow + 1 ≠ 64 →
    ∃ t, exec (.podDescriptor l fseq 0) s = .next t ∧ t.pod.frames = [] ∧ t.pod.shadow = s.pod.shadow + 1 ∧
      t.cnt = (count Cnt.XPR_ENTRY_DROP s).cnt ∧
    s.fresh.changesOnly t (Fld.events ++ [.pod, .flt])) ∧
  -- 40 ns after the first of a pair the frame goes to a vote
  (∀ (fseq at_ : Nat) (f : PodFrame) (s : State), s.running → s.moves = true →
    s.pod.frames.find? (fun f => f.fseq == fseq && !f.vote && f.decided.isNone) = some f → f.firstAt = some at_ →
    exec (.descriptorTimeout fseq) s = .next
      { s.fresh with
        tbe := { s.tbe with st := max s.tbe.st (at_ + 40) },
        pod := { s.pod with frames := s.pod.frames.map (fun g => if g.fseq = fseq then { g with vote := true } else g) } }) ∧
  -- a vote without a reserve lane discards the frame
  (∀ (fseq : Nat) (err : Word512) (f : PodFrame) (s : State), s.steady → s.moves = true → s.pod.frames = [f] → f.fseq = fseq →
    f.vote = true → f.decided = none → s.roleLane 2 = none →
    ∃ t, exec (.podVote fseq err) s = .next t ∧ t.pod.frames = [] ∧ t.cnt = (count Cnt.XPR_NO_RESERVE_DROP s).cnt ∧
    s.fresh.changesOnly t (Fld.events ++ [.pod, .flt])) ∧
  -- the reserve agrees with the lane of slot 0: the other one takes a strike
  (∀ (fseq r : Nat) (a : PodDesc) (f : PodFrame) (s : State), s.steady → s.moves = true → s.pod.frames = [f] → f.fseq = fseq →
    f.vote = true → f.decided = none → s.roleLane 2 = some r → (s.pod.fseq + 65536 - fseq) % 65536 ≤ 32 → f.d0 = some a →
    descBody a = descBody (s.podDesc r 2 s.pod.gen false f) → datU a 5 1 = 2 → (s.podLane f.lane1).retired = false →
    ∃ t, exec (.podVote fseq 0) s = .next t ∧ t.pod.frames = [] ∧ (t.podLane f.lane1).health = (s.podLane f.lane1).health - 64 ∧
      (t.podLane f.lane1).strikes = (s.now :: (s.podLane f.lane1).strikes).take 3 ∧
    s.fresh.changesOnly t (Fld.events ++ [.pod, .flt])) ∧
  -- an EXPRESS cell in its order and in its turn brings the first bytes of a packet, fewer than START_CELLS cells
  (∀ (l d : Nat) (c : Cell) (bs : List Byte) (s : State), s.steady → s.laneLive l = true →
    c.lseq % 4096 = (s.lane l).rxSeq → c.dst = s.devId → d = c.src % 512 → s.isPeer d = true → (s.peer d).state = .alive →
    c.inc = (s.peer d).inc → c.pgen % 16 = (s.peer d).pgen → c.seq < 65536 → (s.peer d).rx.get 8 = { seq := c.seq } →
    bs = c.payload.take (min 240 c.len) → 32 ≤ bs.length → bs.length < 32 + leVal (bs.take 2) →
    bs.length - 32 < 256 * s.regF Reg.SWC_CT_CFG 5 0 →
    ∃ t, exec (.expressCell l c) s = .next t ∧ (t.lane l).rxSeq = ((s.lane l).rxSeq + 1) % 4096 ∧
      (t.peer d).rx.get 8 = { seq := (c.seq + 1) % 65536, part := bs, got := bs.length - 32, grp := l / 8 } ∧
    s.fresh.changesOnly t ([.swc])) ∧
  -- or a whole packet, which enters the express queue of its port
  (∀ (l d port : Nat) (c : Cell) (bs : List Byte) (s : State), s.steady →
    s.laneLive l = true → c.lseq % 4096 = (s.lane l).rxSeq → c.dst = s.devId → d = c.src % 512 → s.isPeer d = true → (s.peer d).state = .alive →
    c.inc = (s.peer d).inc → c.pgen % 16 = (s.peer d).pgen → c.seq < 65536 → (s.peer d).rx.get 8 = { seq := c.seq } →
    bs = c.payload.take (min 240 c.len) → 32 < bs.length → bs.length = 32 + leVal (bs.take 2) →
    port = (byteAt bs 2).toNat % 32 → s.portExists port = true → (s.port.get port).up = true →
    s.expCells (s.pod.exq.get port) + cdiv (bs.length - 32) 256 ≤ s.regF Reg.XPR_QLIMIT 13 0 →
    s.expUsed + cdiv (bs.length - 32) 256 ≤ 8192 →
    ∃ t, exec (.expressCell l c) s = .next t ∧ t.cnt = (count Cnt.XPR_FROM_FABRIC s).cnt ∧
      t.pod = { s.pod with exq := s.pod.exq.upd port (fun q => q ++ [{ bytes := bs.drop 32, fabric := true }]) } ∧
    s.fresh.changesOnly t ([.swc, .pod, .cnt])) ∧
  -- a gap in a stream is given up, and the stream goes on at the early cell that comes next
  (∀ (d k : Nat) (e : EarlyCell) (s : State), s.steady → s.moves = true → k ≤ 8 → (s.peer d).state = .alive →
    ((s.peer d).rx.get k).early = [e] → e.lost = false → e.cell.seq < 65536 → ((s.peer d).rx.get k).seq < 65536 →
    ∃ t, exec (.reseqTimeout d k) s = .next t ∧ t.tbe.st = max s.tbe.st (e.at_ + s.regF Reg.SWC_RESEQ_CFG 15 0) ∧
      ((t.peer d).rx.get k).seq = (e.cell.seq + 1) % 65536 ∧ ((t.peer d).rx.get k).early = [] ∧
    s.fresh.changesOnly t (Fld.events ++ [.swc, .pod, .tbe, .buf, .tms, .free])) ∧
  -- where that cell starts no packet it is discarded too; the packets that the missing cells touch are counted
  (∀ (d k : Nat) (e : EarlyCell) (s : State), s.steady → s.moves = true → k ≤ 8 → (s.peer d).state = .alive →
    ((s.peer d).rx.get k).early = [e] → e.lost = false → e.cell.seq < 65536 → ((s.peer d).rx.get k).seq < 65536 →
    ((s.peer d).rx.get k).tail = none → e.cell.fpo = 0xFF →
    ∃ t n, exec (.reseqTimeout d k) s = .next t ∧ t.cnt = (countA {} Cnt.SWC_RESEQ_LOSS n s).cnt ∧ 1 ≤ n ∧
      (t.peer d).rx.get k = { (s.peer d).rx.get k with
        seq := (e.cell.seq + 1) % 65536, early := [], part := [], got := 0, tail := none, need := 0, skip := true } ∧
    s.fresh.changesOnly t ([.swc, .cnt, .tbe, .buf, .free]))

/-- The lanes of the express Pod. Clean self-test passes are counted and raise the lane's health. A lane whose retirement is due
leaves its role under a new GEN with LANE_RETIRED; one that has earned its return comes back under a new GEN. FORCE_OUT retires a
lane while two others stay, and is refused otherwise. A lane test starts in Maintenance. A START for a duty lane outside
Maintenance, or for a lane that does not exist (log entry 65), gives IN_SERVICE and changes nothing else; a write without START
sets the unit of the register. A test ends with its event. The scrubber goes over the 69,632 words at an even pace, passes those
that agree and repairs a copy that does not, which takes 64 from the health of its lane. Commands shown to answer a next state by
their own effect: forceOut, laneReturned, patternPass, podLaneRetired, shadowPass, xprTest, xprTestDone, xpScrub. (R399, R402,
R403, R407, R408, R409, R410, R411, R412, R413, R446) -/
def Obligations.PodLanes : Prop :=
  -- self-test passes: a clean one
  (∀ (l : Nat) (s : State), s.running → s.selfTests l = true → s.votePending = false →
    exec (.patternPass l true) s = .next (count (Cnt.XPR_PASS_CLEAN l)
      { s.fresh with
        pod := { s.pod with
          lanes := s.pod.lanes.set l
            { s.podLane l with clean := (s.podLane l).clean + 1, health := min 255 ((s.podLane l).health + 1) } } })) ∧
  (∀ (l : Nat) (a : PodDesc) (f : PodFrame) (s : State), s.running → s.selfTests l = true → s.votePending = false →
    s.pod.shadowOf = some (f, a) → s.pod.shadowDone.getLsbD l = false →
    descBody (s.podDesc l 2 s.pod.gen false f) = descBody a →
    exec (.shadowPass l 0) s = .next (count (Cnt.XPR_PASS_CLEAN l)
      { s.fresh with
        pod := { s.pod with
          shadowDone := s.pod.shadowDone ||| (1#3 <<< l),
          lanes := s.pod.lanes.set l
            { s.podLane l with clean := (s.podLane l).clean + 1, health := min 255 ((s.podLane l).health + 1) } } })) ∧
  -- a lane whose retirement is due leaves its role at the next gap, under a new GEN
  (∀ (l c : Nat) (s : State), s.steady → s.moves = true → l < 3 → (s.podLane l).retired = false → (s.podLane l).retiring = some c →
    (∀ k < 3, k ≠ l → (s.podLane k).retiring = none) →
    ∃ t, exec (.podLaneRetired l) s = .next t ∧ (t.podLane l).retired = true ∧ t.pod.gen = (s.pod.gen + 1) % 256 ∧
      t.isl.log.get (s.isl.total.toNat % 1024) = recordOf s 0xF 1 l (l + 256 * c + 65536 * ((s.pod.gen + 1) % 256)) ∧
    s.fresh.changesOnly t (Fld.events ++ [.pod, .tbe, .flt])) ∧
  -- a lane that has earned its return comes back
  (∀ (l : Nat) (s : State), s.steady → s.moves = true → s.mayReturn l = true → s.podOff = false →
    (∀ k < 3, (s.podLane k).retiring = none) →
    ∃ t, exec (.laneReturned l) s = .next t ∧ t.tbe.st = max s.tbe.st (s.returnAt l) ∧ (t.podLane l).retired = false ∧
      t.pod.gen = (s.pod.gen + 1) % 256 ∧ (t.podLane l).gen = t.pod.gen ∧
    s.fresh.changesOnly t (Fld.events ++ [.pod, .tbe, .flt])) ∧
  -- FORCE_OUT takes a lane out while two others stay, and is refused otherwise
  (∀ (l : Nat) (s : State), s.hostSets 15 → l < 3 → s.pod.forceOut = 0 → (s.podLane l).retired = false →
    (s.podLane l).retiring = none → 2 ≤ (s.inService.filter (fun k => k != l && (s.podLane k).retiring.isNone)).length →
    exec (.forceOut (BitVec.ofNat 32 (2 ^ l))) s = .next
      { s.fresh with
        pod := { s.pod with
          forceOut := 1#3 <<< l,
          lanes := s.pod.lanes.set l { s.podLane l with retiring := some 1 } } }) ∧
  (∀ (l : Nat) (s : State), s.hostSets 15 → l < 3 → s.pod.forceOut = 0 → (s.podLane l).retired = false →
    (s.podLane l).retiring = none → (s.inService.filter (fun k => k != l && (s.podLane k).retiring.isNone)).length < 2 →
    exec (.forceOut (BitVec.ofNat 32 (2 ^ l))) s = .next { s.fresh with pod := { s.pod with forceRefused := true } }) ∧
  -- lane tests
  (∀ (v : Word32) (s : State), s.hostSets 15 → bit v.toNat 8 = true → s.pod.test.busy = false → v.toNat % 4 < 3 →
    s.md.mode = .maintenance →
    exec (.xprTest v) s = .next
      { s.fresh with
        regs := s.regs.set Reg.XPR_TEST (BitVec.ofNat 32 (v.toNat % 4)),
        pod := { s.pod with test := { unit := v.toNat % 4, busy := true, result := 0 } } }) ∧
  -- without START the write sets the unit; a START for a lane in service, or for none, changes nothing but the result
  (∀ (v : Word32) (s : State), s.hostSets 15 → bit v.toNat 8 = false →
    exec (.xprTest v) s = .next { s.fresh with regs := s.regs.set Reg.XPR_TEST (BitVec.ofNat 32 (v.toNat % 4)) }) ∧
  (∀ (v : Word32) (s : State), s.hostSets 15 → bit v.toNat 8 = true →
    (v.toNat % 4 = 3 ∨ s.md.mode ≠ .maintenance ∧ (s.podLane (v.toNat % 4)).retired = false ∧ (s.podLane (v.toNat % 4)).role ≠ 2) →
    exec (.xprTest v) s = .next { s.fresh with pod := { s.pod with test := { s.pod.test with result := 3 } } }) ∧
  (∀ (pass : Bool) (s : State), s.running → s.moves = true → s.pod.test.busy = true →
    exec (.xprTestDone pass) s = .next (raise 0xF 7 s.pod.test.unit (s.pod.test.unit + 256 * (if pass then 1 else 2))
      { s.fresh with
        pod := { s.pod with test := { s.pod.test with busy := false, result := if pass then 1 else 2 } } })) ∧
  -- the scrubber: a word whose copies agree, and one whose first copy does not
  (∀ s : State, s.steady → s.moves = true → s.pod.live = true →
    (let rw := decide (65536 ≤ s.pod.scrub)
     let k := if rw then s.pod.scrub - 65536 else s.pod.scrub
     ∀ l < 3, s.podWord rw l k = s.podWord rw 0 k) →
    ∃ t, exec (.xpScrub []) s = .next t ∧ t.tbe.st = max s.tbe.st (paceDue 10000000 69632 s.pod.scrub s.pod.scrubAt) ∧
      t.pod.scrub = (s.pod.scrub + 1) % 69632 ∧ t.pod.scrubAt = paceDue 10000000 69632 s.pod.scrub s.pod.scrubAt ∧
      (∀ l < 3, ∀ k < 65536, t.podWord false l k = s.podWord false l k) ∧
      (∀ l < 3, ∀ k < 4096, t.podWord true l k = s.podWord true l k) ∧ (∀ l < 3, (t.podLane l).health = (s.podLane l).health) ∧
    s.fresh.changesOnly t [.pod, .tbe]) ∧
  (∀ (e v : Word32) (s : State), s.steady → s.moves = true → s.pod.live = true → s.pod.scrub < 65536 →
    (∀ l < 3, (s.podLane l).ent.get s.pod.scrub = v) → e ≠ 0 → (s.podLane 0).retired = false →
    ∃ t, exec (.xpScrub [e.setWidth 128]) s = .next t ∧ (t.podLane 0).ent.get s.pod.scrub = v ∧
      (t.podLane 0).health = (s.podLane 0).health - 64 ∧ t.pod.scrub = (s.pod.scrub + 1) % 69632 ∧
    s.fresh.changesOnly t (Fld.events ++ [.pod, .tbe, .flt]))

/-- The HBM controllers. A request that comes enters the queue of its pseudo-channel, here one that a sweep keeps waiting; a read of
an open row leaves the queue at once; a read of a row whose copy is in progress waits. A refresh that can be postponed no longer
goes before any request. A pseudo-channel under relocation copies its next chunk (log entry 74 says where to and in which order).
Corrected data enter the row's count and are written back where no write to their burst is queued; uncorrectable data poison their
place. The patrol goes on at the even pace of a round a day and opens the row that it reads; a bank is refreshed at its interval,
in half of it in a stack above 85 C (the interval is JESD238's, a free value); the activate trackers clear every 32 ms. A spared
row is remapped with ROW_SPARED, and what its copy could not read stays poisoned; the end of a relocation stops the pseudo-
channel. A delay write in Maintenance applies at once with nothing waiting, and otherwise waits for the queue to empty. March
tests and sweeps of a host take place in Maintenance, and a march test of a retired pseudo-channel in every mode; a START for one
in service gives IN_SERVICE and changes nothing else. A sweep ends after 100,000 ns in each of its steps (log entry 65), and a
march test has written every burst. A leak boundary takes one from every count of the units in service. Commands shown to answer a
next state by their own effect: hbmCommand, hbmReadData, hmcDlyWrite, hmcTestDone, leakBoundary, marchTest, patrolScrub, refresh,
relocationDone, rowSpared, sweepTest, trackerClear. (R424, R425, R426, R427, R428, R429, R431, R432, R435, R436, R439, R446) -/
def Obligations.HbmControllers : Prop :=
  -- a request that has come enters the queue of its pseudo-channel, here one that a sweep keeps waiting; a read whose row is open
  -- leaves it
  (∀ (n a : Nat) (rmw : BurstOutcome) (bad : List Nat) (s : State), s.running → n < 96 → (s.hbmAt a).1 = n → s.pcRetired n = false →
    (s.pc n).relocating = false → (s.pc n).stopped = false → (s.pc n).sparing = [] → (s.pc n).dlyHeld = none → (s.pc n).heldReads = [] →
    (s.pc n).heldWrites = [] → (s.pc n).reads.length < 64 → s.refreshOverdue n = none → s.swept n = true →
    ∃ t, exec (.hbmCommand n [a] [] rmw bad) s = .next t ∧
      (t.pc n).reads = (s.pc n).reads ++ [{ addr := a, at_ := s.now, no := (s.pc n).arrivals }] ∧
    s.fresh.changesOnly t ([.hmc, .cnt, .free])) ∧
  (∀ (n l : Nat) (q : HbmReq) (rmw : BurstOutcome) (bad : List Nat) (s : State), s.running → n < 96 → (s.pc n).relocating = false →
    (s.pc n).stopped = false → s.swept n = false → s.refreshOverdue n = none → (s.pc n).reads = [q] → (s.pc n).writes = [] →
    (s.pc n).heldReads = [] → (s.pc n).heldWrites = [] → (s.pc n).sparing = [] → (s.pc n).dlyHeld = none → s.now < q.at_ + 2000 →
    l = (s.hbmAt q.addr).2 → (s.pc n).rows.get (s.physRow n l).1 = some (s.physRow n l).2 →
    ∃ t, exec (.hbmCommand n [] [] rmw bad) s = .next t ∧ (t.pc n).reads = [] ∧ t.cnt = s.cnt ∧
    s.fresh.changesOnly t ([.hmc])) ∧
  -- a refresh that can be postponed no longer goes before any request
  (∀ (n b : Nat) (rmw : BurstOutcome) (bad : List Nat) (s : State), s.running → n < 96 → (s.pc n).relocating = false →
    (s.pc n).stopped = false → (s.pc n).sparing = [] → s.refreshOverdue n = some b →
    exec (.hbmCommand n [] [] rmw bad) s = .next
      { s.fresh with
        hmc := { s.hmc with pcs := s.hmc.pcs.upd n (fun p => { p with refreshed := p.refreshed.set b s.now }) } }) ∧
  -- a read of a row whose copy is in progress waits
  (∀ (n : Nat) (q : HbmReq) (rmw : BurstOutcome) (bad : List Nat) (s : State), s.running → n < 96 → (s.pc n).relocating = false →
    (s.pc n).stopped = false → s.swept n = false → s.patterned n = false → s.refreshOverdue n = none → (s.pc n).reads = [q] →
    (s.pc n).writes = [] → (s.pc n).heldReads = [] → (s.pc n).heldWrites = [] → (s.pc n).dlyHeld = none →
    Pc_sparing (s.pc n) (hbmBank (s.hbmAt q.addr).2) (hbmRow (s.hbmAt q.addr).2) = true →
    (∀ x ∈ (s.pc n).sparing, s.now < x.2.2 + 2000) →
    ∃ t, exec (.hbmCommand n [] [] rmw bad) s = .next t ∧ (t.pc n).reads = [q] ∧ s.fresh.changesOnly t ([.hmc])) ∧
  -- a pseudo-channel under relocation copies its next chunk
  (∀ (n : Nat) (rmw : BurstOutcome) (bad : List Nat) (s : State), s.running → n < 96 → (s.pc n).relocating = true →
    s.now < (s.pc n).relocAt + 1000000000 → (s.pc n).sparing = [] → (s.pc n).reads = [] → (s.pc n).writes = [] →
    (s.pc n).heldReads = [] → (s.pc n).heldWrites = [] →
    ∃ t, exec (.hbmCommand n [] [] rmw bad) s = .next t ∧ (t.pc n).copied = (s.pc n).copied + 1 ∧
    s.fresh.changesOnly t ([.hmc, .cnt])) ∧
  -- read data: good, corrected, uncorrectable
  (∀ (a : Nat) (s : State), s.running → (s.pc (s.hbmAt a).1).poisoned.get ((s.hbmAt a).2 / 32) = false →
    exec (.hbmReadData a .ok) s = .next s.fresh) ∧
  (∀ (a n l k old : Nat) (s : State), s.running → a < 0xC00000000 → s.hbmAt a = (n, l) → s.pcRetired n = false →
    (s.pc n).poisoned.get (l / 32) = false → s.rowEntry n (hbmBank l) (hbmRow l) = (k, old) →
    ∃ t, exec (.hbmReadData a .corrected) s = .next t ∧
      t.fltRow = s.fltRow.set (64 * n + k) (some (hbmBank l, hbmRow l, min 65535 (old + 1))) ∧
    s.fresh.changesOnly t (Fld.events ++ [.hmc, .flt, .fltRow])) ∧
  -- a corrected burst is written back, where no write to it is queued
  (∀ (a n l k old b : Nat) (s : State), s.running → a < 0xC00000000 → s.hbmAt a = (n, l) → s.pcRetired n = false →
    (s.pc n).poisoned.get (l / 32) = false → s.rowEntry n (hbmBank l) (hbmRow l) = (k, old) → old + 1 < s.thresh 2 →
    (s.flt.get (fltKey 3 n)).count + 1 < s.thresh 3 → b = hbmAddr n l / 32 * 32 → (s.hbmAt b).1 = n → (s.pc n).heldReads = [] →
    (s.pc n).heldWrites = [] → (s.pc n).dlyHeld = none → (∀ q ∈ (s.pc n).writes, q.addr / 32 ≠ b / 32) → (s.pc n).writes.length < 32 →
    ∃ t, exec (.hbmReadData a .corrected) s = .next t ∧
      (t.pc n).writes = (s.pc n).writes ++ [{ addr := b, at_ := s.now, whole := true, no := (s.pc n).arrivals }] ∧
    s.fresh.changesOnly t (Fld.events ++ [.hmc, .flt, .fltRow])) ∧
  (∀ (a n l : Nat) (s : State), s.running → a < 0xC00000000 → s.hbmAt a = (n, l) → s.pcRetired n = false →
    ∃ t, exec (.hbmReadData a .uncorrectable) s = .next t ∧ (t.pc n).poisoned.get (l / 32) = true ∧
    s.fresh.changesOnly t (Fld.events ++ [.hmc, .flt, .fltRow])) ∧
  -- the patrol scrubber activates the row of its burst, where it is not open, and reads it
  (∀ (n due : Nat) (s : State), s.running → n < 96 → (s.pc n).stopped = false → s.swept n = false → s.md.mode ≠ .load →
    (s.pc n).poisoned.get (s.pc n).scrub = false → due = paceDue 86400000000000 16777216 (s.pc n).scrub (s.pc n).scrubAt →
    exec (.patrolScrub n .ok) s = .next (openRow n (32 * (s.pc n).scrub)
      { s.fresh with
        tbe := { s.tbe with st := max s.tbe.st due },
        hmc := { s.hmc with
          pcs := s.hmc.pcs.set n { s.pc n with scrub := ((s.pc n).scrub + 1) % 16777216, scrubAt := due } } })) ∧
  -- refresh, at half the interval in a stack above 85 C, and the activate trackers
  (∀ (n bank : Nat) (hot : BitVec 3) (s : State), s.running → n < 96 → bank < 32 → (s.pc n).stopped = false →
    ∃ t, exec (.refresh n bank hot) s = .next t ∧ t.hmc.hot = hot ∧
      t.tbe.st = max s.tbe.st ((s.pc n).refreshed.get bank +
        (if hot.getLsbD (n / 32) then Config.refreshHalf + 1 else 2 * (Config.refreshHalf + 1))) ∧
      t.hmc.pcs = s.hmc.pcs.upd n (fun p => { p with refreshed := p.refreshed.set bank t.tbe.st }) ∧
    s.fresh.changesOnly t [.hmc, .tbe]) ∧
  (∀ s : State, s.running →
    exec .trackerClear s = .next
      { s.fresh with
        tbe := { s.tbe with st := max s.tbe.st ((s.hmc.trackSeen + 1) * 32000000) },
        hmc := { s.hmc with
          trackSeen := max s.tbe.st ((s.hmc.trackSeen + 1) * 32000000) / 32000000,
          pcs := s.hmc.pcs.mapAll (fun p => { p with track := {} }) } }) ∧
  -- a spared row, with the bursts that its copy could not read, and the end of a relocation
  (∀ (n bank row : Nat) (bad own : List Nat) (s : State), s.running → Pc_sparing (s.pc n) bank row = true → (s.pc n).retired = false →
    own = (List.range 64).filter (fun k => (s.fltRow.get (64 * n + k)).any (fun x => x.1 == bank && x.2.1 == row)) →
    ∃ t, exec (.rowSpared n bank row bad) s = .next t ∧
      (t.pc n).sparing = (s.pc n).sparing.filter (fun x => !(x.1 == bank && x.2.1 == row)) ∧ (t.pc n).spares = (s.pc n).spares + 1 ∧
      (t.pc n).remap = (s.pc n).remap.set (16384 * bank + row) (some (s.pc n).spares) ∧
      (∀ j ∈ bad, (t.pc n).poisoned.get (rowLocal bank row / 32 + j) = true) ∧
      t.fltRow = own.foldl (fun m k => m.set (64 * n + k) none) s.fltRow ∧
      t.isl.log.get (s.isl.total.toNat % 1024) = recordOf s 0xE 2 n (n + 128 * bank + 4096 * row) ∧
    s.fresh.changesOnly t (Fld.events ++ [.hmc, .fltRow])) ∧
  (∀ (n : Nat) (bad : List Nat) (s : State), s.running → (s.pc n).relocating = true →
    ∃ t, exec (.relocationDone n bad) s = .next t ∧ (t.pc n).relocating = false ∧ (t.pc n).stopped = true ∧
      (t.pc n).copied = max (s.pc n).copied movedChunks ∧ s.fresh.changesOnly t [.hmc, .cnt]) ∧
  -- a delay write with nothing waiting applies at once; outside Maintenance it is ignored
  (∀ (n k : Nat) (v : Word32) (s : State), s.hostSets 14 → n < 96 → k < 4 → s.md.mode = .maintenance → (s.pc n).dlyHeld = none →
    (s.pc n).reads = [] → (s.pc n).writes = [] → (s.pc n).heldReads = [] → (s.pc n).heldWrites = [] →
    exec (.hmcDlyWrite n k v) s = .next
      { s.fresh with
        hmc := { s.hmc with pcs := s.hmc.pcs.set n { s.pc n with dly := datPut (s.pc n).dly (4 * k) 4 v.toNat } } }) ∧
  -- with a request in the queue it waits, and closes the queue
  (∀ (n k : Nat) (v : Word32) (s : State), s.hostSets 14 → n < 96 → k < 4 → s.md.mode = .maintenance → (s.pc n).dlyHeld = none →
    ((s.pc n).reads ≠ [] ∨ (s.pc n).writes ≠ []) →
    exec (.hmcDlyWrite n k v) s = .next
      { s.fresh with
        hmc := { s.hmc with
          pcs := s.hmc.pcs.set n { s.pc n with dlyHeld := some (datPut (s.pc n).dly (4 * k) 4 v.toNat) } } }) ∧
  -- tests and sweeps
  (∀ (v : Word32) (w : Nat) (s : State), s.hostSets 14 → w = setBit v.toNat 26 false → bit w 28 = true → s.hmc.test.busy = false →
    w % 128 < 96 → bit w 26 = false → (s.md.mode = .maintenance ∨ s.pcRetired (w % 128) = true) →
    exec (.marchTest v) s = .next
      { s.fresh with
        regs := s.regs.set Reg.HMC_TEST (BitVec.ofNat 32 (w &&& 0x0C0F007F)),
        hmc := { s.hmc with
          test := { unit := w % 128, busy := true, result := 0 }, testSweep := false, testParam := bits w 19 16, testLoad := bit w 27,
          testAt := s.now } }) ∧
  (∀ (v : Word32) (w : Nat) (s : State), s.hostSets 14 → w = setBit v.toNat 26 true → bit w 28 = true → s.hmc.test.busy = false →
    w % 128 < 96 → bit w 26 = true → s.md.mode = .maintenance → bits w 19 16 ≤ 11 →
    exec (.sweepTest v) s = .next
      { s.fresh with
        regs := s.regs.set Reg.HMC_TEST (BitVec.ofNat 32 (w &&& 0x0C0F007F)),
        hmc := { s.hmc with
          test := { unit := w % 128, busy := true, result := 0 }, testSweep := true, testParam := bits w 19 16, testLoad := bit w 27,
          testAt := s.now } }) ∧
  -- a START for a pseudo-channel in service changes nothing but the result
  (∀ (v : Word32) (w : Nat) (s : State), s.hostSets 14 → w = setBit v.toNat 26 false → bit w 28 = true → bit w 26 = false →
    (95 < w % 128 ∨ s.md.mode ≠ .maintenance ∧ s.pcRetired (w % 128) = false) →
    exec (.marchTest v) s = .next { s.fresh with hmc := { s.hmc with test := { s.hmc.test with result := 3 } } }) ∧
  -- a sweep ends after 100,000 ns in each of its steps, and a march test has written the whole pseudo-channel
  (∀ (pass : Bool) (left right : Nat) (u s : State), s.running → s.hmc.test.busy = true → s.hmc.testSweep = true →
    u = runTo (s.hmc.testAt + (if s.hmc.testParam = 11 then 128 else 256) * 100000) s.fresh →
    exec (.hmcTestDone pass left right) s = .next
      (raise 0xE 6 s.hmc.test.unit (s.hmc.test.unit + 256 * (if pass then 1 else 2) + 1024)
        { u with
          hmc := { s.hmc with
            test := { s.hmc.test with busy := false, result := if pass then 1 else 2 },
            sweep := left % 256 + 256 * (right % 256) } })) ∧
  (∀ (pass : Bool) (left right : Nat) (s : State), s.running → s.hmc.test.busy = true → s.hmc.testSweep = false →
    exec (.hmcTestDone pass left right) s = .next
      (raise 0xE 6 s.hmc.test.unit (s.hmc.test.unit + 256 * (if pass then 1 else 2))
        { s.fresh with
          hmc := { s.hmc with
            pcs := s.hmc.pcs.upd s.hmc.test.unit (fun p => { p with poisoned := {} }),
            test := { s.hmc.test with busy := false, result := if pass then 1 else 2 } } })) ∧
  -- a leak boundary takes one from every count of a unit that is not retired
  (∀ (cls u : Nat) (s : State), s.running → cls ≤ 6 → cls ≠ 4 → cls ≠ 2 → u < 8192 →
    (s.flt.get (fltKey cls u)).retired = false →
    ∃ t, exec (.leakBoundary cls) s = .next t ∧ t.tbe.st = max s.tbe.st ((s.tbe.leakSeen.get cls + 1) * s.leakPeriod cls) ∧
      (t.flt.get (fltKey cls u)).count = (s.flt.get (fltKey cls u)).count - 1 ∧
    s.fresh.changesOnly t ([.tbe, .flt, .fltRow]))

/-- Micro-operations that write a register. NOP, ADDI, SHL, SHR, EXT, INS, MUL, CSUP, HASH, TIME, GETF, PUTF, SEL, MOVI and MOVK,
issued by a thread that stands at their microword, write the value of R305 to their register and change nothing else but what
every micro-operation does (State.uop). HASH and CSUP are stated with the functions crc32cAdvance and csup of the model. Commands
shown to answer a next state by their own effect: uAddi, uCsup, uExt, uGetf, uHash, uIns, uMovi, uMovk, uMul, uNop, uPutf, uSel,
uShl, uShr, uTime. (R285, R304, R305) -/
def Obligations.RegisterMicroOps : Prop :=
  (∀ (t d a b imm : Nat) (s : State), d < 16 → a < 16 → b < 16 → imm < 16384 → s.issues t (microR 0x00 d a b imm) →
    exec (.uNop t d a b imm) s = .next (s.uop t (issuedThread (s.th t)))) ∧
  (∀ (t d a b imm : Nat) (s : State), d < 16 → a < 16 → b < 16 → imm < 16384 → s.issues t (microR 0x06 d a b imm) →
    exec (.uAddi t d a b imm) s = .next (s.uop t (withReg (issuedThread (s.th t)) d (thReg (s.th t) a + BitVec.ofInt 64 (sext 14 imm))))) ∧
  (∀ (t d a b imm : Nat) (s : State), d < 16 → a < 16 → b < 16 → imm < 16384 → s.issues t (microR 0x07 d a b imm) →
    exec (.uShl t d a b imm) s = .next (s.uop t (withReg (issuedThread (s.th t)) d
      (thReg (s.th t) a <<< (if bit imm 6 then (thReg (s.th t) b).toNat % 64 else imm % 64))))) ∧
  (∀ (t d a b imm : Nat) (s : State), d < 16 → a < 16 → b < 16 → imm < 16384 → s.issues t (microR 0x08 d a b imm) →
    exec (.uShr t d a b imm) s = .next (s.uop t (withReg (issuedThread (s.th t)) d
      (thReg (s.th t) a >>> (if bit imm 6 then (thReg (s.th t) b).toNat % 64 else imm % 64))))) ∧
  (∀ (t d a b imm : Nat) (s : State), d < 16 → a < 16 → b < 16 → imm < 16384 → s.issues t (microR 0x09 d a b imm) →
    exec (.uExt t d a b imm) s = .next (s.uop t (withReg (issuedThread (s.th t)) d
      (BitVec.ofNat 64 ((thReg (s.th t) a).toNat / 2 ^ (imm % 64) % 2 ^ (imm / 64 % 64 + 1)))))) ∧
  (∀ (t d a b imm : Nat) (s : State), d < 16 → a < 16 → b < 16 → imm < 16384 → imm % 64 + (imm / 64 % 64 + 1) ≤ 64 →
    s.issues t (microR 0x0A d a b imm) →
    ∃ v : Word64, exec (.uIns t d a b imm) s = .next (s.uop t (withReg (issuedThread (s.th t)) d v)) ∧
      (∀ k < 64, v.getLsbD k = if imm % 64 ≤ k ∧ k < imm % 64 + (imm / 64 % 64 + 1) then (thReg (s.th t) a).getLsbD (k - imm % 64)
        else (thReg (s.th t) d).getLsbD k)) ∧
  (∀ (t d a b imm : Nat) (s : State), d < 16 → a < 16 → b < 16 → imm < 16384 → s.issues t (microR 0x1C d a b imm) →
    exec (.uMul t d a b imm) s = .next (s.uop t (withReg (issuedThread (s.th t)) d
      (BitVec.ofNat 64 ((thReg (s.th t) a).toNat % 2 ^ 32 * ((thReg (s.th t) b).toNat % 2 ^ 32)))))) ∧
  (∀ (t d a b imm : Nat) (s : State), d < 16 → a < 16 → b < 16 → imm < 16384 → s.issues t (microR 0x1A d a b imm) →
    exec (.uCsup t d a b imm) s = .next (s.uop t (withReg (issuedThread (s.th t)) d
      (BitVec.ofNat 64 (csup (thReg (s.th t) d).toNat (thReg (s.th t) a).toNat (thReg (s.th t) b).toNat imm))))) ∧
  (∀ (t d a b imm : Nat) (s : State), d < 16 → a < 16 → b < 16 → imm < 16384 → s.issues t (microR 0x1B d a b imm) →
    exec (.uHash t d a b imm) s = .next (s.uop t (withReg (issuedThread (s.th t)) d
      (BitVec.ofNat 64 (crc32cAdvance ((thReg (s.th t) d).toNat % 2 ^ 32) (leBytes (imm % 8 + 1) (thReg (s.th t) a).toNat)))))) ∧
  (∀ (t d a b imm : Nat) (s : State), d < 16 → a < 16 → b < 16 → imm < 4 → s.issues t (microR 0x1F d a b imm) →
    exec (.uTime t d a b imm) s = .next (s.uop t (withReg (issuedThread (s.th t)) d
      (BitVec.ofNat 64 (if imm = 0 then s.now % 2 ^ 64 else if imm = 1 then s.ageStamp else if imm = 2 then s.epoch else s.ms))))) ∧
  (∀ (t d a b imm : Nat) (s : State), d < 16 → a < 16 → b < 16 → imm < 7 → s.issues t (microR 0x11 d a b imm) →
    exec (.uGetf t d a b imm) s = .next (s.uop t (withReg (issuedThread (s.th t)) d
      (if imm = 0 then thReg (s.th t) (bits (s.th t).live.fi.toNat 23 21)
       else if imm = 1 then thReg (s.th t) (bits (s.th t).live.fi.toNat 20 18)
       else if imm = 2 then BitVec.ofInt 64 (sext 16 (bits (s.th t).live.fi.toNat 15 0))
       else if imm = 3 then BitVec.ofNat 64 (bits (s.th t).live.fi.toNat 15 0)
       else if imm = 4 then BitVec.ofNat 64 (s.th t).live.fi.toNat
       else if imm = 5 then BitVec.ofNat 64 (s.th t).live.fipc
       else BitVec.ofNat 64 (bits (s.th t).live.fi.toNat 20 18))))) ∧
  (∀ (t d a b imm : Nat) (s : State), d < 16 → a < 16 → b < 16 → imm < 2 → s.issues t (microR 0x12 d a b imm) →
    exec (.uPutf t d a b imm) s = .next (s.uop t (withReg (issuedThread (s.th t))
      (if imm = 0 then bits (s.th t).live.fi.toNat 23 21 else bits (s.th t).live.fi.toNat 20 18) (thReg (s.th t) a)))) ∧
  (∀ (t d a b imm : Nat) (c : Bool) (s : State), d < 16 → a < 16 → b < 16 → imm < 16384 → s.issues t (microR 0x0F d a b imm) →
    condHolds (s.th t).live (imm % 16) = some c →
    exec (.uSel t d a b imm) s = .next (s.uop t (withReg (issuedThread (s.th t)) d (thReg (s.th t) (if c then a else b))))) ∧
  (∀ (t d sh imm : Nat) (s : State), d < 16 → sh < 4 → imm < 65536 → s.issues t (microI 0x0B d sh imm) →
    exec (.uMovi t d sh imm) s = .next (s.uop t (withReg (issuedThread (s.th t)) d (BitVec.ofNat 64 (imm * 2 ^ (16 * sh)))))) ∧
  (∀ (t d sh imm : Nat) (s : State), d < 16 → sh < 4 → imm < 65536 → s.issues t (microI 0x0C d sh imm) →
    ∃ v : Word64, exec (.uMovk t d sh imm) s = .next (s.uop t (withReg (issuedThread (s.th t)) d v)) ∧
      (∀ k < 64, v.getLsbD k = if 16 * sh ≤ k ∧ k < 16 * sh + 16 then imm.testBit (k - 16 * sh) else (thReg (s.th t) d).getLsbD k))

/-- Micro-operations that set flags, and the branch. ADD and SUB write their result and Z, N, C and V; CMP and CMPI only the flags.
AND, OR and XOR write their result, Z and N; C and V are free values and the statement holds for every one. FLAG sets and clears
the flags it names. BR goes to its target where its condition holds and on otherwise. Commands shown to answer a next state by
their own effect: uAdd, uAnd, uBr, uCmp, uCmpi, uFlag, uOr, uSub, uXor. (R285, R297, R304, R305) -/
def Obligations.FlagMicroOps : Prop :=
  (∀ (t d a b imm : Nat) (s : State), d < 16 → a < 16 → b < 16 → imm < 16384 → s.issues t (microR 0x01 d a b imm) →
    exec (.uAdd t d a b imm) s = .next (s.uop t
      (let h := issuedThread (s.th t)
       let x := thReg (s.th t) a
       let y := thReg (s.th t) b
       { h with live := { h.live with m := h.live.m.set d (x + y), z := x + y == 0, n := (x + y).msb,
                                      c := decide (2 ^ 64 ≤ x.toNat + y.toNat),
                                      v := x.msb == y.msb && (x + y).msb != x.msb } }))) ∧
  (∀ (t d a b imm : Nat) (s : State), d < 16 → a < 16 → b < 16 → imm < 16384 → s.issues t (microR 0x02 d a b imm) →
    exec (.uSub t d a b imm) s = .next (s.uop t
      (let h := issuedThread (s.th t)
       let x := thReg (s.th t) a
       let y := thReg (s.th t) b
       { h with live := { h.live with m := h.live.m.set d (x - y), z := x - y == 0, n := (x - y).msb,
                                      c := decide (x.toNat < y.toNat),
                                      v := x.msb != y.msb && (x - y).msb != x.msb } }))) ∧
  (∀ (t d a b imm : Nat) (s : State), d < 16 → a < 16 → b < 16 → imm < 16384 → s.issues t (microR 0x0D d a b imm) →
    exec (.uCmp t d a b imm) s = .next (s.uop t
      (let h := issuedThread (s.th t)
       let x := thReg (s.th t) a
       let y := thReg (s.th t) b
       { h with live := { h.live with z := x - y == 0, n := (x - y).msb, c := decide (x.toNat < y.toNat),
                                      v := x.msb != y.msb && (x - y).msb != x.msb } }))) ∧
  (∀ (t d a b imm : Nat) (s : State), d < 16 → a < 16 → b < 16 → imm < 16384 → s.issues t (microR 0x0E d a b imm) →
    exec (.uCmpi t d a b imm) s = .next (s.uop t
      (let h := issuedThread (s.th t)
       let x := thReg (s.th t) a
       let y := BitVec.ofNat 64 imm
       { h with live := { h.live with z := x - y == 0, n := (x - y).msb, c := decide (x.toNat < imm),
                                      v := x.msb != y.msb && (x - y).msb != x.msb } }))) ∧
  -- C and V of a logical operation are free values: the statement holds for every one
  (∀ (t d a b imm : Nat) (s : State), d < 16 → a < 16 → b < 16 → imm < 16384 → s.issues t (microR 0x03 d a b imm) →
    ∃ c v : Bool, exec (.uAnd t d a b imm) s = .next { s.uop t
      (let h := issuedThread (s.th t)
       let r := thReg (s.th t) a &&& thReg (s.th t) b
       { h with live := { h.live with m := h.live.m.set d r, z := r == 0, n := r.msb, c := c, v := v } }) with free := s.free + 1 }) ∧
  (∀ (t d a b imm : Nat) (s : State), d < 16 → a < 16 → b < 16 → imm < 16384 → s.issues t (microR 0x04 d a b imm) →
    ∃ c v : Bool, exec (.uOr t d a b imm) s = .next { s.uop t
      (let h := issuedThread (s.th t)
       let r := thReg (s.th t) a ||| thReg (s.th t) b
       { h with live := { h.live with m := h.live.m.set d r, z := r == 0, n := r.msb, c := c, v := v } }) with free := s.free + 1 }) ∧
  (∀ (t d a b imm : Nat) (s : State), d < 16 → a < 16 → b < 16 → imm < 16384 → s.issues t (microR 0x05 d a b imm) →
    ∃ c v : Bool, exec (.uXor t d a b imm) s = .next { s.uop t
      (let h := issuedThread (s.th t)
       let r := thReg (s.th t) a ^^^ thReg (s.th t) b
       { h with live := { h.live with m := h.live.m.set d r, z := r == 0, n := r.msb, c := c, v := v } }) with free := s.free + 1 }) ∧
  (∀ (t d a b imm : Nat) (s : State), d < 16 → a < 16 → b < 16 → imm < 16384 → s.issues t (microR 0x22 d a b imm) →
    exec (.uFlag t d a b imm) s = .next (s.uop t
      (let h := issuedThread (s.th t)
       let f := fun (k : Nat) (old : Bool) => (old || imm.testBit k) && !imm.testBit (8 + k)
       { h with live := { h.live with z := f 0 h.live.z, c := f 1 h.live.c, n := f 2 h.live.n, v := f 3 h.live.v,
                                      ok := f 4 h.live.ok, epw := f 5 h.live.epw, wd := h.live.wd || imm.testBit 7 } }))) ∧
  (∀ (t cond target : Nat) (c : Bool) (s : State), cond < 16 → target < 65536 → s.issues t (microB 0x10 cond target) →
    condHolds (s.th t).live cond = some c →
    exec (.uBr t cond target) s = .next (s.uop t
      (let h := issuedThread (s.th t)
       { h with live := { h.live with upc := if c then target else h.live.upc } })))

/-- Micro-operations on the windows. LDL, LDN, STL, STN, LDF, STF and MOVB move bytes between a register and a window, or between
windows, in the byte order of their name, where the access lies inside its window; a store to scratch writes the stored bytes and
no others. A routine reads the clove window as zeros, and the access is counted. An error of the accessed memory that its ECC
corrects lets the operation go on; an uncorrectable one ends the run with DROP (stated for a run without a clove). ADJ with a
positive amount puts zero bytes in front of the frame and with a negative one takes bytes off, within their budgets. CNT adds one
packet and the bytes of register b to its program counter. Commands shown to answer a next state by their own effect: uAdj, uCnt,
uLdf, uLdl, uLdn, uMovb, uStf, uStl, uStn. (R289, R290, R291, R292, R296, R304, R305, R311, R316, R438) -/
def Obligations.WindowMicroOps : Prop :=
  -- a load inside its window; a routine sees the clove window as zeros, which the next clause states
  (∀ (t d x win size off o : Nat) (xen : Bool) (s : State), d < 16 → x < 16 → win < 4 → size < 4 → off < 8192 →
    o = (off + (if xen then (thReg (s.th t) x).toNat else 0)) % 2 ^ 64 → o + 2 ^ size ≤ windowSize (s.th t) win →
    (win ≠ 0 ∨ (s.th t).tm = false) → s.issues t (microW 0x13 d x xen win size off) →
    exec (.uLdl t d x xen win size off .ok) s = .next (s.uop t (withReg (issuedThread (s.th t)) d
      (BitVec.ofNat 64 (leVal ((List.range (2 ^ size)).map (fun k => windowByte s t win (o + k)))))))) ∧
  (∀ (t d x win size off o : Nat) (xen : Bool) (s : State), d < 16 → x < 16 → win < 4 → size < 4 → off < 8192 →
    o = (off + (if xen then (thReg (s.th t) x).toNat else 0)) % 2 ^ 64 → o + 2 ^ size ≤ windowSize (s.th t) win →
    (win ≠ 0 ∨ (s.th t).tm = false) → s.issues t (microW 0x14 d x xen win size off) →
    exec (.uLdn t d x xen win size off .ok) s = .next (s.uop t (withReg (issuedThread (s.th t)) d
      (BitVec.ofNat 64 (beVal ((List.range (2 ^ size)).map (fun k => windowByte s t win (o + k)))))))) ∧
  (∀ (t d x size off o : Nat) (xen : Bool) (s : State), d < 16 → x < 16 → size < 4 → off < 8192 →
    o = (off + (if xen then (thReg (s.th t) x).toNat else 0)) % 2 ^ 64 → o + 2 ^ size ≤ 128 → (s.th t).tm = true →
    s.issues t (microW 0x13 d x xen 0 size off) →
    ∃ u, exec (.uLdl t d x xen 0 size off .ok) s = .next u ∧
      u.cnt = (count (Cnt.ENG_TRAP_WINDOW (thCluster t)) (count (Cnt.ENG_UOPS (thCluster t)) s)).cnt ∧
      u = { s.uop t (withReg (issuedThread (s.th t)) d 0) with cnt := u.cnt }) ∧
  (∀ (t d a b imm win n o : Nat) (net : Bool) (s : State), d < 16 → a < 16 → b < 16 → imm < 16384 →
    s.issues t (microR 0x17 d a b imm) → fiAccess (s.th t) = (win, n, net, o) → o + n ≤ windowSize (s.th t) win →
    (win ≠ 0 ∨ (s.th t).tm = false) →
    exec (.uLdf t d a b imm .ok) s = .next (s.uop t (withReg (issuedThread (s.th t)) d
      (BitVec.ofNat 64 ((if net then beVal else leVal) ((List.range n).map (fun k => windowByte s t win (o + k)))))))) ∧
  -- a store that its window takes
  (∀ (t d x win size off : Nat) (xen : Bool) (u s : State), d < 16 → x < 16 → win < 4 → size < 4 → off < 8192 →
    s.issues t (microW 0x15 d x xen win size off) →
    storeBytes t win ((off + (if xen then (thReg (s.th t) x).toNat else 0)) % 2 ^ 64) (leBytes (2 ^ size) (thReg (s.th t) d).toNat)
      (s.uop t (issuedThread (s.th t))) = some u →
    exec (.uStl t d x xen win size off .ok) s = .next u) ∧
  (∀ (t d x win size off : Nat) (xen : Bool) (u s : State), d < 16 → x < 16 → win < 4 → size < 4 → off < 8192 →
    s.issues t (microW 0x16 d x xen win size off) →
    storeBytes t win ((off + (if xen then (thReg (s.th t) x).toNat else 0)) % 2 ^ 64) (beBytes (2 ^ size) (thReg (s.th t) d).toNat)
      (s.uop t (issuedThread (s.th t))) = some u →
    exec (.uStn t d x xen win size off .ok) s = .next u) ∧
  (∀ (t d a b imm win n off : Nat) (net : Bool) (u s : State), d < 16 → a < 16 → b < 16 → imm < 16384 →
    s.issues t (microR 0x18 d a b imm) → fiAccess (s.th t) = (win, n, net, off) →
    storeBytes t win off (if net then beBytes n (thReg (s.th t) a).toNat else leBytes n (thReg (s.th t) a).toNat)
      (s.uop t (issuedThread (s.th t))) = some u →
    exec (.uStf t d a b imm .ok) s = .next u) ∧
  (∀ (t d a b imm : Nat) (bs : List Byte) (u v s : State), d < 16 → a < 16 → b < 16 → imm < 16384 → imm % 64 < 32 →
    s.issues t (microR 0x19 d a b imm) →
    loadBytes t (bits (thReg (s.th t) a).toNat 14 13) (bits (thReg (s.th t) a).toNat 12 0) (imm % 64 + 1)
      (s.uop t (issuedThread (s.th t))) = (some bs, u) →
    storeBytes t (bits (thReg (s.th t) b).toNat 14 13) (bits (thReg (s.th t) b).toNat 12 0) bs u = some v →
    exec (.uMovb t d a b imm .ok) s = .next v) ∧
  -- stores to scratch: the stored bytes, and no others
  (∀ (t d x size off o : Nat) (xen : Bool) (s : State), d < 16 → x < 16 → size < 4 → off < 8192 →
    o = (off + (if xen then (thReg (s.th t) x).toNat else 0)) % 2 ^ 64 → o + 2 ^ size ≤ 256 →
    s.issues t (microW 0x15 d x xen 3 size off) →
    ∃ m, exec (.uStl t d x xen 3 size off .ok) s = .next (s.uop t { issuedThread (s.th t) with scratch := m }) ∧
      ∀ k < 256, datU m k 1 = if o ≤ k ∧ k < o + 2 ^ size then (thReg (s.th t) d).toNat / 2 ^ (8 * (k - o)) % 256
        else datU (s.th t).scratch k 1) ∧
  (∀ (t d x size off o : Nat) (xen : Bool) (s : State), d < 16 → x < 16 → size < 4 → off < 8192 →
    o = (off + (if xen then (thReg (s.th t) x).toNat else 0)) % 2 ^ 64 → o + 2 ^ size ≤ 256 →
    s.issues t (microW 0x16 d x xen 3 size off) →
    ∃ m, exec (.uStn t d x xen 3 size off .ok) s = .next (s.uop t { issuedThread (s.th t) with scratch := m }) ∧
      ∀ k < 256, datU m k 1 = if o ≤ k ∧ k < o + 2 ^ size then
          (thReg (s.th t) d).toNat / 2 ^ (8 * (o + 2 ^ size - 1 - k)) % 256
        else datU (s.th t).scratch k 1) ∧
  (∀ (t d a b imm n o : Nat) (net : Bool) (s : State), d < 16 → a < 16 → b < 16 → imm < 16384 →
    s.issues t (microR 0x18 d a b imm) → fiAccess (s.th t) = (3, n, net, o) → o + n ≤ 256 →
    ∃ m, exec (.uStf t d a b imm .ok) s = .next (s.uop t { issuedThread (s.th t) with scratch := m }) ∧
      ∀ k < 256, datU m k 1 = if o ≤ k ∧ k < o + n then
          (thReg (s.th t) a).toNat / 2 ^ (8 * (if net then o + n - 1 - k else k - o)) % 256
        else datU (s.th t).scratch k 1) ∧
  -- a block move into scratch
  (∀ (t d a b imm wa oa ob n : Nat) (s : State), d < 16 → a < 16 → b < 16 → imm < 16384 → n = imm % 64 + 1 → n ≤ 32 →
    s.issues t (microR 0x19 d a b imm) → wa = bits (thReg (s.th t) a).toNat 14 13 → oa = bits (thReg (s.th t) a).toNat 12 0 →
    bits (thReg (s.th t) b).toNat 14 13 = 3 → ob = bits (thReg (s.th t) b).toNat 12 0 →
    oa + n ≤ windowSize (s.th t) wa → ob + n ≤ 256 → (wa ≠ 0 ∨ (s.th t).tm = false) →
    ∃ m, exec (.uMovb t d a b imm .ok) s = .next (s.uop t { issuedThread (s.th t) with scratch := m }) ∧
      ∀ k < 256, datU m k 1 = if ob ≤ k ∧ k < ob + n then (windowByte s t wa (oa + (k - ob))).toNat
        else datU (s.th t).scratch k 1) ∧
  -- a corrected error of the context or the scratch lets the operation go on; an uncorrectable one ends the run with DROP
  (∀ (t d x size off o : Nat) (xen : Bool) (s : State), d < 16 → x < 16 → size < 4 → off < 8192 →
    o = (off + (if xen then (thReg (s.th t) x).toNat else 0)) % 2 ^ 64 → o + 2 ^ size ≤ 256 →
    s.issues t (microW 0x13 d x xen 3 size off) →
    ∃ u, exec (.uLdl t d x xen 3 size off .corrected) s = .next u ∧
      u.th t = withReg (issuedThread (s.th t)) d (BitVec.ofNat 64 (leVal ((List.range (2 ^ size)).map (fun k => windowByte s t 3 (o + k))))) ∧
      s.fresh.changesOnly u (Fld.events ++ [.eng, .flt])) ∧
  (∀ (t d x win size off a b imm : Nat) (xen : Bool) (i : Instr) (w : Nat) (s : State),
    i ∈ [Instr.uLdl t d x xen win size off .uncorrectable, Instr.uLdn t d x xen win size off .uncorrectable,
      Instr.uStl t d x xen win size off .uncorrectable, Instr.uStn t d x xen win size off .uncorrectable,
      Instr.uLdf t d a b imm .uncorrectable, Instr.uStf t d a b imm .uncorrectable, Instr.uMovb t d a b imm .uncorrectable] →
    microOk i = true → microEncode i = some w → s.issues t w → (s.th t).clove = none → (s.th t).maps = [] →
    ∃ u, exec i s = .next u ∧ (u.th t).wait = .ended ∧ (u.th t).verdict = 1 ∧
      s.fresh.changesOnly u (Fld.events ++ [.eng, .flt])) ∧
  -- PUSH and PULL at the head of the frame
  (∀ (t d a b n : Nat) (s : State), d < 16 → a < 16 → b < 16 → n < 8192 → s.issues t (microR 0x21 d a b n) →
    (s.th t).pushed + n ≤ 128 →
    exec (.uAdj t d a b n) s = .next (s.uop t (keepLen
      (let h := issuedThread (s.th t)
       { h with pushed := h.pushed + n, pkt := { h.pkt with bytes := List.replicate n 0 ++ h.pkt.bytes } })))) ∧
  (∀ (t d a b n : Nat) (s : State), d < 16 → a < 16 → b < 16 → 0 < n → n ≤ 256 → s.issues t (microR 0x21 d a b (16384 - n)) →
    (s.th t).pulled + n ≤ 256 → n ≤ (s.th t).pkt.bytes.length →
    exec (.uAdj t d a b (16384 - n)) s = .next (s.uop t (keepLen
      (let h := issuedThread (s.th t)
       { h with pulled := h.pulled + n, pkt := { h.pkt with bytes := h.pkt.bytes.drop n } })))) ∧
  -- a program counter takes one packet and the bytes of register b
  (∀ (t d a b imm : Nat) (s : State), d < 16 → a < 16 → b < 16 → imm < 16384 → s.issues t (microR 0x20 d a b imm) →
    ∃ u, exec (.uCnt t d a b imm) s = .next u ∧
      u = { s.uop t (issuedThread (s.th t)) with tbl := u.tbl } ∧
      u.tbl = s.tbl.set (tblKey 0x5F ((thReg (s.th t) a).toNat % 2 ^ 18))
        (datPut (datPut (s.tblGet 0x5F ((thReg (s.th t) a).toNat % 2 ^ 18)) 0 8
          ((datU (s.tblGet 0x5F ((thReg (s.th t) a).toNat % 2 ^ 18)) 0 8 + 1) % 2 ^ 64)) 8 8
          ((datU (s.tblGet 0x5F ((thReg (s.th t) a).toNat % 2 ^ 18)) 8 8 + (thReg (s.th t) b).toNat) % 2 ^ 64)) ∧
      s.fresh.changesOnly u ([.tbl, .cnt, .eng]))

/-- Dispatch, far issue and return from a trap. DISP.NEXT and DISP.JUMP take the flow instruction that follows or that register a
names, and its routine; opcode 0x00 faults. DISP.END of a run without a clove ends it with the verdict of its descriptor. DISP.END
of a load-balanced flow whose recorded next hop is not live takes the fallback member of its group, or ends with DROP where there
is none (log entry 56 says where the flow's next hop is judged). FAR of a defined function issues it once and the thread waits.
RETT gives the saved micro-state back; after WATCHDOG the budget count starts again from 0 and WD_FIRED is set. Commands shown to
answer a next state by their own effect: dispEnd, dispJump, dispNext, uFar, uRett. (R267, R285, R295, R301, R304, R305, R306,
R309, R310, R314, R316) -/
def Obligations.ControlMicroOps : Prop :=
  (∀ (t d a b imm u : Nat) (s : State), d < 16 → a < 16 → b < 16 → imm < 16384 → imm % 4 = 0 → s.issues t (microR 0x1E d a b imm) →
    (s.th t).tm = false → (s.th t).live.fipc < 4095 →
    (s.fiAt ((s.th t).live.fipc + 1)).toNat / 2 ^ 24 ≠ 0 →
    s.eng.disp.get ((s.fiAt ((s.th t).live.fipc + 1)).toNat / 2 ^ 24) = some u →
    exec (.dispNext t d a b imm) s = .next (s.uop t
      (let h := issuedThread (s.th t)
       { h with live := { h.live with fipc := (s.th t).live.fipc + 1, fi := s.fiAt ((s.th t).live.fipc + 1), upc := u } }))) ∧
  (∀ (t d a b imm u : Nat) (s : State), d < 16 → a < 16 → b < 16 → imm < 16384 → imm % 4 = 1 → s.issues t (microR 0x1E d a b imm) →
    (s.th t).tm = false → (s.fiAt ((thReg (s.th t) a).toNat % 4096)).toNat / 2 ^ 24 ≠ 0 →
    s.eng.disp.get ((s.fiAt ((thReg (s.th t) a).toNat % 4096)).toNat / 2 ^ 24) = some u →
    exec (.dispJump t d a b imm) s = .next (s.uop t
      (let h := issuedThread (s.th t)
       { h with live := { h.live with fipc := (thReg (s.th t) a).toNat % 4096, fi := s.fiAt ((thReg (s.th t) a).toNat % 4096),
                                      upc := u } }))) ∧
  -- the end of a run without a clove: the packet waits to leave with the verdict of its descriptor
  (∀ (t d a b imm : Nat) (s : State), d < 16 → a < 16 → b < 16 → imm < 16384 → imm % 4 = 2 → s.issues t (microR 0x1E d a b imm) →
    (s.th t).clove = none → (s.th t).maps = [] → (∀ e k, s.eng.pre ≠ some (t, e, k)) → datB (s.th t).desc 120 0 2 ≠ 1 →
    exec (.dispEnd t d a b imm) s = .next (s.uop t
      { issuedThread (s.th t) with
        wait := .ended, verdict := datB (s.th t).desc 120 0 2, varg := datU (s.th t).desc 121 1,
        pkt := takeDesc (s.th t), far := none })) ∧
  -- a load-balanced flow whose recorded next hop is not live: the packet takes the fallback member, or is dropped without one
  (∀ (t d a b imm idx g i : Nat) (c : Clove) (s : State), d < 16 → a < 16 → b < 16 → imm < 16384 → imm % 4 = 2 →
    s.issues t (microR 0x1E d a b imm) → i = thCluster t → (s.th t).clove = some idx → (s.th t).egress = false →
    (s.th t).shared = true → (s.th t).maps = [] → (∀ e k, s.eng.pre ≠ some (t, e, k)) → datB (s.th t).desc 120 0 2 = 0 →
    c = s.cloveNow i idx → datU c 64 1 = 4 → g = datU c 66 2 % 2 ^ 14 → datU (s.th t).desc 92 4 % 2 ^ 18 = datU c 72 4 % 2 ^ 18 →
    s.nhLive (datU c 72 4 % 2 ^ 18) (datB (s.tblGet 0x29 g) 0 0 1 == 1) = false →
    (∀ l ∈ (s.part.get i).lines, l.delAtRelease = none) →
    ∃ u, exec (.dispEnd t d a b imm) s = .next u ∧ (u.th t).wait = .ended ∧
      (match s.lbFallback g (s.lbHash (cvKey c)) with
        | some m => (u.th t).verdict = 0 ∧
            (u.th t).pkt = takeDesc { s.th t with desc := datPut (s.th t).desc 92 4 (s.lbNextHop g m) }
        | none => (u.th t).verdict = 1) ∧
      s.fresh.changesOnly u (Fld.events ++ [.eng, .part])) ∧
  -- opcode 0 has no routine, whatever the image holds: the run faults
  (∀ (t d a b imm : Nat) (s : State), d < 16 → a < 16 → b < 16 → imm < 16384 → imm % 4 = 1 → s.issues t (microR 0x1E d a b imm) →
    (s.th t).tm = false → (s.fiAt ((thReg (s.th t) a).toNat % 4096)).toNat / 2 ^ 24 = 0 → (s.th t).clove = none → (s.th t).maps = [] →
    ∃ u, exec (.dispJump t d a b imm) s = .next u ∧ (u.th t).wait = .ended ∧ (u.th t).verdict = 1 ∧
      s.fresh.changesOnly u (Fld.events ++ [.eng])) ∧
  -- a far operation is issued once, and the thread waits
  (∀ (t d a b imm : Nat) (s : State), d < 16 → a < 16 → b < 16 → imm < 16384 → s.issues t (microR 0x1D d a b imm) →
    farFunctions.contains (imm % 256) = true →
    ∃ u, exec (.uFar t d a b imm) s = .next u ∧
      u.cnt = (count (Cnt.ENG_TRAP_FAR (thCluster t)) (count (Cnt.ENG_UOPS (thCluster t)) s)).cnt ∧
      u = { s.uop t
        { issuedThread (s.th t) with
          wait := .far,
          far := some { fn := imm % 256, a := thReg (s.th t) a, b := thReg (s.th t) b, dest := d } } with cnt := u.cnt } ∧
      s.fresh.changesOnly u ([.eng, .cnt])) ∧
  -- RETT gives back the saved micro-state
  (∀ (t d a b imm : Nat) (s : State), d < 16 → a < 16 → b < 16 → imm < 16384 → s.issues t (microR 0x23 d a b imm) →
    (s.th t).tm = true → (s.th t).cause ≠ 5 → (s.th t).cause ≠ 6 → (s.th t).save.budget < s.budget →
    exec (.uRett t d a b imm) s = .next (s.uop t
      { issuedThread (s.th t) with live := (s.th t).save, tm := false, cause := 0, trapUsed := 0 })) ∧
  (∀ (t d a b imm : Nat) (s : State), d < 16 → a < 16 → b < 16 → imm < 16384 → s.issues t (microR 0x23 d a b imm) →
    (s.th t).tm = true → (s.th t).cause = 6 → 0 < s.budget →
    exec (.uRett t d a b imm) s = .next (s.uop t
      { issuedThread (s.th t) with
        live := { (s.th t).save with budget := 0, wd := true }, tm := false, cause := 0, trapUsed := 0 }))

/-- Results of far operations. For a far operation that waits: ADMIT, MAP, LB_SELECT, PEEK, TOUCH, INSERT_PEER, DELETE_PEER, SVC_FAIL,
TBL_READ, ASA_SEARCH and ASA_STEP give the code and the block that the flow engine's own functions (flowAdmit, mapOp, lbChoose,
insertClove, asaLocal) answer, and in full: ADMIT pays a token of the flow's subscriber or refuses, MAP uses a mapping that stands
again, INSERT_PEER takes a free slot and the index longest free, a search of a profile that cascades waits for the ring; without a
clove ADMIT and MAP give STALE, and TBL_READ of a table above 8 gives its code 13. PEEK of a clove that cannot be read loses it
and gives STALE. The order of the arguments of TBL_READ, PEEK, TOUCH and DELETE_PEER is log entry 19's. Commands shown to answer a
next state by their own effect: farAdmit, farAsaSearch, farAsaStep, farDeletePeer, farInsertPeer, farLbSelect, farMap, farPeek,
farSvcFail, farTblRead, farTouch. (R232, R242, R248, R267, R272, R295, R298, R305, R308, R309) -/
def Obligations.FarOperations : Prop :=
  -- a run without a clove has no flow to admit, to map or to fail
  (∀ (t : Nat) (o : FarOp) (s : State), s.running → s.farWaits t 0x01 = some o → (s.th t).clove = none →
    exec (.farAdmit t) s = .next (s.answered t o 9 0 0)) ∧
  (∀ (t : Nat) (key : BitVec 384) (sp : Dat) (o : FarOp) (s : State), s.running → s.farWaits t 0x01 = some o →
    s.ownClove t = some (key, sp) →
    exec (.farAdmit t) s = .next (farAnswer t (flowAdmit (thCluster t) key sp s.fresh).1 0 0
      (flowAdmit (thCluster t) key sp s.fresh).2)) ∧
  -- a subscriber that has a whole token left pays one, and the flow is admitted; one without is refused
  (∀ (t i sub tok : Nat) (key : BitVec 384) (sp : Dat) (o : FarOp) (s : State), i = thCluster t → s.running →
    s.farWaits t 0x01 = some o → s.ownClove t = some (key, sp) → findClove s i (subscriberKey key (datU sp 9 1)) = some sub →
    datU sp 16 4 ≠ 0 →
    tok = min (datU (s.cloveNow i sub) 84 4 + serialAge 32 s.ms (datU (s.cloveNow i sub) 88 4) * datU sp 16 4) (datU sp 20 4 * 1000) →
    exec (.farAdmit t) s = .next (if 1000 ≤ tok then
        farAnswer t 0 0 0 (setClove i sub (datPut (datPut (s.cloveNow i sub) 84 4 (tok - 1000)) 88 4 s.ms) s.fresh)
      else farAnswer t 1 0 0 (count (Cnt.FSE_ADMIT_REFUSED i)
        (setClove i sub (datPut (datPut (s.cloveNow i sub) 84 4 tok) 88 4 s.ms) s.fresh)))) ∧
  (∀ (t : Nat) (ue : Bool) (o : FarOp) (s : State), s.running → s.farWaits t 0x02 = some o → (s.th t).clove = none →
    exec (.farMap t ue) s = .next (s.answered t o 9 0 0)) ∧
  (∀ (t m g : Nat) (key : BitVec 384) (sp blk : Dat) (o : FarOp) (s u : State), s.steady → s.farWaits t 0x02 = some o →
    s.ownClove t = some (key, sp) →
    mapOp (thCluster t) { key := key, sp := sp, inPort := (s.th t).pkt.inPort, aux := (s.th t).pkt.aux } s.fresh =
      ((0, blk, m, g), u) →
    exec (.farMap t false) s = .next (farAnswer t 0 33 blk (updTh t (fun h => { h with maps := h.maps ++ [(m, g)] }) u))) ∧
  -- a mapping that stands for the flow's endpoint is used again, where no rate limits its subscriber
  (∀ (t i m : Nat) (key : BitVec 384) (sp : Dat) (o : FarOp) (s u : State), i = thCluster t → s.running → s.farWaits t 0x02 = some o →
    s.ownClove t = some (key, sp) → findClove s i (mappingKey key) = some m → datU sp 16 4 = 0 →
    u = setClove i m (datPut (s.cloveNow i m) 66 2 (datU (s.cloveNow i m) 66 2 + 1)) s.fresh →
    exec (.farMap t false) s = .next (farAnswer t 0 33 (mapImage (u.cloveNow i m) m (cvGen (u.cloveNow i m)) (spService sp == 2) 0)
      (updTh t (fun h => { h with maps := h.maps ++ [(m, cvGen (u.cloveNow i m))] }) (count (Cnt.FSE_NAT_MAP_REUSE i) u)))) ∧
  (∀ (t m : Nat) (o : FarOp) (s : State), s.running → s.farWaits t 0x03 = some o →
    s.lbChoose (o.a.toNat % 2 ^ 14) o.b.toNat = some (m, false) →
    exec (.farLbSelect t false) s = .next (s.answered t o 0 32
      (lbImage (o.a.toNat % 2 ^ 14) (o.b.toNat % 256) m (s.lbNextHop (o.a.toNat % 2 ^ 14) m)))) ∧
  (∀ (t : Nat) (ue : Bool) (o : FarOp) (s : State), s.running → s.farWaits t 0x04 = some o →
    s.namedClove t (o.a.toNat % 2 ^ 27) o.b.toNat = 0 → s.readFails (thCluster t) (o.a.toNat % 2 ^ 27) ue = false →
    exec (.farPeek t ue) s = .next (s.answered t o 0 80 ((s.cloveNow (thCluster t) (o.a.toNat % 2 ^ 27)) >>> 384))) ∧
  (∀ (t r : Nat) (ue : Bool) (o : FarOp) (s : State), s.running → s.farWaits t 0x04 = some o →
    s.namedClove t (o.a.toNat % 2 ^ 27) o.b.toNat = r → r ≠ 0 → s.readFails (thCluster t) (o.a.toNat % 2 ^ 27) ue = false →
    exec (.farPeek t ue) s = .next (s.answered t o r 0 0)) ∧
  -- a clove that cannot be read is lost, and the operation finds VALID clear
  (∀ (t idx : Nat) (ue : Bool) (o : FarOp) (s : State), s.running → s.farWaits t 0x04 = some o → idx = o.a.toNat % 2 ^ 27 →
    s.inPart (thCluster t) idx = true → s.readFails (thCluster t) idx ue = true → (s.th t).tm = false →
    ∃ u, exec (.farPeek t ue) s = .next u ∧ u.clove = s.clove.set idx 0 ∧ (u.th t).far = some { o with answer := some (9, 0, 0) } ∧
    s.fresh.changesOnly u (Fld.events ++ [.eng, .part, .clove, .dir])) ∧
  (∀ (t : Nat) (ue : Bool) (o : FarOp) (s : State), s.running → s.farWaits t 0x05 = some o →
    s.namedClove t (o.a.toNat % 2 ^ 27) o.b.toNat = 0 → s.line (thCluster t) (o.a.toNat % 2 ^ 27) = none →
    s.readFails (thCluster t) (o.a.toNat % 2 ^ 27) ue = false →
    exec (.farTouch t ue) s = .next
      { s.answered t o 0 0 0 with
        clove := s.clove.set (o.a.toNat % 2 ^ 27) (datPut (s.clove.get (o.a.toNat % 2 ^ 27)) 54 2 s.ageStamp) }) ∧
  (∀ (t idx g : Nat) (o : FarOp) (s u : State), s.steady → s.farWaits t 0x06 = some o →
    keyFmtOk (cvFmt (BitVec.ofNat 1024 (s.th t).scratch.toNat)) = true →
    insertClove (thCluster t) (datPut (BitVec.ofNat 1024 (s.th t).scratch.toNat) 48 1
      (2 * datB (BitVec.ofNat 1024 (s.th t).scratch.toNat) 48 1 1)) s.fresh = (.ok idx g, u) →
    exec (.farInsertPeer t) s = .next (farAnswer t 0 5 (BitVec.ofNat 1024 (idx + g * 2 ^ 32)) u)) ∧
  -- the image in scratch takes a free slot and the index that is longest free
  (∀ (t i b k idx : Nat) (free : List (Nat × Nat)) (key : BitVec 384) (o : FarOp) (s : State), i = thCluster t → i < 4 → s.running →
    s.farWaits t 0x06 = some o → keyFmtOk (cvFmt (BitVec.ofNat 1024 (s.th t).scratch.toNat)) = true →
    datB (BitVec.ofNat 1024 (s.th t).scratch.toNat) 48 1 1 = 0 → key = cvKey (BitVec.ofNat 1024 (s.th t).scratch.toNat) →
    findClove s i key = none →
    freeBucket s (s.candidates i (s.hashOf i key)).1 (s.candidates i (s.hashOf i key)).2 = some (b, k) →
    runsPop (s.part.get i).freeCache = some (idx, free) →
    ∃ u, exec (.farInsertPeer t) s = .next u ∧
      (u.th t).far = some { o with answer := some (0, 5, BitVec.ofNat 1024
        (idx + ((s.part.get i).learnSeq + 1).toNat % 256 * 2 ^ 32)) } ∧
      cvKey (u.clove.get idx) = key ∧ cvValid (u.clove.get idx) = true ∧
      u.dir = s.dir.upd b (fun d =>
        { d with
          version := (d.version + 1) % 2 ^ 32,
          slots := d.slots ++ [{ slot := k, idx := idx, tag := hashTag (s.hashOf i key), pinned := false }] }) ∧
      s.fresh.changesOnly u ([.eng, .part, .dir, .clove, .svc])) ∧
  (∀ (t : Nat) (ue : Bool) (o : FarOp) (s : State), s.steady → s.farWaits t 0x07 = some o →
    s.namedClove t (o.a.toNat % 2 ^ 27) o.b.toNat = 0 → s.readFails (thCluster t) (o.a.toNat % 2 ^ 27) ue = false →
    exec (.farDeletePeer t ue) s = .next (farAnswer t 0 0 0
      (endClove (thCluster t) (o.a.toNat % 2 ^ 27) (o.b.toNat / 256 % 16) s.fresh))) ∧
  (∀ (t : Nat) (key : BitVec 384) (sp : Dat) (o : FarOp) (s : State), s.running → s.farWaits t 0x20 = some o →
    s.ownClove t = some (key, sp) →
    ∃ u, exec (.farSvcFail t) s = .next u ∧
      (u.th t).desc = datPut (datPut (s.th t).desc 120 1 (if datU sp 24 1 = 1 then 2 else 1)) 121 1 (datU sp 25 1 % 16) ∧
      (u.th t).far = some { o with answer := some (0, 0, 0) } ∧
    s.fresh.changesOnly u ([.eng])) ∧
  (∀ (t : Nat) (o : FarOp) (s : State), s.running → s.farWaits t 0x10 = some o → 1 ≤ o.a.toNat → o.a.toNat ≤ 8 →
    o.b.toNat < bits (s.reg (Reg.FWD_DIRECT_CFG (o.a.toNat - 1))) 20 0 → datB (s.tblGet o.a.toNat o.b.toNat) 8 0 1 = 1 →
    exec (.farTblRead t false) s = .next (s.answered t o 0 16 (s.tblGet o.a.toNat o.b.toNat))) ∧
  (∀ (t : Nat) (ue : Bool) (o : FarOp) (s : State), s.running → s.farWaits t 0x10 = some o → 8 < o.a.toNat →
    exec (.farTblRead t ue) s = .next (s.answered t o 13 0 0)) ∧
  (∀ (t : Nat) (bad : List Nat) (o : FarOp) (s : State), s.running → s.farWaits t 0x18 = some o →
    s.asaCascade (o.a.toNat % 32) = false →
    ∃ u, exec (.farAsaSearch t bad) s = .next u ∧
      (u.th t).far = some { o with answer := some (0, 12, BitVec.ofNat 1024
        (asaLocal (s.asaScope (o.a.toNat % 32) s.threadSlot)
          ((s.th t).scratch.toNat % 2 ^ (s.asaScope (o.a.toNat % 32) s.threadSlot).width) none bad s.fresh).1.bytes) } ∧
    s.fresh.changesOnly u (Fld.events ++ [.eng, .asa, .flt])) ∧
  -- a profile that cascades: the search waits for a slot of the ring
  (∀ (t : Nat) (bad : List Nat) (o : FarOp) (s : State), s.running → s.farWaits t 0x18 = some o →
    s.asaCascade (o.a.toNat % 32) = true → s.asa.run.state = .running → s.asa.run.retired = false →
    ∃ u, exec (.farAsaSearch t bad) s = .next u ∧
      u.asa.run.waiting = s.asa.run.waiting ++ [
        { owner := .thread t, profile := o.a.toNat % 32,
          key := (s.th t).scratch.toNat % 2 ^ (s.asaScope (o.a.toNat % 32) s.threadSlot).width }] ∧
      s.fresh.changesOnly u ([.asa])) ∧
  -- a step from the handle of the thread goes on after the entry that it last gave
  (∀ (t : Nat) (bad : List Nat) (o : FarOp) (h : AsaHandle) (s : State), s.running → s.farWaits t 0x19 = some o →
    h = s.asa.handles.get (AsaOwner.thread t).key → h.live = true → s.asaCascade h.profile = false →
    ∃ u, exec (.farAsaStep t bad) s = .next u ∧
      (u.th t).far = some { o with answer := some (0, 12, BitVec.ofNat 1024
        (asaLocal (s.asaScope h.profile h.slot) h.key (some (h.prio, h.entry)) bad s.fresh).1.bytes) } ∧
      s.fresh.changesOnly u (Fld.events ++ [.eng, .asa, .flt])) ∧
  (∀ (t : Nat) (bad : List Nat) (o : FarOp) (s : State), s.running → s.farWaits t 0x19 = some o →
    (s.asa.handles.get (AsaOwner.thread t).key).live = false →
    exec (.farAsaStep t bad) s = .next (count Cnt.ASA_STEP (s.answered t o 0 12 0)))

/-- Traps at a boundary, far results, and engines. WATCHDOG, EPOCH and PREEMPT are taken at a boundary: the live micro-state is saved,
register 15 takes the trap's argument and the routine starts at its vector; EPOCH with no vector is dropped. PREEMPT keeps the
snapshot, and its argument is the accepted request's word. A host request names the thread. A far result writes its code and
block. An engine that holds no run retires with its record. An engine test starts in Maintenance; a START for an engine in service
outside Maintenance gives IN_SERVICE and changes nothing else; a write without START sets the unit of the register; a test ends
with its event. Commands shown to answer a next state by their own effect: engineRetired, engPreempt, engTest, engTestDone,
thEpoch, farResult, thPreempt, thWatchdog. (R308, R309, R310, R311, R312, R313, R314, R315, R318, R319, R446) -/
def Obligations.RoutineTraps : Prop :=
  -- WATCHDOG, PREEMPT and EPOCH are taken at a boundary: the live micro-state is saved and the routine starts
  (∀ (t : Nat) (s : State), s.running → s.atBoundary t = true → (s.th t).pending.getLsbD 3 = true → (s.th t).live.wd = false →
    s.trapVector 3 ≠ 0xFFFF →
    exec (.thWatchdog t) s = .next ((count (Cnt.ENG_TRAP_WATCHDOG (thCluster t)) s.fresh).withThread t
      { s.th t with
        save := (s.th t).live, tm := true, cause := 6, trapUsed := 0, wait := .ready,
        pending := (s.th t).pending &&& ~~~(8#4),
        live := { (s.th t).live with
          m := (s.th t).live.m.set 15 (BitVec.ofNat 64 (s.th t).live.budget), upc := s.trapVector 3 } })) ∧
  (∀ (t : Nat) (s : State), s.running → s.atBoundary t = true → (s.th t).pending.getLsbD 1 = true →
    (s.th t).pending.getLsbD 2 = false → (s.th t).pending.getLsbD 3 = false → s.trapVector 1 ≠ 0xFFFF →
    exec (.thEpoch t) s = .next ((count (Cnt.ENG_TRAP_EPOCH (thCluster t)) s.fresh).withThread t
      { s.th t with
        save := (s.th t).live, tm := true, cause := 4, trapUsed := 0, wait := .ready,
        pending := (s.th t).pending &&& ~~~(2#4),
        live := { (s.th t).live with
          m := (s.th t).live.m.set 15 (BitVec.ofNat 64 (s.th t).epochE), upc := s.trapVector 1 } })) ∧
  (∀ (t : Nat) (s : State), s.running → s.atBoundary t = true → (s.th t).pending.getLsbD 1 = true →
    (s.th t).pending.getLsbD 2 = false → (s.th t).pending.getLsbD 3 = false → s.trapVector 1 = 0xFFFF →
    exec (.thEpoch t) s = .next ((count (Cnt.ENG_TRAP_EPOCH (thCluster t)) s.fresh).withThread t
      { s.th t with pending := (s.th t).pending &&& 0b1101 })) ∧
  (∀ (t w : Nat) (s : State), s.running → s.eng.pre = some (t, w, false) → s.atBoundary t = true →
    (s.th t).pending.getLsbD 3 = false → s.trapVector 2 ≠ 0xFFFF →
    ∃ u, exec (.thPreempt t) s = .next u ∧ u.eng.snap = bvOfBytes 1280 (savedBytes (s.th t) 5) ∧ u.eng.pre = some (t, w, true) ∧
      (u.th t).tm = true ∧ (u.th t).cause = 5 ∧ (u.th t).save = (s.th t).live ∧ (u.th t).live.upc = s.trapVector 2 ∧
      (u.th t).live.m = (s.th t).live.m.set 15 (BitVec.ofNat 64 w) ∧
    s.fresh.changesOnly u ([.eng, .cnt])) ∧
  -- the host asks for a thread that runs, while no request stands
  (∀ (v : Word32) (s : State), s.hostSets 9 → bit v.toNat 31 = true → s.eng.pre = none →
    (s.th (1024 * bits v.toNat 17 16 + 64 * bits v.toNat 15 12 + bits v.toNat 5 0)).wait = .ready →
    ∃ u, exec (.engPreempt v) s = .next u ∧ u.eng.preResult = 0 ∧
      u.eng.pre = some (1024 * bits v.toNat 17 16 + 64 * bits v.toNat 15 12 + bits v.toNat 5 0,
        2 ^ 30 * bits v.toNat 30 30 + 2 ^ 12 * bits v.toNat 17 12 + bits v.toNat 5 0, false) ∧
      (u.th (1024 * bits v.toNat 17 16 + 64 * bits v.toNat 15 12 + bits v.toNat 5 0)).pending =
        (s.th (1024 * bits v.toNat 17 16 + 64 * bits v.toNat 15 12 + bits v.toNat 5 0)).pending ||| 4 ∧
    s.fresh.changesOnly u ([.eng, .regs])) ∧
  -- a far result: the code in the register asked for, OK, and the block in scratch
  (∀ (t code len : Nat) (blk : Dat) (f : FarOp) (s : State), s.running → t < 4096 → (s.th t).wait = .far → (s.th t).far = some f →
    f.ue = false → f.answer = some (code, len, blk) →
    exec (.farResult t) s = .next (s.fresh.withThread t
      { s.th t with
        wait := .ready, far := none,
        live := { (s.th t).live with m := (s.th t).live.m.set f.dest (BitVec.ofNat 64 code), ok := code == 0 },
        scratch := datPut (s.th t).scratch 128 len blk.toNat })) ∧
  -- an engine whose count has crossed retires when it holds no run
  (∀ (e : Nat) (s : State), s.running → e < 64 → s.eng.retired.getLsbD e = false → s.eng.retiring.getLsbD e = true →
    s.engineBusy e = 0 →
    ∃ u, exec (.engineRetired e) s = .next u ∧ u.eng.retired = s.eng.retired ||| BitVec.ofNat 64 (2 ^ e) ∧
      u.eng.retiring.getLsbD e = false ∧ (u.flt.get (fltKey 5 e)).retired = true ∧
      u.isl.log.get (s.isl.total.toNat % 1024) = recordOf s 9 3 e e ∧
    s.fresh.changesOnly u (Fld.events ++ [.eng, .flt])) ∧
  -- self-tests of engines
  (∀ (v : Word32) (s : State), s.hostSets 9 → bit v.toNat 8 = true → s.eng.test.busy = false → s.md.mode = .maintenance →
    exec (.engTest v) s = .next
      { s.fresh with
        regs := s.regs.set Reg.ENG_TEST (BitVec.ofNat 32 (v.toNat % 64)),
        eng := { s.eng with test := { unit := v.toNat % 64, busy := true, result := 0 } } }) ∧
  -- without START the write sets the unit; a START for an engine in service changes nothing but the result
  (∀ (v : Word32) (s : State), s.hostSets 9 → bit v.toNat 8 = false →
    exec (.engTest v) s = .next { s.fresh with regs := s.regs.set Reg.ENG_TEST (BitVec.ofNat 32 (v.toNat % 64)) }) ∧
  (∀ (v : Word32) (s : State), s.hostSets 9 → bit v.toNat 8 = true → s.md.mode ≠ .maintenance →
    s.eng.retired.getLsbD (v.toNat % 64) = false →
    exec (.engTest v) s = .next { s.fresh with eng := { s.eng with test := { s.eng.test with result := 3 } } }) ∧
  (∀ (pass : Bool) (s : State), s.running → s.eng.test.busy = true →
    exec (.engTestDone pass) s = .next (raise 9 5 s.eng.test.unit (s.eng.test.unit + 256 * (if pass then 1 else 2))
      { s.fresh with eng := { s.eng with test := { s.eng.test with busy := false, result := if pass then 1 else 2 } } }))

/-- Every micro-operation is read back from its microword. For every micro-operation whose fields fit its format, its microword has 32
bits, and decoding that word, for some thread and some ECC outcome (which no word holds), gives the micro-operation back with
every field. So no field is dropped; that each field is read from its place is what the tests of single words show. (R304, R305) -/
def Obligations.MicrowordRoundTrip : Prop :=
  ∀ (i : Instr) (w : Nat), microOk i = true → microEncode i = some w → w < 2 ^ 32 ∧ ∃ t ecc, microDecode t w ecc = some i

/-- A micro-operation runs only for a ready thread that stands at its word. A command that a 32-bit word of thread t decodes to
changes nothing but State.out when the thread may not issue or the control store holds another word at its micro-PC (log entry
18). (R285, R304) -/
def Obligations.MicroOpsNeedTheirThread : Prop :=
  ∀ (i : Instr) (t w : Nat) (ecc : BurstOutcome) (s : State), w < 2 ^ 32 → microDecode t w ecc = some i → s.running →
    (s.canIssue t = false ∨ s.nextWord t ≠ microClean w) → exec i s = .next s.fresh

end
end

