-- ==== Sys2Proof/Laws/SMap.lean ====
section
/-! SUPPORT. Sparse tables: what a read gives after a write, and the canonical form, which every operation keeps. -/
namespace Sys2Proof

variable {α : Type}

/-! ### Reading the pairs after writing -/

theorem smapGet_put_ne [Inhabited α] (l : List (Nat × α)) {k j : Nat} (v : α) (h : j ≠ k) : smapGet (smapPut l k v) j = smapGet l j := by
  induction l with
  | nil => simp [smapPut, smapGet, h.symm]
  | cons c r ih => unfold smapPut; split_ifs <;> simp_all [smapGet, h.symm]

theorem smapGet_put_self [Inhabited α] (l : List (Nat × α)) (k : Nat) (v : α) : smapGet (smapPut l k v) k = v := by
  induction l with
  | nil => simp [smapPut, smapGet]
  | cons c r ih => unfold smapPut; split_ifs <;> simp_all [smapGet]

theorem smapGet_without_ne [Inhabited α] (l : List (Nat × α)) {k j : Nat} (h : j ≠ k) :
    smapGet (l.filter (fun c => c.1 != k)) j = smapGet l j := by
  induction l with
  | nil => rfl
  | cons c r ih => by_cases g : c.1 = k <;> simp_all [smapGet, Ne.symm h]

theorem smapGet_without_self [Inhabited α] (l : List (Nat × α)) (k : Nat) :
    smapGet (l.filter (fun c => c.1 != k)) k = default := by
  induction l with
  | nil => rfl
  | cons c r ih => by_cases g : c.1 = k <;> simp_all [smapGet]

/-! ### A write among the pairs -/

theorem mem_smapPut {l : List (Nat × α)} {k : Nat} {v : α} {c : Nat × α} (h : c ∈ smapPut l k v) : c = (k, v) ∨ c ∈ l := by
  induction l with
  | nil => simp_all [smapPut]
  | cons d r ih => unfold smapPut at h; split_ifs at h <;> simp_all <;> tauto

theorem smapPut_sorted {l : List (Nat × α)} (k : Nat) (v : α) (h : l.Pairwise (fun a b => a.1 < b.1)) :
    (smapPut l k v).Pairwise (fun a b => a.1 < b.1) := by
  induction l with
  | nil => simp [smapPut]
  | cons c r ih =>
    obtain ⟨hc, hr⟩ := List.pairwise_cons.mp h
    unfold smapPut
    split_ifs with h1 h2
    · exact List.pairwise_cons.mpr ⟨fun d hd => (List.mem_cons.mp hd).elim (fun e => e ▸ h1) (fun e => h1.trans (hc d e)), h⟩
    · exact List.pairwise_cons.mpr ⟨fun d hd => h2 ▸ hc d hd, hr⟩
    · refine List.pairwise_cons.mpr ⟨fun d hd => ?_, ih hr⟩
      obtain rfl | hd := mem_smapPut hd
      · exact lt_of_le_of_ne (Nat.le_of_not_lt h1) h2
      · exact hc d hd

/-- What is put at a key the list does not hold is all that leaves with that key. -/
theorem without_put (l : List (Nat × α)) (k : Nat) (v : α) :
    (smapPut (l.filter (fun c => c.1 != k)) k v).filter (fun c => c.1 != k) = l.filter (fun c => c.1 != k) := by
  induction l with
  | nil => simp [smapPut]
  | cons c r ih =>
    by_cases hk : c.1 = k
    · rw [List.filter_cons_of_neg (by simp [hk])]; exact ih
    · rw [List.filter_cons_of_pos (by simp [hk])]
      obtain ⟨j, w⟩ := c
      simp only [smapPut]; split_ifs with h1
      · simp [show j ≠ k from hk]
      · rw [List.filter_cons_of_pos (by simpa using hk), ih]

variable [Inhabited α] [DecidableEq α]

/-! ### Reading after writing -/

/-- A write leaves every other key alone. -/
@[simp] theorem SMap.get_set_ne (m : SMap α) {k j : Nat} (v : α) (h : j ≠ k) : (m.set k v).get j = m.get j := by
  unfold SMap.set SMap.get; dsimp only; split_ifs
  · exact smapGet_without_ne _ h
  · exact (smapGet_put_ne _ _ h).trans (smapGet_without_ne _ h)

/-- A read after a write gives the value written. -/
@[simp] theorem SMap.get_set_self (m : SMap α) (k : Nat) (v : α) : (m.set k v).get k = v := by
  unfold SMap.set SMap.get; dsimp only; split_ifs with h
  · rw [h]; exact smapGet_without_self _ _
  · exact smapGet_put_self _ _ _

theorem SMap.get_upd_self (m : SMap α) (k : Nat) (f : α → α) : (m.upd k f).get k = f (m.get k) := m.get_set_self k _

theorem SMap.get_upd_ne (m : SMap α) {k j : Nat} (f : α → α) (h : j ≠ k) : (m.upd k f).get j = m.get j := m.get_set_ne _ h

/-- Of two writes of one key only the later counts. -/
@[simp] theorem SMap.set_set (m : SMap α) (k : Nat) (v w : α) : (m.set k v).set k w = m.set k w := by
  have h : (m.set k v).cells.filter (fun c => c.1 != k) = m.cells.filter (fun c => c.1 != k) := by
    unfold SMap.set; dsimp only; split_ifs
    · rw [List.filter_filter]; simp
    · exact without_put _ k v
  unfold SMap.set at h ⊢; dsimp only at h ⊢; rw [h]

theorem SMap.upd_upd (m : SMap α) (k : Nat) (f g : α → α) : (m.upd k f).upd k g = m.upd k (fun x => g (f x)) := by
  simp [SMap.upd]

/-! ### The canonical form -/

theorem SMap.wf_iff (m : SMap α) :
    m.wf = true ↔ m.cells.Pairwise (fun a b => a.1 < b.1) ∧ ∀ c ∈ m.cells, c.2 ≠ default := by
  simp [SMap.wf]

/-- Part of a canonical table is canonical. -/
theorem SMap.wf_of_sublist {m n : SMap α} (h : m.wf = true) (l : n.cells.Sublist m.cells) : n.wf = true := by
  rw [SMap.wf_iff] at *
  exact ⟨h.1.sublist l, fun c hc => h.2 c (l.subset hc)⟩

theorem SMap.keep_wf {m : SMap α} (p : Nat → α → Bool) (h : m.wf = true) : (m.keep p).wf = true :=
  SMap.wf_of_sublist h List.filter_sublist

theorem SMap.clearIn_wf {m : SMap α} (lo hi : Nat) (h : m.wf = true) : (m.clearIn lo hi).wf = true :=
  SMap.wf_of_sublist h List.filter_sublist

theorem SMap.mapAll_wf {m : SMap α} (f : α → α) (h : m.wf = true) : (m.mapAll f).wf = true := by
  rw [SMap.wf_iff] at *
  refine ⟨?_, fun c hc => ?_⟩
  · refine List.Pairwise.filterMap _ (fun a b hab c hc d hd => ?_) h.1
    simp only [Option.ite_none_left_eq_some, Option.some.injEq] at hc hd
    rw [← hc.2, ← hd.2]; exact hab
  · obtain ⟨d, -, hd⟩ := List.mem_filterMap.mp hc
    simp only [Option.ite_none_left_eq_some, Option.some.injEq] at hd
    rw [← hd.2]; exact hd.1

/-- A write keeps the canonical form. -/
theorem SMap.set_wf {m : SMap α} (k : Nat) (v : α) (h : m.wf = true) : (m.set k v).wf = true := by
  unfold SMap.set; dsimp only
  split_ifs with hv
  · exact SMap.wf_of_sublist h List.filter_sublist
  · rw [SMap.wf_iff] at *
    refine ⟨smapPut_sorted k v (h.1.sublist List.filter_sublist), fun c hc => ?_⟩
    obtain rfl | hc := mem_smapPut hc
    · exact hv
    · exact h.2 c (List.mem_of_mem_filter hc)

theorem SMap.upd_wf {m : SMap α} (k : Nat) (f : α → α) (h : m.wf = true) : (m.upd k f).wf = true := SMap.set_wf _ _ h

end Sys2Proof
end

