-- ==== Sys2Proof/Laws/State.lean ====
section
/-! SUPPORT. The updates of State, field by field: what each of the plain updates leaves of every field. -/
namespace Sys2Proof.Machine

section fresh
variable (s : State)

@[simp] theorem fresh_pins : s.fresh.pins = s.pins := rfl
@[simp] theorem fresh_isl : s.fresh.isl = s.isl := rfl
@[simp] theorem fresh_otp : s.fresh.otp = s.otp := rfl
@[simp] theorem fresh_md : s.fresh.md = s.md := rfl
@[simp] theorem fresh_load : s.fresh.load = s.load := rfl
@[simp] theorem fresh_tbe : s.fresh.tbe = s.tbe := rfl
@[simp] theorem fresh_sec : s.fresh.sec = s.sec := rfl
@[simp] theorem fresh_regs : s.fresh.regs = s.regs := rfl
@[simp] theorem fresh_back : s.fresh.back = s.back := rfl
@[simp] theorem fresh_tbl : s.fresh.tbl = s.tbl := rfl
@[simp] theorem fresh_cnt : s.fresh.cnt = s.cnt := rfl
@[simp] theorem fresh_hostShadow : s.fresh.hostShadow = s.hostShadow := rfl
@[simp] theorem fresh_sbShadow : s.fresh.sbShadow = s.sbShadow := rfl
@[simp] theorem fresh_hostStamp : s.fresh.hostStamp = s.hostStamp := rfl
@[simp] theorem fresh_sbStamp : s.fresh.sbStamp = s.sbStamp := rfl
@[simp] theorem fresh_flt : s.fresh.flt = s.flt := rfl
@[simp] theorem fresh_fltRow : s.fresh.fltRow = s.fltRow := rfl
@[simp] theorem fresh_lim : s.fresh.lim = s.lim := rfl
@[simp] theorem fresh_ecp : s.fresh.ecp = s.ecp := rfl
@[simp] theorem fresh_cdt : s.fresh.cdt = s.cdt := rfl
@[simp] theorem fresh_ring : s.fresh.ring = s.ring := rfl
@[simp] theorem fresh_msix : s.fresh.msix = s.msix := rfl
@[simp] theorem fresh_temp : s.fresh.temp = s.temp := rfl
@[simp] theorem fresh_port : s.fresh.port = s.port := rfl
@[simp] theorem fresh_graph : s.fresh.graph = s.graph := rfl
@[simp] theorem fresh_graphLen : s.fresh.graphLen = s.graphLen := rfl
@[simp] theorem fresh_topo : s.fresh.topo = s.topo := rfl
@[simp] theorem fresh_cls : s.fresh.cls = s.cls := rfl
@[simp] theorem fresh_asa : s.fresh.asa = s.asa := rfl
@[simp] theorem fresh_fwd : s.fresh.fwd = s.fwd := rfl
@[simp] theorem fresh_fwdq : s.fresh.fwdq = s.fwdq := rfl
@[simp] theorem fresh_fseq : s.fresh.fseq = s.fseq := rfl
@[simp] theorem fresh_part : s.fresh.part = s.part := rfl
@[simp] theorem fresh_dir : s.fresh.dir = s.dir := rfl
@[simp] theorem fresh_clove : s.fresh.clove = s.clove := rfl
@[simp] theorem fresh_svc : s.fresh.svc = s.svc := rfl
@[simp] theorem fresh_eng : s.fresh.eng = s.eng := rfl
@[simp] theorem fresh_buf : s.fresh.buf = s.buf := rfl
@[simp] theorem fresh_swc : s.fresh.swc = s.swc := rfl
@[simp] theorem fresh_tms : s.fresh.tms = s.tms := rfl
@[simp] theorem fresh_pod : s.fresh.pod = s.pod := rfl
@[simp] theorem fresh_hmc : s.fresh.hmc = s.hmc := rfl
@[simp] theorem fresh_free : s.fresh.free = s.free := rfl
@[simp] theorem fresh_out : s.fresh.out = [] := rfl
@[simp] theorem fresh_pending : s.fresh.pending = s.pending := rfl
@[simp] theorem fresh_now : s.fresh.now = s.now := rfl
@[simp] theorem fresh_live : s.fresh.live = s.live := rfl
@[simp] theorem fresh_coreHeld : s.fresh.coreHeld = s.coreHeld := rfl
@[simp] theorem fresh_reg (a : Nat) : s.fresh.reg a = s.reg a := rfl
@[simp] theorem fresh_regF (a h l : Nat) : s.fresh.regF a h l = s.regF a h l := rfl
@[simp] theorem fresh_fresh : s.fresh.fresh = s.fresh := rfl

end fresh

section setReg
variable (s : State) (a v : Nat)

@[simp] theorem setReg_pins : (setReg a v s).pins = s.pins := rfl
@[simp] theorem setReg_isl : (setReg a v s).isl = s.isl := rfl
@[simp] theorem setReg_otp : (setReg a v s).otp = s.otp := rfl
@[simp] theorem setReg_md : (setReg a v s).md = s.md := rfl
@[simp] theorem setReg_load : (setReg a v s).load = s.load := rfl
@[simp] theorem setReg_tbe : (setReg a v s).tbe = s.tbe := rfl
@[simp] theorem setReg_sec : (setReg a v s).sec = s.sec := rfl
@[simp] theorem setReg_regs : (setReg a v s).regs = s.regs.set a (BitVec.ofNat 32 v) := rfl
@[simp] theorem setReg_back : (setReg a v s).back = s.back := rfl
@[simp] theorem setReg_tbl : (setReg a v s).tbl = s.tbl := rfl
@[simp] theorem setReg_cnt : (setReg a v s).cnt = s.cnt := rfl
@[simp] theorem setReg_hostShadow : (setReg a v s).hostShadow = s.hostShadow := rfl
@[simp] theorem setReg_sbShadow : (setReg a v s).sbShadow = s.sbShadow := rfl
@[simp] theorem setReg_hostStamp : (setReg a v s).hostStamp = s.hostStamp := rfl
@[simp] theorem setReg_sbStamp : (setReg a v s).sbStamp = s.sbStamp := rfl
@[simp] theorem setReg_flt : (setReg a v s).flt = s.flt := rfl
@[simp] theorem setReg_fltRow : (setReg a v s).fltRow = s.fltRow := rfl
@[simp] theorem setReg_lim : (setReg a v s).lim = s.lim := rfl
@[simp] theorem setReg_ecp : (setReg a v s).ecp = s.ecp := rfl
@[simp] theorem setReg_cdt : (setReg a v s).cdt = s.cdt := rfl
@[simp] theorem setReg_ring : (setReg a v s).ring = s.ring := rfl
@[simp] theorem setReg_msix : (setReg a v s).msix = s.msix := rfl
@[simp] theorem setReg_temp : (setReg a v s).temp = s.temp := rfl
@[simp] theorem setReg_port : (setReg a v s).port = s.port := rfl
@[simp] theorem setReg_graph : (setReg a v s).graph = s.graph := rfl
@[simp] theorem setReg_graphLen : (setReg a v s).graphLen = s.graphLen := rfl
@[simp] theorem setReg_topo : (setReg a v s).topo = s.topo := rfl
@[simp] theorem setReg_cls : (setReg a v s).cls = s.cls := rfl
@[simp] theorem setReg_asa : (setReg a v s).asa = s.asa := rfl
@[simp] theorem setReg_fwd : (setReg a v s).fwd = s.fwd := rfl
@[simp] theorem setReg_fwdq : (setReg a v s).fwdq = s.fwdq := rfl
@[simp] theorem setReg_fseq : (setReg a v s).fseq = s.fseq := rfl
@[simp] theorem setReg_part : (setReg a v s).part = s.part := rfl
@[simp] theorem setReg_dir : (setReg a v s).dir = s.dir := rfl
@[simp] theorem setReg_clove : (setReg a v s).clove = s.clove := rfl
@[simp] theorem setReg_svc : (setReg a v s).svc = s.svc := rfl
@[simp] theorem setReg_eng : (setReg a v s).eng = s.eng := rfl
@[simp] theorem setReg_buf : (setReg a v s).buf = s.buf := rfl
@[simp] theorem setReg_swc : (setReg a v s).swc = s.swc := rfl
@[simp] theorem setReg_tms : (setReg a v s).tms = s.tms := rfl
@[simp] theorem setReg_pod : (setReg a v s).pod = s.pod := rfl
@[simp] theorem setReg_hmc : (setReg a v s).hmc = s.hmc := rfl
@[simp] theorem setReg_free : (setReg a v s).free = s.free := rfl
@[simp] theorem setReg_out : (setReg a v s).out = s.out := rfl
@[simp] theorem setReg_pending : (setReg a v s).pending = s.pending := rfl

end setReg

section runTo
variable (s : State) (n : Nat)

@[simp] theorem runTo_pins : (runTo n s).pins = s.pins := rfl
@[simp] theorem runTo_isl : (runTo n s).isl = s.isl := rfl
@[simp] theorem runTo_otp : (runTo n s).otp = s.otp := rfl
@[simp] theorem runTo_md : (runTo n s).md = s.md := rfl
@[simp] theorem runTo_load : (runTo n s).load = s.load := rfl
@[simp] theorem runTo_tbe : (runTo n s).tbe = { s.tbe with st := max s.tbe.st n } := rfl
@[simp] theorem runTo_sec : (runTo n s).sec = s.sec := rfl
@[simp] theorem runTo_regs : (runTo n s).regs = s.regs := rfl
@[simp] theorem runTo_back : (runTo n s).back = s.back := rfl
@[simp] theorem runTo_tbl : (runTo n s).tbl = s.tbl := rfl
@[simp] theorem runTo_cnt : (runTo n s).cnt = s.cnt := rfl
@[simp] theorem runTo_hostShadow : (runTo n s).hostShadow = s.hostShadow := rfl
@[simp] theorem runTo_sbShadow : (runTo n s).sbShadow = s.sbShadow := rfl
@[simp] theorem runTo_hostStamp : (runTo n s).hostStamp = s.hostStamp := rfl
@[simp] theorem runTo_sbStamp : (runTo n s).sbStamp = s.sbStamp := rfl
@[simp] theorem runTo_flt : (runTo n s).flt = s.flt := rfl
@[simp] theorem runTo_fltRow : (runTo n s).fltRow = s.fltRow := rfl
@[simp] theorem runTo_lim : (runTo n s).lim = s.lim := rfl
@[simp] theorem runTo_ecp : (runTo n s).ecp = s.ecp := rfl
@[simp] theorem runTo_cdt : (runTo n s).cdt = s.cdt := rfl
@[simp] theorem runTo_ring : (runTo n s).ring = s.ring := rfl
@[simp] theorem runTo_msix : (runTo n s).msix = s.msix := rfl
@[simp] theorem runTo_temp : (runTo n s).temp = s.temp := rfl
@[simp] theorem runTo_port : (runTo n s).port = s.port := rfl
@[simp] theorem runTo_graph : (runTo n s).graph = s.graph := rfl
@[simp] theorem runTo_graphLen : (runTo n s).graphLen = s.graphLen := rfl
@[simp] theorem runTo_topo : (runTo n s).topo = s.topo := rfl
@[simp] theorem runTo_cls : (runTo n s).cls = s.cls := rfl
@[simp] theorem runTo_asa : (runTo n s).asa = s.asa := rfl
@[simp] theorem runTo_fwd : (runTo n s).fwd = s.fwd := rfl
@[simp] theorem runTo_fwdq : (runTo n s).fwdq = s.fwdq := rfl
@[simp] theorem runTo_fseq : (runTo n s).fseq = s.fseq := rfl
@[simp] theorem runTo_part : (runTo n s).part = s.part := rfl
@[simp] theorem runTo_dir : (runTo n s).dir = s.dir := rfl
@[simp] theorem runTo_clove : (runTo n s).clove = s.clove := rfl
@[simp] theorem runTo_svc : (runTo n s).svc = s.svc := rfl
@[simp] theorem runTo_eng : (runTo n s).eng = s.eng := rfl
@[simp] theorem runTo_buf : (runTo n s).buf = s.buf := rfl
@[simp] theorem runTo_swc : (runTo n s).swc = s.swc := rfl
@[simp] theorem runTo_tms : (runTo n s).tms = s.tms := rfl
@[simp] theorem runTo_pod : (runTo n s).pod = s.pod := rfl
@[simp] theorem runTo_hmc : (runTo n s).hmc = s.hmc := rfl
@[simp] theorem runTo_free : (runTo n s).free = s.free := rfl
@[simp] theorem runTo_out : (runTo n s).out = s.out := rfl
@[simp] theorem runTo_pending : (runTo n s).pending = s.pending := rfl
@[simp] theorem runTo_now : (runTo n s).now = max s.now n := rfl

end runTo

section emit
variable (s : State) (o : Out)

@[simp] theorem emit_pins : (emit o s).pins = s.pins := rfl
@[simp] theorem emit_isl : (emit o s).isl = s.isl := rfl
@[simp] theorem emit_otp : (emit o s).otp = s.otp := rfl
@[simp] theorem emit_md : (emit o s).md = s.md := rfl
@[simp] theorem emit_load : (emit o s).load = s.load := rfl
@[simp] theorem emit_tbe : (emit o s).tbe = s.tbe := rfl
@[simp] theorem emit_sec : (emit o s).sec = s.sec := rfl
@[simp] theorem emit_regs : (emit o s).regs = s.regs := rfl
@[simp] theorem emit_back : (emit o s).back = s.back := rfl
@[simp] theorem emit_tbl : (emit o s).tbl = s.tbl := rfl
@[simp] theorem emit_cnt : (emit o s).cnt = s.cnt := rfl
@[simp] theorem emit_hostShadow : (emit o s).hostShadow = s.hostShadow := rfl
@[simp] theorem emit_sbShadow : (emit o s).sbShadow = s.sbShadow := rfl
@[simp] theorem emit_hostStamp : (emit o s).hostStamp = s.hostStamp := rfl
@[simp] theorem emit_sbStamp : (emit o s).sbStamp = s.sbStamp := rfl
@[simp] theorem emit_flt : (emit o s).flt = s.flt := rfl
@[simp] theorem emit_fltRow : (emit o s).fltRow = s.fltRow := rfl
@[simp] theorem emit_lim : (emit o s).lim = s.lim := rfl
@[simp] theorem emit_ecp : (emit o s).ecp = s.ecp := rfl
@[simp] theorem emit_cdt : (emit o s).cdt = s.cdt := rfl
@[simp] theorem emit_ring : (emit o s).ring = s.ring := rfl
@[simp] theorem emit_msix : (emit o s).msix = s.msix := rfl
@[simp] theorem emit_temp : (emit o s).temp = s.temp := rfl
@[simp] theorem emit_port : (emit o s).port = s.port := rfl
@[simp] theorem emit_graph : (emit o s).graph = s.graph := rfl
@[simp] theorem emit_graphLen : (emit o s).graphLen = s.graphLen := rfl
@[simp] theorem emit_topo : (emit o s).topo = s.topo := rfl
@[simp] theorem emit_cls : (emit o s).cls = s.cls := rfl
@[simp] theorem emit_asa : (emit o s).asa = s.asa := rfl
@[simp] theorem emit_fwd : (emit o s).fwd = s.fwd := rfl
@[simp] theorem emit_fwdq : (emit o s).fwdq = s.fwdq := rfl
@[simp] theorem emit_fseq : (emit o s).fseq = s.fseq := rfl
@[simp] theorem emit_part : (emit o s).part = s.part := rfl
@[simp] theorem emit_dir : (emit o s).dir = s.dir := rfl
@[simp] theorem emit_clove : (emit o s).clove = s.clove := rfl
@[simp] theorem emit_svc : (emit o s).svc = s.svc := rfl
@[simp] theorem emit_eng : (emit o s).eng = s.eng := rfl
@[simp] theorem emit_buf : (emit o s).buf = s.buf := rfl
@[simp] theorem emit_swc : (emit o s).swc = s.swc := rfl
@[simp] theorem emit_tms : (emit o s).tms = s.tms := rfl
@[simp] theorem emit_pod : (emit o s).pod = s.pod := rfl
@[simp] theorem emit_hmc : (emit o s).hmc = s.hmc := rfl
@[simp] theorem emit_free : (emit o s).free = s.free := rfl
@[simp] theorem emit_out : (emit o s).out = s.out ++ [o] := rfl
@[simp] theorem emit_pending : (emit o s).pending = s.pending := rfl

end emit

section tblSet
variable (s : State) (t i : Nat) (d : Dat)

@[simp] theorem tblSet_pins : (tblSet t i d s).pins = s.pins := rfl
@[simp] theorem tblSet_isl : (tblSet t i d s).isl = s.isl := rfl
@[simp] theorem tblSet_otp : (tblSet t i d s).otp = s.otp := rfl
@[simp] theorem tblSet_md : (tblSet t i d s).md = s.md := rfl
@[simp] theorem tblSet_load : (tblSet t i d s).load = s.load := rfl
@[simp] theorem tblSet_tbe : (tblSet t i d s).tbe = s.tbe := rfl
@[simp] theorem tblSet_sec : (tblSet t i d s).sec = s.sec := rfl
@[simp] theorem tblSet_regs : (tblSet t i d s).regs = s.regs := rfl
@[simp] theorem tblSet_back : (tblSet t i d s).back = s.back := rfl
@[simp] theorem tblSet_tbl : (tblSet t i d s).tbl = s.tbl.set (tblKey t i) d := rfl
@[simp] theorem tblSet_cnt : (tblSet t i d s).cnt = s.cnt := rfl
@[simp] theorem tblSet_hostShadow : (tblSet t i d s).hostShadow = s.hostShadow := rfl
@[simp] theorem tblSet_sbShadow : (tblSet t i d s).sbShadow = s.sbShadow := rfl
@[simp] theorem tblSet_hostStamp : (tblSet t i d s).hostStamp = s.hostStamp := rfl
@[simp] theorem tblSet_sbStamp : (tblSet t i d s).sbStamp = s.sbStamp := rfl
@[simp] theorem tblSet_flt : (tblSet t i d s).flt = s.flt := rfl
@[simp] theorem tblSet_fltRow : (tblSet t i d s).fltRow = s.fltRow := rfl
@[simp] theorem tblSet_lim : (tblSet t i d s).lim = s.lim := rfl
@[simp] theorem tblSet_ecp : (tblSet t i d s).ecp = s.ecp := rfl
@[simp] theorem tblSet_cdt : (tblSet t i d s).cdt = s.cdt := rfl
@[simp] theorem tblSet_ring : (tblSet t i d s).ring = s.ring := rfl
@[simp] theorem tblSet_msix : (tblSet t i d s).msix = s.msix := rfl
@[simp] theorem tblSet_temp : (tblSet t i d s).temp = s.temp := rfl
@[simp] theorem tblSet_port : (tblSet t i d s).port = s.port := rfl
@[simp] theorem tblSet_graph : (tblSet t i d s).graph = s.graph := rfl
@[simp] theorem tblSet_graphLen : (tblSet t i d s).graphLen = s.graphLen := rfl
@[simp] theorem tblSet_topo : (tblSet t i d s).topo = s.topo := rfl
@[simp] theorem tblSet_cls : (tblSet t i d s).cls = s.cls := rfl
@[simp] theorem tblSet_asa : (tblSet t i d s).asa = s.asa := rfl
@[simp] theorem tblSet_fwd : (tblSet t i d s).fwd = s.fwd := rfl
@[simp] theorem tblSet_fwdq : (tblSet t i d s).fwdq = s.fwdq := rfl
@[simp] theorem tblSet_fseq : (tblSet t i d s).fseq = s.fseq := rfl
@[simp] theorem tblSet_part : (tblSet t i d s).part = s.part := rfl
@[simp] theorem tblSet_dir : (tblSet t i d s).dir = s.dir := rfl
@[simp] theorem tblSet_clove : (tblSet t i d s).clove = s.clove := rfl
@[simp] theorem tblSet_svc : (tblSet t i d s).svc = s.svc := rfl
@[simp] theorem tblSet_eng : (tblSet t i d s).eng = s.eng := rfl
@[simp] theorem tblSet_buf : (tblSet t i d s).buf = s.buf := rfl
@[simp] theorem tblSet_swc : (tblSet t i d s).swc = s.swc := rfl
@[simp] theorem tblSet_tms : (tblSet t i d s).tms = s.tms := rfl
@[simp] theorem tblSet_pod : (tblSet t i d s).pod = s.pod := rfl
@[simp] theorem tblSet_hmc : (tblSet t i d s).hmc = s.hmc := rfl
@[simp] theorem tblSet_free : (tblSet t i d s).free = s.free := rfl
@[simp] theorem tblSet_out : (tblSet t i d s).out = s.out := rfl
@[simp] theorem tblSet_pending : (tblSet t i d s).pending = s.pending := rfl

end tblSet

end Sys2Proof.Machine
end

