-- ==== Sys2Proof/Laws/Cmd.lean ====
section
/-! SUPPORT. What the shared operations of commands can do: counters, outputs, event records, and the frames in which every
command runs. -/
namespace Sys2Proof.Machine

/-! ### The frame of event records -/

theorem eventFrame.refl (s : State) : eventFrame s s := ⟨s.isl.log, s.isl.total, s.isl.held, s.isl.wrapped, s.isl.alert, s.cnt, s.cdt, s.msix, s.out, rfl⟩

theorem eventFrame.trans {s t u : State} (h : eventFrame s t) (g : eventFrame t u) : eventFrame s u := by
  obtain ⟨_, _, _, _, _, _, _, _, _, rfl⟩ := h
  obtain ⟨_, _, _, _, _, _, _, _, _, rfl⟩ := g
  exact ⟨_, _, _, _, _, _, _, _, _, rfl⟩

theorem countA_frame (x : Attr) (a n : Nat) (s : State) : eventFrame s (countA x a n s) := by
  unfold countA
  split
  · exact ⟨s.isl.log, s.isl.total, s.isl.held, s.isl.wrapped, s.isl.alert, _, s.cdt, s.msix, s.out, rfl⟩
  · exact .refl s

theorem count_frame (a : Nat) (s : State) : eventFrame s (count a s) := countA_frame _ _ _ _

theorem msixRaise_frame (v : Nat) (s : State) : eventFrame s (msixRaise v s) := by
  unfold msixRaise emit
  split
  · split
    · exact ⟨s.isl.log, s.isl.total, s.isl.held, s.isl.wrapped, s.isl.alert, s.cnt, s.cdt, s.msix, _, rfl⟩
    · exact ⟨s.isl.log, s.isl.total, s.isl.held, s.isl.wrapped, s.isl.alert, s.cnt, s.cdt, _, s.out, rfl⟩
  · exact .refl s

theorem cdtPush_frame (c : Nat) (x : Attr) (bs : List Byte) (s : State) : eventFrame s (cdtPush c x bs s) := by
  unfold cdtPush
  split
  · rename_i t h
    unfold cdtOffer at h
    dsimp only at h
    split at h
    · cases h
      exact ⟨s.isl.log, s.isl.total, s.isl.held, s.isl.wrapped, s.isl.alert, s.cnt, _, s.msix, s.out, rfl⟩
    · cases h
  · exact countA_frame _ _ _ _

theorem logPut_frame (r : EventRec) (s : State) : eventFrame s (logPut r s) :=
  ⟨_, _, _, s.isl.wrapped, s.isl.alert, s.cnt, s.cdt, s.msix, s.out, rfl⟩

theorem recPut_frame (r : EventRec) (s : State) : eventFrame s (recPut r s) := by
  unfold recPut
  extract_lets s1 mask i s2 s3
  have h2 : eventFrame s s2 := by
    refine (logPut_frame r s).trans ?_
    show eventFrame s1 (ite _ _ _)
    split
    · exact ⟨s1.isl.log, s1.isl.total, s1.isl.held, s1.isl.wrapped, _, s1.cnt, s1.cdt, s1.msix, s1.out, rfl⟩
    · exact .refl _
  have h3 : eventFrame s s3 := h2.trans ((count_frame _ _).trans (cdtPush_frame _ _ _ _))
  split
  · exact h2
  · split
    · exact h3.trans (msixRaise_frame _ _)
    · exact h3

theorem recWrite_frame (r : EventRec) (s : State) : eventFrame s (recWrite r s) := by
  unfold recWrite
  extract_lets full s1 i
  split
  · exact (recPut_frame r s).trans (eventFrame.trans
      ⟨s1.isl.log, s1.isl.total, s1.isl.held, _, s1.isl.alert, s1.cnt, s1.cdt, s1.msix, s1.out, rfl⟩ (recPut_frame _ _))
  · exact recPut_frame r s

/-- An event record touches the island, counters, the event conduit, MSI-X and the outputs, and nothing else. -/
theorem raise_frame (b c u d : Nat) (s : State) : eventFrame s (raise b c u d s) := recWrite_frame _ _

/-! ### The log (R453) -/

theorem countA_isl (x : Attr) (a n : Nat) (s : State) : (countA x a n s).isl = s.isl := by unfold countA; split <;> rfl

theorem msixRaise_isl (v : Nat) (s : State) : (msixRaise v s).isl = s.isl := by
  unfold msixRaise emit; split
  · split <;> rfl
  · rfl

theorem cdtPush_isl (c : Nat) (x : Attr) (bs : List Byte) (s : State) : (cdtPush c x bs s).isl = s.isl := by
  unfold cdtPush
  split
  · rename_i t h
    unfold cdtOffer at h
    dsimp only at h
    split at h <;> cases h
    rfl
  · exact countA_isl _ _ _ _

theorem recPut_log (r : EventRec) (s : State) :
    (recPut r s).isl.log = s.isl.log.set (s.isl.total.toNat % 1024) r ∧ (recPut r s).isl.total = s.isl.total + 1 := by
  unfold recPut
  extract_lets s1 mask i s2 s3
  have h2 : s2.isl.log = s1.isl.log ∧ s2.isl.total = s1.isl.total := by
    show (ite _ _ _ : State).isl.log = _ ∧ (ite _ _ _ : State).isl.total = _
    split <;> exact ⟨rfl, rfl⟩
  have h3 : s3.isl = s2.isl := by rw [cdtPush_isl]; exact countA_isl _ _ _ _
  split
  · exact h2
  · split
    · rw [msixRaise_isl, h3]; exact h2
    · rw [h3]; exact h2

theorem recWrite_log (r : EventRec) (s : State) :
    (recWrite r s).isl.log.get (s.isl.total.toNat % 1024) = r := by
  unfold recWrite
  extract_lets full s1 i
  have h1 : s1.isl.log.get (s.isl.total.toNat % 1024) = r := by
    rw [(recPut_log r s).1]; exact SMap.get_set_self _ _ _
  split
  · rw [(recPut_log _ _).1]
    rw [SMap.get_set_ne]
    · exact h1
    · show _ ≠ s1.isl.total.toNat % 1024
      rw [(recPut_log r s).2]
      have := s.isl.total.isLt
      have e : (s.isl.total + 1).toNat = (s.isl.total.toNat + 1) % 2 ^ 32 := by simp [BitVec.toNat_add]
      rw [e]
      omega
  · exact h1

/-- What raising an event does. -/
theorem raise_raised (b c u d : Nat) (s : State) : Raised b c u d s (raise b c u d s) :=
  ⟨raise_frame b c u d s, recWrite_log _ _⟩

/-- A change of the modes commutes with an event. -/
theorem Raised.md_set {b c n d : Nat} {u t : State} (m : ModeSt) (h : Raised b c n d u t) :
    Raised b c n d { u with md := m } { t with md := m } := by
  obtain ⟨⟨_, _, _, _, _, _, _, _, _, rfl⟩, h⟩ := h
  exact ⟨⟨_, _, _, _, _, _, _, _, _, rfl⟩, h⟩

/-- A change of the loader commutes with an event. -/
theorem Raised.load_set {b c n d : Nat} {u t : State} (m : Load) (h : Raised b c n d u t) :
    Raised b c n d { u with load := m } { t with load := m } := by
  obtain ⟨⟨_, _, _, _, _, _, _, _, _, rfl⟩, h⟩ := h
  exact ⟨⟨_, _, _, _, _, _, _, _, _, rfl⟩, h⟩

theorem Raised.frame {b c n d : Nat} {u t : State} (h : Raised b c n d u t) : eventFrame u t := h.1

theorem Raised.of_eq {b c n d : Nat} {u t t' : State} (h : Raised b c n d u t) (e : t' = t) : Raised b c n d u t' := e ▸ h

theorem raiseLim_frame (n x b c u d : Nat) (s : State) : ∃ l, eventFrame { s with lim := l } (raiseLim n x b c u d s) := by
  unfold raiseLim
  extract_lets k sec l l'
  split
  · exact ⟨_, recWrite_frame _ _⟩
  · refine ⟨s.lim.set k { l' with suppressed := true }, ?_⟩
    split
    · exact .refl _
    · exact count_frame _ _

section fields
variable {s t : State} (h : eventFrame s t)
include h

theorem eventFrame.md : t.md = s.md := by obtain ⟨_, _, _, _, _, _, _, _, _, rfl⟩ := h; rfl
theorem eventFrame.pins : t.pins = s.pins := by obtain ⟨_, _, _, _, _, _, _, _, _, rfl⟩ := h; rfl
theorem eventFrame.tbe : t.tbe = s.tbe := by obtain ⟨_, _, _, _, _, _, _, _, _, rfl⟩ := h; rfl
theorem eventFrame.sec : t.sec = s.sec := by obtain ⟨_, _, _, _, _, _, _, _, _, rfl⟩ := h; rfl
theorem eventFrame.load : t.load = s.load := by obtain ⟨_, _, _, _, _, _, _, _, _, rfl⟩ := h; rfl
theorem eventFrame.regs : t.regs = s.regs := by obtain ⟨_, _, _, _, _, _, _, _, _, rfl⟩ := h; rfl
theorem eventFrame.tbl : t.tbl = s.tbl := by obtain ⟨_, _, _, _, _, _, _, _, _, rfl⟩ := h; rfl
theorem eventFrame.pending : t.pending = s.pending := by obtain ⟨_, _, _, _, _, _, _, _, _, rfl⟩ := h; rfl
theorem eventFrame.live : t.live = s.live := by obtain ⟨_, _, _, _, _, _, _, _, _, rfl⟩ := h; rfl
theorem eventFrame.held : t.coreHeld = s.coreHeld := by obtain ⟨_, _, _, _, _, _, _, _, _, rfl⟩ := h; rfl
theorem eventFrame.packets : t.holdsPackets = s.holdsPackets := by obtain ⟨_, _, _, _, _, _, _, _, _, rfl⟩ := h; rfl

end fields

section shared
variable (s : State) (x : Attr) (a n b c u d : Nat)

@[simp] theorem countA_md : (countA x a n s).md = s.md := (countA_frame x a n s).md
@[simp] theorem countA_pins : (countA x a n s).pins = s.pins := (countA_frame x a n s).pins
@[simp] theorem countA_tbe : (countA x a n s).tbe = s.tbe := (countA_frame x a n s).tbe
@[simp] theorem countA_sec : (countA x a n s).sec = s.sec := (countA_frame x a n s).sec
@[simp] theorem countA_pending : (countA x a n s).pending = s.pending := (countA_frame x a n s).pending
@[simp] theorem countA_live : (countA x a n s).live = s.live := (countA_frame x a n s).live
@[simp] theorem count_md : (count a s).md = s.md := countA_md _ _ _ _
@[simp] theorem count_pins : (count a s).pins = s.pins := countA_pins _ _ _ _
@[simp] theorem count_tbe : (count a s).tbe = s.tbe := countA_tbe _ _ _ _
@[simp] theorem count_sec : (count a s).sec = s.sec := countA_sec _ _ _ _
@[simp] theorem count_pending : (count a s).pending = s.pending := countA_pending _ _ _ _
@[simp] theorem count_live : (count a s).live = s.live := countA_live _ _ _ _
@[simp] theorem countC_md : (countC n a s).md = s.md := countA_md _ _ _ _
@[simp] theorem countC_pending : (countC n a s).pending = s.pending := countA_pending _ _ _ _
@[simp] theorem raise_md : (raise b c u d s).md = s.md := (raise_frame b c u d s).md
@[simp] theorem raise_pins : (raise b c u d s).pins = s.pins := (raise_frame b c u d s).pins
@[simp] theorem raise_tbe : (raise b c u d s).tbe = s.tbe := (raise_frame b c u d s).tbe
@[simp] theorem raise_sec : (raise b c u d s).sec = s.sec := (raise_frame b c u d s).sec
@[simp] theorem raise_load : (raise b c u d s).load = s.load := (raise_frame b c u d s).load
@[simp] theorem raise_regs : (raise b c u d s).regs = s.regs := (raise_frame b c u d s).regs
@[simp] theorem raise_pending : (raise b c u d s).pending = s.pending := (raise_frame b c u d s).pending
@[simp] theorem raise_live : (raise b c u d s).live = s.live := (raise_frame b c u d s).live
@[simp] theorem raise_coreHeld : (raise b c u d s).coreHeld = s.coreHeld := (raise_frame b c u d s).held
@[simp] theorem raiseLim_md : (raiseLim n a b c u d s).md = s.md := by
  obtain ⟨l, h⟩ := raiseLim_frame n a b c u d s; exact h.md
@[simp] theorem raiseLim_pending : (raiseLim n a b c u d s).pending = s.pending := by
  obtain ⟨l, h⟩ := raiseLim_frame n a b c u d s; exact h.pending

end shared

/-- What a change of mode does (R80, R94). -/
theorem changeMode_raised (m : Mode) (cause : Nat) (s : State) :
    Raised 0 1 noUnit (m.code + 256 * s.md.mode.code + 65536 * cause)
      { s with md := { s.md with mode := m, cause := cause,
                                 drained := if s.md.mode == .drain && m != .drain then false else s.md.drained } }
      (changeMode m cause s) := raise_raised 0 1 _ _ _

/-- What entry into Service does (R82). -/
theorem enterService_raised (cause : Nat) (s : State) :
    Raised 0 1 noUnit (1 + 256 * s.md.mode.code + 65536 * cause)
      { s with md := { s.md with mode := .service, cause := cause, hbLast := s.now,
                                 drained := if s.md.mode == .drain && Mode.service != .drain then false else s.md.drained } }
      (enterService cause s) := by
  have h := changeMode_raised .service cause s
  have e := h.frame.md
  have n : (changeMode .service cause s).now = s.now := congrArg Tbe.st h.frame.tbe
  have g := h.md_set { s.md with mode := .service, cause := cause, hbLast := s.now,
                                 drained := if s.md.mode == .drain && Mode.service != .drain then false else s.md.drained }
  refine g.of_eq ?_
  unfold enterService
  dsimp only
  rw [e, n]

/-! ### The frames of commands -/

/-- Outside Drain, or once the device is drained, the end of a command changes nothing more. -/
theorem settle_of_drained {s : State} (h : s.calm) : settle s = s := by
  unfold settle; rw [if_neg (fun k => Bool.noConfusion ((h k.1).symm.trans k.2.1))]

theorem finish_of_drained {s t : State} (h : t.calm) (hp : t.pending = s.pending) :
    finish s t = .next t := by
  unfold finish; rw [settle_of_drained h, ← hp]

/-- The end of a command changes nothing more on a device that, in Drain, has drained already or still holds packets. -/
theorem settle_of_quiet {s : State} (h : s.quiet) : settle s = s := by
  unfold settle
  refine if_neg fun k => ?_
  rcases h k.1 with d | d
  · exact Bool.noConfusion (d.symm.trans k.2.1)
  · exact Bool.noConfusion (d.symm.trans k.2.2.1)

/-- A command that leaves the mode and the packets held as they were keeps such a device so. -/
theorem quiet_of_eq {s t : State} (h : s.quiet) (hm : t.md = s.md) (hp : t.holdsPackets = s.holdsPackets) : t.quiet := by
  unfold State.quiet; rw [hm, hp]; exact h

theorem finish_of_quiet {s t : State} (h : t.quiet) (hp : t.pending = s.pending) : finish s t = .next t := by
  unfold finish; rw [settle_of_quiet h, ← hp]

/-- A command of a running block answers its effect on a device that stays quiet. -/
theorem coreCmd_running {f : State → State} {s : State} (h : s.running) (hm : (f s.fresh).quiet)
    (hp : (f s.fresh).pending = s.pending) : coreCmd f s = .next (f s.fresh) := by
  unfold coreCmd; rw [if_pos h.1, finish_of_quiet hm hp]

/-- A host write that its mode allows answers its effect on a device that stays quiet. -/
theorem hostCmd_sets {f : State → State} {s : State} {win : Nat} (h : s.hostSets win) (hm : (f s.fresh).quiet)
    (hp : (f s.fresh).pending = s.pending) : hostCmd win f s = .next (f s.fresh) := by
  unfold hostCmd; rw [if_pos h.1, if_pos h.2.1, finish_of_quiet hm hp]

/-- A command of a running block answers its effect where the end of the command cannot find the device newly drained. -/
theorem coreCmd_steady {f : State → State} {s : State} (h : s.steady) (hm : (f s.fresh).calm)
    (hp : (f s.fresh).pending = s.pending) : coreCmd f s = .next (f s.fresh) := by
  unfold coreCmd; rw [if_pos h.1, finish_of_drained hm hp]

/-- A command of a block that does not run has no effect. -/
theorem coreCmd_held {f : State → State} {s : State} (h : s.live = false) : coreCmd f s = .next s.fresh := by
  unfold coreCmd; rw [h]; rfl

theorem islandCmd_of_drained {f : State → State} {s : State} (hm : (f s.fresh).calm)
    (hp : (f s.fresh).pending = s.pending) : islandCmd f s = .next (f s.fresh) := finish_of_drained hm hp

/-- A host write that its mode allows answers its effect. -/
theorem hostCmd_writes {f : State → State} {s : State} {win : Nat} (h : s.hostWrites win)
    (hm : (f s.fresh).calm) (hp : (f s.fresh).pending = s.pending) :
    hostCmd win f s = .next (f s.fresh) := by
  unfold hostCmd; rw [if_pos h.1, if_pos h.2.1, finish_of_drained hm hp]

end Sys2Proof.Machine
end

