-- ==== Sys2Proof/Laws/Hss.lean ====
section
/-! SUPPORT. Signing: a signature built from the starts of its chains verifies (R76), whatever the message. The chains start at zeros, the
leaves have number 0, and the paths are zeros. -/
namespace Sys2Proof

def zeros (n : Nat) : List Byte := List.replicate n 0

theorem shaBytes_length (bs : List Byte) : (shaBytes bs).length = 32 := by
  have h : ∀ n v, (leBytes n v).length = n := fun n => by induction n with
    | zero => simp [leBytes]
    | succ n ih => simp [leBytes, ih]
  simp [shaBytes, bvBytes, h]

theorem beBytes_length (n v : Nat) : (beBytes n v).length = n := by
  have h : ∀ n v, (leBytes n v).length = n := fun n => by induction n with
    | zero => simp [leBytes]
    | succ n ih => simp [leBytes, ih]
  simp [beBytes, h]

/-! ### Chains -/

theorem chainFrom_length (x : List Byte) (n i : Nat) (t : List Byte) (h : t.length = 32) : (chainFrom x n i t).length = 32 := by
  induction n generalizing i t with
  | zero => exact h
  | succ n ih => exact ih _ _ (shaBytes_length _)

/-- A chain that stops on its way and goes on from there. -/
theorem chainFrom_add (x : List Byte) (n m i : Nat) (t : List Byte) :
    chainFrom x m (i + n) (chainFrom x n i t) = chainFrom x (n + m) i t := by
  induction n generalizing i t with
  | zero => simp [chainFrom]
  | succ n ih =>
    rw [show n + 1 + m = n + m + 1 by omega, chainFrom, chainFrom, ← ih (i + 1), show i + (n + 1) = i + 1 + n by omega]

theorem otsDigits_length (q : List Byte) (h : q.length = 32) : (otsDigits q).length = 34 := by
  simp [otsDigits, beBytes_length, h]

/-- Part i of the parts of 32 bytes that a list strings together. -/
theorem slice_flatten (l : List (List Byte)) (h : ∀ x ∈ l, x.length = 32) (i : Nat) (hi : i < l.length) :
    slice l.flatten (32 * i) 32 = l[i] := by
  induction l generalizing i with
  | nil => simp at hi
  | cons a r ih =>
    have ha : a.length = 32 := h a (by simp)
    cases i with
    | zero => simp [slice, ha]
    | succ i =>
      have := ih (fun x hx => h x (by simp [hx])) i (by simpa using hi)
      simp only [slice, List.flatten_cons, List.getElem_cons_succ] at this ⊢
      rw [show 32 * (i + 1) = a.length + 32 * i by omega, List.drop_append, List.drop_eq_nil_of_le (by omega)]
      simpa using this

/-! ### One-time signatures -/

/-- The chains of a signature of a message. -/
def otsSign (iq c msg : List Byte) : List Byte :=
  ((otsMessage iq c msg).zipIdx.map (fun d => chainFrom (iq ++ beBytes 2 d.2) d.1.toNat 0 (zeros 32))).flatten

/-- The public key of those chains, whatever the message. -/
def otsPub (iq : List Byte) : List Byte :=
  otsPublic iq ((List.range 34).map (fun i => chainFrom (iq ++ beBytes 2 i) 255 0 (zeros 32)))

theorem otsSign_part (iq c msg : List Byte) (i : Nat) (hi : i < 34) (d : Byte) (hd : (otsMessage iq c msg)[i]? = some d) :
    slice (otsSign iq c msg) (32 * i) 32 = chainFrom (iq ++ beBytes 2 i) d.toNat 0 (zeros 32) := by
  have hl : (otsMessage iq c msg).length = 34 := otsDigits_length _ (shaBytes_length _)
  unfold otsSign
  rw [slice_flatten _ _ i (by simpa [hl] using hi)]
  · obtain ⟨h, e⟩ := List.getElem?_eq_some_iff.mp hd
    simp [e]
  · intro x hx
    obtain ⟨y, -, rfl⟩ := List.mem_map.mp hx
    exact chainFrom_length _ _ _ _ (by simp [zeros])

theorem otsSign_length (iq c msg : List Byte) : (otsSign iq c msg).length = 1088 := by
  have hl : (otsMessage iq c msg).length = 34 := otsDigits_length _ (shaBytes_length _)
  have e (d : Byte × Nat) : (chainFrom (iq ++ beBytes 2 d.2) d.1.toNat 0 (zeros 32)).length = 32 :=
    chainFrom_length _ _ _ _ (by simp [zeros])
  simp [otsSign, List.length_flatten, Function.comp_def, e, hl]

/-- The chains of a signature end in the public key. -/
theorem otsKey_sign (iq c msg : List Byte) : otsKey iq c (otsSign iq c msg) msg = otsPub iq := by
  have hl : (otsMessage iq c msg).length = 34 := otsDigits_length _ (shaBytes_length _)
  unfold otsKey otsPub
  congr 1
  refine List.ext_getElem (by simp [hl]) (fun i h1 h2 => ?_)
  have hi : i < 34 := by simpa using h2
  have hd : (otsMessage iq c msg)[i]? = some ((otsMessage iq c msg)[i]'(by omega)) := List.getElem?_eq_getElem _
  simp only [List.getElem_map, List.getElem_zipIdx, List.getElem_range, Nat.zero_add]
  rw [otsSign_part iq c msg i hi _ hd]
  have hb := ((otsMessage iq c msg)[i]'(by omega)).isLt
  have := chainFrom_add (iq ++ beBytes 2 i) ((otsMessage iq c msg)[i]'(by omega)).toNat
    (255 - ((otsMessage iq c msg)[i]'(by omega)).toNat) 0 (zeros 32)
  rw [Nat.zero_add] at this
  rw [this]
  congr 1
  omega

/-! ### Trees -/

/-- The LMS signature with leaf 0 of a message, in a tree of height h and of a type. -/
def lmsSign (h type : Nat) (id msg : List Byte) : List Byte :=
  zeros 4 ++ beBytes 4 4 ++ zeros 32 ++ otsSign (id ++ zeros 4) (zeros 32) msg ++ beBytes 4 type ++ zeros (32 * h)

/-- The root of that tree. -/
def lmsPub (h : Nat) (id : List Byte) : List Byte := lmsRoot h id 0 (otsPub (id ++ zeros 4)) (zeros (32 * h))

theorem slice_append_right (a b : List Byte) (o n k : Nat) (h : a.length = k) : slice (a ++ b) (k + o) n = slice b o n := by
  subst h; simp [slice, List.drop_append, List.drop_eq_nil_of_le (Nat.le_add_right a.length o)]

theorem slice_append_left (a b : List Byte) (n : Nat) (h : a.length = n) : slice (a ++ b) 0 n = a := by
  subst h; simp [slice]

theorem slice_all (a : List Byte) (n : Nat) (h : a.length = n) : slice a 0 n = a := by subst h; simp [slice]

theorem lmsSign_fields (h type : Nat) (id msg : List Byte) :
    slice (lmsSign h type id msg) 0 4 = zeros 4 ∧ slice (lmsSign h type id msg) 4 4 = beBytes 4 4 ∧
      slice (lmsSign h type id msg) 8 32 = zeros 32 ∧
      slice (lmsSign h type id msg) 40 1088 = otsSign (id ++ zeros 4) (zeros 32) msg ∧
      slice (lmsSign h type id msg) 1128 4 = beBytes 4 type ∧ slice (lmsSign h type id msg) 1132 (32 * h) = zeros (32 * h) := by
  have z (n : Nat) : (zeros n).length = n := by simp [zeros]
  have b := beBytes_length 4
  have o := otsSign_length (id ++ zeros 4) (zeros 32) msg
  simp only [lmsSign, List.append_assoc]
  refine ⟨slice_append_left _ _ 4 (z 4), ?_, ?_, ?_, ?_, ?_⟩
  · rw [show 4 = 4 + 0 from rfl, slice_append_right _ _ 0 _ 4 (z 4), slice_append_left _ _ _ (b 4)]
  · rw [show 8 = 4 + (4 + 0) from rfl, slice_append_right _ _ _ _ 4 (z 4), slice_append_right _ _ _ _ 4 (b 4),
      slice_append_left _ _ _ (z 32)]
  · rw [show 40 = 4 + (4 + (32 + 0)) from rfl, slice_append_right _ _ _ _ 4 (z 4), slice_append_right _ _ _ _ 4 (b 4),
      slice_append_right _ _ _ _ 32 (z 32), slice_append_left _ _ _ o]
  · rw [show 1128 = 4 + (4 + (32 + (1088 + 0))) from rfl, slice_append_right _ _ _ _ 4 (z 4), slice_append_right _ _ _ _ 4 (b 4),
      slice_append_right _ _ _ _ 32 (z 32), slice_append_right _ _ _ _ 1088 o, slice_append_left _ _ _ (b type)]
  · rw [show 1132 = 4 + (4 + (32 + (1088 + (4 + 0)))) from rfl, slice_append_right _ _ _ _ 4 (z 4), slice_append_right _ _ _ _ 4 (b 4),
      slice_append_right _ _ _ _ 32 (z 32), slice_append_right _ _ _ _ 1088 o, slice_append_right _ _ _ _ 4 (b type),
      slice_all _ _ (z _)]

theorem lmsSign_length (h type : Nat) (id msg : List Byte) : (lmsSign h type id msg).length = 1132 + 32 * h := by
  simp [lmsSign, zeros, beBytes_length, otsSign_length]; omega

theorem lmsCandidate_sign (h type : Nat) (id msg : List Byte) : lmsCandidate h id (lmsSign h type id msg) msg = lmsPub h id := by
  obtain ⟨e0, -, e2, e3, -, e5⟩ := lmsSign_fields h type id msg
  have z : beVal (zeros 4) = 0 := by decide
  simp only [lmsCandidate, lmsPub, e0, e2, e3, e5, otsKey_sign, z]

theorem lmsClimb_length (id : List Byte) (n r : Nat) (t path : List Byte) (h : t.length = 32) :
    (lmsClimb id n r t path).length = 32 := by
  induction n generalizing r t path with
  | zero => exact h
  | succ n ih => exact ih _ _ _ (shaBytes_length _)

theorem lmsPub_length (h : Nat) (id : List Byte) : (lmsPub h id).length = 32 := lmsClimb_length _ _ _ _ _ (shaBytes_length _)

/-! ### Two levels -/

/-- The bottom public key under an identifier. -/
def hssLow (id : List Byte) : List Byte := beBytes 4 6 ++ beBytes 4 4 ++ id ++ lmsPub 10 id

/-- The HSS public key, and the signature of a message. -/
def hssPub (id : List Byte) : List Byte := beBytes 4 2 ++ beBytes 4 7 ++ beBytes 4 4 ++ id ++ lmsPub 15 id
def hssSign (id msg : List Byte) : List Byte := beBytes 4 1 ++ lmsSign 15 7 id (hssLow id) ++ hssLow id ++ lmsSign 10 6 id msg

/-- What is signed verifies. -/
theorem hssOk_sign (id msg : List Byte) (hi : id.length = 16) : hssOk (hssPub id) msg (hssSign id msg) = true := by
  have b := beBytes_length 4
  have lt : (lmsSign 15 7 id (hssLow id)).length = 1612 := lmsSign_length _ _ _ _
  have lb : (lmsSign 10 6 id msg).length = 1452 := lmsSign_length _ _ _ _
  have ll : (hssLow id).length = 56 := by simp [hssLow, beBytes_length, hi, lmsPub_length]
  have p0 : slice (hssPub id) 0 4 = beBytes 4 2 := by
    simp only [hssPub, List.append_assoc]; exact slice_append_left _ _ _ (b 2)
  have p4 : slice (hssPub id) 4 4 = beBytes 4 7 := by
    simp only [hssPub, List.append_assoc]
    rw [show 4 = 4 + 0 from rfl, slice_append_right _ _ 0 _ 4 (b 2), slice_append_left _ _ _ (b 7)]
  have p8 : slice (hssPub id) 8 4 = beBytes 4 4 := by
    simp only [hssPub, List.append_assoc]
    rw [show 8 = 4 + (4 + 0) from rfl, slice_append_right _ _ _ _ 4 (b 2), slice_append_right _ _ _ _ 4 (b 7),
      slice_append_left _ _ _ (b 4)]
  have p12 : slice (hssPub id) 12 16 = id := by
    simp only [hssPub, List.append_assoc]
    rw [show 12 = 4 + (4 + (4 + 0)) from rfl, slice_append_right _ _ _ _ 4 (b 2), slice_append_right _ _ _ _ 4 (b 7),
      slice_append_right _ _ _ _ 4 (b 4), slice_append_left _ _ _ hi]
  have p28 : slice (hssPub id) 28 32 = lmsPub 15 id := by
    simp only [hssPub, List.append_assoc]
    rw [show 28 = 4 + (4 + (4 + (16 + 0))) from rfl, slice_append_right _ _ _ _ 4 (b 2), slice_append_right _ _ _ _ 4 (b 7),
      slice_append_right _ _ _ _ 4 (b 4), slice_append_right _ _ _ _ 16 hi, slice_all _ _ (lmsPub_length _ _)]
  have s0 : slice (hssSign id msg) 0 4 = beBytes 4 1 := by
    simp only [hssSign, List.append_assoc]; exact slice_append_left _ _ _ (b 1)
  have s4 : slice (hssSign id msg) 4 1612 = lmsSign 15 7 id (hssLow id) := by
    simp only [hssSign, List.append_assoc]
    rw [show 4 = 4 + 0 from rfl, slice_append_right _ _ 0 _ 4 (b 1), slice_append_left _ _ _ lt]
  have s1616 : slice (hssSign id msg) 1616 56 = hssLow id := by
    simp only [hssSign, List.append_assoc]
    rw [show 1616 = 4 + (1612 + 0) from rfl, slice_append_right _ _ _ _ 4 (b 1), slice_append_right _ _ _ _ 1612 lt,
      slice_append_left _ _ _ ll]
  have s1672 : slice (hssSign id msg) 1672 1452 = lmsSign 10 6 id msg := by
    simp only [hssSign, List.append_assoc]
    rw [show 1672 = 4 + (1612 + (56 + 0)) from rfl, slice_append_right _ _ _ _ 4 (b 1), slice_append_right _ _ _ _ 1612 lt,
      slice_append_right _ _ _ _ 56 ll, slice_all _ _ lb]
  have l0 : slice (hssLow id) 0 4 = beBytes 4 6 := by
    simp only [hssLow, List.append_assoc]; exact slice_append_left _ _ _ (b 6)
  have l4 : slice (hssLow id) 4 4 = beBytes 4 4 := by
    simp only [hssLow, List.append_assoc]
    rw [show 4 = 4 + 0 from rfl, slice_append_right _ _ 0 _ 4 (b 6), slice_append_left _ _ _ (b 4)]
  have l8 : slice (hssLow id) 8 16 = id := by
    simp only [hssLow, List.append_assoc]
    rw [show 8 = 4 + (4 + 0) from rfl, slice_append_right _ _ _ _ 4 (b 6), slice_append_right _ _ _ _ 4 (b 4), slice_append_left _ _ _ hi]
  have l24 : slice (hssLow id) 24 32 = lmsPub 10 id := by
    simp only [hssLow, List.append_assoc]
    rw [show 24 = 4 + (4 + (16 + 0)) from rfl, slice_append_right _ _ _ _ 4 (b 6), slice_append_right _ _ _ _ 4 (b 4),
      slice_append_right _ _ _ _ 16 hi, slice_all _ _ (lmsPub_length _ _)]
  have len : (hssSign id msg).length = 3124 := by simp [hssSign, b, lt, lb, ll]
  have shape (h type : Nat) (m : List Byte) (ht : beVal (beBytes 4 type) = type) : lmsShape h type (lmsSign h type id m) = true := by
    obtain ⟨e0, e1, -, -, e4, -⟩ := lmsSign_fields h type id m
    have z : beVal (zeros 4) = 0 := by decide
    simp [lmsShape, e0, e1, e4, ht, z, show beVal (beBytes 4 4) = 4 by decide]
  simp only [hssOk, p0, p4, p8, p12, p28, s0, s4, s1616, s1672, l0, l4, l8, l24, len, lmsCandidate_sign, shape 15 7 _ (by decide),
    shape 10 6 _ (by decide), show beVal (beBytes 4 2) = 2 by decide, show beVal (beBytes 4 7) = 7 by decide,
    show beVal (beBytes 4 4) = 4 by decide, show beVal (beBytes 4 1) = 1 by decide, show beVal (beBytes 4 6) = 6 by decide]
  simp

end Sys2Proof
end

