-- ==== Sys2Proof/WellFormed.lean ====
section
/-! DEFINITION. Well-formed commands: their operands name things that the device has and fit the fields that carry them. -/
namespace Sys2Proof

/-- A thread (R283). -/
def wfThread (t : Nat) : Bool := decide (t < 4096)
/-- A cell of a lane (R359): payload and header fields in range. -/
def wfCell (lane : Nat) (c : Cell) : Bool :=
  decide (lane < 48) && decide (c.payload.length ≤ 240) && decide (c.dst < 512) && decide (c.src < 512) && decide (c.cls < 8)
/-- An entry command port (R481) as the table's rows may name it. -/
def wfPort (n : Nat) : Bool := decide (n ≤ 8)

/-- Rows of the associative array (R146). -/
def wfRows (l : List Nat) : Bool := l.all (fun n => decide (n < 65536))

/-- Whether the operands of a command name things that the device has. A launch slot is a number below 2,048, so the turns of R161 are
taken of the slot modulo 2,048 (DESIGN CHOICE, assumption 73). -/
def Instr.wf (i : Instr) : Bool :=
  match i with
  | .ecpAbort n | .operationEnd n => wfPort n
  | .ecpRead n _ x | .ecpWrite n _ x | .ecpInsert n _ x | .ecpDelete n _ x | .ecpLookup n _ x | .ecpModify n _ x
  | .ecpReadClear n _ x | .ecpStep n _ x | .ecpFlushByMask n _ x => wfPort n && wfRows x.parity
  | .farDeletePeer t _ | .farPeek t _ | .farTouch t _ => wfThread t
  | .farAdmit t | .farInsertPeer t | .farSvcFail t | .farResult t
  | .thEpoch t | .thPreempt t | .thWatchdog t | .clusterExit t => wfThread t
  | .farLbSelect t _ | .farMap t _ | .farTblRead t _ => wfThread t
  | .farAsaSearch t bad | .farAsaStep t bad => wfThread t && wfRows bad
  | .alarm n | .sourceInactive n => decide (n < 12)
  | .blockRelease p | .endRecordExport p |  .natRecordExport p | .poisonMark p | .egressEntry p => decide (p < 4)
  | .freeIndexRefill p _ | .fseAgeVisit p _ | .fseLookup p _ | .sourceCheck p _ => decide (p < 4)
  | .cloveRead p _ _ _ | .directoryRead p _ _ _ _ | .lineInstall p _ | .fwdReadDone p _ _ => decide (p < 4)
  | .lockGrant p idx => decide (p < 4) && decide (idx < 134217728)
  | .ingressPass p bad => decide (p < 4) && wfRows bad
  | .messageClose p x | .templateRefresh p x => decide (p < 4) && decide (x < 8)
  | .telemetryPass p w _ => decide (p < 4) && decide (w < 8)
  | .twinBoundary n => decide (n < 8)
  | .leakBoundary k => decide (k < 8)
  | .bufferGrant k | .ringRefill k _ => decide (k < 4)
  | .bufferFree c _ => decide (c < 16)
  | .tailPlacement p => decide (p < 12)
  | .buffersWithdrawn pc | .channelWithdrawn pc | .relocationDone pc _ | .patrolScrub pc _ | .hbmCommand pc _ _ _ _ => decide (pc < 96)
  | .refresh pc b _ => decide (pc < 96) && decide (b < 32)
  | .rowSpared pc b r _ => decide (pc < 96) && decide (b < 32) && decide (r < 16384)
  | .hmcDlyWrite pc k _ => decide (pc < 96) && decide (k < 4)
  | .hbmReadData a _ => decide (a < 51539607552)
  | .hmcTestDone _ l r => decide (l < 256) && decide (r < 256)
  | .bulkCell l c | .expressCell l c | .peerCredit l c | .peerJoin l c | .peerJoinAck l c | .peerRequest l c | .peerResync l c => wfCell l c
  | .cellCrcFail l | .laneCellSend l | .laneDown l | .laneTraining l | .laneUp l | .linkCellDue l | .nakRepeat l => decide (l < 48)
  | .cellLockChange l _ => decide (l < 48)
  | .keepaliveCell l c | .nakCell l c | .reachCell l c => decide (l < 48) && decide (c.sender < 512) && decide (c.lane < 48)
  | .creditRequestDue d | .joinResend d | .joinSend d | .peerDead d => decide (d < 512)
  | .reseqTimeout d k => decide (d < 512) && decide (k ≤ 8)
  | .podDescriptor l f _ => decide (l < 3) && decide (f < 65536)
  | .laneReturned l | .podLaneRetired l | .patternPass l _ | .shadowPass l _ => decide (l < 3)
  | .descriptorTimeout f | .podVote f _ => decide (f < 65536)
  | .cascadeLaunch n lost => decide (n < 2048) && wfRows lost
  | .cascadeTimeout n | .casMoutDrive n _ => decide (n < 2048)
  | .keyFrame p n k _ _ lost => decide (p < 8) && decide (n < 2048) && decide (k < 2 ^ 320) && wfRows lost
  | .stepFrame p n k q e r _ _ lost =>
    decide (p < 8) && decide (n < 2048) && decide (k < 2 ^ 320) && decide (q < 8) && decide (e < 65536) && decide (r < 1048576) &&
      wfRows lost
  | .resultFrame f _ => decide (f.issuer < 8) && decide (f.slot < 2048) && decide (f.position < 8) && decide (f.entry < 65536)
  | .controlFrame (.keepalive p _ _) _ => decide (p < 8)
  | .controlFrame (.membership g m _) _ => decide (g < 256) && decide (m < 256)
  | .memberDead p => decide (p < 8)
  | .runnerUp _ m => decide (m < 256)
  | .cdtPtrRead _ c | .wordWindowRead _ _ c _ _ _ | .wordWindowWrite _ _ c _ _ _ => decide (c < 41)
  | .matching e => e.all (fun x => decide (16 ≤ x.1) && decide (x.1 < 32))
  | .courierCopy c _ | .courierInject c _ | .cdtFlush c | .msixTimer c => decide (c < 41)
  | .ringEnable c _ | .hostIdx c _ => decide (c < 41)
  | .engineRetired e => decide (e < 64)
  | .frameTransmit p _ | .linkRawChange p _ | .rxFrame p _ _ => decide (p < 32)
  | .holdExpired p | .portDown p | .portSelect p | .portUp p => decide (p < 32)
  | .counterRead _ _ a _ => decide (a < 0x4000000)
  | .registerWrite _ a n _ => decide (a < 0x4000000) && decide (n ≤ 128)
  | .sbReadReg _ n _ _ c _ => decide (n < 256) && decide (c < 256)
  | .sbReadLog _ n _ i c => decide (n < 256) && decide (i < 65536) && decide (c < 256)
  | .sbAlertAck _ n _ | .sbEcpAbort _ n _ | .sbHeadless _ n _ | .sbIdentify _ _ n _ | .sbReload _ n _ | .sbRestart _ n _
  | .sbStatus _ n _ => decide (n < 256)
  | .sbDrain _ n _ _ => decide (n < 256)
  | .sbPortAdmin _ n _ _ _ | .sbWriteReg _ n _ _ _ => decide (n < 256)
  | .sbEcp _ n _ t o i d _ x => wfRows x.parity && decide (n < 256) && decide (t < 256) && decide (o < 256) && decide (i < 2 ^ 32) && decide (d ≤ 128)
  | .hostDrain t => decide (t < 4)
  | .resetNRise b _ _ => decide (b < 8)
  | .returnRead _ q _ => decide (q < 524288)
  | .reclaimDone u => u.all (fun n => decide (n < 33554432))
  | .jtagDisable c _ | .killFuse c _ | .progRoot c _ => decide (c < 256)
  | .applyDone a => decide (a.inc < 65536) && decide (a.rollback ≤ 64)
  | .flashReadDone f => decide (f.sig.length ≤ 4096)
  | .bootTokenTake d => (match d with | some b => decide (b.length ≤ 512) | none => true)
  | .uMovi t _ _ _ | .uMovk t _ _ _ | .uBr t _ _ => wfThread t && microOk i
  | .uLdl t _ _ _ _ _ _ _ | .uLdn t _ _ _ _ _ _ _ | .uStl t _ _ _ _ _ _ _ | .uStn t _ _ _ _ _ _ _ => wfThread t && microOk i
  | .uNop t _ _ _ _ | .uAdd t _ _ _ _ | .uSub t _ _ _ _ | .uAnd t _ _ _ _ | .uOr t _ _ _ _ | .uXor t _ _ _ _ | .uAddi t _ _ _ _
  | .uShl t _ _ _ _ | .uShr t _ _ _ _ | .uExt t _ _ _ _ | .uIns t _ _ _ _ | .uCmp t _ _ _ _ | .uCmpi t _ _ _ _ | .uSel t _ _ _ _
  | .uGetf t _ _ _ _ | .uPutf t _ _ _ _ | .uLdf t _ _ _ _ _ | .uStf t _ _ _ _ _ | .uMovb t _ _ _ _ _ | .uCsup t _ _ _ _ | .uHash t _ _ _ _
  | .uMul t _ _ _ _ | .uFar t _ _ _ _ | .uTime t _ _ _ _ | .uCnt t _ _ _ _ | .uAdj t _ _ _ _ | .uFlag t _ _ _ _ | .uRett t _ _ _ _
  | .dispNext t _ _ _ _ | .dispJump t _ _ _ _ | .dispEnd t _ _ _ _ => wfThread t && microOk i
  | .todMessage _ bs => decide (bs.length ≤ 64)
  | .alertResponse _ => true | .asaScrub _ => true | .asaTest _ => true | .asaTestDone _ => true | .coreRailFall _ => true
  | .engPreempt _ => true | .engTest _ => true | .engTestDone _ => true | .forceOut _ => true | .hssVerifyDone => true
  | .jtagInstruction _ => true | .killBurned _ => true | .l2AgeVisit _ => true | .lpcPortAdmin _ => true | .marchTest _ => true
  | .mgtHeartbeat _ => true | .ppsEdge _ _ => true | .refclkLost _ => true | .sweepTest _ => true | .xprTest _ => true
  | .xprTestDone _ => true | .xpScrub _ => true | .zeroised _ => true
  | .ageQuantumBoundary | .arm | .attach | .bootTknInFall | .bootTknInRise | .coarseSlotVisit | .copy
  | .copyDone | .disarm | .discharge | .drainFlush | .epochBoundary | .hbExpired | .holdoverEnter | .hostReload
  | .identity | .identityReady | .islandReset | .l2Flushed | .perstNAssert | .perstNRelease | .quote
  | .realign | .refclkRestored | .resendTemplates | .resetNFall | .responseFetch | .ringTraining | .runnerDown
  | .runnerKeepalive | .setReleased | .slewIncrement | .smbTimeout | .snap | .thermalTrip | .tokenTimeout
  | .trackerClear | .vddAonFall | .wheelEntry | .xpTableCommit => true

end Sys2Proof
end

