-- ==== Sys2Proof/Tests/Slice0.lean ====
section
/-! SUPPORT. The author's tests: ill-formed commands, microwords written out from the spec, and for every statement of
Certificates/Slice0/Obligations.lean a witness wit_<Name> of the hypotheses of each of its clauses. -/
set_option maxRecDepth 100000
set_option linter.unusedVariables false
set_option exponentiation.threshold 4096
set_option Elab.async false
namespace Sys2Proof
open Sys2Proof.Machine


/-! ### Ill-formed commands: one for each kind of check of Instr.wf -/

theorem smoke_thread : Instr.wf (.farAdmit 4096) = false ∧ Instr.wf (.farMap 4096 false) = false ∧ Instr.wf (.uNop 4096 0 0 0 0) = false ∧
    Instr.wf (.farAsaSearch 0 [65536]) = false := by decide
theorem smoke_port : Instr.wf (.ecpAbort 9) = false ∧ Instr.wf (.ecpRead 9 .bar0 {}) = false ∧ Instr.wf (.portUp 32) = false ∧
    Instr.wf (.rxFrame 32 [] {}) = false := by decide
theorem smoke_partition : Instr.wf (.poisonMark 4) = false ∧ Instr.wf (.fseLookup 4 true) = false ∧ Instr.wf (.cloveRead 4 0 false false) = false ∧
    Instr.wf (.lockGrant 0 134217728) = false ∧ Instr.wf (.ingressPass 0 [65536]) = false := by decide
theorem smoke_telemetry : Instr.wf (.messageClose 0 8) = false ∧ Instr.wf (.telemetryPass 0 8 false) = false ∧
    Instr.wf (.twinBoundary 8) = false := by decide
theorem smoke_buffers : Instr.wf (.bufferGrant 4) = false ∧ Instr.wf (.bufferFree 16 0) = false ∧ Instr.wf (.tailPlacement 12) = false ∧
    Instr.wf (.returnRead true 524288 .ok) = false ∧ Instr.wf (.reclaimDone [33554432]) = false := by decide
theorem smoke_hbm : Instr.wf (.relocationDone 96 []) = false ∧ Instr.wf (.refresh 0 32 0) = false ∧ Instr.wf (.rowSpared 0 0 16384 []) = false ∧
    Instr.wf (.hmcDlyWrite 0 4 0) = false ∧ Instr.wf (.hbmReadData 51539607552 .ok) = false ∧ Instr.wf (.hmcTestDone true 256 0) = false ∧
    Instr.wf (.leakBoundary 8) = false := by decide
theorem smoke_lanes : Instr.wf (.laneUp 48) = false ∧ Instr.wf (.cellLockChange 48 true) = false ∧ Instr.wf (.bulkCell 48 {}) = false ∧
    Instr.wf (.bulkCell 0 { cls := 8 }) = false ∧ Instr.wf (.keepaliveCell 0 { lane := 48 }) = false ∧ Instr.wf (.joinSend 512) = false ∧
    Instr.wf (.reseqTimeout 0 9) = false := by decide
theorem smoke_pod : Instr.wf (.podDescriptor 3 0 0) = false ∧ Instr.wf (.laneReturned 3) = false ∧ Instr.wf (.podVote 65536 0) = false := by decide
theorem smoke_ring : Instr.wf (.cascadeLaunch 2048 []) = false ∧ Instr.wf (.keyFrame 8 0 0 false false []) = false ∧
    Instr.wf (.stepFrame 0 0 0 8 0 0 false false []) = false ∧ Instr.wf (.resultFrame { slot := 2048 } false) = false ∧
    Instr.wf (.controlFrame (.keepalive 8 false false) false) = false ∧ Instr.wf (.controlFrame (.membership 256 0 none) false) = false ∧
    Instr.wf (.memberDead 8) = false ∧ Instr.wf (.runnerUp 0 256) = false := by decide
theorem smoke_conduits : Instr.wf (.cdtFlush 41) = false ∧ Instr.wf (.cdtPtrRead .host 41) = false ∧ Instr.wf (.courierCopy 41 .ok) = false ∧
    Instr.wf (.ringEnable 41 0) = false := by decide
theorem smoke_host : Instr.wf (.counterRead .host .bar0 0x4000000 true) = false ∧ Instr.wf (.registerWrite .bar0 0x4000000 4 0) = false ∧
    Instr.wf (.registerWrite .bar0 0 129 0) = false ∧ Instr.wf (.hostDrain 4) = false ∧ Instr.wf (.killFuse 256 true) = false ∧
    Instr.wf (.engineRetired 64) = false ∧ Instr.wf (.alarm 12) = false := by decide
theorem smoke_sideband : Instr.wf (.sbReadReg 0 256 true 0 1 []) = false ∧ Instr.wf (.sbReadLog 0 4 true 65536 1) = false ∧
    Instr.wf (.sbIdentify 0 0 256 true) = false ∧ Instr.wf (.sbDrain 0 256 true 0) = false ∧ Instr.wf (.sbWriteReg 0 256 true 0 0) = false ∧
    Instr.wf (.sbEcp 0 8 true 256 1 0 0 0 {}) = false := by decide
theorem smoke_start : Instr.wf (.resetNRise 8 0 {}) = false ∧ Instr.wf (.applyDone { inc := 65536 }) = false ∧
    Instr.wf (.flashReadDone { sig := List.replicate 4097 0 }) = false ∧ Instr.wf (.todMessage 0 (List.replicate 65 0)) = false ∧
    Instr.wf (.bootTokenTake (some (List.replicate 513 0))) = false ∧ Instr.wf (.matching [(0, .ok)]) = false := by
  decide +kernel
theorem smoke_micro : Instr.wf (.uMovi 0 16 0 0) = false ∧ Instr.wf (.uLdl 0 0 0 false 4 0 0 .ok) = false ∧
    Instr.wf (.uAdd 0 0 0 0 16384) = false ∧ Instr.wf (.dispNext 0 0 0 0 1) = false := by decide

/-! ### Microwords written out from R304 to R306 -/

theorem test_micro_getf : microDecode 5 0b01000110010000000000000000000011 .ok = some (.uGetf 5 9 0 0 3) := by decide
theorem test_micro_cmp : microDecode 5 0b00110100001000100100000000000000 .ok = some (.uCmp 5 0 8 9 0) := by decide
theorem test_micro_disp : microDecode 5 0b01111000000000000000000000000000 .ok = some (.dispNext 5 0 0 0 0) := by decide
theorem test_micro_br : microDecode 5 0b01000000010000000000000000000010 .ok = some (.uBr 5 1 2) := by decide
theorem test_micro_ldl : microDecode 5 0b01001100110010110111111111111111 .ok = some (.uLdl 5 3 2 true 2 3 8191 .ok) := by decide
theorem test_micro_movi : microDecode 5 0b00101100010100001111111111111111 .ok = some (.uMovi 5 1 1 65535) := by decide
theorem test_micro_reserved_bits : microDecode 5 0b01000000010101010000000000000010 .ok = some (.uBr 5 1 2) ∧
    microDecode 5 0b10110000010111110000000000000001 .ok = microDecode 5 0b10110000010100000000000000000001 .ok := by decide
theorem test_micro_reserved : microDecode 5 0b10010000000000000000000000000000 .ok = none ∧
    microFaults 0b01111000000000000000000000000011 = true := by decide

/-! ### Published check values: CRC-32 of IEEE 802.3 over "123456789", SHA-256 of FIPS 180-4 over "abc"; and the thermometer of R457 -/

theorem test_crc32 : crc32 [0x31, 0x32, 0x33, 0x34, 0x35, 0x36, 0x37, 0x38, 0x39] = 0xCBF43926 := by decide +kernel
theorem test_sha256_abc : sha256 [0x61, 0x62, 0x63] = bvOfBytes 256
    [0xba, 0x78, 0x16, 0xbf, 0x8f, 0x01, 0xcf, 0xea, 0x41, 0x41, 0x40, 0xde, 0x5d, 0xae, 0x22, 0x23,
     0xb0, 0x03, 0x61, 0xa3, 0x96, 0x17, 0x7a, 0x9c, 0xb4, 0x10, 0xff, 0x61, 0xf2, 0x00, 0x15, 0xad] := by decide +kernel
theorem test_thermometer_gap : thermo 64 0b1001 = 4 ∧ thermo 64 0 = 0 := by decide

/-! ### The invariants of the statements, and a state that meets each hypothesis of them -/

/-! ### Small states -/

/-- A device in a mode, everything else as a structure of defaults leaves it. -/
def tMode (m : Mode) : State := { md := { mode := m } }
def tSvc : State := tMode .service

/-- A sound time-of-day message of second 1. -/
def tTod : List Byte := [0x5A, 0x01, 1, 0, 0, 0, 0, 0, 0, 0, 0, 0, 0, 0] ++
  leBytes 2 (crc16 [0x5A, 0x01, 1, 0, 0, 0, 0, 0, 0, 0, 0, 0, 0, 0])

/-- Bucket and entry of a station of bridge domain bd with address 0. -/
def tBucket (bd mac : Nat) : Nat := Config.l2Hash 0 bd mac % 524288
def tStation (bd : Nat) : SMap Ent16 := ⟨[(4 * tBucket bd 0, BitVec.ofNat 128 (bd * 2 ^ 48 + 2 ^ 112))]⟩

theorem tStation_get (bd : Nat) : (tStation bd).get (4 * tBucket bd 0) = BitVec.ofNat 128 (bd * 2 ^ 48 + 2 ^ 112) := by
  simp [tStation, SMap.get, smapGet]

theorem tStation_found (s : State) (h : s.fwd.l2 = tStation 7 ∧ s.sec.keys.l2 = 0) : l2Find s 7 0 = some (4 * tBucket 7 0) := by
  have e : s.l2Bucket 7 0 = tBucket 7 0 := by unfold State.l2Bucket tBucket; rw [h.2]
  unfold l2Find l2Slots
  rw [e, List.find?_cons_of_pos]
  show (_ && _ && _) = true
  rw [h.1, tStation_get]
  decide

/-- A flow profile whose packets have an IPv4 header of type 4, a key under it, and a clove of a key. -/
def tProfile : Dat := BitVec.ofNat 1024 (1 + 4 * 2 ^ 96)
def tKey : BitVec 384 := (buildKey tProfile { parse := { hdrs := [(4, 0)] } } false).getD 0
def tClove (k : BitVec 384) : Dat := BitVec.ofNat 1024 (k.toNat + 2 ^ 384)

/-- Lanes of the Pod in their roles, with an entry 0 that drops. -/
def tLanes : SMap PodLane :=
  ⟨[(0, { role := 0, slot := 0, ent := ⟨[(0, 0xC0000000)]⟩ }), (1, { role := 1, slot := 1, ent := ⟨[(0, 0xC0000000)]⟩ }),
    (2, { role := 2, slot := 2, ent := ⟨[(0, 0xC0000000)]⟩ })]⟩
def tPod : State := { tSvc with pod := { lanes := tLanes } }

/-- Thread 0 ready at a microword, and register contents. -/
def tRun (w : Nat) (h : Thread) : State :=
  { tSvc with
    regs := ⟨[(Reg.ENG_CFG, 100)]⟩,
    eng := { th := ⟨[(0, { h with wait := .ready, started := true })]⟩, cstore := ⟨[(0, BitVec.ofNat 32 w)]⟩ } }
def tRegs : Thread := { live := { m := ⟨[(1, 0x1234), (2, 0xFFFFFFFFFFFFFFFE), (3, 5)]⟩ } }

theorem tStation_nh (s : State) (h : s.fwd.l2 = tStation 7 ∧ s.sec.keys.l2 = 0) : l2Nh (s.fwd.l2.get (4 * tBucket 7 0)) = 0 := by
  rw [h.1, tStation_get]; decide
theorem tStation_moved (s : State) (h : s.fwd.l2 = tStation 7 ∧ s.sec.keys.l2 = 0) : l2Nh (s.fwd.l2.get (4 * tBucket 7 0)) ≠ 5 := by
  rw [h.1, tStation_get]; decide
theorem tStation_moves (s : State) (h : s.fwd.l2 = tStation 7 ∧ s.sec.keys.l2 = 0) :
    l2Static (s.fwd.l2.get (4 * tBucket 7 0)) = false := by
  rw [h.1, tStation_get]; decide

/-- A key of format 1. -/
def tLine : Line := { idx := 7, set := hashSet (tSvc.hashOf 0 tKey), clove := tClove tKey }
theorem tLine_hit (s : State) (h : s.part = ⟨[(0, { lines := [tLine] })]⟩ ∧ s.sec.keys = {}) :
    s.cacheHit 0 tKey (s.hashOf 0 tKey) = some tLine := by
  have e : s.hashOf 0 tKey = tSvc.hashOf 0 tKey := by unfold State.hashOf; rw [h.2]; rfl
  have f : s.part.get 0 = { lines := [tLine] } := by rw [h.1]; rfl
  have g : (cvValid tLine.clove && cvKey tLine.clove == tKey) = true := by decide +kernel
  unfold State.cacheHit
  rw [e, f, List.find?_cons_of_pos]
  rw [Bool.and_assoc, g, Bool.and_true]
  simp [tLine]

/-- A device whose pool 0 has one buffer, owned by client 0. -/
def tPool : State := { tSvc with regs := ⟨[(Reg.BPM_POOL_CFG 0, 1)]⟩, buf := { bufs := ⟨[(0, { alloc := true })]⟩ } }
theorem tPool_base : tPool.poolBase 0 = HbmRegion.pools.base := by simp [State.poolBase]
/-- Regions in any order take no more than all of them. -/
theorem orderRegions_sum (n : Nat) (l : List HbmRegion) :
    ((orderRegions n l).map HbmRegion.size).sum ≤ (l.map HbmRegion.size).sum := by
  induction n generalizing l with
  | zero => exact Nat.zero_le _
  | succ n ih =>
    unfold orderRegions
    split
    · rename_i r h
      have := ih (l.erase r)
      have := ((List.perm_cons_erase (List.mem_of_getElem? h)).map HbmRegion.size).sum_eq
      simp only [List.map_cons, List.sum_cons] at this ⊢
      omega
    · exact Nat.zero_le _
theorem tPool_lt (n : Nat) (h : n ≤ 1) : tPool.poolBase 0 + n < 2 ^ 36 := by
  rw [tPool_base]
  have h1 := orderRegions_sum 7 [.clove, .directory, .forwarding, .pools, .rings, .telemetry, .spare]
  have h2 := (((List.takeWhile_sublist (l := hbmRegions) (fun x => x != HbmRegion.pools)).map HbmRegion.size).sum_le_sum
    (fun _ _ => Nat.zero_le _))
  have h3 : ([HbmRegion.clove, .directory, .forwarding, .pools, .rings, .telemetry, .spare].map HbmRegion.size).sum = 0xC00000000 := rfl
  unfold HbmRegion.base
  unfold hbmRegions at h2 ⊢
  omega
theorem tPool_at (n : Nat) (h : n < 384) : tPool.bufAt (tPool.poolBase 0 + n) = .inr (0, 0) := by
  have c : tPool.poolCount 0 = 1 := by decide
  unfold State.bufAt
  rw [show List.range 4 = 0 :: [1, 2, 3] from rfl, List.find?_cons_of_pos]
  · simp [poolSize, Nat.div_eq_of_lt h]
  · simp [c, poolSize, h]

/-- No input offers anything to any output. -/
theorem tNoOffer (s : State) (h : s.voqHeads = fun _ => []) (h1 : s.swc.punts = {} ∧ s.swc.rxq = {} ∧ s.swc.recirc = {})
    (h2 : ∀ c < 16, s.injectHead (16 + c) = none) (i o : Nat) : s.offer i o = none := by
  have e : s.offers i o = [] := by
    unfold State.offers
    simp only [h, h1.1, h1.2.1, h1.2.2]
    have g (k : Nat) : ({} : SMap (List PuntItem)).get k = [] := rfl
    have g' (k : Nat) : ({} : SMap (List Pkt)).get k = [] := rfl
    simp only [g, g', List.filterMap_nil, List.nil_append, List.head?_nil]
    split
    · split <;> rfl
    · split
      · split <;> rfl
      · split
        · rw [List.filterMap_eq_nil_iff]
          intro c hc
          rw [h2 c (List.mem_range.mp hc)]
        · split
          · rw [List.filterMap_eq_nil_iff]; intro a _; rfl
          · rfl
  unfold State.offer; rw [e]; rfl

/-- An HBM address outside the regions of cloves, directory and buffers. -/
def tFarAddr : Nat := HbmRegion.clove.base + HbmRegion.directory.base + HbmRegion.pools.base + 0x600000000
theorem tFar_unrelocated : unrelocated tFarAddr = false := by
  unfold unrelocated tFarAddr
  simp only [Bool.or_eq_false_iff, Bool.and_eq_false_iff, decide_eq_false_iff_not]
  omega
theorem hbmPc_lt (a : Nat) : hbmPc a < 96 := by
  show 32 * (a / 2048 % 96 % 3) + 2 * (a / 2048 % 96 / 3 % 16) + a / 2048 % 96 / 3 / 16 < 96
  omega

/-- Registers that name bytes 4 and 16 of the frame, over a frame of 40 bytes. -/
def tMove : Thread := { live := { m := ⟨[(2, 16388), (3, 16400)]⟩ }, pkt := { bytes := List.replicate 40 1 } }
/-- A load-balancing member with weight 1 whose next hop 2 is a port of this device that is up. -/
def tLb : SMap Dat := ⟨[(tblKey 0x13 2, 1), (tblKey 0x2A 0, BitVec.ofNat 1024 (2 ^ 18 + 2))]⟩
/-- What lane 0 of the Pod makes of an empty frame. -/
def tDesc : PodDesc := tPod.podDesc 0 0 0 false {}

/-! ### Conjunctions whose first parts are shown together -/

theorem both2 {a1 a2 t : Prop} (h : a1 ∧ a2) (x : t) : a1 ∧ a2 ∧ t :=
  ⟨h.1, h.2, x⟩
theorem both3 {a1 a2 a3 t : Prop} (h : a1 ∧ a2 ∧ a3) (x : t) : a1 ∧ a2 ∧ a3 ∧ t :=
  ⟨h.1, h.2.1, h.2.2, x⟩
theorem both4 {a1 a2 a3 a4 t : Prop} (h : a1 ∧ a2 ∧ a3 ∧ a4) (x : t) : a1 ∧ a2 ∧ a3 ∧ a4 ∧ t :=
  ⟨h.1, h.2.1, h.2.2.1, h.2.2.2, x⟩
theorem both5 {a1 a2 a3 a4 a5 t : Prop} (h : a1 ∧ a2 ∧ a3 ∧ a4 ∧ a5) (x : t) : a1 ∧ a2 ∧ a3 ∧ a4 ∧ a5 ∧ t :=
  ⟨h.1, h.2.1, h.2.2.1, h.2.2.2.1, h.2.2.2.2, x⟩
theorem both6 {a1 a2 a3 a4 a5 a6 t : Prop} (h : a1 ∧ a2 ∧ a3 ∧ a4 ∧ a5 ∧ a6) (x : t) : a1 ∧ a2 ∧ a3 ∧ a4 ∧ a5 ∧ a6 ∧ t :=
  ⟨h.1, h.2.1, h.2.2.1, h.2.2.2.1, h.2.2.2.2.1, h.2.2.2.2.2, x⟩
theorem both7 {a1 a2 a3 a4 a5 a6 a7 t : Prop} (h : a1 ∧ a2 ∧ a3 ∧ a4 ∧ a5 ∧ a6 ∧ a7) (x : t) : a1 ∧ a2 ∧ a3 ∧ a4 ∧ a5 ∧ a6 ∧ a7 ∧ t :=
  ⟨h.1, h.2.1, h.2.2.1, h.2.2.2.1, h.2.2.2.2.1, h.2.2.2.2.2.1, h.2.2.2.2.2.2, x⟩
theorem both8 {a1 a2 a3 a4 a5 a6 a7 a8 t : Prop} (h : a1 ∧ a2 ∧ a3 ∧ a4 ∧ a5 ∧ a6 ∧ a7 ∧ a8) (x : t) : a1 ∧ a2 ∧ a3 ∧ a4 ∧ a5 ∧ a6 ∧ a7 ∧ a8 ∧ t :=
  ⟨h.1, h.2.1, h.2.2.1, h.2.2.2.1, h.2.2.2.2.1, h.2.2.2.2.2.1, h.2.2.2.2.2.2.1, h.2.2.2.2.2.2.2, x⟩
theorem both9 {a1 a2 a3 a4 a5 a6 a7 a8 a9 t : Prop} (h : a1 ∧ a2 ∧ a3 ∧ a4 ∧ a5 ∧ a6 ∧ a7 ∧ a8 ∧ a9) (x : t) : a1 ∧ a2 ∧ a3 ∧ a4 ∧ a5 ∧ a6 ∧ a7 ∧ a8 ∧ a9 ∧ t :=
  ⟨h.1, h.2.1, h.2.2.1, h.2.2.2.1, h.2.2.2.2.1, h.2.2.2.2.2.1, h.2.2.2.2.2.2.1, h.2.2.2.2.2.2.2.1, h.2.2.2.2.2.2.2.2, x⟩


/-- A parse graph whose one node reads a header of type 4. -/
def tGraph : SMap NodeRec := ⟨[(0, BitVec.ofNat 2048 (4 * 2 ^ 8 + 2 ^ 24 + 2 ^ 48 + 2 ^ 64 + 2 ^ 160))]⟩
/-- A device with a program of one forwarding step, a direct table, and one line packet. -/
def tWalk : State :=
  { tSvc with
    graph := tGraph, swc := { line := ⟨[(0, [{ bytes := [3] }])]⟩ },
    regs := ⟨[(Reg.FWD_DIRECT_CFG 0, 16), (Reg.FWD_STEP_LO 0 0, 0x10400000), (Reg.FWD_STEP_HI 0 0, 0x08000000)]⟩,
    tbl := ⟨[(tblKey 1 3, BitVec.ofNat 1024 (2 ^ 64 + 2)), (tblKey 0x13 2, 1)]⟩ }
def fwdOf : ClsOut → Pkt | .forward p => p | _ => {}
def isFwd : ClsOut → Bool | .forward _ => true | _ => false
theorem fwdOf_eq (x : ClsOut × State) (h : isFwd x.1 = true) : x = (.forward (fwdOf x.1), x.2) := by
  obtain ⟨a, b⟩ := x; cases a <;> first | rfl | cases h
def destOf : FwdOut → Pkt | .dest p => p | _ => {}
def isDest : FwdOut → Bool | .dest _ => true | _ => false
theorem destOf_eq (x : FwdOut × State) (h : isDest x.1 = true) : x = (.dest (destOf x.1), x.2) := by
  obtain ⟨a, b⟩ := x; cases a <;> first | rfl | cases h
def tCls : ClsOut × State :=
  classify 0 { bytes := [3], parse := parseFrame tWalk.graph 0 [3], inp := 0 } []
    (countParse 0 (parseFrame tWalk.graph 0 [3]) { tWalk.fresh with swc := { tWalk.swc with line := tWalk.swc.line.set 0 [] } })
def tGo : FwdOut × State := fwdStart 0 (fwdOf tCls.1) tCls.2
def tHeld : Pkt := { bytes := [3], parse := { hdrs := [(4, 0)] } }
def tRead : FwdOut × State :=
  fwdGo 0 (bits (({ tWalk with fwdq := ⟨[(0, [(tHeld, 0, 0)])]⟩ } : State).reg (Reg.FWD_PORT_CFG tHeld.inPort)) 19 16) (4 - 0) 0 0 true tHeld
    { ({ tWalk with fwdq := ⟨[(0, [(tHeld, 0, 0)])]⟩ } : State).fresh with
      fwdq := ({ tWalk with fwdq := ⟨[(0, [(tHeld, 0, 0)])]⟩ } : State).fwdq.upd 0 (fun l => l.eraseIdx 0) }

/-- A port that is up, whose tree holds one packet in queue 0 of subscriber 0 of service 0. -/
def tShaped : State :=
  { tSvc with
    buf := { leaf := ⟨[(0, { items := [{}] })]⟩ }, port := ⟨[(0, { up := true })]⟩,
    tbl := ⟨[(tblKey 0x40 0, 256), (tblKey 0x41 0, BitVec.ofNat 1024 (2 ^ 32 + 1)), (tblKey 0x42 0, BitVec.ofNat 1024 (2 ^ 32 + 1))]⟩ }
theorem tPool_kept (s : State) (k i : Nat) (h : s.buf.wdPcs = 0) : s.bufWithdrawn k i = false := by
  unfold State.bufWithdrawn
  rw [List.any_eq_false]
  intro n _
  rw [h]
  simp
theorem tPool_unbarred (s : State) (h : s.hmc.pcs = {}) (k i : Nat) : s.bufBarred k i = false := by
  unfold State.bufBarred
  rw [List.any_eq_false]
  intro m _
  unfold State.pcRetired
  show ¬(s.hmc.pcs.get m).retired = true
  rw [h]; exact Bool.false_ne_true
theorem tPool_granted (s : State) (h : s.hmc.pcs = {}) (k n i : Nat) (r : List (Nat × Nat)) :
    runsFirst (fun i => !s.bufBarred k i) (n + 1) ((i, 1) :: r) = some (i, r) := by
  simp [runsFirst, tPool_unbarred s h]
theorem tItem_kept (s : State) (h : s.hmc.pcs = {}) (it : QItem) : s.itemWithdrawn it = false := by
  unfold State.itemWithdrawn
  split
  · split
    · exact tPool_unbarred s h _ _
    · rfl
  · rfl

/-- A board directory for position 0, and an image of eight empty sections. -/
def tDirHead : List Byte := [0x46, 0x4C, 0x42, 0x44, 1, 0, 1, 0, 0, 4] ++ List.replicate 34 0 ++ [0, 0x10]
def tZeros : List Byte := List.replicate 66 0
def tDirBody : List Byte := tDirHead ++ (tZeros ++ (tZeros ++ (tZeros ++ (tZeros ++ (tZeros ++ (tZeros ++ tZeros))))))
def tDir : List Byte := tDirBody ++ leBytes 4 0xCD89C11F
def tCrc (c : Nat) (bs : List Byte) : Nat := bs.foldl (fun c b => crcReflByte 0xEDB88320 8 (c ^^^ b.toNat)) c
theorem tCrc_append (c : Nat) (a b : List Byte) : tCrc c (a ++ b) = tCrc (tCrc c a) b := List.foldl_append
theorem tZeros_0 : tCrc 0xB61F754E tZeros = 0xC6CD8A7C := by decide +kernel
theorem tZeros_1 : tCrc 0xC6CD8A7C tZeros = 0x7F64488C := by decide +kernel
theorem tZeros_2 : tCrc 0x7F64488C tZeros = 0x5998D0E := by decide +kernel
theorem tZeros_3 : tCrc 0x5998D0E tZeros = 0x87DFDCFC := by decide +kernel
theorem tZeros_4 : tCrc 0x87DFDCFC tZeros = 0x9B46B147 := by decide +kernel
theorem tZeros_5 : tCrc 0x9B46B147 tZeros = 0xACCE86CD := by decide +kernel
theorem tZeros_6 : tCrc 0xACCE86CD tZeros = 0x32763EE0 := by decide +kernel
theorem tDir_len : tDirBody.length = 508 := by
  simp only [tDirBody, List.length_append, show tDirHead.length = 46 from rfl, show tZeros.length = 66 from rfl]
theorem tDir_sum : fieldU tDir 508 4 = 0xCD89C11F := by
  unfold fieldU slice
  rw [show tDir.drop 508 = leBytes 4 0xCD89C11F from List.drop_left' tDir_len]
  decide
theorem tDir_body : slice tDir 0 508 = tDirBody := by
  unfold slice
  rw [List.drop_zero]
  exact List.take_left' tDir_len
theorem tDirHead_crc : tCrc 0xFFFFFFFF tDirHead = 0xB61F754E := by decide +kernel
theorem tDirBody_crc : tCrc 0xFFFFFFFF tDirBody = 0x32763EE0 := by
  unfold tDirBody
  rw [tCrc_append, tCrc_append, tCrc_append, tCrc_append, tCrc_append, tCrc_append, tCrc_append, tDirHead_crc, tZeros_0, tZeros_1,
    tZeros_2, tZeros_3, tZeros_4, tZeros_5, tZeros_6]
theorem crc32_eq (bs : List Byte) : crc32 bs = tCrc 0xFFFFFFFF bs ^^^ 0xFFFFFFFF := rfl
theorem tDir_crc : crc32 (slice tDir 0 508) = fieldU tDir 508 4 := by
  rw [tDir_body, tDir_sum, crc32_eq, tDirBody_crc]
  decide
def tSections : List (Nat × Byte) :=
  ((List.range 8).map (fun k => [(260 + 16 * k, (0x80 : Byte)), (261 + 16 * k, 1)])).flatten
def tFlash : FlashRead :=
  { image := { cells := ⟨[(0, 0x46), (1, 0x4C), (2, 0x41), (3, 0x45), (4, 1), (7, 8), (8, 0x80), (9, 1), (35, 2), (39, 7), (43, 4)] ++
      tSections⟩ } }
theorem tFlash_dir : dirOk tDir 0 = true := by
  have h : (fieldU tDir 0 4 == 0x44424C46 && fieldU tDir 4 2 == 1) = true := by decide +kernel
  unfold dirOk
  show (_ && _ && _ && _ && _ && _ && _ && _ && _ && _ && _ && _ && _) = true
  rw [h, show (crc32 (slice tDir 0 508) == fieldU tDir 508 4) = true from beq_iff_eq.mpr tDir_crc]
  decide +kernel
theorem tFlash_format : formatOk tFlash.image 0 (dirLength tDir 0) = true := by decide +kernel
theorem tFlash_crc : badCrc tFlash.image = none := by decide +kernel
/-- An image whose contents keep every rule of step 8. -/
def tEntry (k type off len : Nat) : List (Nat × Byte) :=
  ((leBytes 2 type ++ [0, 0] ++ leBytes 4 off ++ leBytes 4 len).zipIdx.map (fun (c : Byte × Nat) => (256 + 16 * k + c.2, c.1))).filter (fun (c : Nat × Byte) => c.2 != 0)
def tBytes (off : Nat) (bs : List Byte) : List (Nat × Byte) :=
  (bs.zipIdx.map (fun (c : Byte × Nat) => (off + c.2, c.1))).filter (fun (c : Nat × Byte) => c.2 != 0)
def tLregPairs : List (Nat × Nat) :=
  [0, 1, 2, 3, 5, 6].map (fun k => (Reg.MGT_FLT_CFG k, 1)) ++ [(Reg.CLS_DRAIN_WIN, 1)] ++
    [0, 1, 2, 3].map (fun i => (Reg.FSE_NAT_CFG i, 6)) ++ [(Reg.ENG_CFG, 16), (Reg.HMC_CFG, 512)]
def tImage : Blob :=
  { cells := ⟨[(7, 8), (13, 2)] ++ tEntry 0 1 512 104 ++ tEntry 1 2 1024 256 ++ tEntry 2 3 1280 128 ++ tEntry 3 6 1536 256 ++
      tEntry 4 7 1792 64 ++ tEntry 5 8 1856 64 ++ tEntry 6 4 2048 262144 ++ tEntry 7 5 264192 512 ++
      tBytes 512 (tLregPairs.map (fun p => leBytes 4 p.1 ++ leBytes 4 p.2)).flatten ++
      [(1024, 1), (1026, 1), (1027, 0xFF)] ++ (List.range 48).map (fun l => (1089 + 4 * l, (2 : Byte))) ++
      tBytes 1280 ([0, 0, 1, 0] ++ (List.range 12).map (fun s => BitVec.ofNat 8 (alarmFloor s))) ++
      [(1542, 1), (1544, 1), (1556, 1), (1560, 1), (1561, 1), (1564, 1), (1565, 1)] ++
      ((List.range 4).map (fun i => [(1859 + 16 * i, (2 : Byte)), (1862 + 16 * i, 1)])).flatten⟩ }
theorem contentFaults_nil (b : Blob) (p c k : Nat) (h : contentFaults b p c 0 = []) (g : lregSetOk b = true) :
    contentFaults b p c k = [] := by
  unfold contentFaults at h ⊢
  rw [g] at h ⊢
  exact h
theorem tImage_ok (k : Nat) : contentFaults tImage 0 1 k = [] :=
  contentFaults_nil tImage 0 1 k (by decide +kernel) (by decide +kernel)

/-- Slot 1 with a rule set of one action, which drops, and no rule. -/
def tRuleSet : SMap Dat :=
  ⟨[(65536, BitVec.ofNat 1024 (0x54534C43 + 272 * 2 ^ 32 + 256 * 2 ^ 96 + 2 ^ 128)), (65538, 1)]⟩

/-- How an insertion ended, where it did insert. -/
def insOf : InsRes → Nat × Nat | .ok k g => (k, g) | _ => (0, 0)
def insOk : InsRes → Bool | .ok _ _ => true | _ => false
theorem insOf_eq (x : InsRes × State) (h : insOk x.1 = true) : x = (.ok (insOf x.1).1 (insOf x.1).2, x.2) := by
  obtain ⟨a, b⟩ := x; cases a <;> first | rfl | cases h
theorem tInsert (s : State) (i k : Nat) (c : Clove) (hd : s.dir = {}) (hf : (s.part.get i).freeCache = [(k, 1)]) (hp : cvPinned c = false) :
    insOk (insertClove i c s).1 = true := by
  have e (n : Nat) : (({} : SMap DirBucket).get n) = {} := rfl
  have f : findClove s i (cvKey c) = none := by
    unfold findClove
    rw [hd]
    rfl
  have g (a b : Nat) : freeBucket s a b = some (a, 0) := by
    unfold freeBucket
    rw [hd]
    rfl
  unfold insertClove takeIndex
  simp only [f, hp, g, hf]
  rfl

/-- A clove 0 of a key, which the directory finds, and a thread. -/
def tFlow (k : BitVec 384) (h : Thread) : State :=
  { tSvc with
    clove := ⟨[(0, tClove k)]⟩, dir := ⟨[(0, { slots := [{ tag := hashTag (tSvc.hashOf 0 k) }] })]⟩, eng := { th := ⟨[(0, h)]⟩ } }
theorem tFlow_finds (k : BitVec 384) (h : Thread) (s : State) (e : s = tFlow k h ∨ s = (tFlow k h).fresh)
    (g : (cvValid (tClove k) && cvKey (tClove k) == k) = true) : findClove s 0 k = some 0 := by
  have c : (s.candidates 0 (tSvc.hashOf 0 k)).1 = 0 := by
    have n : s.bucketCount 0 = 0 := by
      rw [show s.bucketCount 0 = tSvc.bucketCount 0 by rcases e with rfl | rfl <;> rfl]; decide
    have m : s.bucketBase 0 = 0 := by
      rw [show s.bucketBase 0 = tSvc.bucketBase 0 by rcases e with rfl | rfl <;> rfl]; decide
    unfold State.candidates
    rw [n, m]
    simp
  have d : (s.dir.get 0).slots = [{ tag := hashTag (tSvc.hashOf 0 k) }] := by rcases e with rfl | rfl <;> rfl
  have v : s.cloveNow 0 0 = tClove k := by rcases e with rfl | rfl <;> rfl
  have t : s.hashOf 0 k = tSvc.hashOf 0 k := by rcases e with rfl | rfl <;> rfl
  unfold findClove
  simp only [t, c, d]
  rw [List.cons_append, List.find?_cons_of_pos]
  · rfl
  · rw [v, Bool.and_eq_true]
    exact ⟨beq_iff_eq.mpr rfl, g⟩
/-- A thread with clove 1 that asks for a mapping, which exists. -/
def tMapped : State := tFlow (mappingKey 0) { wait := .far, far := some { fn := 2 }, clove := some 1 }
def tMapReq : MapReq := { key := 0, sp := 0, inPort := (tMapped.th 0).pkt.inPort, aux := (tMapped.th 0).pkt.aux }
def tMap : (Nat × Dat × Nat × Nat) × State := mapOp 0 tMapReq tMapped.fresh
theorem tMapped_found : findClove tMapped 0 (mappingKey 0) = some 0 := tFlow_finds _ _ _ (.inl rfl) (by decide +kernel)
theorem tMapped_finds : findClove tMapped.fresh 0 (mappingKey 0) = some 0 := tFlow_finds _ _ _ (.inr rfl) (by decide +kernel)
/-- A thread with clove 1 that asks for admission, whose subscriber has a clove. -/
def tAdm : State := tFlow (subscriberKey 0 0) { wait := .far, far := some { fn := 1 }, clove := some 1, sp := BitVec.ofNat 1024 (2 ^ 128) }
theorem tAdm_found : findClove tAdm 0 (subscriberKey 0 (datU (BitVec.ofNat 1024 (2 ^ 128)) 9 1)) = some 0 :=
  tFlow_finds _ _ _ (.inl rfl) (by decide +kernel)
theorem tMap_eq : mapOp 0 tMapReq tMapped.fresh = ((0, tMap.1.2.1, tMap.1.2.2.1, tMap.1.2.2.2), tMap.2) := by
  have h : (mapOp 0 tMapReq tMapped.fresh).1.1 = 0 := by
    unfold mapOp
    have r : datU tMapReq.sp 16 4 = 0 := by decide +kernel
    simp only [show tMapReq.key = 0 from rfl, tMapped_finds, r]
    rfl
  conv_lhs => rw [show mapOp 0 tMapReq tMapped.fresh = (((mapOp 0 tMapReq tMapped.fresh).1.1, tMap.1.2.1, tMap.1.2.2.1, tMap.1.2.2.2), tMap.2) from rfl]
  rw [h]
/-- A thread that asks to insert the clove in its scratch, on a device with one free index. -/
def tPeerIns : State :=
  { tSvc with
    part := ⟨[(0, { freeCache := [(5, 1)] })]⟩,
    eng := { th := ⟨[(0, { wait := .far, far := some { fn := 6 }, scratch := 1 })]⟩ } }
def tInsd : InsRes × State :=
  insertClove 0 (datPut (BitVec.ofNat 1024 (tPeerIns.th 0).scratch.toNat) 48 1 (2 * datB (BitVec.ofNat 1024 (tPeerIns.th 0).scratch.toNat) 48 1 1))
    tPeerIns.fresh
theorem tInsd_eq : tInsd = (.ok (insOf tInsd.1).1 (insOf tInsd.1).2, tInsd.2) :=
  insOf_eq _ (tInsert _ 0 5 _ rfl rfl (by decide +kernel))

/-- An image whose PRELOAD writes a rule set of one action, which drops, into slot 0. -/
def tBoot : Blob :=
  { cells := ⟨[(7, 1)] ++ tEntry 0 10 512 272 ++
      tBytes 512 ([0x38, 2, 128, 0, 0, 0, 0, 0] ++ leBytes 32 (0x54534C43 + 272 * 2 ^ 32 + 256 * 2 ^ 96 + 2 ^ 128)) ++
      tBytes 648 ([0x38, 2, 128, 0, 2, 0, 0, 0] ++ leBytes 32 1)⟩ }
def passes : ApplyEnd → Bool | .passed => true | _ => false
theorem passes_eq (x : ApplyEnd × State) (h : passes x.1 = true) : x = (.passed, x.2) := by
  obtain ⟨a, b⟩ := x; cases a <;> first | rfl | cases h
def tLoading : State := { load := { phase := .applying, image := tBoot } }

/-- An image that holds the public key of `hssPub`, with header cells before it and sections after it. -/
def tKeyed (f : Nat → Byte) (pre post : List (Nat × Byte)) : Blob :=
  { cells := ⟨pre ++ (([(35, 2), (39, 7), (43, 4)] ++ (List.range 32).map (fun k => (60 + k, f k))) ++ post)⟩ }
def tKeyByte (k : Nat) : Byte := (lmsPub 15 (zeros 16)).getD k 0
def tKeyCells (f : Nat → Byte) : List (Nat × Byte) := [(35, 2), (39, 7), (43, 4)] ++ (List.range 32).map (fun k => (60 + k, f k))
theorem tKeyed_bytes (f : Nat → Byte) (pre post : List (Nat × Byte)) (hp : (pre.all (fun c => c.1 < 32)) = true)
    (hq : (post.all (fun c => 92 ≤ c.1)) = true) :
    (tKeyed f pre post).bytes 32 60 = [0, 0, 0, 2, 0, 0, 0, 7, 0, 0, 0, 4] ++ (zeros 16 ++ (List.range 32).map f) := by
  have e : (tKeyed f pre post).cells.pairsIn 32 (32 + 60) = tKeyCells f := by
    have p : pre.filter (fun c => decide (32 ≤ c.1) && decide (c.1 < 32 + 60)) = [] := by
      rw [List.filter_eq_nil_iff]; intro c hc; have := List.all_eq_true.mp hp c hc; simp at this ⊢; omega
    have q : post.filter (fun c => decide (32 ≤ c.1) && decide (c.1 < 32 + 60)) = [] := by
      rw [List.filter_eq_nil_iff]; intro c hc; have := List.all_eq_true.mp hq c hc; simp at this ⊢; omega
    have m : (tKeyCells f).filter (fun c => decide (32 ≤ c.1) && decide (c.1 < 32 + 60)) = tKeyCells f := by
      rw [List.filter_eq_self]; intro c hc; simp [tKeyCells] at hc; rcases hc with rfl | rfl | rfl | ⟨k, hk, rfl⟩ <;> simp; omega
    unfold SMap.pairsIn tKeyed
    show (pre ++ (tKeyCells f ++ post)).filter _ = _
    rw [List.filter_append, List.filter_append, p, q, m]; simp
  unfold Blob.bytes
  rw [e]
  rfl
theorem tKeyed_key (pre post : List (Nat × Byte)) (hp : (pre.all (fun c => c.1 < 32)) = true) (hq : (post.all (fun c => 92 ≤ c.1)) = true)
    (m : List Byte) : hssOk ((tKeyed tKeyByte pre post).bytes 32 60) m (hssSign (zeros 16) m) = true := by
  have k : (List.range 32).map tKeyByte = lmsPub 15 (zeros 16) := by
    refine List.ext_getElem (by simp [lmsPub_length]) (fun i h1 h2 => ?_)
    simp only [List.getElem_map, List.getElem_range, tKeyByte]
    rw [List.getD_eq_getElem?_getD, List.getElem?_eq_getElem h2]
    rfl
  have p : hssPub (zeros 16) = [0, 0, 0, 2, 0, 0, 0, 7, 0, 0, 0, 4] ++ (zeros 16 ++ lmsPub 15 (zeros 16)) := by
    simp only [hssPub, show beBytes 4 2 = [0, 0, 0, 2] by decide, show beBytes 4 7 = [0, 0, 0, 7] by decide,
      show beBytes 4 4 = [0, 0, 0, 4] by decide, List.cons_append, List.nil_append]
  rw [tKeyed_bytes _ _ _ hp hq, k, ← p]
  exact hssOk_sign (zeros 16) m (by simp [zeros])
def tHead : List (Nat × Byte) := [(7, 8), (13, 2)]
def tBare : Blob := tKeyed tKeyByte [] []
def tSigned : Blob := tKeyed tKeyByte tHead (tImage.cells.cells.drop 2)
def tSigOf (b : Blob) : List Byte := hssSign (zeros 16) (b.bytes 0 (sigOffset (imgHeader b)))
theorem tBare_ok : imageSigned tBare (tSigOf tBare) = true := tKeyed_key [] [] rfl rfl _
theorem tSigned_ok : imageSigned tSigned (tSigOf tSigned) = true :=
  tKeyed_key tHead (tImage.cells.cells.drop 2) (by decide +kernel) (by decide +kernel) _
theorem tSigned_sound (k : Nat) : contentFaults tSigned 0 1 k = [] :=
  contentFaults_nil tSigned 0 1 k (by decide +kernel) (by decide +kernel)

/-- A port that is up, whose default subscriber has a queue with room, and a thread. -/
def tLeaf (h : Thread) : State :=
  { tSvc with
    port := ⟨[(0, { up := true })]⟩, eng := { th := ⟨[(0, h)]⟩ },
    tbl := ⟨[(tblKey 0x40 0, 65536), (tblKey 0x41 0, BitVec.ofNat 1024 (2 ^ 32 + 1)), (tblKey 0x42 0, BitVec.ofNat 1024 (2 ^ 32 + 1)),
      (tblKey 0x43 0, BitVec.ofNat 1024 (2 ^ 56)), (tblKey 0x45 0, BitVec.ofNat 1024 (10 * 2 ^ 96 + 100000))]⟩ }
/-- A device whose thread forwards its packet to a port of the device. -/
def tHop : State :=
  { tSvc with
    topo := 1, tbl := ⟨[(tblKey 0x13 0, 1)]⟩, eng := { th := ⟨[(0, { wait := .ended })]⟩ } }
def tAged : State := { tSvc with fwd := { l2 := ⟨[(0, BitVec.ofNat 128 (2 ^ 112))]⟩ }, tbe := { st := 5000000 } }
def tPoor : State := { tSvc with graph := ⟨[(0, BitVec.ofNat 2048 (2 ^ 48))]⟩, cls := { img := ⟨[(0, 2)]⟩ }, swc := { line := ⟨[(0, [{ bytes := [3] }])]⟩ } }
def tIdle : State :=
  { tSvc with
    clove := ⟨[(0, BitVec.ofNat 1024 (2 ^ 384))]⟩, dir := ⟨[(0, { slots := [{}] })]⟩,
    tbl := ⟨[(tblKey 0x24 0, BitVec.ofNat 1024 (2 ^ 32 + 1))]⟩, tbe := { st := 5000000 } }
def tTwin : State :=
  { tSvc with
    regs := ⟨[(Reg.TBE_TWIN_CFG 0, 256)]⟩,
    tbe := { epochSeen := tSvc.twinPeriod 0 / tSvc.epochPeriod, ageSeen := tSvc.twinPeriod 0 / tSvc.agePeriod } }
def tKept : State :=
  { tSvc with swc := { lanes := ⟨[(0, { up := true, kept := [{}] })]⟩ }, topo := BitVec.ofNat 2048 (2 ^ (67 * 8)) }
theorem tPeerIns_none (i : Nat) (key : BitVec 384) : findClove tPeerIns i key = none := by
  have e (n : Nat) : (({} : SMap DirBucket).get n) = {} := rfl
  unfold findClove
  rw [show tPeerIns.dir = {} from rfl]
  rfl
theorem tPeerIns_free (a b : Nat) : freeBucket tPeerIns a b = some (a, 0) := by
  unfold freeBucket
  rw [show tPeerIns.dir = {} from rfl]
  rfl
theorem tStation_none (s : State) (h : s.fwd.l2 = {}) (bd mac : Nat) : l2Find s bd mac = none := by
  unfold l2Find
  rw [List.find?_eq_none]
  intro k _
  rw [h, show ({} : SMap Ent16).get k = 0 from rfl]
  show ¬(l2Valid 0 && _ && _) = true
  rw [show l2Valid 0 = false by decide]
  simp
/-- A rule set in slot 0 whose action recirculates and skips the flow engine. -/
def tRound : State := { tWalk with cls := { img := ⟨[(0, 0x0C)]⟩ }, regs := ⟨[(Reg.PBF_LIMIT 11 0, 100)]⟩ }
def recOf : ClsOut → Pkt | .recirc p => p | _ => {}
def isRec : ClsOut → Bool | .recirc _ => true | _ => false
theorem recOf_eq (x : ClsOut × State) (h : isRec x.1 = true) : x = (.recirc (recOf x.1), x.2) := by
  obtain ⟨a, b⟩ := x; cases a <;> first | rfl | cases h
def tAgain : ClsOut × State :=
  classify 0 { bytes := [3], parse := parseFrame tRound.graph 0 [3], inp := 0 } []
    (countParse 0 (parseFrame tRound.graph 0 [3]) { tRound.fresh with swc := { tRound.swc with line := tRound.swc.line.set 0 [] } })

/-- HBM without a poisoned burst and with every pseudo-channel in service. -/
theorem tHbm_at (s : State) (a : Nat) (h : (s.hmc.pcs.get (hbmPc a)).copied = 0) : s.hbmAt a = (hbmPc a, hbmLocal a) := by
  unfold State.hbmAt State.hbmGo
  rw [if_pos h]
theorem tHbm_sound (s : State) (h : s.hmc = {}) (a n : Nat) : s.hbmBad a n = false := by
  have g (k : Nat) : s.hmc.pcs.get k = {} := by rw [h]; rfl
  unfold State.hbmBad
  rw [List.any_eq_false]
  intro j _
  unfold State.burstBad State.hbmLost State.pcRetired
  rw [tHbm_at _ _ (by rw [g])]
  simp only [g]
  exact Bool.false_ne_true
/-- HBM with the burst at an address poisoned. -/
def tHurt (a : Nat) : HmcSt := { pcs := ⟨[(hbmPc a, { poisoned := ⟨[(hbmLocal a / 32, true)]⟩ })]⟩ }
theorem tHbm_hurt (s : State) (a n : Nat) (h : s.hmc = tHurt a) (hn : 0 < n) : s.hbmBad a n = true := by
  have g : s.hmc.pcs.get (hbmPc a) = { poisoned := ⟨[(hbmLocal a / 32, true)]⟩ } := by rw [h]; simp [tHurt, SMap.get, smapGet]
  unfold State.hbmBad
  rw [List.any_eq_true]
  refine ⟨0, List.mem_range.mpr (by unfold cdiv; exact Nat.div_pos (by omega) (by decide)), ?_⟩
  unfold State.burstBad
  rw [show a + 32 * 0 = a from rfl, tHbm_at _ _ (by rw [g])]
  simp only [g]
  simp [SMap.get, smapGet]
theorem tHeld_sound (s : State) (h : s.hmc = {}) (lo hi ctx : Nat) (p : Pkt) : s.stepBad lo hi ctx p = false := by
  unfold State.stepBad
  simp only [tHbm_sound s h]
  split <;> [split <;> rfl; split <;> [split <;> rfl; rfl]]
theorem tHeld_hurt (s : State) (h : s.hmc = tHurt (HbmRegion.forwarding.base + 48) ∧ s.regs = tWalk.regs ∧ s.fwd = {}) :
    s.stepBad (s.reg (Reg.FWD_STEP_LO 0 0)) (s.reg (Reg.FWD_STEP_HI 0 0)) 0 tHeld = true := by
  have e1 : s.reg (Reg.FWD_STEP_LO 0 0) = 0x10400000 := by unfold State.reg; rw [h.2.1]; decide
  have e2 : s.reg (Reg.FWD_STEP_HI 0 0) = 0x08000000 := by unfold State.reg; rw [h.2.1]; decide
  rw [e1, e2]
  unfold State.stepBad
  have f : stepField tHeld 0x10400000 0 (bits 0x08000000 28 24) = some 3 := by decide +kernel
  have a : s.fwdAddr (2 + bits 0x10400000 31 28) (16 * (if bit 0x08000000 19 then 0 * 2 ^ bits 0x08000000 28 24 + 3 else 3)) =
      HbmRegion.forwarding.base + 48 := by
    unfold State.fwdAddr; rw [h.2.2]; rfl
  simp only [show ¬bits 0x10400000 31 28 = 11 by decide, show 1 ≤ bits 0x10400000 31 28 ∧ bits 0x10400000 31 28 ≤ 8 by decide, f, a]
  exact tHbm_hurt _ _ _ h.1 (by decide)

/-- A static station, and a station to learn. -/
def tFixed : SMap Ent16 := ⟨[(4 * tBucket 7 0, BitVec.ofNat 128 (7 * 2 ^ 48 + 3 * 2 ^ 112))]⟩
theorem tFixed_get : tFixed.get (4 * tBucket 7 0) = BitVec.ofNat 128 (7 * 2 ^ 48 + 3 * 2 ^ 112) := by
  simp [tFixed, SMap.get, smapGet]
theorem tFixed_found (s : State) (h : s.fwd.l2 = tFixed ∧ s.sec.keys.l2 = 0) : l2Find s 7 0 = some (4 * tBucket 7 0) := by
  have e : s.l2Bucket 7 0 = tBucket 7 0 := by unfold State.l2Bucket tBucket; rw [h.2]
  unfold l2Find l2Slots
  rw [e, List.find?_cons_of_pos]
  show (_ && _ && _) = true
  rw [h.1, tFixed_get]
  decide
theorem tFixed_nh (s : State) (h : s.fwd.l2 = tFixed ∧ s.sec.keys.l2 = 0) : l2Nh (s.fwd.l2.get (4 * tBucket 7 0)) ≠ 5 := by
  rw [h.1, tFixed_get]; decide
theorem tFixed_static (s : State) (h : s.fwd.l2 = tFixed ∧ s.sec.keys.l2 = 0) : l2Static (s.fwd.l2.get (4 * tBucket 7 0)) = true := by
  rw [h.1, tFixed_get]; decide
def tNew : State := { tSvc with fwd := { checks := ⟨[(0, [{ bd := 7, nexthop := 5 }])]⟩ }, regs := ⟨[(Reg.FWD_L2_RATE, 5)]⟩ }
theorem tNew_free : (l2Slots (tNew.l2Bucket 7 0)).find? (fun k => !l2Valid (tNew.fwd.l2.get k)) = some (4 * tBucket 7 0) := by
  have e : tNew.l2Bucket 7 0 = tBucket 7 0 := rfl
  unfold l2Slots
  rw [e, List.find?_cons_of_pos]
  rfl
/-- An entry whose stamp lies ahead. -/
def tAhead : State := { tSvc with fwd := { l2 := ⟨[(0, BitVec.ofNat 128 (2 ^ 112 + 5 * 2 ^ 96))]⟩ } }
def tLeafTree : SMap Dat := ⟨[(tblKey 0x40 0, 65536), (tblKey 0x41 0, BitVec.ofNat 1024 (2 ^ 32 + 1)), (tblKey 0x42 0, BitVec.ofNat 1024 (2 ^ 32 + 1))]⟩
theorem tBucket_sound (s : State) (h : s.hmc = {}) (i b : Nat) : s.bucketBad i b = false := by
  unfold State.bucketBad; rw [tHbm_sound s h, Bool.and_false]
theorem tClove_sound (s : State) (h : s.hmc = {}) (i k : Nat) : s.cloveBad i k = false := by
  unfold State.cloveBad; rw [tHbm_sound s h, Bool.and_false]
theorem tRead_sound (s : State) (h : s.hmc = {}) (i k : Nat) : s.readFails i k false = false := by
  unfold State.readFails; rw [tClove_sound s h]; rfl
theorem tHead_sound (s : State) (h : s.hmc = {}) (it : QItem) : s.headerPoisoned it = false := by
  unfold State.headerPoisoned; split <;> first | exact tHbm_sound s h _ _ | rfl
theorem tData_sound (s : State) (h : s.hmc = {}) (h2 : s.hmc.pcs = {}) (it : QItem) : s.dataPoisoned it = false := by
  unfold State.dataPoisoned; split <;> first | (rw [tItem_kept s h2, tHbm_sound s h]; rfl) | rfl
/-- A miss whose profile learns, and devices on which it finds a free slot, or a victim. -/
def tMiss : Miss := { key := tKey, prof := 2, hash := 5, b1 := 0, b2 := 1, threads := [0] }
def tLearn : State :=
  { tSvc with regs := ⟨[(Reg.FSE_LEARN_RATE 0, 10)]⟩, part := ⟨[(0, { misses := [tMiss], freeCache := [(1, 1)] })]⟩ }
def tFull : State :=
  { tSvc with
    regs := ⟨[(Reg.FSE_PART_CFG 0, 1), (Reg.FSE_LEARN_RATE 0, 10)]⟩, part := ⟨[(0, { misses := [tMiss] })]⟩,
    dir := ⟨[(0, { slots := (List.range 8).map (fun k => { slot := k, idx := k + 1 }) }),
      (1, { slots := (List.range 8).map (fun k => { slot := k, idx := k + 9, pinned := true }) })]⟩ }
def tLearnt (s : State) (slot : Nat) : Clove :=
  datPut (datPut (datPutB (learnedClove s tMiss.key tMiss.profile tMiss.prof) 48 0 1 1) 49 1 (((s.part.get 0).learnSeq + 1).toNat % 256)) 60 4 (8 * 0 + slot)
def tNone : State :=
  { tSvc with part := ⟨[(0, { misses := [{ hash := 5, b1 := 0, b2 := 1, threads := [0] }] })]⟩ }
def tYoung : State :=
  { tSvc with
    clove := ⟨[(0, BitVec.ofNat 1024 (2 ^ 384 + 20000 * 2 ^ 432))]⟩, dir := ⟨[(0, { slots := [{}] })]⟩, tbe := { st := 5000000 } }
/-- A device whose exporter 0 exports over UDP by port 0, which is up and has a queue with room. -/
def tExport : State :=
  { tSvc with
    port := ⟨[(0, { up := true })]⟩, regs := ⟨[(Reg.PBF_STAGE 0, 100)]⟩,
    svc := { part := ⟨[(0, { msgs := ⟨[(0, some {})]⟩, tmplAt := ⟨[(0, some 0)]⟩ })]⟩ },
    tbl := ⟨[(tblKey 0x2C 0, BitVec.ofNat 1024 (3 + 1500 * 2 ^ 32)), (tblKey 0x40 0, BitVec.ofNat 1024 (65536 + 2 ^ 56)),
      (tblKey 0x41 0, BitVec.ofNat 1024 (2 ^ 32 + 1)), (tblKey 0x42 0, BitVec.ofNat 1024 (2 ^ 32 + 1)),
      (tblKey 0x43 0, BitVec.ofNat 1024 (2 ^ 56)), (tblKey 0x44 0, BitVec.ofNat 1024 (2 ^ 16)), (tblKey 0x45 0, BitVec.ofNat 1024 (10 * 2 ^ 96 + 100000))]⟩ }
/-- Refreshes at the start, and at the postponement limit. -/
theorem tFresh_due (s : State) (h : s.now = 0) (n : Nat) : s.refreshOverdue n = none := by
  unfold State.refreshOverdue
  rw [List.find?_eq_none]
  intro b _
  have p : 0 < (Config.refreshPostponed + 2) * s.refreshPeriod n := by
    apply Nat.mul_pos (by omega)
    unfold State.refreshPeriod
    split <;> omega
  rw [h]
  simp only [decide_eq_true_eq]
  omega
def tLate : State := { tSvc with tbe := { st := (Config.refreshPostponed + 2) * (2 * (Config.refreshHalf + 1)) } }
theorem tLate_due : tLate.refreshOverdue 0 = some 0 := by
  unfold State.refreshOverdue
  rw [show List.range 32 = 0 :: (List.range 31).map (· + 1) from rfl, List.find?_cons_of_pos]
  have p : tLate.refreshPeriod 0 = 2 * (Config.refreshHalf + 1) := rfl
  rw [p]
  exact decide_eq_true (Nat.le_of_eq (Nat.zero_add _))

theorem wit_StepRunsTheFrontCommand :
    (∃ (c : Instr) (rest : List Instr) (s : State), (s.pending = c :: rest)) :=
  ⟨.snap, [.arm], { tSvc with pending := [.snap, .arm] }, by decide +kernel⟩

theorem wit_IdleStepIsANanosecond :
    (∃ (s : State), (s.pending = [])) :=
  ⟨tSvc, by decide +kernel⟩

theorem wit_DrainSettledIsKept :
    (∃ (s : State) (t : State), (s.drainSettled) ∧ (step s = .next t)) :=
  ⟨{ md := { mode := .drain, drained := true }, pending := [.refclkRestored] }, { md := { mode := .drain, drained := true } }, by decide +kernel, by rfl⟩

theorem wit_HeldBlocksDoNothing :
    (∃ (c : Instr) (s : State), (c.island = false)) :=
  ⟨.snap, State.reset, by decide +kernel⟩

theorem wit_IgnoredHostWrites :
    (∃ (c : Instr) (win : Nat) (s : State), (c.hostWindow = some win) ∧ (s.hostUp = true) ∧ (s.hostMayWrite win = false) ∧ (s.quiet)) :=
  ⟨.arm, 5, tMode .headless, by decide +kernel⟩

theorem wit_EventRecords :
    (∃ (block : Nat) (code : Nat) (unit : Nat) (detail : Nat) (s : State), (block < 16) ∧ (0 < code) ∧ (code < 256) ∧ (s.isl.held < 1024)) ∧
    (∃ (block : Nat) (code : Nat) (unit : Nat) (detail : Nat) (s : State), (block < 16) ∧ (0 < code) ∧ (code < 256) ∧ (s.isl.held = 1024) ∧ (s.isl.wrapped = false)) ∧
    (∃ (block : Nat) (code : Nat) (unit : Nat) (detail : Nat) (s : State), (block < 16) ∧ (0 < code) ∧ (code < 256) ∧ (s.isl.held = 1024) ∧ (s.isl.wrapped = true)) ∧
    (∃ (n : Nat) (scope : Nat) (block : Nat) (code : Nat) (unit : Nat) (detail : Nat) (s : State), (limOpen n scope block code s = true) ∧ (0 < n)) ∧
    (∃ (n : Nat) (scope : Nat) (block : Nat) (code : Nat) (unit : Nat) (detail : Nat) (s : State), (limOpen n scope block code s = false) ∧ (s.coreHeld = false)) ∧
    (∃ (at_ : Attr) (a : Nat) (n : Nat) (s : State), (s.binding a = 0)) ∧
    (∃ (c : Nat) (a : Nat) (s : State), (s.binding a ≠ 0)) :=
  ⟨⟨0, 3, 5, 7, tSvc, by decide +kernel⟩,
   ⟨0, 3, 5, 7, { tSvc with isl := { held := 1024, total := 1024 } }, by decide +kernel⟩,
   ⟨0, 3, 5, 7, { tSvc with isl := { held := 1024, total := 1025, wrapped := true } }, by decide +kernel⟩,
   ⟨1, 0, 2, 7, 0, 1, tSvc, by decide +kernel⟩,
   ⟨1, 0, 2, 7, 0, 1, { tSvc with lim := ⟨[((2 * 256 + 7) * 2 ^ 32, { n := 1, used := true })]⟩ }, by decide +kernel⟩,
   ⟨{}, 0x1000, 3, tSvc, by decide +kernel⟩,
   ⟨3, 0x1000, { tSvc with tbl := ⟨[(tblKey 0x5D 512, 5)]⟩ }, by decide +kernel⟩⟩

theorem wit_HostModeCommands :
    (∃ (target : Nat) (s : State), (s.hostUp = true) ∧ (s.md.mode = .service) ∧ (target ≤ 2) ∧ (s.holdsPackets = true)) ∧
    (∃ (s : State), (s.hostUp = true) ∧ (s.md.mode = .maintenance) ∧ (s.otp.rootHash ≠ 0) ∧ (s.isl.scorchPending = false)) ∧
    (∃ (v : Word32) (s : State), (s.hostUp = true) ∧ (s.md.mode = .drain) ∧ (s.md.drained = false) ∧ (s.holdsPackets = false)) ∧
    (∃ (target : Nat) (s : State), (s.hostUp = true) ∧ (s.md.mode = .drain) ∧ (target ≤ 2)) ∧
    (∃ (p : Nat) (bytes : List Byte) (r : RxSide) (s : State), (s.live = true) ∧ (s.md.mode = .drain) ∧ (s.md.drained = true) ∧ (s.portExists p = true) ∧ ((s.port.get p).raw = true)) ∧
    (∃ (s : State), (s.live = true) ∧ (s.md.mode = .drain) ∧ (s.md.drained = false) ∧ (s.md.target = 0) ∧ (s.buf.voq = {}) ∧ (s.buf.leaf = {}) ∧ (s.buf.sweeps = [])) ∧
    (∃ (s : State), (s.live = true) ∧ (s.md.mode = .drain) ∧ (s.md.drained = false) ∧ (s.md.target = 1)) :=
  ⟨⟨1, { tSvc with swc := { recirc := ⟨[(0, [{}])]⟩ } }, by decide +kernel⟩,
   ⟨{ tMode .maintenance with otp := { rootHash := 1 } }, by decide +kernel⟩,
   ⟨0, tMode .drain, by decide +kernel⟩,
   ⟨1, { md := { mode := .drain, drained := true } }, by decide +kernel⟩,
   ⟨0, List.replicate 64 0, { corr := 3 }, { md := { mode := .drain, drained := true }, port := ⟨[(0, { raw := true })]⟩ }, by decide +kernel⟩,
   ⟨{ md := { mode := .drain }, tbe := { st := 5 } }, by decide +kernel⟩,
   ⟨{ md := { mode := .drain, target := 1 } }, by decide +kernel⟩⟩

theorem wit_AttachReturnsToService :
    (∃ (s : State), (s.hostUp = true) ∧ (s.md.mode = .headless)) ∧
    (∃ (s : State), (s.hostUp = true) ∧ (s.md.mode ≠ .headless) ∧ (s.md.mode ≠ .lockdown) ∧ (s.md.mode ≠ .drain)) ∧
    (∃ (s : State), (s.hostUp = true) ∧ (s.md.mode = .drain) ∧ (s.md.drained = true ∨ s.holdsPackets = true)) ∧
    (∃ (s : State), (s.md.mode ≠ .headless) ∧ (s.md.mode ≠ .service)) ∧
    (∃ (s : State), (s.hostUp = true) ∧ (s.md.mode = .lockdown)) :=
  ⟨⟨tMode .headless, by decide +kernel⟩,
   ⟨tSvc, by decide +kernel⟩,
   ⟨{ tMode .drain with swc := { recirc := ⟨[(0, [{}])]⟩ } }, by decide +kernel⟩,
   ⟨tMode .maintenance, by decide +kernel⟩,
   ⟨tMode .lockdown, by decide +kernel⟩⟩

theorem wit_HeartbeatWatchdog :
    (∃ (v : Word32) (s : State), (s.hostUp = true) ∧ (s.md.mode ≠ .lockdown) ∧ (s.md.mode ≠ .drain)) ∧
    (∃ (v : Word32) (s : State), (s.hostUp = true) ∧ (s.md.mode = .drain) ∧ (s.md.drained = true ∨ s.holdsPackets = true)) ∧
    (∃ (s : State), (s.live = true) ∧ (s.md.mode = .service) ∧ (s.regF Reg.MGT_HB_CFG 15 0 ≠ 0)) ∧
    (∃ (s : State), (s.md.mode ≠ .service) ∧ (s.md.mode ≠ .drain)) ∧
    (∃ (s : State), (s.md.mode = .service) ∧ (s.regF Reg.MGT_HB_CFG 15 0 = 0)) ∧
    (∃ (s : State), (s.md.mode = .drain) ∧ (s.md.drained = true ∨ s.holdsPackets = true)) :=
  ⟨⟨7, tSvc, by decide +kernel⟩,
   ⟨7, { tMode .drain with swc := { recirc := ⟨[(0, [{}])]⟩ } }, by decide +kernel⟩,
   ⟨{ tSvc with regs := ⟨[(Reg.MGT_HB_CFG, 10)]⟩ }, by decide +kernel⟩,
   ⟨tMode .headless, by decide +kernel⟩,
   ⟨tSvc, by decide +kernel⟩,
   ⟨{ tMode .drain with swc := { recirc := ⟨[(0, [{}])]⟩ } }, by decide +kernel⟩⟩

theorem wit_ResetAndSupplies :
    (∃ (s : State), (s.pins.resetN = true) ∧ (s.coreHeld = false)) ∧
    (∃ (s : State), (s.isl.aonDown = false)) ∧
    (∃ (s : State), (s.isl.aonDown = true) ∧ (s.pins.resetN = false) ∧ (s.md.mode = .load)) ∧
    (∃ (src : Nat) (s : State), (s.coreHeld = false) ∧ (12 ≤ src) ∧ (s.isl.busy = none)) ∧
    (∃ (bpos : Nat) (junction : Int) (t : OtpSense) (s : State), (s.pins.resetN = false) ∧ (bpos < 8) ∧ (s.isl.aonDown = false) ∧ (s.isl.railHold = false) ∧ (s.isl.tripHold = false) ∧ (s.pins.thermTrip = false ∨ junction < 105) ∧ (t.disagree = false) ∧ (s.md.mode = .load) ∧ (s.pins.tknOut = false) ∧ (s.isl.scorchPending = false) ∧ (s.otp.rootHash ≠ 0) ∧ (s.pins.sources = 0)) ∧
    (∃ (bpos : Nat) (junction : Int) (t : OtpSense) (s : State), (s.pins.resetN = false) ∧ (bpos < 8) ∧ (s.isl.aonDown = false) ∧ (s.pins.thermTrip = true) ∧ (105 ≤ junction)) ∧
    (∃ (bpos : Nat) (junction : Int) (t : OtpSense) (s : State), (s.pins.resetN = false) ∧ (bpos < 8) ∧ (s.isl.aonDown = true)) ∧
    (∃ (src : Nat) (s : State), (s.pins.resetN = true) ∧ (s.isl.aonDown = false) ∧ (s.coreHeld = true) ∧ (12 ≤ src)) :=
  ⟨⟨tSvc, by decide +kernel⟩,
   ⟨tSvc, by decide +kernel⟩,
   ⟨{ isl := { aonDown := true }, pins := { resetN := false } }, by decide +kernel⟩,
   ⟨12, tSvc, by decide +kernel⟩,
   ⟨0, 20, {}, { pins := { resetN := false }, otp := { rootHash := 1 } }, by decide +kernel⟩,
   ⟨0, 110, {}, { pins := { resetN := false, thermTrip := true } }, by decide +kernel⟩,
   ⟨0, 20, {}, { pins := { resetN := false }, isl := { aonDown := true } }, by decide +kernel⟩,
   ⟨12, { isl := { railHold := true } }, by decide +kernel⟩⟩

theorem wit_BootToken :
    (∃ (s : State), (s.pins.tknIn = false) ∧ (s.pins.tknOut = false) ∧ (s.coreHeld = false) ∧ (s.load.done = true) ∧ (s.quiet)) ∧
    (∃ (s : State), (s.pins.tknIn = false) ∧ (s.pins.tknOut = false) ∧ (s.load.done = false) ∧ (s.quiet)) ∧
    (∃ (s : State), (s.pins.tknIn = true) ∧ (s.pins.tknOut = true) ∧ (s.load.done = true) ∧ (s.quiet)) ∧
    (∃ (s : State), (s.pins.tknIn = true) ∧ (s.pins.tknOut = false) ∧ (s.coreHeld = false) ∧ (s.md.mode = .load) ∧ (s.load.done = false) ∧ (s.load.phase = .reading)) ∧
    (∃ (d : Option (List Byte)) (s : State), (s.live = true) ∧ (s.md.mode = .load) ∧ (s.load.phase = .wait) ∧ (s.load.done = false) ∧ (s.pins.tknIn = true) ∧ (s.pins.tknOut = false)) :=
  ⟨⟨{ tSvc with load := { done := true } }, by decide +kernel⟩,
   ⟨{}, by decide +kernel⟩,
   ⟨{ tSvc with pins := { tknIn := true, tknOut := true }, load := { done := true } }, by decide +kernel⟩,
   ⟨{ pins := { tknIn := true }, load := { phase := .reading } }, by decide +kernel⟩,
   ⟨none, { pins := { tknIn := true } }, by decide +kernel⟩⟩

theorem wit_LoadOutcomes :
    (∃ (s : State), (s.live = true) ∧ (s.md.mode = .load) ∧ (s.load.done = false) ∧ (s.load.phase = .wait)) ∧
    (∃ (d : List Byte) (f : FlashRead) (s : State), (s.live = true) ∧ (s.md.mode = .load) ∧ (s.load.phase = .reading) ∧ (s.load.dir = some d) ∧ (dirOk d s.pins.bpos = true) ∧ (f.fail = none) ∧ (formatOk f.image s.pins.bpos (dirLength d s.pins.bpos) = true) ∧ (sha256 (f.image.bytes 32 60) = s.otp.rootHash) ∧ (badCrc f.image = none) ∧ (s.pins.tknIn = true) ∧ (s.pins.tknOut = false)) ∧
    (∃ (f : FlashRead) (s : State), (s.live = true) ∧ (s.md.mode = .load) ∧ (s.load.phase = .reading) ∧ (s.load.dir = none)) ∧
    (∃ (d : List Byte) (f : FlashRead) (s : State), (s.live = true) ∧ (s.md.mode = .load) ∧ (s.load.phase = .reading) ∧ (s.load.dir = some d)) ∧
    (∃ (s : State), (s.live = true) ∧ (s.md.mode = .load) ∧ (s.load.phase = .verify) ∧ (imageSigned s.load.image s.load.sig = true) ∧ (s.fusedVersion ≤ imgSecVersion (imgHeader s.load.image)) ∧ ((∀ k, contentFaults s.load.image s.pins.bpos s.load.dirCount k = []))) ∧
    (∃ (s : State), (s.live = true) ∧ (s.md.mode = .load) ∧ (s.load.phase = .verify) ∧ (imageSigned s.load.image s.load.sig = false)) ∧
    (∃ (s : State), (s.live = true) ∧ (s.md.mode = .load) ∧ (s.load.phase = .verify) ∧ (imageSigned s.load.image s.load.sig = true) ∧ (imgSecVersion (imgHeader s.load.image) < s.fusedVersion)) ∧
    (∃ (s : State), (s.live = true) ∧ (s.md.mode = .load) ∧ (s.load.phase = .verify) ∧ (imageSigned s.load.image s.load.sig = true) ∧ (s.fusedVersion ≤ imgSecVersion (imgHeader s.load.image)) ∧ (contentFaults s.load.image s.pins.bpos s.load.dirCount (Config.pick s.free) ≠ [])) ∧
    (∃ (a : ApplyRead) (s : State), (s.live = true) ∧ (s.md.mode = .load) ∧ (s.load.phase = .applying) ∧ (a.inc ≠ 0) ∧ (a.inc ≠ s.isl.inc) ∧ (a.inc < 65536) ∧ ((applyImage s.load.image a s.fresh).1 = .passed)) ∧
    (∃ (a : ApplyRead) (s : State) (t : State) (sect : Nat) (detail : Nat), (s.live = true) ∧ (s.md.mode = .load) ∧ (s.load.phase = .applying) ∧ (a.inc ≠ 0) ∧ (a.inc ≠ s.isl.inc) ∧ (a.inc < 65536) ∧ (applyImage s.load.image a s.fresh = (.failed sect detail, t))) :=
  ⟨⟨{}, by decide +kernel⟩,
   ⟨tDir, tFlash, { load := { phase := .reading, dir := some tDir }, pins := { tknIn := true }, otp := { rootHash := sha256 (tFlash.image.bytes 32 60) } }, both4 (by decide +kernel) ⟨by exact tFlash_dir, by decide +kernel, tFlash_format, rfl, tFlash_crc, by decide +kernel⟩⟩,
   ⟨{}, { load := { phase := .reading } }, by decide +kernel⟩,
   ⟨[], {}, { load := { phase := .reading, dir := some [] } }, by decide +kernel⟩,
   ⟨{ load := { phase := .verify, image := tSigned, dirCount := 1, sig := tSigOf tSigned } }, both3 (by decide +kernel) ⟨tSigned_ok, by decide +kernel, tSigned_sound⟩⟩,
   ⟨{ load := { phase := .verify } }, by decide +kernel⟩,
   ⟨{ load := { phase := .verify, image := tBare, dirCount := 1, sig := tSigOf tBare }, otp := { rollback := 5 } }, both3 (by decide +kernel) ⟨tBare_ok, by decide +kernel⟩⟩,
   ⟨{ load := { phase := .verify, image := tBare, dirCount := 1, sig := tSigOf tBare } }, both3 (by decide +kernel) ⟨tBare_ok, by decide +kernel⟩⟩,
   ⟨{}, tLoading, by decide +kernel⟩,
   ⟨{ hwOk := false }, { load := { phase := .applying } }, (applyImage {} { hwOk := false } { load := { phase := .applying } }).2, 0xFF, 0, both6 (by decide +kernel) (Prod.ext (by decide +kernel) rfl)⟩⟩

theorem wit_Alarms :
    (∃ (src : Nat) (s : State), (src < 11) ∧ (s.isl.aonDown = false) ∧ (s.coreHeld = false) ∧ (bit s.sec.status.toNat src = false) ∧ (s.grade src = 0) ∧ (s.quiet)) ∧
    (∃ (src : Nat) (grade : Nat) (s : State), (src < 11) ∧ (s.isl.aonDown = false) ∧ (s.coreHeld = false) ∧ (bit s.sec.status.toNat src = false) ∧ (s.grade src = grade) ∧ ((grade = 1 ∨ grade = 2))) ∧
    (∃ (src : Nat) (s : State), (src < 12) ∧ (s.isl.aonDown = false) ∧ (s.coreHeld = true) ∧ (bit s.pins.sources.toNat src = false)) ∧
    (∃ (src : Nat) (s : State), (src < 12) ∧ (s.running) ∧ ((src = 11 → s.sec.refill = false))) ∧
    (∃ (src : Nat) (s : State), (src < 12) ∧ (s.coreHeld = true)) ∧
    (∃ (s : State), (s.running) ∧ (s.sec.refill = true)) ∧
    (∃ (s : State), (s.live = true) ∧ (s.pins.thermTrip = false)) ∧
    (∃ (s : State), (s.coreHeld = false) ∧ (s.sec.burning = true) ∧ (s.md.mode = .lockdown)) ∧
    (∃ (s : State), (s.coreHeld = true) ∧ (s.isl.aonDown = false) ∧ (s.pins.thermTrip = false)) ∧
    (∃ (s : State) (t : Nat), (s.coreHeld = false) ∧ (s.sec.zeroStart = some t) ∧ (s.quiet)) ∧
    (∃ (s : State) (t : Nat), (s.coreHeld = false) ∧ (s.sec.zeroStart = some t) ∧ (s.quiet)) :=
  ⟨⟨0, { tSvc with sec := { policy := true } }, by decide +kernel⟩,
   ⟨0, 1, { tSvc with sec := { policy := true }, regs := ⟨[(Reg.SEC_ALARM_GRADE 0, 1)]⟩ }, by decide +kernel⟩,
   ⟨0, { pins := { resetN := false } }, by decide +kernel⟩,
   ⟨0, tSvc, by decide +kernel⟩,
   ⟨0, { pins := { resetN := false } }, by decide +kernel⟩,
   ⟨{ tSvc with sec := { refill := true } }, by decide +kernel⟩,
   ⟨tSvc, by decide +kernel⟩,
   ⟨{ tMode .lockdown with sec := { burning := true } }, by decide +kernel⟩,
   ⟨{ pins := { resetN := false } }, by decide +kernel⟩,
   ⟨{ tSvc with sec := { zeroStart := some 0 } }, 0, by decide +kernel⟩,
   ⟨{ tSvc with sec := { zeroStart := some 0 } }, 0, by decide +kernel⟩⟩

theorem wit_FuseCommands :
    (∃ (read : BitVec 256) (s : State), (s.hostSets 1) ∧ (s.md.mode = .maintenance) ∧ (s.otp.rootLock = false) ∧ (s.otp.rootHash ||| read = s.rootStage)) ∧
    (∃ (read : BitVec 256) (s : State), (s.hostSets 1) ∧ (s.md.mode = .maintenance) ∧ (s.otp.rootLock = false) ∧ (s.otp.rootHash ||| read ≠ s.rootStage) ∧ ((s.otp.rootHash ||| read) &&& ~~~s.rootStage = 0)) ∧
    (∃ (read : BitVec 256) (s : State), (s.hostSets 1) ∧ (s.md.mode = .maintenance) ∧ (s.otp.rootLock = false) ∧ ((s.otp.rootHash ||| read) &&& ~~~s.rootStage ≠ 0)) ∧
    (∃ (confirm : Nat) (read : BitVec 256) (s : State), (s.hostSets 1) ∧ ((s.md.mode ≠ .maintenance ∨ s.otp.rootLock = true ∨ confirm ≠ 0xA5))) ∧
    (∃ (s : State), (s.hostSets 1) ∧ (s.md.mode = .maintenance)) ∧
    (∃ (s : State), (s.hostSets 1) ∧ (s.md.mode = .maintenance)) ∧
    (∃ (confirm : Nat) (burned : Bool) (s : State), (s.hostSets 1) ∧ ((s.md.mode ≠ .maintenance ∨ confirm ≠ 0xA5))) :=
  ⟨⟨5, { tMode .maintenance with regs := ⟨[(Reg.SEC_ROOT_STAGE 0, 5)]⟩ }, by decide +kernel⟩,
   ⟨1, { tMode .maintenance with regs := ⟨[(Reg.SEC_ROOT_STAGE 0, 5)]⟩ }, by decide +kernel⟩,
   ⟨2, { tMode .maintenance with regs := ⟨[(Reg.SEC_ROOT_STAGE 0, 5)]⟩ }, by decide +kernel⟩,
   ⟨0, 0, tMode .maintenance, by decide +kernel⟩,
   ⟨tMode .maintenance, by decide +kernel⟩,
   ⟨tMode .maintenance, by decide +kernel⟩,
   ⟨0, true, tSvc, by decide +kernel⟩⟩

theorem wit_DebugPort :
    (∃ (s : State), (s.running)) ∧
    (∃ (s : State), (s.running)) ∧
    (∃ (s : State), (s.coreHeld = true)) ∧
    (∃ (s : State), (s.steady) ∧ (s.jtagOpen = false)) ∧
    (∃ (s : State), (s.live = true) ∧ (s.jtagOpen = true)) :=
  ⟨⟨tSvc, by decide +kernel⟩,
   ⟨tSvc, by decide +kernel⟩,
   ⟨{ pins := { resetN := false } }, by decide +kernel⟩,
   ⟨tSvc, by decide +kernel⟩,
   ⟨{ tSvc with load := { flags := 4, applied := true } }, by decide +kernel⟩⟩

theorem wit_Attestation :
    (∃ (s : State) (q : Nat), (s.live = true) ∧ (s.md.mode = .service) ∧ (s.md.loadFailed = false) ∧ (s.load.applied = true) ∧ (s.sec.ident = .building) ∧ (s.sec.leaf = some q) ∧ (s.secretOpen = true)) ∧
    (∃ (s : State), (s.md.mode = .service) ∧ (s.secretOpen = false)) ∧
    (∃ (s : State) (p : Nat) (q : Nat) (rest : List Nat), (s.live = true) ∧ (s.md.mode = .service) ∧ (s.sec.queue = p :: rest) ∧ (attestReqOk (s.sec.attest.get p).req = true) ∧ (datU (s.sec.attest.get p).req 1 1 = 1) ∧ (s.otp.kill = false) ∧ (s.sec.leaf = some q) ∧ (s.sec.ident = .ready) ∧ (s.sec.sigs < 32767)) ∧
    (∃ (s : State) (p : Nat) (rest : List Nat), (s.live = true) ∧ (s.md.mode = .service) ∧ (s.sec.queue = p :: rest) ∧ (attestReqOk (s.sec.attest.get p).req = true) ∧ (datU (s.sec.attest.get p).req 1 1 = 2) ∧ (s.otp.kill = false) ∧ (s.sec.topRoot = true) ∧ (s.sec.sigs < 32768)) :=
  ⟨⟨{ tSvc with load := { applied := true }, sec := { ident := .building, leaf := some 3 } }, 3, by decide +kernel⟩,
   ⟨{ tSvc with otp := { kill := true } }, by decide +kernel⟩,
   ⟨{ tSvc with sec := { queue := [0], ident := .ready, leaf := some 3, attest := ⟨[(0, { pending := true, req := 0x0101 })]⟩ } }, 0, 3, [], by decide +kernel⟩,
   ⟨{ tSvc with sec := { queue := [0], topRoot := true, attest := ⟨[(0, { pending := true, req := 0x0201 })]⟩ } }, 0, [], by decide +kernel⟩⟩

theorem wit_ThermometerFields :
    (∃ (n : Nat) (v : Nat), ((∀ i < n, bit v i = false))) ∧
    (∃ (n : Nat) (v : Nat) (k : Nat), (k < n) ∧ (bit v k = true) ∧ ((∀ i < n, k < i → bit v i = false))) ∧
    (∃ (k : Nat) (s : State), (k < 64) ∧ (s.otp.rollback.getLsbD k = true) ∧ ((∀ i < 64, k < i → s.otp.rollback.getLsbD i = false))) ∧
    (∃ (k : Nat) (s : State), (k < 1024) ∧ (s.otp.bootCount.getLsbD k = true) ∧ ((∀ i < 1024, k < i → s.otp.bootCount.getLsbD i = false))) :=
  ⟨⟨8, 0, by decide +kernel⟩,
   ⟨8, 5, 2, by decide +kernel⟩,
   ⟨2, { otp := { rollback := 5 } }, by decide +kernel⟩,
   ⟨2, { otp := { bootCount := 5 } }, by decide +kernel⟩⟩

theorem wit_TimeInputs :
    (∃ (gap : Nat) (rising : Bool) (s : State), (s.running) ∧ (rising = bit (s.reg Reg.TBE_PPS_CFG) 16)) ∧
    (∃ (gap : Nat) (e : Nat) (rising : Bool) (s : State), (s.running) ∧ (rising ≠ bit (s.reg Reg.TBE_PPS_CFG) 16) ∧ (s.tbe.lastEdge = some e) ∧ (s.tbe.st + gap - e < 500000000)) ∧
    (∃ (gap : Nat) (rising : Bool) (s : State), (s.running) ∧ (rising ≠ bit (s.reg Reg.TBE_PPS_CFG) 16) ∧ ((∀ e, s.tbe.lastEdge = some e → 500000000 ≤ s.tbe.st + gap - e)) ∧ (s.tbe.bound = none)) ∧
    (∃ (gap : Nat) (sec : Nat) (rising : Bool) (phase : Int) (before : Int) (s : State), (s.running) ∧ (rising ≠ bit (s.reg Reg.TBE_PPS_CFG) 16) ∧ ((∀ e, s.tbe.lastEdge = some e → 500000000 ≤ s.tbe.st + gap - e)) ∧ (s.tbe.bound = some (sec + 1)) ∧ (s.tbe.state = .locked) ∧ ((((s.tbe.st + gap - s.tbe.off : Nat) : Int) - s.ppsComp = ((sec + 1 : Nat) : Int) * 1000000000 + phase)) ∧ (s.tbe.prev = some (sec, 0, before)) ∧ ((before - phase).natAbs ≤ 100) ∧ (phase.natAbs ≤ s.slewLimit) ∧ (phase.natAbs < 500000000)) ∧
    (∃ (gap : Nat) (bytes : List Byte) (s : State), (s.running) ∧ (todOk bytes = true) ∧ (s.tbe.bound = none)) ∧
    (∃ (s : State), (s.running) ∧ (0 < s.tbe.slew)) ∧
    (∃ (s : State), (s.running) ∧ (s.tbe.slew < 0)) :=
  ⟨⟨10, false, tSvc, by decide +kernel⟩,
   ⟨10, 0, true, { tSvc with tbe := { lastEdge := some 0 } }, by decide +kernel⟩,
   ⟨10, true, tSvc, both2 (by decide +kernel) ⟨(by intro e h; cases h), by decide +kernel⟩⟩,
   ⟨2000000005, 1, true, 5, 3, { tSvc with tbe := { state := .locked, bound := some 2, prev := some (1, 0, 3) }, regs := ⟨[(Reg.TBE_CFG, 100)]⟩ }, both2 (by decide +kernel) ⟨(by intro e h; cases h), by decide +kernel⟩⟩,
   ⟨1, tTod, tSvc, by decide +kernel⟩,
   ⟨{ tSvc with tbe := { slew := 3 } }, by decide +kernel⟩,
   ⟨{ tSvc with tbe := { slew := -3 } }, by decide +kernel⟩⟩

theorem wit_HoldoverAndReference :
    (∃ (s : State), (s.running) ∧ (s.tbe.state = .locked)) ∧
    (∃ (ppm : Int) (s : State), (s.running) ∧ (s.tbe.refclkLost = false) ∧ (s.tbe.state ≠ .locked) ∧ (bit s.sec.status.toNat 5 = true)) ∧
    (∃ (ppm : Int) (s : State), (s.running) ∧ (s.tbe.refclkLost = false) ∧ (s.tbe.state = .locked) ∧ (bit s.sec.status.toNat 5 = false) ∧ (s.grade 5 = 0)) ∧
    (∃ (s : State), (s.running)) :=
  ⟨⟨{ tSvc with tbe := { state := .locked } }, by decide +kernel⟩,
   ⟨5, { tSvc with sec := { status := 32 } }, by decide +kernel⟩,
   ⟨5, { tSvc with tbe := { state := .locked } }, by decide +kernel⟩,
   ⟨tSvc, by decide +kernel⟩⟩

theorem wit_Boundaries :
    (∃ (s : State), (s.running) ∧ (s.tbe.epochSeen = max s.tbe.st ((s.tbe.ageSeen + 1) * s.agePeriod) / s.epochPeriod)) ∧
    (∃ (s : State), (s.running) ∧ (s.cls.armed = none)) ∧
    (∃ (s : State), (s.running) ∧ (s.cls.armed = none)) ∧
    (∃ (e : Nat) (s : State), (s.running) ∧ (s.cls.armed = some e) ∧ (s.swapMode = true) ∧ (s.asa.run.rejoin = none) ∧ (((((max s.tbe.st ((s.tbe.epochSeen + 1) * s.epochPeriod)) / s.epochPeriod % 2 ^ 32) + 2 ^ 32 - e % 2 ^ 32) % 2 ^ 32 < 2 ^ 31 ∨ (e + 2 ^ 32 - s.tbe.epochSeen % 2 ^ 32) % 2 ^ 32 ≤ max s.tbe.st ((s.tbe.epochSeen + 1) * s.epochPeriod) / s.epochPeriod - s.tbe.epochSeen))) ∧
    (∃ (s : State), (s.hostSets 2)) ∧
    (∃ (n : Nat) (s : State), (s.steady) ∧ (s.tbe.skip = some n)) ∧
    (∃ (s : State), (s.hostUp = true) ∧ (s.hostMayWrite 2 = true) ∧ (s.md.mode = .drain) ∧ (s.md.drained = true) ∧ (s.tbe.state = .locked) ∧ (s.queuesHold = false) ∧ (s.cls.armed = none) ∧ (s.cls.draining = false)) ∧
    (∃ (s : State), (s.hostUp = true) ∧ (s.md.mode = .service)) :=
  ⟨⟨{ tSvc with tbe := { epochSeen := tSvc.agePeriod / tSvc.epochPeriod } }, by decide +kernel⟩,
   ⟨tSvc, by decide +kernel⟩,
   ⟨tSvc, by decide +kernel⟩,
   ⟨0, { tSvc with cls := { armed := some 0 } }, by decide +kernel⟩,
   ⟨tSvc, by decide +kernel⟩,
   ⟨0, { tSvc with tbe := { skip := some 0 } }, by decide +kernel⟩,
   ⟨{ md := { mode := .drain, drained := true }, tbe := { state := .locked, st := 5000, off := 2000 } }, by decide +kernel⟩,
   ⟨tSvc, by decide +kernel⟩⟩

theorem wit_RegisterAccess :
    (∃ (v : Word32) (s : State), (s.live = true) ∧ (s.pins.perstN = true) ∧ (s.md.mode = .service)) ∧
    (∃ (a : Nat) (v : Nat) (s : State), (s.live = true) ∧ (s.pins.perstN = true) ∧ (s.md.mode = .service) ∧ (a % 4 = 0) ∧ (a + 4 ≤ 0x4000000) ∧ (windowAt a = none) ∧ (¬ (0x3F0000 ≤ a ∧ a < 0x3F0400)) ∧ (regAt a = none)) ∧
    (∃ (win : Window) (a : Nat) (v : Nat) (s : State), (s.running) ∧ (s.pins.perstN = true) ∧ (a % 4 ≠ 0)) ∧
    (∃ (win : Window) (a : Nat) (s : State), (s.live = true) ∧ (s.pins.perstN = true) ∧ (s.md.mode = .service) ∧ (a % 8 ≠ 0)) ∧
    (∃ (a : Nat) (s : State), (s.live = true) ∧ (s.pins.perstN = true) ∧ (s.md.mode = .service) ∧ (isCounter a = true) ∧ (a % 8 = 0) ∧ (a < 0x10000)) ∧
    (∃ (a : Nat) (s : State), (s.live = true) ∧ (s.pins.perstN = true) ∧ (s.md.mode = .service) ∧ (isCounter a = true) ∧ (a % 8 = 0)) ∧
    (∃ (a : Nat) (s : State), (s.live = true) ∧ (s.pins.perstN = true) ∧ (s.md.mode = .service) ∧ (isCounter a = true) ∧ (a % 8 = 0) ∧ (s.hostShadow.last = some a)) :=
  ⟨⟨0x1234, tSvc, by decide +kernel⟩,
   ⟨0x3E00000, 1, tSvc, by decide +kernel⟩,
   ⟨.bar0, 0x101, 0, tSvc, by decide +kernel⟩,
   ⟨.bar0, 0x1001, tSvc, by decide +kernel⟩,
   ⟨Cnt.MGT_EVENTS % 0x10000, tSvc, by decide +kernel⟩,
   ⟨Cnt.MGT_EVENTS, tSvc, by decide +kernel⟩,
   ⟨Cnt.MGT_EVENTS, { tSvc with hostShadow := { last := some Cnt.MGT_EVENTS, hi := 7 } }, by decide +kernel⟩⟩

theorem wit_EntryCommandPorts :
    (∃ (n : Nat) (x : TableSide) (s : State), (n < 8) ∧ (s.live = true) ∧ (s.pins.perstN = true) ∧ (s.md.mode = .service) ∧ ((s.ecp.get n).busy = false) ∧ ((∀ k < 9, k ≠ n → (s.ecp.get k).waitNo = 0)) ∧ (1 ≤ (s.ecp.get n).tbl) ∧ ((s.ecp.get n).tbl ≤ 8) ∧ ((s.ecp.get n).idx < s.regF (Reg.FWD_DIRECT_CFG ((s.ecp.get n).tbl - 1)) 20 0)) ∧
    (∃ (n : Nat) (k : Nat) (x : TableSide) (s : State), (n < 8) ∧ (s.live = true) ∧ (s.pins.perstN = true) ∧ (s.md.mode = .service) ∧ ((s.ecp.get n).busy = false) ∧ ((∀ k < 9, k ≠ n → (s.ecp.get k).waitNo = 0)) ∧ ((s.ecp.get n).tbl = 0x12) ∧ (l2Find s (l2Bd (l2OfDat (s.ecp.get n).dat)) (l2Mac (l2OfDat (s.ecp.get n).dat)) = some k)) ∧
    (∃ (n : Nat) (x : TableSide) (s : State), (n < 8) ∧ (s.live = true) ∧ (s.pins.perstN = true) ∧ (s.md.mode = .service) ∧ ((s.ecp.get n).busy = false) ∧ ((∀ k < 9, k ≠ n → (s.ecp.get k).waitNo = 0)) ∧ ((s.ecp.get n).tbl = 0x12) ∧ (l2Find s (l2Bd (l2OfDat (s.ecp.get n).dat)) (l2Mac (l2OfDat (s.ecp.get n).dat)) = none)) ∧
    (∃ (n : Nat) (k : Nat) (e : Ent16) (x : TableSide) (s : State), (n < 8) ∧ (s.live = true) ∧ (s.pins.perstN = true) ∧ (s.md.mode = .service) ∧ ((s.ecp.get n).busy = false) ∧ ((∀ k < 9, k ≠ n → (s.ecp.get k).waitNo = 0)) ∧ ((s.ecp.get n).tbl = 0x12) ∧ (s.fwd.l2.cells.find? (fun c => decide ((s.ecp.get n).idx ≤ c.1) && l2Valid c.2) = some (k, e))) ∧
    (∃ (n : Nat) (x : TableSide) (s : State), (n < 8) ∧ (s.live = true) ∧ (s.pins.perstN = true) ∧ (s.md.mode = .service) ∧ ((s.ecp.get n).busy = false) ∧ ((∀ k < 9, k ≠ n → (s.ecp.get k).waitNo = 0)) ∧ ((s.ecp.get n).tbl = 0x12) ∧ (s.fwd.l2.cells.find? (fun c => decide ((s.ecp.get n).idx ≤ c.1) && l2Valid c.2) = none)) ∧
    (∃ (n : Nat) (k : Nat) (i : Nat) (x : TableSide) (s : State), (n < 8) ∧ (s.live = true) ∧ (s.pins.perstN = true) ∧ (s.md.mode = .service) ∧ ((s.ecp.get n).busy = false) ∧ ((∀ k < 9, k ≠ n → (s.ecp.get k).waitNo = 0)) ∧ (1 ≤ k) ∧ (k ≤ 8) ∧ ((s.ecp.get n).tbl = k) ∧ (s.flushKeys (.direct k) 0 = [i]) ∧ (s.flushHit (.direct k) (s.ecp.get n).dat i = true)) :=
  ⟨⟨0, {}, { tSvc with ecp := ⟨[(0, { tbl := 1, idx := 3, dat := 9 })]⟩, regs := ⟨[(Reg.FWD_DIRECT_CFG 0, 16)]⟩ }, by decide +kernel⟩,
   ⟨0, 4 * tBucket 7 0, {}, { tSvc with ecp := ⟨[(0, { tbl := 0x12, dat := BitVec.ofNat 1024 (7 * 2 ^ 48) })]⟩, fwd := { l2 := tStation 7 } }, both7 (by decide +kernel) (tStation_found _ ⟨rfl, rfl⟩)⟩,
   ⟨0, {}, { tSvc with ecp := ⟨[(0, { tbl := 0x12, dat := BitVec.ofNat 1024 (7 * 2 ^ 48) })]⟩ }, both7 (by decide +kernel) (tStation_none _ rfl _ _)⟩,
   ⟨0, 5, BitVec.ofNat 128 (2 ^ 112), {}, { tSvc with ecp := ⟨[(0, { tbl := 0x12 })]⟩, fwd := { l2 := ⟨[(5, BitVec.ofNat 128 (2 ^ 112))]⟩ } }, by decide +kernel⟩,
   ⟨0, {}, { tSvc with ecp := ⟨[(0, { tbl := 0x12, dat := BitVec.ofNat 1024 (7 * 2 ^ 48) })]⟩ }, by decide +kernel⟩,
   ⟨0, 1, 2, {}, { tSvc with ecp := ⟨[(0, { tbl := 1 })]⟩, tbl := ⟨[(tblKey 1 2, BitVec.ofNat 1024 (2 ^ 64))]⟩ }, by decide +kernel⟩⟩

theorem wit_EntryCommandEnds :
    (∃ (n : Nat) (s : State), (n < 8) ∧ (s.hostSets 0) ∧ ((s.ecp.get n).busy = true)) ∧
    (∃ (s : State), (s.running) ∧ ((s.ecp.get 8).busy = true)) ∧
    (∃ (n : Nat) (s : State), (n < 8) ∧ (s.hostSets 0) ∧ ((s.ecp.get n).busy = true) ∧ ((s.ecp.get n).outcome = none)) ∧
    (∃ (n : Nat) (r : EcpRes) (s : State), (n < 8) ∧ (s.running) ∧ ((s.ecp.get n).busy = true) ∧ ((s.ecp.get n).outcome = some r)) ∧
    (∃ (n : Nat) (s : State), (s.live = true) ∧ (s.md.mode = .service) ∧ (s.commitHeld = false) ∧ (s.pod.writes = [n]) ∧ (n < 8) ∧ ((∀ k < 9, k ≠ n → (s.ecp.get k).waitNo = 0)) ∧ ((s.ecp.get n).busy = true) ∧ ((s.ecp.get n).abort = false) ∧ ((s.ecp.get n).outcome = none) ∧ ((s.ecp.get n).sent = false) ∧ ((s.ecp.get n).lop = some .write) ∧ ((s.ecp.get n).ltbl = 0x51) ∧ ((s.ecp.get n).lwin = .bar0) ∧ ((s.ecp.get n).lidx < 4096) ∧ (bits (s.ecp.get n).ldat.toNat 3 2 ≠ 3) ∧ (bits (s.ecp.get n).ldat.toNat 4 3 ≠ 3)) :=
  ⟨⟨0, { tSvc with ecp := ⟨[(0, { busy := true })]⟩ }, by decide +kernel⟩,
   ⟨{ tSvc with ecp := ⟨[(8, { busy := true })]⟩ }, by decide +kernel⟩,
   ⟨0, { tSvc with ecp := ⟨[(0, { busy := true })]⟩ }, by decide +kernel⟩,
   ⟨0, {}, { tSvc with ecp := ⟨[(0, { busy := true, outcome := some {} })]⟩ }, by decide +kernel⟩,
   ⟨0, { tSvc with pod := { writes := [0] }, ecp := ⟨[(0, { busy := true, lop := some .write, ltbl := 0x51, lidx := 5 })]⟩ }, by decide +kernel⟩⟩

theorem wit_Conduits :
    (∃ (c : Nat) (s : State), (s.hostSets 0) ∧ (c ≤ 40) ∧ ((s.cdt.get c).inPkt ≠ 0)) ∧
    (∃ (c : Nat) (s : State), (s.hostSets 0) ∧ (c < 16) ∧ ((s.cdt.get c).inPkt = 0)) ∧
    (∃ (c : Nat) (s : State), (s.hostWrites 0) ∧ (16 ≤ c) ∧ (c < 32) ∧ ((s.cdt.get c).inPkt = 0)) ∧
    (∃ (c : Nat) (s : State), (s.running) ∧ (s.hostUp = true) ∧ (c < 16)) ∧
    (∃ (c : Nat) (s : State), (s.running) ∧ (s.hostUp = true) ∧ (16 ≤ c) ∧ (c < 32) ∧ ((s.ring.get c).courier = false)) ∧
    (∃ (c : Nat) (s : State), (s.running) ∧ (s.hostUp = true) ∧ (c < 16) ∧ ((s.ring.get c).courier = false) ∧ ((s.cdt.get c).fill ≠ 0)) ∧
    (∃ (c : Nat) (s : State), (s.running) ∧ (s.hostUp = true) ∧ (c < 16) ∧ ((s.ring.get c).courier = false) ∧ ((s.cdt.get c).fill = 0)) ∧
    (∃ (c : Nat) (w : Word512) (s : State), (s.running) ∧ (s.hostSets 0) ∧ (s.md.mode ≠ .load) ∧ (16 ≤ c) ∧ (c < 32) ∧ ((s.ring.get c).courier = false) ∧ ((s.cdt.get c).fill < 1024) ∧ (wordEnd w = false)) ∧
    (∃ (c : Nat) (w : Word512) (s : State), (s.running) ∧ (s.hostSets 0) ∧ (s.md.mode ≠ .load) ∧ (16 ≤ c) ∧ (c < 32) ∧ ((s.ring.get c).courier = false) ∧ ((s.cdt.get c).fill < 1024) ∧ (wordEnd w = true) ∧ ((s.cdt.get c).flush = false)) :=
  ⟨⟨0, { tSvc with cdt := ⟨[(0, { inPkt := 1, wr := 1 })]⟩ }, by decide +kernel⟩,
   ⟨0, { tSvc with cdt := ⟨[(0, { wr := 1 })]⟩ }, by decide +kernel⟩,
   ⟨16, { tSvc with cdt := ⟨[(16, { wr := 1 })]⟩ }, by decide +kernel⟩,
   ⟨0, tSvc, by decide +kernel⟩,
   ⟨16, tSvc, by decide +kernel⟩,
   ⟨0, { tSvc with cdt := ⟨[(0, { wr := 1, words := ⟨[(0, 7)]⟩ })]⟩ }, by decide +kernel⟩,
   ⟨0, tSvc, by decide +kernel⟩,
   ⟨16, 0, tSvc, by decide +kernel⟩,
   ⟨16, 0x40, tSvc, by decide +kernel⟩⟩

theorem wit_HostRings :
    (∃ (c : Nat) (v : Word32) (s : State), (s.hostSets 0) ∧ (c ≤ 40) ∧ ((s.ring.get c).enable = false) ∧ (bit v.toNat 31 = true) ∧ (6 ≤ bits v.toNat 20 16) ∧ (bits v.toNat 20 16 ≤ 16)) ∧
    (∃ (c : Nat) (v : Word32) (s : State), (s.hostSets 0) ∧ (c ≤ 40) ∧ ((s.ring.get c).enable = true) ∧ (bit v.toNat 31 = true)) ∧
    (∃ (c : Nat) (v : Word32) (s : State), (s.hostSets 0) ∧ (c < 16) ∧ (((s.ring.get c).devIdx - v).toNat < 2 ^ 31)) ∧
    (∃ (c : Nat) (s : State), (s.running) ∧ (s.couriers c = true) ∧ (c < 16) ∧ ((s.cdt.get c).fill ≠ 0) ∧ (((s.ring.get c).devIdx - (s.ring.get c).hostIdx).toNat < (s.ring.get c).size)) ∧
    (∃ (c : Nat) (w : Word512) (s : State), (s.running) ∧ (s.couriers c = true) ∧ (s.md.mode = .service) ∧ (16 ≤ c) ∧ (c < 32) ∧ (((s.ring.get c).hostIdx - (s.ring.get c).devIdx).toNat = 1) ∧ ((s.cdt.get c).skipToStart = false) ∧ ((s.cdt.get c).inPkt = 0) ∧ (injectWords w ≤ (s.cdt.get c).credit) ∧ ((s.cdt.get c).fill < 1024) ∧ (wordEnd w = false)) ∧
    (∃ (c : Nat) (t : Nat) (s : State), (s.running) ∧ ((s.ring.get c).firstAt = some t) ∧ ((s.ring.get c).irqUs ≠ 0) ∧ (s.pins.perstN = true)) ∧
    (∃ (s : State), (s.quiet)) ∧
    (∃ (s : State), (s.quiet)) :=
  ⟨⟨0, 0x80080000, tSvc, by decide +kernel⟩,
   ⟨0, 0x80080000, { tSvc with ring := ⟨[(0, { enable := true })]⟩ }, by decide +kernel⟩,
   ⟨0, 0, tSvc, by decide +kernel⟩,
   ⟨0, { tSvc with ring := ⟨[(0, { enable := true, courier := true, sizeLog2 := 6 })]⟩, cdt := ⟨[(0, { wr := 1, words := ⟨[(0, 7)]⟩ })]⟩ }, by decide +kernel⟩,
   ⟨16, 0x80, { tSvc with ring := ⟨[(16, { enable := true, courier := true, sizeLog2 := 6, hostIdx := 1 })]⟩ }, by decide +kernel⟩,
   ⟨0, 0, { tSvc with ring := ⟨[(0, { irqUs := 5, firstAt := some 0 })]⟩ }, by decide +kernel⟩,
   ⟨tSvc, by decide +kernel⟩,
   ⟨tSvc, by decide +kernel⟩⟩

theorem wit_ConduitPointers :
    (∃ (c : Conduit), (c.wr < 2048) ∧ (c.rd < 2048)) ∧
    (∃ (c : Conduit), (c.wr < 2048) ∧ (c.rd < 2048)) ∧
    (∃ (c : Conduit), (c.wr < 2048) ∧ (c.rd < 2048)) :=
  ⟨⟨{ wr := 3, rd := 2047 }, by decide +kernel⟩,
   ⟨{ wr := 3, rd := 3 }, by decide +kernel⟩,
   ⟨{ wr := 1027, rd := 3 }, by decide +kernel⟩⟩

theorem wit_SidebandReads :
    (∃ (seq : Byte) (s : State), (s.isl.aonDown = false) ∧ (s.isl.busy = none) ∧ (s.quiet) ∧ (s.coreHeld = false)) ∧
    (∃ (code : Byte) (seq : Byte) (n : Nat) (s : State), (s.isl.aonDown = false) ∧ (s.isl.busy = none) ∧ (s.quiet) ∧ (code = 0 ∨ 13 < code.toNat)) ∧
    (∃ (seq : Byte) (s : State), (s.isl.aonDown = false) ∧ (s.isl.busy = none) ∧ (s.quiet)) ∧
    (∃ (seq : Byte) (a : Nat) (s : State), (s.isl.aonDown = false) ∧ (s.isl.busy = none) ∧ (s.quiet) ∧ (s.coreHeld = false) ∧ (a % 4 = 0) ∧ (a + 4 ≤ 0x4000000) ∧ (windowAt a = none) ∧ (isCounter (counterOf a) = false) ∧ (arrIdx a (Reg.MGT_CDT_PTR 0) 0x40 41 = none)) ∧
    (∃ (seq : Byte) (slot : Nat) (s : State), (s.isl.aonDown = false) ∧ (s.isl.busy = none) ∧ (s.quiet) ∧ (slot ≤ 1023)) ∧
    (∃ (s : State), (s.isl.aonDown = false) ∧ (s.isl.busy = none) ∧ (s.quiet)) ∧
    (∃ (q : Byte) (s : State), (s.isl.aonDown = false) ∧ (s.isl.busy = some q) ∧ (s.quiet)) ∧
    (∃ (seq : Byte) (s : State), (s.isl.aonDown = false) ∧ (s.isl.busy = none) ∧ (s.quiet)) ∧
    (∃ (s : State), (s.isl.aonDown = false) ∧ (s.isl.alert = true) ∧ (s.quiet)) ∧
    (∃ (s : State), (s.quiet)) :=
  ⟨⟨7, tSvc, by decide +kernel⟩,
   ⟨0, 7, 1, tSvc, by decide +kernel⟩,
   ⟨7, tSvc, by decide +kernel⟩,
   ⟨7, Reg.MGT_SCRATCH, tSvc, by decide +kernel⟩,
   ⟨7, 0, tSvc, by decide +kernel⟩,
   ⟨tSvc, by decide +kernel⟩,
   ⟨7, { tSvc with isl := { busy := some 7 } }, by decide +kernel⟩,
   ⟨7, tSvc, by decide +kernel⟩,
   ⟨{ tSvc with isl := { alert := true } }, by decide +kernel⟩,
   ⟨tSvc, by decide +kernel⟩⟩

theorem wit_SidebandWrites :
    (∃ (seq : Byte) (a : Nat) (v : Word32) (s : State), (s.isl.aonDown = false) ∧ (s.isl.busy = none) ∧ (s.coreHeld = true) ∧ (a % 4 = 0) ∧ (a ≠ Reg.SEC_ALARM_LATCH)) ∧
    (∃ (seq : Byte) (v : Word32) (s : State), (s.isl.aonDown = false) ∧ (s.isl.busy = none) ∧ (s.quiet)) ∧
    (∃ (seq : Byte) (v : Word32) (s : State), (s.live = true) ∧ (s.isl.busy = none) ∧ (s.md.mode = .maintenance) ∧ (s.md.loadFailed = false)) ∧
    (∃ (seq : Byte) (idx : Nat) (x : TableSide) (s : State), (s.coreHeld = false) ∧ (s.isl.busy = none) ∧ (s.md.mode = .service) ∧ (idx < 2097152) ∧ ((∀ k < 8, (s.ecp.get k).waitNo = 0))) ∧
    (∃ (seq : Byte) (q : Byte) (s : State), (s.isl.aonDown = false) ∧ (s.isl.busy = some q) ∧ (s.quiet) ∧ ((s.ecp.get 8).busy = true)) ∧
    (∃ (seq : Byte) (s : State), (s.coreHeld = false) ∧ (s.isl.busy = none) ∧ (s.md.mode = .service)) ∧
    (∃ (seq : Byte) (target : Nat) (s : State), (s.coreHeld = false) ∧ (s.isl.busy = none) ∧ (s.md.mode = .headless) ∧ (s.holdsPackets = true) ∧ (target ≤ 2)) ∧
    (∃ (seq : Byte) (s : State), (s.live = true) ∧ (s.isl.busy = none) ∧ (s.md.mode = .headless) ∧ (s.holdsPackets = false)) ∧
    (∃ (seq : Byte) (s : State), (s.coreHeld = false) ∧ (s.isl.busy = none) ∧ (s.md.mode = .headless) ∧ (s.holdsPackets = true)) ∧
    (∃ (seq : Byte) (s : State), (s.coreHeld = false) ∧ (s.isl.busy = none) ∧ (s.md.mode = .maintenance) ∧ (s.otp.rootHash ≠ 0) ∧ (s.isl.scorchPending = false)) ∧
    (∃ (seq : Byte) (mask : Word32) (value : Word32) (s : State), (s.coreHeld = false) ∧ (s.isl.busy = none) ∧ (s.md.mode = .headless)) :=
  ⟨⟨7, 0, 1, { pins := { resetN := false } }, by decide +kernel⟩,
   ⟨7, 1, tSvc, by decide +kernel⟩,
   ⟨7, 5, tMode .maintenance, by decide +kernel⟩,
   ⟨7, 3, {}, tSvc, by decide +kernel⟩,
   ⟨7, 7, { tSvc with isl := { busy := some 7 }, ecp := ⟨[(8, { busy := true })]⟩ }, by decide +kernel⟩,
   ⟨7, tSvc, by decide +kernel⟩,
   ⟨7, 1, { tMode .headless with swc := { recirc := ⟨[(0, [{}])]⟩ } }, by decide +kernel⟩,
   ⟨7, tMode .headless, by decide +kernel⟩,
   ⟨7, { tMode .headless with swc := { recirc := ⟨[(0, [{}])]⟩ } }, by decide +kernel⟩,
   ⟨7, { tMode .maintenance with otp := { rootHash := 1 } }, by decide +kernel⟩,
   ⟨7, 1, 1, tMode .headless, by decide +kernel⟩⟩

theorem wit_RuleSetSwaps :
    (∃ (s : State), (s.hostSets 5) ∧ (s.cls.draining = false) ∧ (s.cls.copyBusy = false) ∧ (s.cls.armed = none) ∧ ((s.reg Reg.CLS_SWAP_EPOCH + 2 ^ 32 - s.epoch) % 2 ^ 32 ≠ 0) ∧ ((s.reg Reg.CLS_SWAP_EPOCH + 2 ^ 32 - s.epoch) % 2 ^ 32 < 2 ^ 31) ∧ (s.setOk s.shadowSlot = true)) ∧
    (∃ (s : State), (s.hostSets 5) ∧ (s.cls.draining = false) ∧ (s.cls.copyBusy = false) ∧ (s.cls.armed.isSome = true)) ∧
    (∃ (e : Nat) (s : State), (s.hostSets 5) ∧ (s.cls.armed = some e)) ∧
    (∃ (s : State), (s.hostSets 5) ∧ (s.shadowBusy = false)) ∧
    (∃ (s : State), (s.hostSets 5) ∧ (s.shadowBusy = true)) ∧
    (∃ (s : State), (s.running) ∧ (s.cls.copyBusy = true)) ∧
    (∃ (s : State), (s.running) ∧ (s.cls.draining = true) ∧ (s.swapMode = true)) :=
  ⟨⟨{ tSvc with cls := { img := tRuleSet }, regs := ⟨[(Reg.CLS_SWAP_EPOCH, 5)]⟩ }, by decide +kernel⟩,
   ⟨{ tSvc with cls := { armed := some 3 } }, by decide +kernel⟩,
   ⟨3, { tSvc with cls := { armed := some 3 } }, by decide +kernel⟩,
   ⟨tSvc, by decide +kernel⟩,
   ⟨{ tSvc with cls := { copyBusy := true, img := tRuleSet } }, by decide +kernel⟩,
   ⟨{ tSvc with cls := { copyBusy := true } }, by decide +kernel⟩,
   ⟨{ tSvc with cls := { draining := true } }, by decide +kernel⟩⟩

theorem wit_AsaMaintenance :
    (∃ (s : State), (s.running)) ∧
    (∃ (s : State), (s.running) ∧ (s.asa.scrub < 65536) ∧ (bit s.asaUsable (s.asa.scrub / 2048) = true) ∧ ((s.flt.get (fltKey 6 (s.asa.scrub / 2048))).retired = false) ∧ ((s.flt.get (fltKey 6 (s.asa.scrub / 2048))).count < 65535) ∧ (s.thresh 6 ≠ (s.flt.get (fltKey 6 (s.asa.scrub / 2048))).count + 1)) ∧
    (∃ (v : Word32) (s : State), (s.hostSets 6) ∧ (bit v.toNat 8 = true) ∧ (s.asa.testBusy = false) ∧ (s.md.mode = .maintenance)) ∧
    (∃ (v : Word32) (s : State), (s.hostSets 6) ∧ (bit v.toNat 8 = false)) ∧
    (∃ (v : Word32) (s : State), (s.hostSets 6) ∧ (bit v.toNat 8 = true) ∧ (s.md.mode ≠ .maintenance) ∧ (bit s.asa.retired (v.toNat % 32) = false)) ∧
    (∃ (pass : Bool) (s : State), (s.running) ∧ (s.asa.testBusy = true)) :=
  ⟨⟨tSvc, by decide +kernel⟩,
   ⟨{ tSvc with regs := ⟨[(Reg.ASA_BANK_PWR, 1)]⟩ }, by decide +kernel⟩,
   ⟨0x105, tMode .maintenance, by decide +kernel⟩,
   ⟨5, tSvc, by decide +kernel⟩,
   ⟨0x105, tSvc, by decide +kernel⟩,
   ⟨true, { tSvc with asa := { testBusy := true, testBank := 5 } }, by decide +kernel⟩⟩

theorem wit_CascadedSearches :
    (∃ (slot : Nat) (q : CasReq) (rest : List CasReq) (lost : List Nat) (s : State), (s.running) ∧ (s.asa.run.state = .running) ∧ (s.asa.run.retired = false) ∧ (s.runnerCount ≠ 0) ∧ (slot % s.runnerCount = s.runnerPos % s.runnerCount) ∧ (s.slotTaken slot = false) ∧ (s.asa.run.waiting = q :: rest)) ∧
    (∃ (slot : Nat) (lost : List Nat) (s : State), (s.running) ∧ (s.asa.run.state = .running) ∧ (s.asa.run.retired = false) ∧ (s.runnerCount ≠ 0) ∧ (slot % s.runnerCount = s.runnerPos % s.runnerCount) ∧ (s.slotTaken slot = true)) ∧
    (∃ (issuer : Nat) (slot : Nat) (key : Nat) (s : State), (s.running) ∧ (s.asa.run.state = .running) ∧ (issuer ≠ s.runnerPos) ∧ ((s.runnerPos + 1) % max 1 s.runnerCount ≠ issuer)) ∧
    (∃ (issuer : Nat) (slot : Nat) (key : Nat) (pos : Nat) (entry : Nat) (prio : Nat) (s : State), (s.running) ∧ (s.asa.run.state = .running) ∧ (issuer ≠ s.runnerPos) ∧ ((s.runnerPos + 1) % max 1 s.runnerCount ≠ issuer)) ∧
    (∃ (issuer : Nat) (slot : Nat) (key : Nat) (wide : Bool) (bad : Bool) (lost : List Nat) (s : State), (s.running) ∧ (s.asa.run.state = .running) ∧ ((bad = true ∨ wide ≠ s.ringWide)) ∧ ((s.flt.get (fltKey 1 0)).retired = false) ∧ ((s.flt.get (fltKey 1 0)).count < 65535) ∧ (s.thresh 1 ≠ (s.flt.get (fltKey 1 0)).count + 1)) ∧
    (∃ (issuer : Nat) (slot : Nat) (key : Nat) (wide : Bool) (bad : Bool) (lost : List Nat) (s : State), (s.running) ∧ (s.asa.run.state = .bypass) ∧ ((s.runnerPos + 1) % max 1 s.runnerCount ≠ issuer)) ∧
    (∃ (slot : Nat) (mini : Bool) (s : State), (s.running) ∧ (s.asa.run.state = .running)) ∧
    (∃ (slot : Nat) (m : CasMatch) (s : State), (s.running) ∧ (s.asa.run.state = .running) ∧ (s.asa.run.retired = false) ∧ (s.casMatch? slot = some m) ∧ (m.driven = false) ∧ (m.hit = true)) ∧
    (∃ (f : ResultFrame) (s : State), (s.running) ∧ (s.asa.run.state = .running) ∧ (f.issuer ≠ s.runnerPos) ∧ (f.hit = true) ∧ (f.fin = false) ∧ (f.position < s.runnerPos)) ∧
    (∃ (f : ResultFrame) (q : CasReq) (t : Nat) (s : State), (s.running) ∧ (s.asa.run.state = .running) ∧ (f.issuer = s.runnerPos) ∧ (f.hit = false) ∧ (f.fin = true) ∧ (s.asa.run.flight.find? (fun q => q.slot == some (f.slot % 2048)) = some q) ∧ (q.owner = .port t) ∧ ((s.ecp.get t).sent = true)) ∧
    (∃ (slot : Nat) (q : CasReq) (s : State), (s.running) ∧ (s.asa.run.flight.find? (fun q => q.slot == some (slot % 2048)) = some q)) :=
  ⟨⟨0, {}, [], [], { tSvc with topo := BitVec.ofNat 2048 (4 * 2 ^ 32 + 0 * 2 ^ 24), asa := { run := { state := .running, waiting := [{}] } } }, by decide +kernel⟩,
   ⟨4, [], { tSvc with topo := BitVec.ofNat 2048 (4 * 2 ^ 32 + 0 * 2 ^ 24), asa := { run := { state := .running, wideAt := some (0, 0) } } }, by decide +kernel⟩,
   ⟨2, 5, 9, { tSvc with topo := BitVec.ofNat 2048 (4 * 2 ^ 32 + 0 * 2 ^ 24), asa := { run := { state := .running } } }, by decide +kernel⟩,
   ⟨2, 5, 9, 1, 0, 0, { tSvc with topo := BitVec.ofNat 2048 (4 * 2 ^ 32 + 0 * 2 ^ 24), asa := { run := { state := .running } } }, by decide +kernel⟩,
   ⟨2, 5, 9, false, true, [], { tSvc with topo := BitVec.ofNat 2048 (4 * 2 ^ 32 + 0 * 2 ^ 24), asa := { run := { state := .running } } }, by decide +kernel⟩,
   ⟨2, 5, 9, false, true, [], { tSvc with topo := BitVec.ofNat 2048 (4 * 2 ^ 32 + 0 * 2 ^ 24), asa := { run := { state := .bypass } } }, by decide +kernel⟩,
   ⟨5, false, { tSvc with topo := BitVec.ofNat 2048 (4 * 2 ^ 32 + 0 * 2 ^ 24), asa := { run := { state := .running } } }, by decide +kernel⟩,
   ⟨5, { slot := 5, issuer := 2, hit := true }, { tSvc with topo := BitVec.ofNat 2048 (4 * 2 ^ 32 + 0 * 2 ^ 24), asa := { run := { state := .running, matched := [{ slot := 5, issuer := 2, hit := true }] } } }, by decide +kernel⟩,
   ⟨{ slot := 5, hit := true, issuer := 2, position := 0 }, { tSvc with topo := BitVec.ofNat 2048 (4 * 2 ^ 32 + 1 * 2 ^ 24), asa := { run := { state := .running } } }, by decide +kernel⟩,
   ⟨{ slot := 5, fin := true }, { owner := .port 3, slot := some 5 }, 3, { tSvc with asa := { run := { state := .running, flight := [{ owner := .port 3, slot := some 5 }] } }, ecp := ⟨[(3, { sent := true, busy := true })]⟩ }, by decide +kernel⟩,
   ⟨5, { owner := .port 3, slot := some 5 }, { tSvc with asa := { run := { state := .running, flight := [{ owner := .port 3, slot := some 5 }] } } }, by decide +kernel⟩⟩

theorem wit_RunnerMembership :
    (∃ (pos : Nat) (s : State), (s.running) ∧ (s.asa.run.state = .running) ∧ (bit s.asa.run.members pos = true)) ∧
    (∃ (gen : Nat) (mask : Nat) (e : Nat) (s : State), (s.running) ∧ (s.asa.run.state = .running)) ∧
    (∃ (f : ControlFrame) (s : State), (s.running) ∧ (s.asa.run.state = .running) ∧ ((s.flt.get (fltKey 1 0)).retired = false) ∧ ((s.flt.get (fltKey 1 0)).count < 65535) ∧ (s.thresh 1 ≠ (s.flt.get (fltKey 1 0)).count + 1)) ∧
    (∃ (pos : Nat) (ready : Bool) (retired : Bool) (s : State), (s.running) ∧ (s.asa.run.state = .bypass) ∧ ((s.runnerPos + 1) % max 1 s.runnerCount ≠ pos)) ∧
    (∃ (gen : Nat) (mask : Nat) (pos : Nat) (s : State), (s.running) ∧ (s.asa.run.state = .running) ∧ (pos < 8) ∧ (pos ≠ s.runnerPos) ∧ (bit s.asa.run.members pos = false) ∧ (s.asa.run.members < 256) ∧ (mask = s.asa.run.members + 2 ^ pos) ∧ (bit mask s.runnerPos = true)) ∧
    (∃ (pos : Nat) (s : State), (s.running) ∧ (s.asa.run.state = .running) ∧ (pos < 8) ∧ (bit s.asa.run.members pos = true) ∧ (pos ≠ s.runnerPos) ∧ (s.isMaster pos = true)) ∧
    (∃ (s : State), (s.running) ∧ (s.asa.run.state = .running)) ∧
    (∃ (s : State), (s.running) ∧ ((s.asa.run.state = .running ∨ s.asa.run.state = .bypass)) ∧ (s.asa.run.flight = []) ∧ (s.asa.run.waiting = [])) ∧
    (∃ (s : State), (s.running) ∧ ((s.asa.run.state = .down ∨ s.asa.run.state = .training)) ∧ (s.ringAllowed = true)) ∧
    (∃ (lap : Nat) (members : Nat) (s : State), (s.running) ∧ (s.asa.run.state = .training) ∧ (s.ringAllowed = true) ∧ (s.regF Reg.ASA_RUNNER_CFG 15 8 < lap)) ∧
    (∃ (lap : Nat) (members : Nat) (s : State), (s.running) ∧ (s.asa.run.state = .training) ∧ (s.ringAllowed = true) ∧ (s.asa.run.retired = false) ∧ (lap ≤ s.regF Reg.ASA_RUNNER_CFG 15 8) ∧ (bit (members % 2 ^ s.runnerCount) s.runnerPos = true)) :=
  ⟨⟨1, { tSvc with topo := BitVec.ofNat 2048 (4 * 2 ^ 32 + 0 * 2 ^ 24), asa := { run := { state := .running, members := 3 } } }, by decide +kernel⟩,
   ⟨1, 3, 7, { tSvc with topo := BitVec.ofNat 2048 (4 * 2 ^ 32 + 0 * 2 ^ 24), asa := { run := { state := .running } } }, by decide +kernel⟩,
   ⟨.keepalive 1 false false, { tSvc with topo := BitVec.ofNat 2048 (4 * 2 ^ 32 + 0 * 2 ^ 24), asa := { run := { state := .running } } }, by decide +kernel⟩,
   ⟨2, false, false, { tSvc with topo := BitVec.ofNat 2048 (4 * 2 ^ 32 + 0 * 2 ^ 24), asa := { run := { state := .bypass } } }, by decide +kernel⟩,
   ⟨5, 3, 1, { tSvc with topo := BitVec.ofNat 2048 (4 * 2 ^ 32 + 0 * 2 ^ 24), asa := { run := { state := .running, members := 1 } } }, by decide +kernel⟩,
   ⟨1, { tSvc with topo := BitVec.ofNat 2048 (4 * 2 ^ 32 + 0 * 2 ^ 24), asa := { run := { state := .running, members := 3 } } }, by decide +kernel⟩,
   ⟨{ tSvc with topo := BitVec.ofNat 2048 (4 * 2 ^ 32 + 0 * 2 ^ 24), asa := { run := { state := .running } } }, by decide +kernel⟩,
   ⟨{ tSvc with topo := BitVec.ofNat 2048 (4 * 2 ^ 32 + 0 * 2 ^ 24), asa := { run := { state := .running } } }, by decide +kernel⟩,
   ⟨{ tSvc with topo := BitVec.ofNat 2048 (4 * 2 ^ 32 + 0 * 2 ^ 24), asa := { run := { state := .down } } }, by decide +kernel⟩,
   ⟨1, 1, { tSvc with topo := BitVec.ofNat 2048 (4 * 2 ^ 32 + 0 * 2 ^ 24), asa := { run := { state := .training } } }, by decide +kernel⟩,
   ⟨0, 1, { tSvc with topo := BitVec.ofNat 2048 (4 * 2 ^ 32 + 0 * 2 ^ 24), asa := { run := { state := .training } } }, by decide +kernel⟩⟩

theorem wit_LineFrames :
    (∃ (p : Nat) (bytes : List Byte) (r : RxSide) (s : State), (s.live = true) ∧ (s.md.mode = .service) ∧ (s.portExists p = true) ∧ ((s.port.get p).raw = true) ∧ (s.adminUp p = true) ∧ (64 ≤ bytes.length) ∧ (bytes.length ≤ s.regF (Reg.LPC_PORT_CFG p) 13 0) ∧ (beAt bytes 12 2 ≠ 0x8808) ∧ (s.expressEntry p (bytes.take (bytes.length - 4)) = none) ∧ (s.refusesFrames (p / 8) = false) ∧ (r.fcsOk = true) ∧ (r.uncorr = 0)) ∧
    (∃ (p : Nat) (bytes : List Byte) (r : RxSide) (s : State), (s.live = true) ∧ (s.md.mode = .service) ∧ (s.portExists p = true) ∧ ((s.port.get p).raw = true) ∧ (s.adminUp p = true) ∧ (64 ≤ bytes.length) ∧ (bytes.length ≤ s.regF (Reg.LPC_PORT_CFG p) 13 0) ∧ (beAt bytes 12 2 ≠ 0x8808) ∧ (s.expressEntry p (bytes.take (bytes.length - 4)) = none) ∧ ((r.fcsOk = false ∨ r.uncorr ≠ 0)) ∧ ((r.left = false ∨ s.reg (Reg.SWC_CT_EN (p / 8)) = 0))) ∧
    (∃ (p : Nat) (bytes : List Byte) (r : RxSide) (s : State), (s.live = true) ∧ (s.md.mode = .service) ∧ (s.portExists p = true) ∧ ((s.port.get p).raw = true) ∧ (s.adminUp p = true) ∧ (bytes.length < 64)) ∧
    (∃ (p : Nat) (bytes : List Byte) (r : RxSide) (s : State), (s.live = true) ∧ (s.md.mode = .service) ∧ (s.portExists p = true) ∧ ((s.port.get p).raw = true) ∧ (s.adminUp p = false)) ∧
    (∃ (p : Nat) (k : Pkt) (rest : List Pkt) (s : State), (s.live = true) ∧ (s.md.mode = .service) ∧ (s.portExists p = true) ∧ ((s.port.get p).up = true) ∧ (s.tms.fifo.get p = k :: rest) ∧ (k.bad = false) ∧ (k.tail = none) ∧ (60 ≤ k.bytes.length)) ∧
    (∃ (p : Nat) (f : ExpFrame) (rest : List ExpFrame) (s : State), (s.live = true) ∧ (s.md.mode = .service) ∧ (s.portExists p = true) ∧ ((s.port.get p).up = true) ∧ (s.tms.fifo.get p = []) ∧ (s.pod.exq.get p = f :: rest) ∧ (f.bad = false) ∧ (f.tail = none) ∧ (60 ≤ f.bytes.length)) :=
  ⟨⟨0, List.replicate 64 0, { corr := 3 }, { tSvc with port := ⟨[(0, { raw := true })]⟩, regs := ⟨[(Reg.LPC_PORT_ADMIN, 1), (Reg.LPC_PORT_CFG 0, 1518)]⟩ }, by decide +kernel⟩,
   ⟨0, List.replicate 64 0, { fcsOk := false }, { tSvc with port := ⟨[(0, { raw := true })]⟩, regs := ⟨[(Reg.LPC_PORT_ADMIN, 1), (Reg.LPC_PORT_CFG 0, 1518)]⟩ }, by decide +kernel⟩,
   ⟨0, [], {}, { tSvc with port := ⟨[(0, { raw := true })]⟩, regs := ⟨[(Reg.LPC_PORT_ADMIN, 1)]⟩ }, by decide +kernel⟩,
   ⟨0, [], {}, { tSvc with port := ⟨[(0, { raw := true })]⟩ }, by decide +kernel⟩,
   ⟨0, { bytes := List.replicate 60 1 }, [], { tSvc with port := ⟨[(0, { raw := true, up := true })]⟩, tms := { fifo := ⟨[(0, [{ bytes := List.replicate 60 1 }])]⟩ } }, by decide +kernel⟩,
   ⟨0, { bytes := List.replicate 60 1 }, [], { tSvc with port := ⟨[(0, { raw := true, up := true })]⟩, pod := { exq := ⟨[(0, [{ bytes := List.replicate 60 1 }])]⟩ } }, by decide +kernel⟩⟩

theorem wit_PortStates :
    (∃ (p : Nat) (up : Bool) (s : State), (s.running) ∧ (s.md.mode ≠ .load) ∧ (s.portExists p = true) ∧ ((s.port.get p).raw ≠ up) ∧ (s.portOff p = false)) ∧
    (∃ (p : Nat) (s : State), (s.live = true) ∧ (s.md.mode = .service) ∧ (s.portExists p = true) ∧ ((s.port.get p).up = false) ∧ ((s.port.get p).raw = true) ∧ (s.adminUp p = true) ∧ ((s.port.get p).holding = false)) ∧
    (∃ (p : Nat) (s : State), (s.live = true) ∧ (s.md.mode = .service) ∧ (s.portExists p = true) ∧ ((s.port.get p).up = true) ∧ ((s.port.get p).raw = false) ∧ (s.regF (Reg.LPC_PORT_CFG p) 30 30 = 1)) ∧
    (∃ (p : Nat) (s : State), (s.live = true) ∧ (s.md.mode = .service) ∧ (s.portExists p = true) ∧ ((s.port.get p).up = true) ∧ ((s.port.get p).raw = false) ∧ (s.regF (Reg.LPC_PORT_CFG p) 30 30 = 0) ∧ ((s.isl.wrapped = true ∨ s.isl.held < 1023)) ∧ (s.portQueues p = []) ∧ (s.buf.staged = []) ∧ (s.buf.pools = {})) ∧
    (∃ (p : Nat) (q : Nat) (s : State), (s.live = true) ∧ (s.md.mode = .service) ∧ (s.portExists p = true) ∧ ((s.port.get p).up = true) ∧ ((s.port.get p).raw = false) ∧ (s.regF (Reg.LPC_PORT_CFG p) 30 30 = 0) ∧ (q ∈ s.portQueues p) ∧ ((∀ it ∈ (s.buf.leaf.get q).items, it.tier = .chip))) ∧
    (∃ (p : Nat) (s : State), (s.live = true) ∧ (s.md.mode = .service) ∧ (s.portExists p = true) ∧ ((s.port.get p).up = false) ∧ ((s.port.get p).raw = true) ∧ (s.adminUp p = true) ∧ ((s.port.get p).holding = true) ∧ (max s.tbe.st ((s.port.get p).rawSince + s.regF Reg.LPC_DEBOUNCE 31 16 * 1000000) < s.holdEnd p)) ∧
    (∃ (p : Nat) (s : State), (s.live = true) ∧ (s.md.mode = .service) ∧ ((s.port.get p).holding = true)) ∧
    (∃ (v : Word32) (s : State), (s.hostWrites 3) ∧ (s.md.mode ≠ .drain)) :=
  ⟨⟨0, true, tSvc, by decide +kernel⟩,
   ⟨0, { tSvc with port := ⟨[(0, { raw := true })]⟩, regs := ⟨[(Reg.LPC_PORT_ADMIN, 1)]⟩ }, by decide +kernel⟩,
   ⟨0, { tSvc with port := ⟨[(0, { up := true })]⟩, regs := ⟨[(Reg.LPC_PORT_CFG 0, 0x40000000)]⟩ }, by decide +kernel⟩,
   ⟨0, { tSvc with port := ⟨[(0, { up := true })]⟩ }, by decide +kernel⟩,
   ⟨0, 8, { tSvc with port := ⟨[(0, { up := true })]⟩, buf := { leaf := ⟨[(8, { items := [{}] })]⟩ }, tbl := tLeafTree }, by decide +kernel⟩,
   ⟨0, { tSvc with port := ⟨[(0, { raw := true, holding := true })]⟩, regs := ⟨[(Reg.LPC_PORT_ADMIN, 1), (Reg.LPC_PORT_CFG 0, 0x3F000000)]⟩ }, by decide +kernel⟩,
   ⟨0, { tSvc with port := ⟨[(0, { holding := true })]⟩ }, by decide +kernel⟩,
   ⟨1, tSvc, by decide +kernel⟩⟩

theorem wit_IngressPasses :
    (∃ (i : Nat) (bad : List Nat) (p : Pkt) (rest : List Pkt) (s : State), (s.steady) ∧ (s.moves = true) ∧ (i < 4) ∧ ((s.fwdq.get i).length < 1024) ∧ (s.refusesFrames i = false) ∧ (s.swc.line.get i = p :: rest)) ∧
    (∃ (i : Nat) (bad : List Nat) (p : Pkt) (rest : List Pkt) (s : State), (s.steady) ∧ (s.moves = true) ∧ (i < 4) ∧ ((s.fwdq.get i).length < 1024) ∧ (s.refusesFrames i = true ∨ s.swc.line.get i = []) ∧ (s.swc.reentry.get i = p :: rest)) ∧
    (∃ (i : Nat) (bad : List Nat) (p : Pkt) (q : Pkt) (rest : List Pkt) (s : State) (u : State), (s.steady) ∧ (s.moves = true) ∧ (i < 4) ∧ ((s.fwdq.get i).length < 1024) ∧ (s.refusesFrames i = false) ∧ (s.swc.line.get i = p :: rest) ∧ (classify i { p with parse := parseFrame s.graph p.node p.bytes, inp := i } bad (countParse i (parseFrame s.graph p.node p.bytes) { s.fresh with swc := { s.swc with line := s.swc.line.set i rest } }) = (.recirc q, u)) ∧ (q.bad = false)) ∧
    (∃ (i : Nat) (bad : List Nat) (p : Pkt) (rest : List Pkt) (s : State) (a : ActEntry), (s.steady) ∧ (s.moves = true) ∧ (i < 4) ∧ ((s.fwdq.get i).length < 1024) ∧ (s.refusesFrames i = false) ∧ (s.swc.line.get i = p :: rest) ∧ (p.pass = 0) ∧ ((parseFrame s.graph p.node p.bytes).outcome = 2) ∧ (p.bad = false) ∧ (a = setAct (s.slotImg s.cls.active) (setU (s.slotImg s.cls.active) 26 2)) ∧ (a.drop = false) ∧ (a.metered = false) ∧ (a.punt = true)) ∧
    (∃ (i : Nat) (bad : List Nat) (p : Pkt) (rest : List Pkt) (s : State), (s.steady) ∧ (s.moves = true) ∧ (i < 4) ∧ ((s.fwdq.get i).length < 1024) ∧ (s.refusesFrames i = true ∨ s.swc.line.get i = []) ∧ (s.swc.reentry.get i = p :: rest) ∧ (p.pass ≠ 0) ∧ (selectSlot s p.epoch = none) ∧ ((parseFrame s.graph p.node p.bytes).outcome = 0)) ∧
    (∃ (i : Nat) (bad : List Nat) (p : Pkt) (q : Pkt) (d : Pkt) (rest : List Pkt) (s : State) (u : State) (v : State), (s.running) ∧ (s.moves = true) ∧ (i < 4) ∧ ((s.fwdq.get i).length < 1024) ∧ (s.refusesFrames i = false) ∧ (s.swc.line.get i = p :: rest) ∧ (classify i { p with parse := parseFrame s.graph p.node p.bytes, inp := i } bad (countParse i (parseFrame s.graph p.node p.bytes) { s.fresh with swc := { s.swc with line := s.swc.line.set i rest } }) = (.forward q, u)) ∧ (fwdStart i q u = (.dest d, v)) ∧ (d.noFlow = false)) ∧
    (∃ (i : Nat) (k : Nat) (step : Nat) (ctx : Nat) (p : Pkt) (s : State), (s.running) ∧ (s.moves = true) ∧ ((s.fwdq.get i)[k]? = some (p, step, ctx))) ∧
    (∃ (i : Nat) (k : Nat) (step : Nat) (ctx : Nat) (prof : Nat) (p : Pkt) (s : State), (s.running) ∧ (s.moves = true) ∧ ((s.fwdq.get i)[k]? = some (p, step, ctx)) ∧ (prof = bits (s.reg (Reg.FWD_PORT_CFG p.inPort)) 19 16) ∧ (s.stepBad (s.reg (Reg.FWD_STEP_LO prof step)) (s.reg (Reg.FWD_STEP_HI prof step)) ctx p = true)) ∧
    (∃ (i : Nat) (k : Nat) (step : Nat) (ctx : Nat) (prof : Nat) (p : Pkt) (s : State), (s.steady) ∧ (s.moves = true) ∧ ((s.fwdq.get i)[k]? = some (p, step, ctx)) ∧ (prof = bits (s.reg (Reg.FWD_PORT_CFG p.inPort)) 19 16) ∧ (s.stepBad (s.reg (Reg.FWD_STEP_LO prof step)) (s.reg (Reg.FWD_STEP_HI prof step)) ctx p = false)) ∧
    (∃ (i : Nat) (k : Nat) (step : Nat) (ctx : Nat) (prof : Nat) (p : Pkt) (d : Pkt) (s : State) (v : State), (s.running) ∧ (s.moves = true) ∧ ((s.fwdq.get i)[k]? = some (p, step, ctx)) ∧ (prof = bits (s.reg (Reg.FWD_PORT_CFG p.inPort)) 19 16) ∧ (s.stepBad (s.reg (Reg.FWD_STEP_LO prof step)) (s.reg (Reg.FWD_STEP_HI prof step)) ctx p = false) ∧ (fwdGo i prof (4 - step) step ctx true p { s.fresh with fwdq := s.fwdq.upd i (fun l => l.eraseIdx k) } = (.dest d, v)) ∧ (d.noFlow = false)) :=
  ⟨⟨0, [], { bytes := [3] }, [], { tSvc with graph := tGraph, swc := { line := ⟨[(0, [{ bytes := [3] }])]⟩ } }, by decide +kernel⟩,
   ⟨0, [], { bytes := [3], pass := 1 }, [], { tSvc with graph := tGraph, swc := { reentry := ⟨[(0, [{ bytes := [3], pass := 1 }])]⟩ } }, by decide +kernel⟩,
   ⟨0, [], { bytes := [3] }, recOf tAgain.1, [], tRound, tAgain.2, both6 (by decide +kernel) ⟨recOf_eq _ (by decide), by decide +kernel⟩⟩,
   ⟨0, [], { bytes := [3] }, [], tPoor, setAct (tPoor.slotImg 0) (setU (tPoor.slotImg 0) 26 2), by decide +kernel⟩,
   ⟨0, [], { bytes := [3], pass := 1, epoch := 2 ^ 32 - 1 }, [], { tSvc with graph := tGraph, swc := { reentry := ⟨[(0, [{ bytes := [3], pass := 1, epoch := 2 ^ 32 - 1 }])]⟩ } }, by decide +kernel⟩,
   ⟨0, [], { bytes := [3] }, fwdOf (tCls.1), destOf (tGo.1), [], tWalk, tCls.2, tGo.2, both6 (by decide +kernel) ⟨fwdOf_eq _ (by decide), destOf_eq _ (by decide), by decide +kernel⟩⟩,
   ⟨0, 0, 0, 0, {}, { tSvc with fwdq := ⟨[(0, [({}, 0, 0)])]⟩ }, by decide +kernel⟩,
   ⟨0, 0, 0, 0, 0, tHeld, { tWalk with fwdq := ⟨[(0, [(tHeld, 0, 0)])]⟩, hmc := tHurt (HbmRegion.forwarding.base + 48) }, both4 (by decide +kernel) (tHeld_hurt _ ⟨rfl, rfl, rfl⟩)⟩,
   ⟨0, 0, 0, 0, 0, tHeld, { tWalk with fwdq := ⟨[(0, [(tHeld, 0, 0)])]⟩ }, both4 (by decide +kernel) (tHeld_sound _ rfl _ _ _ _)⟩,
   ⟨0, 0, 0, 0, 0, tHeld, destOf (tRead.1), { tWalk with fwdq := ⟨[(0, [(tHeld, 0, 0)])]⟩ }, tRead.2, both4 (by decide +kernel) ⟨tHeld_sound _ rfl _ _ _ _, destOf_eq _ (by decide), by decide +kernel⟩⟩⟩

theorem wit_ClusterExitsAndEgress :
    (∃ (th : Nat) (s : State), (s.running) ∧ (s.moves = true) ∧ ((s.th th).wait = .ended) ∧ (s.mayExit th = true) ∧ ((s.th th).verdict = 1) ∧ (((s.th th).egress = false ∨ (s.th th).pkt.tail = none))) ∧
    (∃ (th : Nat) (s : State), (s.steady) ∧ (s.moves = true) ∧ ((s.th th).wait = .ended) ∧ (s.mayExit th = true) ∧ ((s.th th).verdict = 1) ∧ ((s.th th).egress = true)) ∧
    (∃ (th : Nat) (s : State), (s.running) ∧ (s.moves = true) ∧ ((s.th th).wait = .ended) ∧ (s.mayExit th = true) ∧ ((s.th th).verdict = 3) ∧ ((s.th th).egress = true) ∧ ((s.th th).pkt.tail = none)) ∧
    (∃ (th : Nat) (i : Nat) (q : Pkt) (s : State), (i = thCluster th) ∧ (s.steady) ∧ (s.moves = true) ∧ ((s.th th).wait = .ended) ∧ (s.mayExit th = true) ∧ ((s.th th).verdict = 0) ∧ ((s.th th).egress = false) ∧ ((s.th th).clove = none) ∧ ((s.th th).pkt.nat64 = false) ∧ ((s.th th).pkt.tail = none) ∧ ((s.th th).pkt.bad = false) ∧ (q = s.hopped (s.th th).pkt) ∧ ((datU (s.nextHop q.nexthop) 0 1 = 1 ∨ datU (s.nextHop q.nexthop) 0 1 = 3)) ∧ (q.dev = s.devId) ∧ (s.devId < s.systemDevices) ∧ (s.wantsCut false (s.voqKey q) i (q.cls % 8) = false) ∧ (s.stageRoom i (pktCells q) = true)) ∧
    (∃ (th : Nat) (s : State), (s.steady) ∧ (s.moves = true) ∧ ((s.th th).wait = .ended) ∧ (s.mayExit th = true) ∧ ((s.th th).verdict = 2) ∧ ((s.th th).egress = false) ∧ ((s.th th).started = true) ∧ ((s.th th).pkt.tail = none) ∧ ((s.th th).pkt.bad = false)) ∧
    (∃ (th : Nat) (j : Nat) (sub : Nat) (port : Nat) (p : Pkt) (s : State), (j = thCluster th) ∧ (p = (s.th th).pkt) ∧ (s.steady) ∧ (s.moves = true) ∧ ((s.th th).wait = .ended) ∧ (s.mayExit th = true) ∧ ((s.th th).verdict = 0) ∧ ((s.th th).egress = true) ∧ ((s.th th).clove = none) ∧ (p.natOwner = false) ∧ (p.nat64 = false) ∧ (p.tail = none) ∧ (p.bad = false) ∧ ((s.port.get p.port).up = true) ∧ (s.resolveLeaf j p = (sub, port, 0)) ∧ (datB (s.tmQueue (8 * sub + p.queue % 8)) 2 0 1 = 1) ∧ (s.depthBytes (s.pqueue true (8 * sub + p.queue % 8)) + (p.bytes.length + 4) ≤ dropLimit (s.tblGet 0x45 (datB (s.tmQueue (8 * sub + p.queue % 8)) 0 4 4)) p.colour) ∧ ((s.pqueue true (8 * sub + p.queue % 8)).items.length < datU (s.tblGet 0x45 (datB (s.tmQueue (8 * sub + p.queue % 8)) 0 4 4)) 12 4) ∧ (s.wantsCut true (8 * sub + p.queue % 8) p.inp (p.cls % 8) = false) ∧ (s.stageRoom p.inp (pktCells p) = true)) ∧
    (∃ (th : Nat) (s : State), (s.running) ∧ (s.moves = true) ∧ ((s.th th).wait = .ended) ∧ (s.mayExit th = true) ∧ ((s.th th).verdict = 0) ∧ ((s.th th).egress = true) ∧ ((s.th th).clove = none) ∧ ((s.th th).pkt.natOwner = false) ∧ ((s.th th).pkt.nat64 = false) ∧ ((s.th th).pkt.tail = none) ∧ (s.portExists (s.th th).pkt.port = true) ∧ ((s.port.get (s.th th).pkt.port).up = false)) ∧
    (∃ (j : Nat) (p : Pkt) (rest : List Pkt) (s : State), (s.steady) ∧ (s.moves = true) ∧ (s.swc.egq.get j = p :: rest) ∧ (p.fabric = true) ∧ (p.bridged = false) ∧ (p.natOwner = false) ∧ (p.tail = none) ∧ (p.skipEgr = false) ∧ (s.meetsDownPort p = false)) ∧
    (∃ (j : Nat) (p : Pkt) (rest : List Pkt) (s : State), (s.steady) ∧ (s.moves = true) ∧ (s.swc.egq.get j = p :: rest) ∧ (p.fabric = false) ∧ (p.inp ≠ 10) ∧ (p.skipEgr = true) ∧ (p.nat64 = false) ∧ (p.tail = none) ∧ (s.meetsDownPort p = false)) ∧
    (∃ (j : Nat) (p : Pkt) (rest : List Pkt) (s : State), (s.steady) ∧ (s.moves = true) ∧ (s.swc.egq.get j = p :: rest) ∧ (p.fabric = false) ∧ (p.inp ≠ 10) ∧ (p.skipEgr = false) ∧ (s.meetsDownPort p = false)) ∧
    (∃ (j : Nat) (p : Pkt) (rest : List Pkt) (s : State), (s.steady) ∧ (s.moves = true) ∧ (s.swc.egq.get j = p :: rest) ∧ (p.fabric = false) ∧ (p.inp ≠ 10) ∧ (p.tail = none) ∧ (s.meetsDownPort p = true)) :=
  ⟨⟨0, { tSvc with eng := { th := ⟨[(0, { wait := .ended, verdict := 1 })]⟩ } }, by decide +kernel⟩,
   ⟨0, { tSvc with eng := { th := ⟨[(0, { wait := .ended, verdict := 1, egress := true })]⟩ } }, by decide +kernel⟩,
   ⟨0, { tSvc with eng := { th := ⟨[(0, { wait := .ended, verdict := 3, egress := true })]⟩ } }, by decide +kernel⟩,
   ⟨0, 0, tHop.hopped (tHop.th 0).pkt, tHop, by decide +kernel⟩,
   ⟨0, { tSvc with eng := { th := ⟨[(0, { wait := .ended, verdict := 2, started := true })]⟩ } }, by decide +kernel⟩,
   ⟨0, 0, 0, 0, {}, (tLeaf { wait := .ended, egress := true }), by decide +kernel⟩,
   ⟨0, { tSvc with eng := { th := ⟨[(0, { wait := .ended, egress := true })]⟩ } }, by decide +kernel⟩,
   ⟨0, { fabric := true }, [], { tSvc with swc := { egq := ⟨[(0, [{ fabric := true }])]⟩ }, port := ⟨[(0, { up := true })]⟩ }, by decide +kernel⟩,
   ⟨0, { skipEgr := true }, [], { tSvc with swc := { egq := ⟨[(0, [{ skipEgr := true }])]⟩ }, port := ⟨[(0, { up := true })]⟩ }, by decide +kernel⟩,
   ⟨0, {}, [], { tSvc with swc := { egq := ⟨[(0, [{}])]⟩ }, port := ⟨[(0, { up := true })]⟩ }, by decide +kernel⟩,
   ⟨0, {}, [], { tSvc with swc := { egq := ⟨[(0, [{}])]⟩ } }, by decide +kernel⟩⟩

theorem wit_StationTable :
    (∃ (i : Nat) (c : SrcCheck) (rest : List SrcCheck) (s : State), (s.running) ∧ (i < 4) ∧ (s.fwd.checks.get i = c :: rest)) ∧
    (∃ (i : Nat) (k : Nat) (c : SrcCheck) (rest : List SrcCheck) (s : State), (s.running) ∧ (i < 4) ∧ (s.fwd.checks.get i = c :: rest) ∧ (s.hbmBad (s.fwdAddr 2 (64 * s.l2Bucket c.bd c.mac)) 64 = false) ∧ (l2Find s c.bd c.mac = some k) ∧ (l2Nh (s.fwd.l2.get k) = c.nexthop)) ∧
    (∃ (i : Nat) (k : Nat) (c : SrcCheck) (rest : List SrcCheck) (s : State), (s.running) ∧ (s.md.mode ≠ .drain) ∧ (i < 4) ∧ (s.fwd.checks.get i = c :: rest) ∧ (s.hbmBad (s.fwdAddr 2 (64 * s.l2Bucket c.bd c.mac)) 64 = false) ∧ (l2Find s c.bd c.mac = some k) ∧ (l2Nh (s.fwd.l2.get k) ≠ c.nexthop) ∧ (l2Static (s.fwd.l2.get k) = false)) ∧
    (∃ (i : Nat) (k : Nat) (c : SrcCheck) (rest : List SrcCheck) (s : State), (s.running) ∧ (s.md.mode ≠ .drain) ∧ (i < 4) ∧ (s.fwd.checks.get i = c :: rest) ∧ (s.hbmBad (s.fwdAddr 2 (64 * s.l2Bucket c.bd c.mac)) 64 = false) ∧ (l2Find s c.bd c.mac = some k) ∧ (l2Nh (s.fwd.l2.get k) ≠ c.nexthop) ∧ (l2Static (s.fwd.l2.get k) = true)) ∧
    (∃ (i : Nat) (k : Nat) (c : SrcCheck) (rest : List SrcCheck) (s : State), (s.running) ∧ (s.md.mode ≠ .drain) ∧ (i < 4) ∧ (s.fwd.checks.get i = c :: rest) ∧ (s.hbmBad (s.fwdAddr 2 (64 * s.l2Bucket c.bd c.mac)) 64 = false) ∧ (l2Find s c.bd c.mac = none) ∧ ((l2Slots (s.l2Bucket c.bd c.mac)).find? (fun k => !l2Valid (s.fwd.l2.get k)) = some k) ∧ ((if (s.fwd.learnWin.get i).1 = s.now / 1000000 then (s.fwd.learnWin.get i).2 else 0) < s.regF Reg.FWD_L2_RATE 15 0)) ∧
    (∃ (i : Nat) (c : SrcCheck) (rest : List SrcCheck) (s : State), (s.running) ∧ (s.md.mode = .drain) ∧ (i < 4) ∧ (s.fwd.checks.get i = c :: rest) ∧ ((∀ k, l2Find s c.bd c.mac = some k → l2Nh (s.fwd.l2.get k) ≠ c.nexthop))) ∧
    (∃ (due : Nat) (u : State) (s : State), (s.running) ∧ (s.moves = true) ∧ (due = paceDue (s.regF Reg.FWD_L2_AGE 31 16 * 1000000000) 2097152 s.fwd.scan s.fwd.scanAt) ∧ (u = runTo due s.fresh) ∧ (l2Valid (s.fwd.l2.get s.fwd.scan) = true) ∧ (l2Static (s.fwd.l2.get s.fwd.scan) = false) ∧ (s.regF Reg.FWD_L2_AGE 15 0 < (u.ageStamp + 65536 - l2Age (s.fwd.l2.get s.fwd.scan)) % 65536) ∧ ((u.ageStamp + 65536 - l2Age (s.fwd.l2.get s.fwd.scan)) % 65536 < 32768)) ∧
    (∃ (due : Nat) (raced : Bool) (u : State) (s : State), (s.running) ∧ (s.moves = true) ∧ (due = paceDue (s.regF Reg.FWD_L2_AGE 31 16 * 1000000000) 2097152 s.fwd.scan s.fwd.scanAt) ∧ (u = runTo due s.fresh) ∧ ((u.ageStamp + 65536 - l2Age (s.fwd.l2.get s.fwd.scan)) % 65536 ≤ s.regF Reg.FWD_L2_AGE 15 0) ∧ ((u.ageStamp + 65536 - l2Age (s.fwd.l2.get s.fwd.scan)) % 65536 < 32768)) ∧
    (∃ (due : Nat) (raced : Bool) (u : State) (s : State), (s.running) ∧ (s.moves = true) ∧ (due = paceDue (s.regF Reg.FWD_L2_AGE 31 16 * 1000000000) 2097152 s.fwd.scan s.fwd.scanAt) ∧ (u = runTo due s.fresh) ∧ (l2Valid (s.fwd.l2.get s.fwd.scan) = true) ∧ (l2Static (s.fwd.l2.get s.fwd.scan) = false) ∧ (32768 ≤ (u.ageStamp + 65536 - l2Age (s.fwd.l2.get s.fwd.scan)) % 65536)) ∧
    (∃ (fl : L2Flush) (rest : List L2Flush) (s : State), (s.running) ∧ (s.fwd.flushes = fl :: rest)) :=
  ⟨⟨0, {}, [], { tSvc with fwd := { checks := ⟨[(0, [{}])]⟩ } }, by decide +kernel⟩,
   ⟨0, 4 * tBucket 7 0, { bd := 7 }, [], { tSvc with fwd := { l2 := tStation 7, checks := ⟨[(0, [{ bd := 7, nexthop := 0 }])]⟩ } }, both3 (by decide +kernel) ⟨tHbm_sound _ rfl _ _, tStation_found _ ⟨rfl, rfl⟩, tStation_nh _ ⟨rfl, rfl⟩⟩⟩,
   ⟨0, 4 * tBucket 7 0, { bd := 7, nexthop := 5 }, [], { tSvc with fwd := { l2 := tStation 7, checks := ⟨[(0, [{ bd := 7, nexthop := 5 }])]⟩ } }, both4 (by decide +kernel) ⟨tHbm_sound _ rfl _ _, tStation_found _ ⟨rfl, rfl⟩, tStation_moved _ ⟨rfl, rfl⟩, tStation_moves _ ⟨rfl, rfl⟩⟩⟩,
   ⟨0, 4 * tBucket 7 0, { bd := 7, nexthop := 5 }, [], { tSvc with fwd := { l2 := tFixed, checks := ⟨[(0, [{ bd := 7, nexthop := 5 }])]⟩ } }, both4 (by decide +kernel) ⟨tHbm_sound _ rfl _ _, tFixed_found _ ⟨rfl, rfl⟩, tFixed_nh _ ⟨rfl, rfl⟩, tFixed_static _ ⟨rfl, rfl⟩⟩⟩,
   ⟨0, 4 * tBucket 7 0, { bd := 7, nexthop := 5 }, [], tNew, both4 (by decide +kernel) ⟨tHbm_sound _ rfl _ _, tStation_none _ rfl _ _, tNew_free, by decide +kernel⟩⟩,
   ⟨0, { bd := 7 }, [], { md := { mode := .drain, drained := true }, fwd := { checks := ⟨[(0, [{ bd := 7 }])]⟩ } }, both4 (by decide +kernel) ((fun k h => by rw [tStation_none _ rfl] at h; cases h))⟩,
   ⟨paceDue (tAged.regF Reg.FWD_L2_AGE 31 16 * 1000000000) 2097152 tAged.fwd.scan tAged.fwd.scanAt, runTo (paceDue (tAged.regF Reg.FWD_L2_AGE 31 16 * 1000000000) 2097152 tAged.fwd.scan tAged.fwd.scanAt) tAged.fresh, tAged, both2 (by decide +kernel) ⟨rfl, rfl, by decide +kernel⟩⟩,
   ⟨paceDue (tSvc.regF Reg.FWD_L2_AGE 31 16 * 1000000000) 2097152 tSvc.fwd.scan tSvc.fwd.scanAt, false, runTo (paceDue (tSvc.regF Reg.FWD_L2_AGE 31 16 * 1000000000) 2097152 tSvc.fwd.scan tSvc.fwd.scanAt) tSvc.fresh, tSvc, both2 (by decide +kernel) ⟨rfl, rfl, by decide +kernel⟩⟩,
   ⟨paceDue (tAhead.regF Reg.FWD_L2_AGE 31 16 * 1000000000) 2097152 tAhead.fwd.scan tAhead.fwd.scanAt, false, runTo (paceDue (tAhead.regF Reg.FWD_L2_AGE 31 16 * 1000000000) 2097152 tAhead.fwd.scan tAhead.fwd.scanAt) tAhead.fresh, tAhead, both2 (by decide +kernel) ⟨rfl, rfl, by decide +kernel⟩⟩,
   ⟨{ port := 3 }, [], { tSvc with fwd := { flushes := [{ port := 3 }] } }, by decide +kernel⟩⟩

theorem wit_FlowLookups :
    (∃ (i : Nat) (th : Nat) (key : BitVec 384) (p : Pkt) (rest : List Pkt) (s : State), (s.running) ∧ (i < 4) ∧ (s.fseq.get (2 * i) = p :: rest) ∧ (s.freeThread i false = some th) ∧ (profValid (s.profile p.flowProfile) = true) ∧ ((spService (s.svcParam p.flowProfile) ≠ 2 ∨ isFragment (s.profile p.flowProfile) p = false)) ∧ ((spService (s.svcParam p.flowProfile) ≠ 1 ∨ nonFirst (s.profile p.flowProfile) p = none)) ∧ (buildKey (s.profile p.flowProfile) p false = some key) ∧ (s.cacheHit i key (s.hashOf i key) = none) ∧ ((s.part.get i).misses.length < 1024) ∧ ((∀ m ∈ (s.part.get i).misses, m.key ≠ key))) ∧
    (∃ (i : Nat) (th : Nat) (key : BitVec 384) (p : Pkt) (rest : List Pkt) (l : Line) (s : State), (s.running) ∧ (i < 4) ∧ (s.fseq.get (2 * i) = p :: rest) ∧ (s.freeThread i false = some th) ∧ (profValid (s.profile p.flowProfile) = true) ∧ ((spService (s.svcParam p.flowProfile) ≠ 2 ∨ isFragment (s.profile p.flowProfile) p = false)) ∧ ((spService (s.svcParam p.flowProfile) ≠ 1 ∨ nonFirst (s.profile p.flowProfile) p = none)) ∧ (buildKey (s.profile p.flowProfile) p false = some key) ∧ (s.cacheHit i key (s.hashOf i key) = some l)) ∧
    (∃ (i : Nat) (egress : Bool) (p : Pkt) (rest : List Pkt) (s : State), (s.running) ∧ (i < 4) ∧ (s.fseq.get (2 * i + b2n egress) = p :: rest) ∧ (s.freeThread i egress = none)) ∧
    (∃ (i : Nat) (idx : Nat) (u : Nat) (l : Line) (r : LockReq) (rest : List LockReq) (s : State), (s.running) ∧ (i < 4) ∧ (s.line i idx = some l) ∧ (l.fifo = r :: rest) ∧ (l.lock = .free) ∧ ((s.fiAt (cvProgram (hitUpdate s (s.th r.thread) l.clove))).toNat / 2 ^ 24 ≠ 0) ∧ (s.eng.disp.get ((s.fiAt (cvProgram (hitUpdate s (s.th r.thread) l.clove))).toNat / 2 ^ 24) = some u)) ∧
    (∃ (i : Nat) (k : Nat) (ue : Bool) (m : Miss) (s : State), (s.running) ∧ (i < 4) ∧ ((s.part.get i).misses[k]? = some m) ∧ (m.stage = .reading) ∧ (s.bucketBad i m.b1 = false) ∧ (s.bucketBad i m.b2 = false) ∧ (((s.dir.get m.b1).slots ++ (s.dir.get m.b2).slots).filter (fun x => x.tag == hashTag m.hash) ≠ [])) ∧
    (∃ (i : Nat) (k : Nat) (th : Nat) (idx : Nat) (b : Nat) (slot : Nat) (ue : Bool) (runs : List (Nat × Nat)) (c : Clove) (m : Miss) (s : State), (s.running) ∧ (i < 4) ∧ (s.md.mode = .service) ∧ ((s.part.get i).misses[k]? = some m) ∧ (m.stage = .reading) ∧ (m.threads = [th]) ∧ (s.bucketBad i m.b1 = false) ∧ (s.bucketBad i m.b2 = false) ∧ (((s.dir.get m.b1).gone && (s.dir.get m.b2).gone) = false) ∧ (((s.dir.get m.b1).slots ++ (s.dir.get m.b2).slots).filter (fun x => x.tag == hashTag m.hash) = []) ∧ (profLearn m.prof = true) ∧ (s.learnRoom i = true) ∧ ((profPin m.prof = false ∨ s.pinRoom i = true)) ∧ (freeBucket s m.b1 m.b2 = some (b, slot)) ∧ (runsPop (s.part.get i).freeCache = some (idx, runs)) ∧ (s.line i idx = none) ∧ (((s.part.get i).lines.filter (fun x => x.set == hashSet m.hash)).length < 16) ∧ ((s.part.get i).held = []) ∧ (c = datPut (datPut (datPutB (learnedClove s m.key m.profile m.prof) 48 0 1 1) 49 1 (((s.part.get i).learnSeq + 1).toNat % 256)) 60 4 (8 * b + slot))) ∧
    (∃ (i : Nat) (k : Nat) (th : Nat) (ue : Bool) (x : DirSlot) (more : List DirSlot) (c : Clove) (m : Miss) (s : State), (s.running) ∧ (i < 4) ∧ (s.md.mode = .service) ∧ ((s.part.get i).misses[k]? = some m) ∧ (m.stage = .reading) ∧ (m.threads = [th]) ∧ (s.bucketBad i m.b1 = false) ∧ (s.bucketBad i m.b2 = false) ∧ (((s.dir.get m.b1).gone && (s.dir.get m.b2).gone) = false) ∧ (((s.dir.get m.b1).slots ++ (s.dir.get m.b2).slots).filter (fun x => x.tag == hashTag m.hash) = []) ∧ (profLearn m.prof = true) ∧ (s.learnRoom i = true) ∧ ((profPin m.prof = false ∨ s.pinRoom i = true)) ∧ (freeBucket s m.b1 m.b2 = none) ∧ (bit (s.reg (Reg.FSE_PART_CFG i)) 0 = true) ∧ (s.eligible i m.b1 = x :: more) ∧ ((s.eligible i m.b2).length ≤ (s.eligible i m.b1).length) ∧ (s.line i x.idx = none) ∧ (s.readFails i x.idx ue = false) ∧ (cvDirSlot (s.clove.get x.idx) = 8 * m.b1 + x.slot) ∧ (x.slot < 8) ∧ (datU (s.clove.get x.idx) 64 1 = 0) ∧ ((s.part.get i).endq.length < 512) ∧ (((s.part.get i).lines.filter (fun x => x.set == hashSet m.hash)).length < 16) ∧ ((s.part.get i).held = []) ∧ (c = datPut (datPut (datPutB (learnedClove s m.key m.profile m.prof) 48 0 1 1) 49 1 (((s.part.get i).learnSeq + 1).toNat % 256)) 60 4 (8 * m.b1 + x.slot))) ∧
    (∃ (i : Nat) (k : Nat) (th : Nat) (ue : Bool) (m : Miss) (s : State), (s.running) ∧ (i < 4) ∧ ((s.part.get i).misses[k]? = some m) ∧ (m.stage = .reading) ∧ (m.threads = [th]) ∧ (s.bucketBad i m.b1 = false) ∧ (s.bucketBad i m.b2 = false) ∧ (((s.dir.get m.b1).slots ++ (s.dir.get m.b2).slots).filter (fun x => x.tag == hashTag m.hash) = []) ∧ ((profLearn m.prof = false ∨ s.learnRoom i = false)) ∧ (datB (s.tblGet 0x25 (s.regF (Reg.FSE_PART_CFG i) 11 8)) 0 0 2 = 0) ∧ ((s.part.get i).held = [])) ∧
    (∃ (i : Nat) (k : Nat) (idx : Nat) (victim : Bool) (rest : List Nat) (m : Miss) (s : State), (s.running) ∧ (i < 4) ∧ ((s.part.get i).misses[k]? = some m) ∧ (m.stage = .candidates (idx :: rest)) ∧ (s.line i idx = none) ∧ (cvValid (s.clove.get idx) = true) ∧ (cvKey (s.clove.get idx) = m.key) ∧ (s.cloveBad i idx = false) ∧ (missStale s m = false) ∧ (((s.part.get i).lines.filter (fun x => x.set == hashSet m.hash)).length < 16) ∧ ((s.part.get i).held = [])) ∧
    (∃ (i : Nat) (k : Nat) (idx : Nat) (next : Nat) (victim : Bool) (rest : List Nat) (m : Miss) (s : State), (s.running) ∧ (i < 4) ∧ ((s.part.get i).misses[k]? = some m) ∧ (m.stage = .candidates (idx :: next :: rest)) ∧ (cvKey (s.cloveNow i idx) ≠ m.key) ∧ (s.readFails i idx false = false)) ∧
    (∃ (i : Nat) (k : Nat) (idx : Nat) (ue : Bool) (victim : Bool) (rest : List Nat) (m : Miss) (s : State), (s.running) ∧ (i < 4) ∧ ((s.part.get i).misses[k]? = some m) ∧ (m.stage = .candidates (idx :: rest)) ∧ (s.readFails i idx ue = true)) ∧
    (∃ (i : Nat) (k : Nat) (idx : Nat) (c : Clove) (dirty : Bool) (m : Miss) (s : State), (s.running) ∧ (i < 4) ∧ ((s.part.get i).misses[k]? = some m) ∧ (m.stage = .install idx c dirty true) ∧ (s.line i idx = none) ∧ (cvValid (s.clove.get idx) = true) ∧ (cvKey (s.clove.get idx) = m.key) ∧ (((s.part.get i).lines.filter (fun x => x.set == hashSet m.hash)).length < 16) ∧ ((s.part.get i).held = [])) :=
  ⟨⟨0, 0, ((buildKey tProfile { parse := { hdrs := [(4, 0)] } } false).getD 0), { parse := { hdrs := [(4, 0)] } }, [], { tSvc with fseq := ⟨[(0, [{ parse := { hdrs := [(4, 0)] } }])]⟩, tbl := ⟨[(tblKey 0x24 0, tProfile)]⟩ }, by decide +kernel⟩,
   ⟨0, 0, tKey, { parse := { hdrs := [(4, 0)] } }, [], { idx := 7, set := hashSet (tSvc.hashOf 0 tKey), clove := tClove tKey }, { tSvc with fseq := ⟨[(0, [{ parse := { hdrs := [(4, 0)] } }])]⟩, tbl := ⟨[(tblKey 0x24 0, tProfile)]⟩, part := ⟨[(0, { lines := [{ idx := 7, set := hashSet (tSvc.hashOf 0 tKey), clove := tClove tKey }] })]⟩ }, both8 (by decide +kernel) (tLine_hit _ ⟨rfl, rfl⟩)⟩,
   ⟨0, false, {}, [], { tSvc with fseq := ⟨[(0, [{}])]⟩, regs := ⟨[(Reg.MGT_PWR_OFF1, 15)]⟩ }, by decide +kernel⟩,
   ⟨0, 7, 5, { idx := 7, fifo := [{}] }, {}, [], { tSvc with part := ⟨[(0, { lines := [{ idx := 7, fifo := [{}] }] })]⟩, tbl := ⟨[(tblKey 0x5E 0, 0x01000000)]⟩, eng := { disp := ⟨[(1, some 5)]⟩ } }, by decide +kernel⟩,
   ⟨0, 0, false, {}, { tSvc with part := ⟨[(0, { misses := [{}] })]⟩, dir := ⟨[(0, { slots := [{ tag := hashTag 0 }] })]⟩ }, both4 (by decide +kernel) ⟨tBucket_sound _ rfl _ _, tBucket_sound _ rfl _ _, by decide +kernel⟩⟩,
   ⟨0, 0, 0, 1, 0, 0, false, [], tLearnt tLearn 0, tMiss, tLearn, both6 (by decide +kernel) ⟨tBucket_sound _ rfl _ _, tBucket_sound _ rfl _ _, both9 (by decide +kernel) ⟨by decide +kernel, rfl⟩⟩⟩,
   ⟨0, 0, 0, false, { slot := 0, idx := 1 }, ((tFull.eligible 0 0).drop 1), tLearnt tFull 0, tMiss, tFull, both6 (by decide +kernel) ⟨tBucket_sound _ rfl _ _, tBucket_sound _ rfl _ _, both9 (by decide +kernel) ⟨by decide +kernel, tRead_sound _ rfl _ _, both6 (by decide +kernel) (rfl)⟩⟩⟩,
   ⟨0, 0, 0, false, { hash := 5, b1 := 0, b2 := 1, threads := [0] }, tNone, both5 (by decide +kernel) ⟨tBucket_sound _ rfl _ _, tBucket_sound _ rfl _ _, by decide +kernel⟩⟩,
   ⟨0, 0, 7, true, [], { stage := .candidates [7] }, { tSvc with part := ⟨[(0, { misses := [{ stage := .candidates [7] }] })]⟩, clove := ⟨[(7, BitVec.ofNat 1024 (2 ^ 384))]⟩ }, both7 (by decide +kernel) ⟨tClove_sound _ rfl _ _, by decide +kernel⟩⟩,
   ⟨0, 0, 7, 8, true, [], { key := 1, stage := .candidates [7, 8] }, { tSvc with part := ⟨[(0, { misses := [{ key := 1, stage := .candidates [7, 8] }] })]⟩ }, both5 (by decide +kernel) (tRead_sound _ rfl _ _)⟩,
   ⟨0, 0, 7, true, true, [8], { key := 1, stage := .candidates [7, 8] }, { tSvc with part := ⟨[(0, { misses := [{ key := 1, stage := .candidates [7, 8] }] })]⟩ }, by decide +kernel⟩,
   ⟨0, 0, 7, 5, true, { stage := .install 7 5 true true }, { tSvc with part := ⟨[(0, { misses := [{ stage := .install 7 5 true true }] })]⟩, clove := ⟨[(7, BitVec.ofNat 1024 (2 ^ 384))]⟩ }, by decide +kernel⟩⟩

theorem wit_CloveUpkeep :
    (∃ (i : Nat) (ue : Bool) (s : State), (s.running) ∧ (s.moves = true) ∧ (i < 4) ∧ (runsLen (s.part.get i).freeCache + 512 ≤ 4096) ∧ (s.cloves i ≠ 0) ∧ (s.cloves i % 512 = 0) ∧ ((s.part.get i).refillPos % 512 = 0) ∧ ((s.part.get i).refillPos < s.cloves i)) ∧
    (∃ (i : Nat) (due : Nat) (s : State), (s.running) ∧ (i < 4) ∧ (s.scanRuns = true) ∧ (due = paceDue (s.regF (Reg.FSE_PART_CFG i) 31 16 * 1000000000) (s.cloves i) (s.part.get i).sweep (s.part.get i).visitAt) ∧ (cvValid (s.clove.get (s.cloveBase i + (s.part.get i).sweep)) = false) ∧ (s.readFails i (s.cloveBase i + (s.part.get i).sweep) false = false)) ∧
    (∃ (i : Nat) (idx : Nat) (due : Nat) (reason : Nat) (u : State) (s : State), (s.running) ∧ (i < 4) ∧ (s.scanRuns = true) ∧ (idx = s.cloveBase i + (s.part.get i).sweep) ∧ (due = paceDue (s.regF (Reg.FSE_PART_CFG i) 31 16 * 1000000000) (s.cloves i) (s.part.get i).sweep (s.part.get i).visitAt) ∧ (u = runTo due s.fresh) ∧ (s.line i idx = none) ∧ (s.cloveBad i idx = false) ∧ (cvValid (s.clove.get idx) = true) ∧ (datU (s.clove.get idx) 64 1 = 0) ∧ (((s.dir.get (cvDirSlot (s.clove.get idx) / 8)).slots.any (fun x => x.slot == cvDirSlot (s.clove.get idx) % 8 && x.idx == idx)) = true) ∧ ((u.ms + 2 ^ 32 - cvCreated (s.clove.get idx)) % 2 ^ 32 < 2 ^ 31) ∧ ((u.ageStamp + 65536 - cvAge (s.clove.get idx)) % 65536 < 32768) ∧ ((if datU (s.profile (cvProfile (s.clove.get idx))) 4 2 ≠ 0 ∧ datU (s.profile (cvProfile (s.clove.get idx))) 4 2 < (u.ageStamp + 65536 - cvAge (s.clove.get idx)) % 65536 then reason = 1 else datU (s.profile (cvProfile (s.clove.get idx))) 6 2 ≠ 0 ∧ datU (s.profile (cvProfile (s.clove.get idx))) 6 2 * 1000 ≤ (u.ms + 2 ^ 32 - cvCreated (s.clove.get idx)) % 2 ^ 32 ∧ reason = 2)) ∧ ((s.part.get i).endq.length < 512)) ∧
    (∃ (i : Nat) (idx : Nat) (due : Nat) (u : State) (s : State), (s.running) ∧ (i < 4) ∧ (s.scanRuns = true) ∧ (idx = s.cloveBase i + (s.part.get i).sweep) ∧ (due = paceDue (s.regF (Reg.FSE_PART_CFG i) 31 16 * 1000000000) (s.cloves i) (s.part.get i).sweep (s.part.get i).visitAt) ∧ (u = runTo due s.fresh) ∧ (s.line i idx = none) ∧ (s.cloveBad i idx = false) ∧ (cvValid (s.clove.get idx) = true) ∧ (((s.dir.get (cvDirSlot (s.clove.get idx) / 8)).slots.any (fun x => x.slot == cvDirSlot (s.clove.get idx) % 8 && x.idx == idx)) = true) ∧ ((u.ms + 2 ^ 32 - cvCreated (s.clove.get idx)) % 2 ^ 32 < 2 ^ 31) ∧ (32768 ≤ (u.ageStamp + 65536 - cvAge (s.clove.get idx)) % 65536)) ∧
    (∃ (i : Nat) (idx : Nat) (due : Nat) (ue : Bool) (u : State) (s : State), (s.running) ∧ (i < 4) ∧ (s.scanRuns = true) ∧ (idx = s.cloveBase i + (s.part.get i).sweep) ∧ (due = paceDue (s.regF (Reg.FSE_PART_CFG i) 31 16 * 1000000000) (s.cloves i) (s.part.get i).sweep (s.part.get i).visitAt) ∧ (u = runTo due s.fresh) ∧ (s.readFails i idx ue = true)) ∧
    (∃ (i : Nat) (idx : Nat) (gen : Nat) (rest : List (Nat × Nat)) (s : State), (s.running) ∧ (i < 4) ∧ ((s.part.get i).marks = (idx, gen) :: rest) ∧ (s.cloveIs i idx gen = true) ∧ (s.line i idx = none)) ∧
    (∃ (i : Nat) (idx : Nat) (gen : Nat) (rest : List (Nat × Nat)) (s : State), (s.running) ∧ (i < 4) ∧ ((s.part.get i).marks = (idx, gen) :: rest) ∧ (s.cloveIs i idx gen = false)) ∧
    (∃ (i : Nat) (w : RelWait) (rest : List RelWait) (s : State), (s.running) ∧ (i < 4) ∧ ((s.svc.part.get i).relWait = w :: rest) ∧ ((s.svc.part.get i).natq.length < 1024) ∧ ((s.natBlock i w.block).allocated = true) ∧ ((s.natBlock i w.block).used = 0)) ∧
    (∃ (pc : Nat) (s : State), (s.running) ∧ (s.pcRetired pc = true) ∧ ((s.part.get 0).withdrawn.contains pc = false) ∧ (s.dir = {})) :=
  ⟨⟨0, true, { tSvc with regs := ⟨[(Reg.FSE_PART_CLOVES 0, 512)]⟩ }, by decide +kernel⟩,
   ⟨0, paceDue (tSvc.regF (Reg.FSE_PART_CFG 0) 31 16 * 1000000000) (tSvc.cloves 0) (tSvc.part.get 0).sweep (tSvc.part.get 0).visitAt, tSvc, both3 (by decide +kernel) ⟨rfl, by decide +kernel, tRead_sound _ rfl _ _⟩⟩,
   ⟨0, tIdle.cloveBase 0, paceDue (tIdle.regF (Reg.FSE_PART_CFG 0) 31 16 * 1000000000) (tIdle.cloves 0) (tIdle.part.get 0).sweep (tIdle.part.get 0).visitAt, 1, runTo (paceDue (tIdle.regF (Reg.FSE_PART_CFG 0) 31 16 * 1000000000) (tIdle.cloves 0) (tIdle.part.get 0).sweep (tIdle.part.get 0).visitAt) tIdle.fresh, tIdle, both3 (by decide +kernel) ⟨rfl, rfl, rfl, by decide +kernel, tClove_sound _ rfl _ _, by decide +kernel⟩⟩,
   ⟨0, tYoung.cloveBase 0, paceDue (tYoung.regF (Reg.FSE_PART_CFG 0) 31 16 * 1000000000) (tYoung.cloves 0) (tYoung.part.get 0).sweep (tYoung.part.get 0).visitAt, runTo (paceDue (tYoung.regF (Reg.FSE_PART_CFG 0) 31 16 * 1000000000) (tYoung.cloves 0) (tYoung.part.get 0).sweep (tYoung.part.get 0).visitAt) tYoung.fresh, tYoung, both3 (by decide +kernel) ⟨rfl, rfl, rfl, by decide +kernel, tClove_sound _ rfl _ _, by decide +kernel⟩⟩,
   ⟨0, tIdle.cloveBase 0, paceDue (tIdle.regF (Reg.FSE_PART_CFG 0) 31 16 * 1000000000) (tIdle.cloves 0) (tIdle.part.get 0).sweep (tIdle.part.get 0).visitAt, true, runTo (paceDue (tIdle.regF (Reg.FSE_PART_CFG 0) 31 16 * 1000000000) (tIdle.cloves 0) (tIdle.part.get 0).sweep (tIdle.part.get 0).visitAt) tIdle.fresh, tIdle, both3 (by decide +kernel) ⟨rfl, rfl, rfl, by decide +kernel⟩⟩,
   ⟨0, 0, 0, [], { tSvc with part := ⟨[(0, { marks := [(0, 0)] })]⟩, clove := ⟨[(0, BitVec.ofNat 1024 (2 ^ 384))]⟩, regs := ⟨[(Reg.FSE_PART_CLOVES 0, 1)]⟩ }, by decide +kernel⟩,
   ⟨0, 0, 0, [], { tSvc with part := ⟨[(0, { marks := [(0, 0)] })]⟩ }, by decide +kernel⟩,
   ⟨0, {}, [], { tSvc with svc := { part := ⟨[(0, { relWait := [{}], blocks := ⟨[(0, { allocated := true })]⟩ })]⟩ } }, by decide +kernel⟩,
   ⟨3, { tSvc with hmc := { pcs := ⟨[(3, { retired := true })]⟩ } }, by decide +kernel⟩⟩

theorem wit_Telemetry :
    (∃ (i : Nat) (x : Nat) (r : EndRec) (rest : List EndRec) (m : TelMsg) (s : State), (s.steady) ∧ (s.moves = true) ∧ (i < 4) ∧ ((s.part.get i).endq = r :: rest) ∧ (r.bare = false) ∧ (spFlag (s.svcParam (cvProfile r.clove)) 3 = true) ∧ (x = datU (s.svcParam (cvProfile r.clove)) 3 1) ∧ (exValid (s.exporter x) = true) ∧ ((s.svc.part.get i).msgs.get x = some m) ∧ (16 + (setBytes (m.recs ++ [((if datB r.clove 40 0 1 = 1 then 256 else 257), s.recCommon r.clove ++ beBytes 1 (endReason r.reason) ++ s.recPen r.clove)])).length ≤ msgMax (s.exporter x))) ∧
    (∃ (i : Nat) (r : EndRec) (rest : List EndRec) (s : State), (s.running) ∧ (s.moves = true) ∧ (i < 4) ∧ ((s.part.get i).endq = r :: rest) ∧ (spFlag (s.svcParam (cvProfile r.clove)) 3 = false)) ∧
    (∃ (i : Nat) (x : Nat) (q : Nat) (m : TelMsg) (u : State) (s : State), (s.steady) ∧ (s.moves = true) ∧ (i < 4) ∧ (x < 8) ∧ ((s.svc.part.get i).msgs.get x = some m) ∧ (u = runTo (m.firstAt + 1000000) s.fresh) ∧ (u.udpTakes i x q m.recs)) ∧
    (∃ (i : Nat) (x : Nat) (m : TelMsg) (u : State) (s : State), (s.running) ∧ (s.moves = true) ∧ (i < 4) ∧ (x < 8) ∧ ((s.svc.part.get i).msgs.get x = some m) ∧ (exUdp (s.exporter x) = false) ∧ (u = runTo (m.firstAt + 1000000) s.fresh)) ∧
    (∃ (i : Nat) (x : Nat) (m : TelMsg) (s : State), (s.steady) ∧ (s.moves = true) ∧ (i < 4) ∧ (x < 8) ∧ ((s.svc.part.get i).msgs.get x = some m) ∧ (exUdp (s.exporter x) = true) ∧ ((s.port.get (exTarget (s.exporter x) % 32)).up = false)) ∧
    (∃ (i : Nat) (r : NatRec) (rest : List NatRec) (s : State), (s.steady) ∧ (s.moves = true) ∧ (i < 4) ∧ ((s.svc.part.get i).natq = r :: rest) ∧ (exValid (s.exporter r.exporter) = true) ∧ ((s.svc.part.get i).msgs.get r.exporter = none) ∧ (s.tmplDue i r.exporter = false)) ∧
    (∃ (s : State), (s.hostWrites 8) ∧ ((∀ x < 8, exValid (s.exporter x) = false ∨ exUdp (s.exporter x) = true))) ∧
    (∃ (x : Nat) (s : State), (s.hostWrites 8) ∧ (x < 8) ∧ (exValid (s.exporter x) = true) ∧ (exUdp (s.exporter x) = false)) ∧
    (∃ (i : Nat) (n : Nat) (ue : Bool) (p : TelPass) (s : State), (s.running) ∧ (s.moves = true) ∧ (i < 4) ∧ (n < 8) ∧ ((s.svc.part.get i).passes.get n = some p) ∧ (s.nextClove i (s.cloveBase i + p.pos) = none)) ∧
    (∃ (i : Nat) (n : Nat) (idx : Nat) (p : TelPass) (s : State), (s.running) ∧ (s.moves = true) ∧ (i < 4) ∧ (n < 8) ∧ ((s.svc.part.get i).passes.get n = some p) ∧ (s.nextClove i (s.cloveBase i + p.pos) = some idx) ∧ (s.readFails i idx false = false) ∧ (spFlag (s.svcParam (cvProfile (s.cloveNow i idx))) 4 = false)) ∧
    (∃ (i : Nat) (x : Nat) (q : Nat) (at_ : Nat) (u : State) (s : State), (s.steady) ∧ (s.moves = true) ∧ (i < 4) ∧ (x < 8) ∧ ((s.svc.part.get i).tmplAt.get x = some at_) ∧ (exValid (s.exporter x) = true) ∧ (u = runTo (at_ + datU (s.exporter x) 6 2 * 1000000000) s.fresh) ∧ (u.udpTakes i x q [(2, s.templates)])) ∧
    (∃ (i : Nat) (x : Nat) (at_ : Nat) (s : State), (s.steady) ∧ (s.moves = true) ∧ (i < 4) ∧ (x < 8) ∧ ((s.svc.part.get i).tmplAt.get x = some at_) ∧ (exValid (s.exporter x) = true) ∧ (exUdp (s.exporter x) = true) ∧ ((s.port.get (exTarget (s.exporter x) % 32)).up = false)) ∧
    (∃ (n : Nat) (due : Nat) (s : State), (s.running) ∧ (s.moves = true) ∧ (n < 8) ∧ (s.twinOn n = true) ∧ (due = max s.tbe.st ((s.tbe.twinSeen.get n + 1) * s.twinPeriod n)) ∧ (s.caughtUp due n) ∧ ((∀ i < 4, (s.svc.part.get i).passes.get n = none))) ∧
    (∃ (n : Nat) (s : State), (s.steady) ∧ (s.moves = true) ∧ (n < 8) ∧ (s.twinOn n = true)) :=
  ⟨⟨0, 0, {}, [], {}, { tSvc with part := ⟨[(0, { endq := [{}] })]⟩, svc := { part := ⟨[(0, { msgs := ⟨[(0, some {})]⟩ })]⟩ }, tbl := ⟨[(tblKey 0x26 0, 2048), (tblKey 0x2C 0, BitVec.ofNat 1024 (1 + 1500 * 2 ^ 32))]⟩ }, by decide +kernel⟩,
   ⟨0, {}, [], { tSvc with part := ⟨[(0, { endq := [{}] })]⟩ }, by decide +kernel⟩,
   ⟨0, 0, 0, {}, runTo (0 + 1000000) tExport.fresh, tExport, both5 (by decide +kernel) ⟨rfl, by decide +kernel⟩⟩,
   ⟨0, 0, {}, runTo (0 + 1000000) ({ tSvc with svc := { part := ⟨[(0, { msgs := ⟨[(0, some {})]⟩ })]⟩ }, tbl := ⟨[(tblKey 0x2C 0, BitVec.ofNat 1024 (1 + 1500 * 2 ^ 32))]⟩ } : State).fresh, { tSvc with svc := { part := ⟨[(0, { msgs := ⟨[(0, some {})]⟩ })]⟩ }, tbl := ⟨[(tblKey 0x2C 0, BitVec.ofNat 1024 (1 + 1500 * 2 ^ 32))]⟩ }, both6 (by decide +kernel) (rfl)⟩,
   ⟨0, 0, {}, { tSvc with svc := { part := ⟨[(0, { msgs := ⟨[(0, some {})]⟩ })]⟩ }, tbl := ⟨[(tblKey 0x2C 0, BitVec.ofNat 1024 (3 + 1500 * 2 ^ 32))]⟩ }, by decide +kernel⟩,
   ⟨0, {}, [], { tSvc with svc := { part := ⟨[(0, { natq := [{}], tmplAt := ⟨[(0, some 0)]⟩ })]⟩ }, tbl := ⟨[(tblKey 0x2C 0, BitVec.ofNat 1024 (1 + 1500 * 2 ^ 32))]⟩ }, by decide +kernel⟩,
   ⟨tSvc, by decide +kernel⟩,
   ⟨0, { tSvc with tbl := ⟨[(tblKey 0x2C 0, BitVec.ofNat 1024 (1 + 1500 * 2 ^ 32))]⟩ }, by decide +kernel⟩,
   ⟨0, 0, false, {}, { tSvc with svc := { part := ⟨[(0, { passes := ⟨[(0, some {})]⟩ })]⟩ } }, by decide +kernel⟩,
   ⟨0, 0, 0, {}, { tSvc with svc := { part := ⟨[(0, { passes := ⟨[(0, some {})]⟩ })]⟩ }, clove := ⟨[(0, BitVec.ofNat 1024 (2 ^ 384))]⟩, regs := ⟨[(Reg.FSE_PART_CLOVES 0, 1)]⟩ }, both6 (by decide +kernel) ⟨tRead_sound _ rfl _ _, by decide +kernel⟩⟩,
   ⟨0, 0, 0, 0, runTo (0 + datU (tExport.exporter 0) 6 2 * 1000000000) tExport.fresh, tExport, both6 (by decide +kernel) ⟨rfl, by decide +kernel⟩⟩,
   ⟨0, 0, 0, { tSvc with svc := { part := ⟨[(0, { tmplAt := ⟨[(0, some 0)]⟩ })]⟩ }, tbl := ⟨[(tblKey 0x2C 0, BitVec.ofNat 1024 (3 + 1500 * 2 ^ 32))]⟩ }, by decide +kernel⟩,
   ⟨0, max tTwin.tbe.st ((tTwin.tbe.twinSeen.get 0 + 1) * tTwin.twinPeriod 0), tTwin, by decide +kernel⟩,
   ⟨0, tTwin, by decide +kernel⟩⟩

theorem wit_PacketBuffer :
    (∃ (inp : Nat) (t : Staged) (s : State), (s.steady) ∧ (s.moves = true) ∧ (s.buf.staged.find? (fun t => t.inp == inp && !s.tailOpen t.pkt) = some t) ∧ (t.pkt.tail = none) ∧ (s.asking t.leaf t.queue = false) ∧ (bit (s.bufProfile t.leaf t.queue t.cls) 31 = false) ∧ (s.pbfUsed inp t.cls + pktCells t.pkt ≤ s.regF (Reg.PBF_LIMIT inp t.cls) 18 0)) ∧
    (∃ (inp : Nat) (t : Staged) (s : State), (s.steady) ∧ (s.moves = true) ∧ (s.buf.staged.find? (fun t => t.inp == inp && !s.tailOpen t.pkt) = some t) ∧ (t.pkt.tail = none) ∧ (s.asking t.leaf t.queue = false) ∧ (bit (s.bufProfile t.leaf t.queue t.cls) 31 = false) ∧ (s.regF (Reg.PBF_LIMIT inp t.cls) 18 0 < s.pbfUsed inp t.cls + pktCells t.pkt)) ∧
    (∃ (leaf : Bool) (q : Nat) (it : QItem) (s : State), (s.steady) ∧ (s.moves = true) ∧ ((s.pqueue leaf q).items.find? isSpilled = some it) ∧ ((((s.pqueue leaf q).items.filter (fun i => i.tier == .returned)).map (fun i => i.cells)).sum < bits (s.bufProfile leaf q it.cls) 27 16) ∧ (s.buf.retCells + it.cells ≤ s.regF Reg.PBF_RETURN_RES 15 0) ∧ (it.cells ≤ s.freeCells) ∧ (s.headerPoisoned it = false) ∧ (s.dataPoisoned it = false)) ∧
    (∃ (leaf : Bool) (q : Nat) (it : QItem) (o : ReadOutcome) (s : State), (s.steady) ∧ (s.moves = true) ∧ ((s.pqueue leaf q).items.find? isSpilled = some it) ∧ ((((s.pqueue leaf q).items.filter (fun i => i.tier == .returned)).map (fun i => i.cells)).sum < bits (s.bufProfile leaf q it.cls) 27 16) ∧ (s.buf.retCells + it.cells ≤ s.regF Reg.PBF_RETURN_RES 15 0) ∧ (it.cells ≤ s.freeCells) ∧ ((o = .data ∨ o = .ok ∧ s.headerPoisoned it = false ∧ s.dataPoisoned it = true))) ∧
    (∃ (leaf : Bool) (q : Nat) (it : QItem) (s : State), (s.steady) ∧ (s.moves = true) ∧ ((s.pqueue leaf q).items.find? isSpilled = some it) ∧ ((((s.pqueue leaf q).items.filter (fun i => i.tier == .returned)).map (fun i => i.cells)).sum < bits (s.bufProfile leaf q it.cls) 27 16) ∧ (s.buf.retCells + it.cells ≤ s.regF Reg.PBF_RETURN_RES 15 0) ∧ (it.cells ≤ s.freeCells)) :=
  ⟨⟨0, { cells := 1 }, { tSvc with buf := { staged := [{ cells := 1 }] }, regs := ⟨[(Reg.PBF_LIMIT 0 0, 10)]⟩ }, by decide +kernel⟩,
   ⟨0, { cells := 1, pkt := { bytes := [1] } }, { tSvc with buf := { staged := [{ cells := 1, pkt := { bytes := [1] } }] } }, by decide +kernel⟩,
   ⟨false, 0, { cells := 1, tier := .spilled 0 }, { tSvc with buf := { voq := ⟨[(0, { items := [{ cells := 1, tier := .spilled 0 }] })]⟩ }, regs := ⟨[(Reg.PBF_QPROF 0, 0x00010000), (Reg.PBF_RETURN_RES, 5)]⟩ }, both6 (by decide +kernel) ⟨tHead_sound _ rfl _, tData_sound _ rfl rfl _⟩⟩,
   ⟨false, 0, { cells := 1, tier := .spilled 0 }, .data, { tSvc with buf := { voq := ⟨[(0, { items := [{ cells := 1, tier := .spilled 0 }] })]⟩ }, regs := ⟨[(Reg.PBF_QPROF 0, 0x00010000), (Reg.PBF_RETURN_RES, 5)]⟩ }, by decide +kernel⟩,
   ⟨false, 0, { cells := 1, tier := .spilled 0 }, { tSvc with buf := { voq := ⟨[(0, { items := [{ cells := 1, tier := .spilled 0 }] })]⟩ }, regs := ⟨[(Reg.PBF_QPROF 0, 0x00010000), (Reg.PBF_RETURN_RES, 5)]⟩ }, by decide +kernel⟩⟩

theorem wit_BufferPools :
    (∃ (client : Nat) (addr : Nat) (k : Nat) (i : Nat) (s : State), (s.steady) ∧ (s.moves = true) ∧ (client < 16) ∧ (addr < 2 ^ 36) ∧ (s.bufAt addr = .inr (k, i)) ∧ ((addr - s.poolBase k) % poolSize k = 0) ∧ ((s.buf.bufs.get (s.poolFirst k + i)).alloc = true) ∧ (datU (s.buf.bufs.get (s.poolFirst k + i)).hdr 0 1 % 16 = client) ∧ ((s.buf.bufs.get (s.poolFirst k + i)).leaked = false) ∧ (s.bufWithdrawn k i = false) ∧ (s.bufBarred k i = false) ∧ (runsLen (runsPush (s.buf.pools.get k).cache i) < 1792)) ∧
    (∃ (client : Nat) (addr : Nat) (k : Nat) (i : Nat) (s : State), (s.steady) ∧ (s.moves = true) ∧ (client < 16) ∧ (addr < 2 ^ 36) ∧ (s.bufAt addr = .inr (k, i)) ∧ ((addr - s.poolBase k) % poolSize k ≠ 0)) ∧
    (∃ (k : Nat) (i : Nat) (r : BufReq) (c : List (Nat × Nat)) (s : State), (s.steady) ∧ (s.moves = true) ∧ (k < 4) ∧ ((s.buf.pools.get k).reqs = [r]) ∧ (r.client < 16) ∧ (runsFirst (fun i => !s.bufBarred k i) 2048 (s.buf.pools.get k).cache = some (i, c)) ∧ ((s.pqueue r.item.leaf r.item.queue).items = [])) ∧
    (∃ (k : Nat) (s : State), (s.steady) ∧ (k < 4) ∧ (runsLen (s.buf.pools.get k).cache ≤ 512) ∧ (runsLen (s.buf.pools.get k).ring ≠ 0)) ∧
    (∃ (k : Nat) (s : State), (s.steady) ∧ (k < 4) ∧ (runsLen (s.buf.pools.get k).cache ≤ 512) ∧ (runsLen (s.buf.pools.get k).ring ≠ 0)) ∧
    (∃ (pc : Nat) (s : State), (s.steady) ∧ (pc < 96) ∧ (s.pcRetired pc = true) ∧ (s.buf.wdPcs.getLsbD pc = false)) ∧
    (∃ (unread : List Nat) (w : Sweep) (rest : List Sweep) (s : State), (s.steady) ∧ (s.moves = true) ∧ (s.buf.sweeps = w :: rest)) :=
  ⟨⟨0, tPool.poolBase 0, 0, 0, tPool, both2 (by decide +kernel) ⟨by decide, tPool_lt 0 (by decide), tPool_at 0 (by decide), by simp, both3 (by decide +kernel) ⟨tPool_kept _ _ _ rfl, tPool_unbarred _ rfl _ _, by decide +kernel⟩⟩⟩,
   ⟨0, tPool.poolBase 0 + 1, 0, 0, tPool, both3 (by decide +kernel) ⟨tPool_lt 1 (by decide), tPool_at 1 (by decide), by simp [poolSize]⟩⟩,
   ⟨0, 0, {}, [], { tSvc with buf := { pools := ⟨[(0, { cache := [(0, 1)], reqs := [{}] })]⟩ } }, both5 (by decide +kernel) ⟨tPool_granted _ rfl _ _ _ _, by decide +kernel⟩⟩,
   ⟨0, { tSvc with buf := { pools := ⟨[(0, { ring := [(0, 5)] })]⟩ } }, by decide +kernel⟩,
   ⟨0, { tSvc with buf := { pools := ⟨[(0, { ring := [(0, 5)] })]⟩ } }, by decide +kernel⟩,
   ⟨3, { tSvc with hmc := { pcs := ⟨[(3, { retired := true })]⟩ } }, by decide +kernel⟩,
   ⟨[], {}, [], { tSvc with buf := { sweeps := [{}] } }, by decide +kernel⟩⟩

theorem wit_TrafficManager :
    (∃ (e : WheelEnt) (s : State), (s.steady) ∧ (wheelNext s.tms.wheel = some e) ∧ (s.caughtUp (max s.tbe.st e.slot) 8) ∧ (e.gen ≠ (s.node e.node).gen)) ∧
    (∃ (e : WheelEnt) (s : State), (s.steady) ∧ (wheelNext s.tms.wheel = some e) ∧ (s.caughtUp (max s.tbe.st e.slot) 8) ∧ (e.gen = (s.node e.node).gen) ∧ (e.peak = true) ∧ (0 ≤ (nodeAdvance { s.node e.node with pendP := false } (s.nodeRate e.node) (max s.tbe.st e.slot)).tp) ∧ (0 ≤ (nodeAdvance { s.node e.node with pendP := false } (s.nodeRate e.node) (max s.tbe.st e.slot)).tc)) ∧
    (∃ (e : WheelEnt) (s : State), (s.steady) ∧ (wheelNext s.tms.wheel = some e)) ∧
    (∃ (s : State), (s.steady)) ∧
    (∃ (p : Nat) (v : Nat) (sub : Nat) (k : Nat) (t1 : TmsSt) (t2 : TmsSt) (t3 : TmsSt) (it : QItem) (rest : List QItem) (s : State), (s.steady) ∧ (s.moves = true) ∧ (p < 32) ∧ (s.portExists p = true) ∧ (s.portAsks p = true) ∧ (s.pickSvc s.tms p = some (v, t1)) ∧ (s.pickSub t1 v = some (sub, t2)) ∧ (s.pickQueue t2 sub = some (k, t3)) ∧ ((s.pqueue true (8 * sub + k)).items = it :: rest) ∧ (it.pkt.tail = none)) ∧
    (∃ (p : Nat) (s : State), (s.running) ∧ (s.moves = true) ∧ (p < 32) ∧ (s.portExists p = true) ∧ ((s.node (portNode p)).tp < 0) ∧ ((s.node (portNode p)).pendP = true) ∧ ((s.node (portNode p)).pendC = true)) :=
  ⟨⟨{ gen := 1 }, { tSvc with tms := { wheel := [{ gen := 1 }] } }, by decide +kernel⟩,
   ⟨{ peak := true, node := portNode 0 }, { tSvc with tms := { wheel := [{ peak := true, node := portNode 0 }] } }, by decide +kernel⟩,
   ⟨{ gen := 1 }, { tSvc with tms := { wheel := [{ gen := 1 }] } }, by decide +kernel⟩,
   ⟨tSvc, by decide +kernel⟩,
   ⟨0, 0, 0, 0, ((tShaped.pickSvc tShaped.tms 0).getD (0, {})).2, ((tShaped.pickSub ((tShaped.pickSvc tShaped.tms 0).getD (0, {})).2 0).getD (0, {})).2, ((tShaped.pickQueue ((tShaped.pickSub ((tShaped.pickSvc tShaped.tms 0).getD (0, {})).2 0).getD (0, {})).2 0).getD (0, {})).2, {}, [], tShaped, by decide +kernel⟩,
   ⟨0, { tSvc with tms := { nodes := ⟨[(portNode 0, { tp := -1, pendC := true, pendP := true })]⟩ } }, by decide +kernel⟩⟩

theorem wit_SwitchCore :
    (∃ (inject : List (Nat × WordCheck)) (s : State), (s.steady) ∧ (s.moves = true) ∧ ((∀ c < 16, (s.cdt.get (16 + c)).pkts = 0)) ∧ (s.creditWait = false) ∧ ((∀ i o, s.offer i o = none)) ∧ ((∀ x ∈ s.swc.xfers, x.tail = none ∧ 1 < x.left))) ∧
    (∃ (x : Xfer) (it : QItem) (rest : List QItem) (s : State), (s.steady) ∧ (s.moves = true) ∧ ((∀ c < 16, (s.cdt.get (16 + c)).pkts = 0)) ∧ (s.creditWait = false) ∧ ((∀ i o, s.offer i o = none)) ∧ (s.swc.xfers = [x]) ∧ (x.tail = none) ∧ (x.left ≤ 1) ∧ (x.queue < 10000) ∧ (x.outp < 4) ∧ ((s.buf.voq.get x.queue).items = it :: rest)) ∧
    (∃ (l : Nat) (c : Cell) (rest : List Cell) (s : State), (s.running) ∧ (s.laneLive l = true) ∧ ((s.lane l).replay = c :: rest)) ∧
    (∃ (l : Nat) (s : State), (s.running) ∧ (s.laneLive l = true) ∧ ((s.lane l).replay = []) ∧ ((s.lane l).linkDue = true)) ∧
    (∃ (l : Nat) (s : State), (s.running) ∧ (s.laneLive l = true) ∧ ((s.lane l).replay = []) ∧ ((s.lane l).linkDue = false) ∧ ((s.lane l).nakDue = false) ∧ (256 ≤ (s.lane l).kept.length)) ∧
    (∃ (l : Nat) (d : Nat) (c : Cell) (s : State), (s.steady) ∧ (s.laneLive l = true) ∧ ((s.lane l).replay = []) ∧ ((s.lane l).linkDue = false) ∧ ((s.lane l).nakDue = false) ∧ ((s.lane l).kept.length < 256) ∧ (s.waitingCell l .express = none) ∧ (s.laneStream l [8] = none) ∧ (s.waitingCell l .peer = some (d, c))) ∧
    (∃ (l : Nat) (c : Cell) (s : State), (s.running) ∧ (s.laneLive l = true) ∧ (s.topoElement l = true) ∧ (c.lseq % 4096 ≠ (s.lane l).rxSeq) ∧ ((s.lane l).gap = none)) ∧
    (∃ (l : Nat) (d : Nat) (k : Nat) (c : Cell) (bs : List Byte) (s : State), (s.steady) ∧ (s.laneLive l = true) ∧ (c.lseq % 4096 = (s.lane l).rxSeq) ∧ (c.dst = s.devId) ∧ (d = c.src % 512) ∧ (k = c.cls % 8) ∧ (s.isPeer d = true) ∧ ((s.peer d).state = .alive) ∧ (c.inc = (s.peer d).inc) ∧ (c.pgen % 16 = (s.peer d).pgen) ∧ (c.seq < 65536) ∧ ((s.peer d).rx.get k = { seq := c.seq }) ∧ (bs = c.payload.take (min 240 c.len)) ∧ (32 ≤ bs.length) ∧ (bs.length < 32 + leVal (bs.take 2)) ∧ (bit (s.reg (Reg.SWC_CT_EN (4 + l / 8))) k = false) ∧ (s.stageRoom (4 + l / 8) (cdiv (bs.length - 32) 256) = true)) ∧
    (∃ (l : Nat) (d : Nat) (k : Nat) (c : Cell) (bs : List Byte) (p : Pkt) (s : State), (s.steady) ∧ (s.laneLive l = true) ∧ (c.lseq % 4096 = (s.lane l).rxSeq) ∧ (c.dst = s.devId) ∧ (d = c.src % 512) ∧ (k = c.cls % 8) ∧ (s.isPeer d = true) ∧ ((s.peer d).state = .alive) ∧ (c.inc = (s.peer d).inc) ∧ (c.pgen % 16 = (s.peer d).pgen) ∧ (c.seq < 65536) ∧ ((s.peer d).rx.get k = { seq := c.seq }) ∧ (bs = c.payload.take (min 240 c.len)) ∧ (32 < bs.length) ∧ (bs.length = 32 + leVal (bs.take 2)) ∧ (p = fabricPkt s (l / 8) bs false false none) ∧ (s.stageRoom (4 + l / 8) (pktCells p) = true)) :=
  ⟨⟨[], { tSvc with swc := { xfers := [{ left := 2 }] } }, both2 (by decide +kernel) ⟨fun _ _ => rfl, by decide +kernel, tNoOffer _ rfl ⟨rfl, rfl, rfl⟩ (fun _ _ => rfl), by decide +kernel⟩⟩,
   ⟨{}, {}, [], { tSvc with swc := { xfers := [{}] }, buf := { voq := ⟨[(0, { items := [{}] })]⟩ } }, both2 (by decide +kernel) ⟨fun _ _ => rfl, by decide +kernel, tNoOffer _ (by funext i; simp [State.voqHeads]) ⟨rfl, rfl, rfl⟩ (fun _ _ => rfl), by decide +kernel⟩⟩,
   ⟨0, {}, [], { tSvc with swc := { lanes := ⟨[(0, { up := true, replay := [{}] })]⟩ } }, by decide +kernel⟩,
   ⟨0, { tSvc with swc := { lanes := ⟨[(0, { up := true, linkDue := true })]⟩ } }, by decide +kernel⟩,
   ⟨0, { tSvc with swc := { lanes := ⟨[(0, { up := true, kept := List.replicate 256 {} })]⟩ } }, by decide +kernel⟩,
   ⟨0, 1, { type := .peer }, { tSvc with swc := { lanes := ⟨[(0, { up := true })]⟩, peers := ⟨[(1, { outq := [{ type := .peer }] })]⟩ }, topo := BitVec.ofNat 2048 (2 ^ 512) }, by decide +kernel⟩,
   ⟨0, { lseq := 5 }, { tSvc with swc := { lanes := ⟨[(0, { up := true })]⟩ }, topo := BitVec.ofNat 2048 (2 ^ (67 * 8)) }, by decide +kernel⟩,
   ⟨0, 1, 0, { src := 1, len := 240, payload := [100, 0] ++ List.replicate 38 0 }, [100, 0] ++ List.replicate 38 0, { tSvc with swc := { lanes := ⟨[(0, { up := true })]⟩, peers := ⟨[(1, { state := .alive })]⟩ }, topo := 2, regs := ⟨[(Reg.PBF_STAGE 4, 10)]⟩ }, by decide +kernel⟩,
   ⟨0, 1, 0, { src := 1, len := 240, payload := [8, 0] ++ List.replicate 38 0 }, [8, 0] ++ List.replicate 38 0, fabricPkt { tSvc with swc := { lanes := ⟨[(0, { up := true })]⟩, peers := ⟨[(1, { state := .alive })]⟩ }, topo := 2, regs := ⟨[(Reg.PBF_STAGE 4, 10)]⟩ } 0 ([8, 0] ++ List.replicate 38 0) false false none, { tSvc with swc := { lanes := ⟨[(0, { up := true })]⟩, peers := ⟨[(1, { state := .alive })]⟩ }, topo := 2, regs := ⟨[(Reg.PBF_STAGE 4, 10)]⟩ }, by decide +kernel⟩⟩

theorem wit_MalminLanes :
    (∃ (l : Nat) (s : State), (s.steady) ∧ (s.laneLive l = true) ∧ ((s.flt.get (fltKey 0 l)).retired = false) ∧ ((s.flt.get (fltKey 0 l)).count < 65535) ∧ (s.thresh 0 ≠ (s.flt.get (fltKey 0 l)).count + 1)) ∧
    (∃ (l : Nat) (s : State), (s.steady) ∧ (s.laneLive l = true) ∧ ((s.flt.get (fltKey 0 l)).retired = false) ∧ ((s.flt.get (fltKey 0 l)).count < 65535) ∧ (s.thresh 0 = (s.flt.get (fltKey 0 l)).count + 1) ∧ ((s.lane l).kept = [])) ∧
    (∃ (l : Nat) (g : Nat) (s : State), (s.running) ∧ (s.laneLive l = true) ∧ ((s.lane l).gap = some g)) ∧
    (∃ (l : Nat) (s : State), (s.running) ∧ (l < 48) ∧ (s.laneWired l = true) ∧ ((s.lane l).lockLost = none)) ∧
    (∃ (l : Nat) (s : State), (s.running) ∧ (l < 48) ∧ (s.laneWired l = true)) ∧
    (∃ (l : Nat) (lost : Nat) (s : State), (s.steady) ∧ (s.laneLive l = true) ∧ ((s.lane l).lockLost = some lost) ∧ ((s.lane l).kept = [])) ∧
    (∃ (l : Nat) (s : State), (s.running) ∧ (s.moves = true) ∧ (l < 48) ∧ ((s.lane l).up = false) ∧ ((s.lane l).retired = false) ∧ (s.laneWired l = true)) ∧
    (∃ (l : Nat) (s : State), (s.running) ∧ (s.moves = true) ∧ (l < 48) ∧ ((s.lane l).up = false) ∧ ((s.lane l).retired = false) ∧ (s.laneWired l = true)) ∧
    (∃ (l : Nat) (s : State), (s.running) ∧ (s.laneLive l = true)) ∧
    (∃ (l : Nat) (c : LinkCell) (s : State), (s.running) ∧ (s.laneLive l = true) ∧ (s.topoElement l = true) ∧ (c.sender = s.topoPeer l) ∧ (c.lane = s.topoLane l) ∧ (c.ack = none)) ∧
    (∃ (l : Nat) (c : LinkCell) (s : State), (s.steady) ∧ (s.laneLive l = true) ∧ (c.sender ≠ s.topoPeer l) ∧ ((s.lane l).kept = [])) ∧
    (∃ (l : Nat) (k : Nat) (c : LinkCell) (r : SMap Nat) (s : State), (s.running) ∧ (s.laneLive l = true) ∧ (s.topoElement l = true) ∧ (c.sender = s.topoPeer l) ∧ (c.lane = s.topoLane l) ∧ (c.ack = none) ∧ ((s.lane l).kept.findIdx? (fun x => x.lseq == c.nakSeq % 4096) = some k) ∧ (r = ((s.lane l).kept.drop k).foldl (fun m x => m.upd x.lseq (· + 1)) (s.lane l).replays) ∧ ((∀ x ∈ (s.lane l).kept.drop k, r.get x.lseq < 8))) ∧
    (∃ (l : Nat) (c : LinkCell) (s : State), (s.steady) ∧ (s.laneLive l = true) ∧ (s.topoElement l = true) ∧ (c.sender = s.topoPeer l) ∧ (c.lane = s.topoLane l) ∧ (c.ack = none)) :=
  ⟨⟨0, { tSvc with swc := { lanes := ⟨[(0, { up := true })]⟩ } }, by decide +kernel⟩,
   ⟨0, { tSvc with swc := { lanes := ⟨[(0, { up := true })]⟩ }, regs := ⟨[(Reg.MGT_FLT_CFG 0, 1)]⟩ }, by decide +kernel⟩,
   ⟨0, 0, { tSvc with swc := { lanes := ⟨[(0, { up := true, gap := some 0 })]⟩ } }, by decide +kernel⟩,
   ⟨0, tSvc, by decide +kernel⟩,
   ⟨0, tSvc, by decide +kernel⟩,
   ⟨0, 0, { tSvc with swc := { lanes := ⟨[(0, { up := true, lockLost := some 0 })]⟩ } }, by decide +kernel⟩,
   ⟨0, tSvc, by decide +kernel⟩,
   ⟨0, tSvc, by decide +kernel⟩,
   ⟨0, { tSvc with swc := { lanes := ⟨[(0, { up := true })]⟩ } }, by decide +kernel⟩,
   ⟨0, {}, { tSvc with swc := { lanes := ⟨[(0, { up := true })]⟩ }, topo := BitVec.ofNat 2048 (2 ^ (67 * 8)) }, by decide +kernel⟩,
   ⟨0, { sender := 5 }, { tSvc with swc := { lanes := ⟨[(0, { up := true })]⟩ } }, by decide +kernel⟩,
   ⟨0, 0, {}, ((tKept.lane 0).kept.drop 0).foldl (fun m x => m.upd x.lseq (· + 1)) (tKept.lane 0).replays, tKept, by decide +kernel⟩,
   ⟨0, {}, { tSvc with swc := { lanes := ⟨[(0, { up := true })]⟩ }, topo := BitVec.ofNat 2048 (2 ^ (67 * 8)) }, by decide +kernel⟩⟩

theorem wit_Peers :
    (∃ (d : Nat) (s : State), (s.steady) ∧ (s.moves = true) ∧ (s.isPeer d = true) ∧ ((s.peer d).state = .new) ∧ (s.reachable d = true) ∧ ((s.peer d).joinedAt = none)) ∧
    (∃ (d : Nat) (s : State), (s.steady) ∧ (s.moves = true) ∧ (s.isPeer d = true) ∧ ((s.peer d).state = .joining)) ∧
    (∃ (l : Nat) (d : Nat) (c : Cell) (s : State), (s.steady) ∧ (s.laneLive l = true) ∧ (c.lseq % 4096 = (s.lane l).rxSeq) ∧ (c.dst = s.devId) ∧ (d = c.src % 512) ∧ (s.isPeer d = true) ∧ ((s.peer d).state = .dead)) ∧
    (∃ (l : Nat) (d : Nat) (c : Cell) (s : State), (s.steady) ∧ (s.laneLive l = true) ∧ (c.lseq % 4096 = (s.lane l).rxSeq) ∧ (c.dst = s.devId) ∧ (d = c.src % 512) ∧ (s.isPeer d = true) ∧ ((s.peer d).state = .joining) ∧ (joinGen c = (s.peer d).proposed)) ∧
    (∃ (d : Nat) (s : State), (s.steady) ∧ (s.moves = true) ∧ (s.isPeer d = true) ∧ ((s.peer d).state = .alive) ∧ ((∀ c < 8, (s.buf.voq.get (8 * d + c)).items = []))) ∧
    (∃ (l : Nat) (d : Nat) (c : Cell) (s : State), (s.steady) ∧ (s.laneLive l = true) ∧ (c.lseq % 4096 = (s.lane l).rxSeq) ∧ (c.dst = s.devId) ∧ (d = c.src % 512) ∧ (s.isPeer d = true) ∧ ((s.peer d).state = .alive) ∧ (c.pgen % 16 = (s.peer d).pgen) ∧ (c.inc = (s.peer d).inc) ∧ ((∀ c < 8, (s.buf.voq.get (8 * d + c)).items = []))) ∧
    (∃ (l : Nat) (d : Nat) (c : Cell) (s : State), (s.steady) ∧ (s.laneLive l = true) ∧ (c.lseq % 4096 = (s.lane l).rxSeq) ∧ (c.dst = s.devId) ∧ (d = c.src % 512) ∧ (s.isPeer d = true) ∧ ((s.peer d).state = .alive) ∧ (c.inc ≠ (s.peer d).inc) ∧ ((∀ c < 8, (s.buf.voq.get (8 * d + c)).items = []))) ∧
    (∃ (l : Nat) (d : Nat) (c : Cell) (s : State), (s.steady) ∧ (s.laneLive l = true) ∧ (c.lseq % 4096 = (s.lane l).rxSeq) ∧ (c.dst = s.devId) ∧ (d = c.src % 512) ∧ (s.isPeer d = true) ∧ ((s.peer d).state = .alive) ∧ (c.inc = (s.peer d).inc) ∧ (c.pgen % 16 = (s.peer d).pgen) ∧ ((∀ n < 8, s.regF (Reg.SWC_CREDIT_LIMIT n) 18 0 = 0))) ∧
    (∃ (l : Nat) (d : Nat) (k : Nat) (v : Nat) (c : Cell) (s : State), (s.steady) ∧ (s.md.mode ≠ .drain) ∧ (s.laneLive l = true) ∧ (c.lseq % 4096 = (s.lane l).rxSeq) ∧ (c.dst = s.devId) ∧ (d = c.src % 512) ∧ (s.isPeer d = true) ∧ ((s.peer d).state = .alive) ∧ (c.inc = (s.peer d).inc) ∧ (c.pgen % 16 = (s.peer d).pgen) ∧ (peerEntries c = [(k, false, v)]) ∧ (k < 8) ∧ (1 ≤ v) ∧ (v ≤ 16) ∧ (s.swc.peers.cells = [(d, s.peer d)]) ∧ ((∀ n < 8, (s.peer d).backlog.get n = 0)) ∧ (s.creditUse k + v ≤ s.regF (Reg.SWC_CREDIT_LIMIT k) 18 0)) ∧
    (∃ (l : Nat) (d : Nat) (c : Cell) (s : State), (s.steady) ∧ (s.laneLive l = true) ∧ (c.lseq % 4096 = (s.lane l).rxSeq) ∧ (c.dst = s.devId) ∧ (d = c.src % 512) ∧ (s.isPeer d = true) ∧ ((s.peer d).state = .alive) ∧ (c.inc = (s.peer d).inc) ∧ (c.pgen % 16 = (s.peer d).pgen)) ∧
    (∃ (d : Nat) (cs : List Nat) (s : State), (s.steady) ∧ (s.moves = true) ∧ (s.isPeer d = true) ∧ ((s.peer d).state = .alive) ∧ (s.backlogged d ≠ []) ∧ (cs = (s.backlogged d).filter (fun c => decide ((s.peer d).reportAt.get c + 10000 ≤ max s.tbe.st (s.requestDue d))))) :=
  ⟨⟨1, { tSvc with swc := { lanes := ⟨[(0, { up := true })]⟩, peers := ⟨[(1, { state := .new })]⟩ }, topo := BitVec.ofNat 2048 (2 + 2 ^ 512) }, by decide +kernel⟩,
   ⟨1, { tSvc with swc := { lanes := ⟨[(0, { up := true })]⟩, peers := ⟨[(1, { state := .joining })]⟩ }, topo := BitVec.ofNat 2048 (2 + 2 ^ 512) }, by decide +kernel⟩,
   ⟨0, 1, { src := 1 }, { tSvc with swc := { lanes := ⟨[(0, { up := true })]⟩, peers := ⟨[(1, { state := .dead })]⟩ }, topo := BitVec.ofNat 2048 (2 + 2 ^ 512) }, by decide +kernel⟩,
   ⟨0, 1, { src := 1 }, { tSvc with swc := { lanes := ⟨[(0, { up := true })]⟩, peers := ⟨[(1, { state := .joining })]⟩ }, topo := BitVec.ofNat 2048 (2 + 2 ^ 512) }, by decide +kernel⟩,
   ⟨1, { tSvc with swc := { lanes := ⟨[(0, { up := true })]⟩, peers := ⟨[(1, { state := .alive })]⟩ }, topo := BitVec.ofNat 2048 (2 + 2 ^ 512) }, by decide +kernel⟩,
   ⟨0, 1, { src := 1 }, { tSvc with swc := { lanes := ⟨[(0, { up := true })]⟩, peers := ⟨[(1, { state := .alive })]⟩ }, topo := BitVec.ofNat 2048 (2 + 2 ^ 512) }, by decide +kernel⟩,
   ⟨0, 1, { src := 1, inc := 5 }, { tSvc with swc := { lanes := ⟨[(0, { up := true })]⟩, peers := ⟨[(1, { state := .alive })]⟩ }, topo := BitVec.ofNat 2048 (2 + 2 ^ 512) }, by decide +kernel⟩,
   ⟨0, 1, { src := 1, payload := [0, 1, 0, 0, 0, 0, 0, 0, 9] }, { tSvc with swc := { lanes := ⟨[(0, { up := true })]⟩, peers := ⟨[(1, { state := .alive })]⟩ }, topo := BitVec.ofNat 2048 (2 + 2 ^ 512) }, by decide +kernel⟩,
   ⟨0, 1, 0, 9, { src := 1, payload := [0, 1, 0, 0, 0, 0, 0, 0, 9] }, { tSvc with swc := { lanes := ⟨[(0, { up := true })]⟩, peers := ⟨[(1, { state := .alive })]⟩ }, topo := BitVec.ofNat 2048 (2 + 2 ^ 512), regs := ⟨[(Reg.SWC_CREDIT_LIMIT 0, 100)]⟩ }, by decide +kernel⟩,
   ⟨0, 1, { src := 1, payload := [0, 1, 0, 0, 0, 0, 0, 0, 9] }, { tSvc with swc := { lanes := ⟨[(0, { up := true })]⟩, peers := ⟨[(1, { state := .alive })]⟩ }, topo := BitVec.ofNat 2048 (2 + 2 ^ 512) }, by decide +kernel⟩,
   ⟨1, [0], { tSvc with swc := { lanes := ⟨[(0, { up := true })]⟩, peers := ⟨[(1, { state := .alive })]⟩ }, topo := BitVec.ofNat 2048 (2 + 2 ^ 512), buf := { voq := ⟨[(8, { items := [{ cells := 3 }] })]⟩ } }, by decide +kernel⟩⟩

theorem wit_PodFrames :
    (∃ (l : Nat) (fseq : Nat) (err : Word512) (f : PodFrame) (s : State), (s.running) ∧ (s.moves = true) ∧ (l < 3) ∧ (bit err.toNat parityBit = false) ∧ (s.pod.frames.find? (fun f => f.fseq == fseq && !f.vote && f.decided.isNone) = some f) ∧ (s.descSlot l err = 0) ∧ (s.podAccepts l err = true) ∧ (f.d0 = none) ∧ (f.d1 = none)) ∧
    (∃ (l : Nat) (fseq : Nat) (err : Word512) (s : State), (s.running) ∧ (s.moves = true) ∧ (l < 3) ∧ (s.podAccepts l err = false)) ∧
    (∃ (l : Nat) (fseq : Nat) (a : PodDesc) (f : PodFrame) (s : State), (s.steady) ∧ (s.moves = true) ∧ (l < 3) ∧ (s.pod.frames = [f]) ∧ (f.fseq = fseq) ∧ (f.vote = false) ∧ (f.decided = none) ∧ ((s.podLane l).slot = 1) ∧ (s.podAccepts l 0 = true) ∧ (f.d0 = some a) ∧ (f.d1 = none) ∧ (podAgree s.pod.gen a (s.podDesc l 1 (s.podLane l).gen false f) = true) ∧ (datU a 5 1 = 2) ∧ (s.pod.shadow + 1 ≠ 64)) ∧
    (∃ (fseq : Nat) (at_ : Nat) (f : PodFrame) (s : State), (s.running) ∧ (s.moves = true) ∧ (s.pod.frames.find? (fun f => f.fseq == fseq && !f.vote && f.decided.isNone) = some f) ∧ (f.firstAt = some at_)) ∧
    (∃ (fseq : Nat) (err : Word512) (f : PodFrame) (s : State), (s.steady) ∧ (s.moves = true) ∧ (s.pod.frames = [f]) ∧ (f.fseq = fseq) ∧ (f.vote = true) ∧ (f.decided = none) ∧ (s.roleLane 2 = none)) ∧
    (∃ (fseq : Nat) (r : Nat) (a : PodDesc) (f : PodFrame) (s : State), (s.steady) ∧ (s.moves = true) ∧ (s.pod.frames = [f]) ∧ (f.fseq = fseq) ∧ (f.vote = true) ∧ (f.decided = none) ∧ (s.roleLane 2 = some r) ∧ ((s.pod.fseq + 65536 - fseq) % 65536 ≤ 32) ∧ (f.d0 = some a) ∧ (descBody a = descBody (s.podDesc r 2 s.pod.gen false f)) ∧ (datU a 5 1 = 2) ∧ ((s.podLane f.lane1).retired = false)) ∧
    (∃ (l : Nat) (d : Nat) (c : Cell) (bs : List Byte) (s : State), (s.steady) ∧ (s.laneLive l = true) ∧ (c.lseq % 4096 = (s.lane l).rxSeq) ∧ (c.dst = s.devId) ∧ (d = c.src % 512) ∧ (s.isPeer d = true) ∧ ((s.peer d).state = .alive) ∧ (c.inc = (s.peer d).inc) ∧ (c.pgen % 16 = (s.peer d).pgen) ∧ (c.seq < 65536) ∧ ((s.peer d).rx.get 8 = { seq := c.seq }) ∧ (bs = c.payload.take (min 240 c.len)) ∧ (32 ≤ bs.length) ∧ (bs.length < 32 + leVal (bs.take 2)) ∧ (bs.length - 32 < 256 * s.regF Reg.SWC_CT_CFG 5 0)) ∧
    (∃ (l : Nat) (d : Nat) (port : Nat) (c : Cell) (bs : List Byte) (s : State), (s.steady) ∧ (s.laneLive l = true) ∧ (c.lseq % 4096 = (s.lane l).rxSeq) ∧ (c.dst = s.devId) ∧ (d = c.src % 512) ∧ (s.isPeer d = true) ∧ ((s.peer d).state = .alive) ∧ (c.inc = (s.peer d).inc) ∧ (c.pgen % 16 = (s.peer d).pgen) ∧ (c.seq < 65536) ∧ ((s.peer d).rx.get 8 = { seq := c.seq }) ∧ (bs = c.payload.take (min 240 c.len)) ∧ (32 < bs.length) ∧ (bs.length = 32 + leVal (bs.take 2)) ∧ (port = (byteAt bs 2).toNat % 32) ∧ (s.portExists port = true) ∧ ((s.port.get port).up = true) ∧ (s.expCells (s.pod.exq.get port) + cdiv (bs.length - 32) 256 ≤ s.regF Reg.XPR_QLIMIT 13 0) ∧ (s.expUsed + cdiv (bs.length - 32) 256 ≤ 8192)) ∧
    (∃ (d : Nat) (k : Nat) (e : EarlyCell) (s : State), (s.steady) ∧ (s.moves = true) ∧ (k ≤ 8) ∧ ((s.peer d).state = .alive) ∧ (((s.peer d).rx.get k).early = [e]) ∧ (e.lost = false) ∧ (e.cell.seq < 65536) ∧ (((s.peer d).rx.get k).seq < 65536)) ∧
    (∃ (d : Nat) (k : Nat) (e : EarlyCell) (s : State), (s.steady) ∧ (s.moves = true) ∧ (k ≤ 8) ∧ ((s.peer d).state = .alive) ∧ (((s.peer d).rx.get k).early = [e]) ∧ (e.lost = false) ∧ (e.cell.seq < 65536) ∧ (((s.peer d).rx.get k).seq < 65536) ∧ (((s.peer d).rx.get k).tail = none) ∧ (e.cell.fpo = 0xFF)) :=
  ⟨⟨0, 0, 0, {}, { tSvc with pod := { lanes := ⟨[(0, { role := 0, slot := 0 }), (1, { role := 1, slot := 1 }), (2, { role := 2, slot := 2 })]⟩, frames := [{}] } }, by decide +kernel⟩,
   ⟨0, 7, 256, { tSvc with pod := { lanes := ⟨[(0, { role := 0, slot := 0 }), (1, { role := 1, slot := 1 }), (2, { role := 2, slot := 2 })]⟩, frames := [{}] } }, by decide +kernel⟩,
   ⟨1, 0, tDesc, { d0 := some tDesc }, { tSvc with pod := { lanes := tLanes, frames := [{ d0 := some tDesc }] } }, by decide +kernel⟩,
   ⟨0, 0, { firstAt := some 0 }, { tSvc with pod := { frames := [{ firstAt := some 0 }] } }, by decide +kernel⟩,
   ⟨0, 0, { vote := true }, { tSvc with pod := { frames := [{ vote := true }] } }, by decide +kernel⟩,
   ⟨0, 2, tDesc, { vote := true, d0 := some tDesc, lane1 := 1 }, { tSvc with pod := { lanes := tLanes, frames := [{ vote := true, d0 := some tDesc, lane1 := 1 }] } }, by decide +kernel⟩,
   ⟨0, 1, { src := 1, len := 240, payload := [100, 0] ++ List.replicate 38 0 }, [100, 0] ++ List.replicate 38 0, { tSvc with swc := { lanes := ⟨[(0, { up := true })]⟩, peers := ⟨[(1, { state := .alive })]⟩ }, topo := 2, regs := ⟨[(Reg.SWC_CT_CFG, 1)]⟩ }, by decide +kernel⟩,
   ⟨0, 1, 0, { src := 1, len := 240, payload := [8, 0] ++ List.replicate 38 0 }, [8, 0] ++ List.replicate 38 0, { tSvc with swc := { lanes := ⟨[(0, { up := true })]⟩, peers := ⟨[(1, { state := .alive })]⟩ }, topo := 2, regs := ⟨[(Reg.XPR_QLIMIT, 10)]⟩, port := ⟨[(0, { up := true })]⟩ }, by decide +kernel⟩,
   ⟨1, 0, { cell := { seq := 1 } }, { tSvc with swc := { peers := ⟨[(1, { state := .alive, rx := ⟨[(0, { early := [{ cell := { seq := 1 } }] })]⟩ })]⟩ } }, by decide +kernel⟩,
   ⟨1, 0, { cell := { seq := 1, fpo := 0xFF } }, { tSvc with swc := { peers := ⟨[(1, { state := .alive, rx := ⟨[(0, { early := [{ cell := { seq := 1, fpo := 0xFF } }] })]⟩ })]⟩ } }, by decide +kernel⟩⟩

theorem wit_PodLanes :
    (∃ (l : Nat) (s : State), (s.running) ∧ (s.selfTests l = true) ∧ (s.votePending = false)) ∧
    (∃ (l : Nat) (a : PodDesc) (f : PodFrame) (s : State), (s.running) ∧ (s.selfTests l = true) ∧ (s.votePending = false) ∧ (s.pod.shadowOf = some (f, a)) ∧ (s.pod.shadowDone.getLsbD l = false) ∧ (descBody (s.podDesc l 2 s.pod.gen false f) = descBody a)) ∧
    (∃ (l : Nat) (c : Nat) (s : State), (s.steady) ∧ (s.moves = true) ∧ (l < 3) ∧ ((s.podLane l).retired = false) ∧ ((s.podLane l).retiring = some c) ∧ ((∀ k < 3, k ≠ l → (s.podLane k).retiring = none))) ∧
    (∃ (l : Nat) (s : State), (s.steady) ∧ (s.moves = true) ∧ (s.mayReturn l = true) ∧ (s.podOff = false) ∧ ((∀ k < 3, (s.podLane k).retiring = none))) ∧
    (∃ (l : Nat) (s : State), (s.hostSets 15) ∧ (l < 3) ∧ (s.pod.forceOut = 0) ∧ ((s.podLane l).retired = false) ∧ ((s.podLane l).retiring = none) ∧ (2 ≤ (s.inService.filter (fun k => k != l && (s.podLane k).retiring.isNone)).length)) ∧
    (∃ (l : Nat) (s : State), (s.hostSets 15) ∧ (l < 3) ∧ (s.pod.forceOut = 0) ∧ ((s.podLane l).retired = false) ∧ ((s.podLane l).retiring = none) ∧ ((s.inService.filter (fun k => k != l && (s.podLane k).retiring.isNone)).length < 2)) ∧
    (∃ (v : Word32) (s : State), (s.hostSets 15) ∧ (bit v.toNat 8 = true) ∧ (s.pod.test.busy = false) ∧ (v.toNat % 4 < 3) ∧ (s.md.mode = .maintenance)) ∧
    (∃ (v : Word32) (s : State), (s.hostSets 15) ∧ (bit v.toNat 8 = false)) ∧
    (∃ (v : Word32) (s : State), (s.hostSets 15) ∧ (bit v.toNat 8 = true) ∧ ((v.toNat % 4 = 3 ∨ s.md.mode ≠ .maintenance ∧ (s.podLane (v.toNat % 4)).retired = false ∧ (s.podLane (v.toNat % 4)).role ≠ 2))) ∧
    (∃ (pass : Bool) (s : State), (s.running) ∧ (s.moves = true) ∧ (s.pod.test.busy = true)) ∧
    (∃ (s : State), (s.steady) ∧ (s.moves = true) ∧ (s.pod.live = true) ∧ ((let rw := decide (65536 ≤ s.pod.scrub); let k := if rw then s.pod.scrub - 65536 else s.pod.scrub; ∀ l < 3, s.podWord rw l k = s.podWord rw 0 k))) ∧
    (∃ (e : Word32) (v : Word32) (s : State), (s.steady) ∧ (s.moves = true) ∧ (s.pod.live = true) ∧ (s.pod.scrub < 65536) ∧ ((∀ l < 3, (s.podLane l).ent.get s.pod.scrub = v)) ∧ (e ≠ 0) ∧ ((s.podLane 0).retired = false)) :=
  ⟨⟨2, { tSvc with pod := { live := true, lanes := tLanes } }, by decide +kernel⟩,
   ⟨2, tPod.podDesc 2 2 0 false {}, {}, { tSvc with pod := { live := true, lanes := tLanes, shadowOf := some ({}, tPod.podDesc 2 2 0 false {}) } }, by decide +kernel⟩,
   ⟨0, 1, { tSvc with pod := { lanes := ⟨[(0, { retiring := some 1 })]⟩ } }, by decide +kernel⟩,
   ⟨0, { tSvc with pod := { lanes := ⟨[(0, { retired := true, clean := 1024 })]⟩ } }, by decide +kernel⟩,
   ⟨0, { tMode .service with pod := { lanes := tLanes } }, by decide +kernel⟩,
   ⟨0, { tSvc with pod := { lanes := ⟨[(1, { retired := true })]⟩ } }, by decide +kernel⟩,
   ⟨0x101, tMode .maintenance, by decide +kernel⟩,
   ⟨3, tSvc, by decide +kernel⟩,
   ⟨0x103, tSvc, by decide +kernel⟩,
   ⟨true, { tSvc with pod := { test := { unit := 1, busy := true } } }, by decide +kernel⟩,
   ⟨{ tSvc with pod := { live := true } }, by decide +kernel⟩,
   ⟨5, 9, { tSvc with pod := { live := true, lanes := ⟨[(0, { ent := ⟨[(0, 9)]⟩ }), (1, { ent := ⟨[(0, 9)]⟩ }), (2, { ent := ⟨[(0, 9)]⟩ })]⟩ } }, by decide +kernel⟩⟩

theorem wit_HbmControllers :
    (∃ (n : Nat) (a : Nat) (rmw : BurstOutcome) (bad : List Nat) (s : State), (s.running) ∧ (n < 96) ∧ ((s.hbmAt a).1 = n) ∧ (s.pcRetired n = false) ∧ ((s.pc n).relocating = false) ∧ ((s.pc n).stopped = false) ∧ ((s.pc n).sparing = []) ∧ ((s.pc n).dlyHeld = none) ∧ ((s.pc n).heldReads = []) ∧ ((s.pc n).heldWrites = []) ∧ ((s.pc n).reads.length < 64) ∧ (s.refreshOverdue n = none) ∧ (s.swept n = true)) ∧
    (∃ (n : Nat) (l : Nat) (q : HbmReq) (rmw : BurstOutcome) (bad : List Nat) (s : State), (s.running) ∧ (n < 96) ∧ ((s.pc n).relocating = false) ∧ ((s.pc n).stopped = false) ∧ (s.swept n = false) ∧ (s.refreshOverdue n = none) ∧ ((s.pc n).reads = [q]) ∧ ((s.pc n).writes = []) ∧ ((s.pc n).heldReads = []) ∧ ((s.pc n).heldWrites = []) ∧ ((s.pc n).sparing = []) ∧ ((s.pc n).dlyHeld = none) ∧ (s.now < q.at_ + 2000) ∧ (l = (s.hbmAt q.addr).2) ∧ ((s.pc n).rows.get (s.physRow n l).1 = some (s.physRow n l).2)) ∧
    (∃ (n : Nat) (b : Nat) (rmw : BurstOutcome) (bad : List Nat) (s : State), (s.running) ∧ (n < 96) ∧ ((s.pc n).relocating = false) ∧ ((s.pc n).stopped = false) ∧ ((s.pc n).sparing = []) ∧ (s.refreshOverdue n = some b)) ∧
    (∃ (n : Nat) (q : HbmReq) (rmw : BurstOutcome) (bad : List Nat) (s : State), (s.running) ∧ (n < 96) ∧ ((s.pc n).relocating = false) ∧ ((s.pc n).stopped = false) ∧ (s.swept n = false) ∧ (s.patterned n = false) ∧ (s.refreshOverdue n = none) ∧ ((s.pc n).reads = [q]) ∧ ((s.pc n).writes = []) ∧ ((s.pc n).heldReads = []) ∧ ((s.pc n).heldWrites = []) ∧ ((s.pc n).dlyHeld = none) ∧ (Pc_sparing (s.pc n) (hbmBank (s.hbmAt q.addr).2) (hbmRow (s.hbmAt q.addr).2) = true) ∧ ((∀ x ∈ (s.pc n).sparing, s.now < x.2.2 + 2000))) ∧
    (∃ (n : Nat) (rmw : BurstOutcome) (bad : List Nat) (s : State), (s.running) ∧ (n < 96) ∧ ((s.pc n).relocating = true) ∧ (s.now < (s.pc n).relocAt + 1000000000) ∧ ((s.pc n).sparing = []) ∧ ((s.pc n).reads = []) ∧ ((s.pc n).writes = []) ∧ ((s.pc n).heldReads = []) ∧ ((s.pc n).heldWrites = [])) ∧
    (∃ (a : Nat) (s : State), (s.running) ∧ ((s.pc (s.hbmAt a).1).poisoned.get ((s.hbmAt a).2 / 32) = false)) ∧
    (∃ (a : Nat) (n : Nat) (l : Nat) (k : Nat) (old : Nat) (s : State), (s.running) ∧ (a < 0xC00000000) ∧ (s.hbmAt a = (n, l)) ∧ (s.pcRetired n = false) ∧ ((s.pc n).poisoned.get (l / 32) = false) ∧ (s.rowEntry n (hbmBank l) (hbmRow l) = (k, old))) ∧
    (∃ (a : Nat) (n : Nat) (l : Nat) (k : Nat) (old : Nat) (b : Nat) (s : State), (s.running) ∧ (a < 0xC00000000) ∧ (s.hbmAt a = (n, l)) ∧ (s.pcRetired n = false) ∧ ((s.pc n).poisoned.get (l / 32) = false) ∧ (s.rowEntry n (hbmBank l) (hbmRow l) = (k, old)) ∧ (old + 1 < s.thresh 2) ∧ ((s.flt.get (fltKey 3 n)).count + 1 < s.thresh 3) ∧ (b = hbmAddr n l / 32 * 32) ∧ ((s.hbmAt b).1 = n) ∧ ((s.pc n).heldReads = []) ∧ ((s.pc n).heldWrites = []) ∧ ((s.pc n).dlyHeld = none) ∧ ((∀ q ∈ (s.pc n).writes, q.addr / 32 ≠ b / 32)) ∧ ((s.pc n).writes.length < 32)) ∧
    (∃ (a : Nat) (n : Nat) (l : Nat) (s : State), (s.running) ∧ (a < 0xC00000000) ∧ (s.hbmAt a = (n, l)) ∧ (s.pcRetired n = false)) ∧
    (∃ (n : Nat) (due : Nat) (s : State), (s.running) ∧ (n < 96) ∧ ((s.pc n).stopped = false) ∧ (s.swept n = false) ∧ (s.md.mode ≠ .load) ∧ ((s.pc n).poisoned.get (s.pc n).scrub = false) ∧ (due = paceDue 86400000000000 16777216 (s.pc n).scrub (s.pc n).scrubAt)) ∧
    (∃ (n : Nat) (bank : Nat) (hot : BitVec 3) (s : State), (s.running) ∧ (n < 96) ∧ (bank < 32) ∧ ((s.pc n).stopped = false)) ∧
    (∃ (s : State), (s.running)) ∧
    (∃ (n : Nat) (bank : Nat) (row : Nat) (bad : List Nat) (own : List Nat) (s : State), (s.running) ∧ (Pc_sparing (s.pc n) bank row = true) ∧ ((s.pc n).retired = false) ∧ (own = (List.range 64).filter (fun k => (s.fltRow.get (64 * n + k)).any (fun x => x.1 == bank && x.2.1 == row)))) ∧
    (∃ (n : Nat) (bad : List Nat) (s : State), (s.running) ∧ ((s.pc n).relocating = true)) ∧
    (∃ (n : Nat) (k : Nat) (v : Word32) (s : State), (s.hostSets 14) ∧ (n < 96) ∧ (k < 4) ∧ (s.md.mode = .maintenance) ∧ ((s.pc n).dlyHeld = none) ∧ ((s.pc n).reads = []) ∧ ((s.pc n).writes = []) ∧ ((s.pc n).heldReads = []) ∧ ((s.pc n).heldWrites = [])) ∧
    (∃ (n : Nat) (k : Nat) (v : Word32) (s : State), (s.hostSets 14) ∧ (n < 96) ∧ (k < 4) ∧ (s.md.mode = .maintenance) ∧ ((s.pc n).dlyHeld = none) ∧ (((s.pc n).reads ≠ [] ∨ (s.pc n).writes ≠ []))) ∧
    (∃ (v : Word32) (w : Nat) (s : State), (s.hostSets 14) ∧ (w = setBit v.toNat 26 false) ∧ (bit w 28 = true) ∧ (s.hmc.test.busy = false) ∧ (w % 128 < 96) ∧ (bit w 26 = false) ∧ ((s.md.mode = .maintenance ∨ s.pcRetired (w % 128) = true))) ∧
    (∃ (v : Word32) (w : Nat) (s : State), (s.hostSets 14) ∧ (w = setBit v.toNat 26 true) ∧ (bit w 28 = true) ∧ (s.hmc.test.busy = false) ∧ (w % 128 < 96) ∧ (bit w 26 = true) ∧ (s.md.mode = .maintenance) ∧ (bits w 19 16 ≤ 11)) ∧
    (∃ (v : Word32) (w : Nat) (s : State), (s.hostSets 14) ∧ (w = setBit v.toNat 26 false) ∧ (bit w 28 = true) ∧ (bit w 26 = false) ∧ ((95 < w % 128 ∨ s.md.mode ≠ .maintenance ∧ s.pcRetired (w % 128) = false))) ∧
    (∃ (pass : Bool) (left : Nat) (right : Nat) (u : State) (s : State), (s.running) ∧ (s.hmc.test.busy = true) ∧ (s.hmc.testSweep = true) ∧ (u = runTo (s.hmc.testAt + (if s.hmc.testParam = 11 then 128 else 256) * 100000) s.fresh)) ∧
    (∃ (pass : Bool) (left : Nat) (right : Nat) (s : State), (s.running) ∧ (s.hmc.test.busy = true) ∧ (s.hmc.testSweep = false)) ∧
    (∃ (cls : Nat) (u : Nat) (s : State), (s.running) ∧ (cls ≤ 6) ∧ (cls ≠ 4) ∧ (cls ≠ 2) ∧ (u < 8192) ∧ ((s.flt.get (fltKey cls u)).retired = false)) :=
  ⟨⟨0, 0, .ok, [], { tSvc with hmc := { test := { unit := 0, busy := true }, testSweep := true } }, both9 (by decide +kernel) (both2 (by decide +kernel) ⟨tFresh_due _ rfl _, by decide +kernel⟩)⟩,
   ⟨0, 0, {}, .ok, [], { tSvc with hmc := { pcs := ⟨[(0, { reads := [{}], rows := ⟨[(0, some 0)]⟩ })]⟩ } }, both5 (by decide +kernel) ⟨tFresh_due _ rfl _, by decide +kernel⟩⟩,
   ⟨0, 0, .ok, [], tLate, both5 (by decide +kernel) (tLate_due)⟩,
   ⟨0, {}, .ok, [], { tSvc with hmc := { pcs := ⟨[(0, { reads := [{}], sparing := [(0, 0, 0)] })]⟩ } }, both6 (by decide +kernel) ⟨tFresh_due _ rfl _, by decide +kernel⟩⟩,
   ⟨0, .ok, [], { tSvc with hmc := { pcs := ⟨[(0, { relocating := true })]⟩ } }, by decide +kernel⟩,
   ⟨0, tSvc, by decide +kernel⟩,
   ⟨0, 0, 0, 0, 0, tSvc, by decide +kernel⟩,
   ⟨0, 0, 0, 0, 0, 0, { tSvc with regs := ⟨[(Reg.MGT_FLT_CFG 2, 5), (Reg.MGT_FLT_CFG 3, 5)]⟩ }, by decide +kernel⟩,
   ⟨0, 0, 0, tSvc, by decide +kernel⟩,
   ⟨0, paceDue 86400000000000 16777216 0 0, tSvc, both6 (by decide +kernel) (rfl)⟩,
   ⟨0, 0, 0, tSvc, by decide +kernel⟩,
   ⟨tSvc, by decide +kernel⟩,
   ⟨0, 1, 2, [5], [], { tSvc with hmc := { pcs := ⟨[(0, { sparing := [(1, 2, 0)] })]⟩ } }, by decide +kernel⟩,
   ⟨0, [], { tSvc with hmc := { pcs := ⟨[(0, { relocating := true })]⟩ } }, by decide +kernel⟩,
   ⟨0, 0, 7, tMode .maintenance, by decide +kernel⟩,
   ⟨0, 0, 7, { tMode .maintenance with hmc := { pcs := ⟨[(0, { reads := [{}] })]⟩ } }, by decide +kernel⟩,
   ⟨0x10000000, 0x10000000, tMode .maintenance, by decide +kernel⟩,
   ⟨0x10000000, 0x14000000, tMode .maintenance, by decide +kernel⟩,
   ⟨0x1000007F, 0x1000007F, tSvc, by decide +kernel⟩,
   ⟨true, 3, 4, runTo (({ tSvc with hmc := { test := { unit := 5, busy := true }, testSweep := true } } : State).hmc.testAt + 256 * 100000) ({ tSvc with hmc := { test := { unit := 5, busy := true }, testSweep := true } } : State).fresh, { tSvc with hmc := { test := { unit := 5, busy := true }, testSweep := true } }, both3 (by decide +kernel) (rfl)⟩,
   ⟨true, 3, 4, { tSvc with hmc := { test := { unit := 5, busy := true } } }, by decide +kernel⟩,
   ⟨0, 5, { tSvc with flt := ⟨[(fltKey 0 5, { count := 3, peak := 3 })]⟩ }, by decide +kernel⟩⟩

theorem wit_RegisterMicroOps :
    (∃ (t : Nat) (d : Nat) (a : Nat) (b : Nat) (imm : Nat) (s : State), (d < 16) ∧ (a < 16) ∧ (b < 16) ∧ (imm < 16384) ∧ (s.issues t (microR 0x00 d a b imm))) ∧
    (∃ (t : Nat) (d : Nat) (a : Nat) (b : Nat) (imm : Nat) (s : State), (d < 16) ∧ (a < 16) ∧ (b < 16) ∧ (imm < 16384) ∧ (s.issues t (microR 0x06 d a b imm))) ∧
    (∃ (t : Nat) (d : Nat) (a : Nat) (b : Nat) (imm : Nat) (s : State), (d < 16) ∧ (a < 16) ∧ (b < 16) ∧ (imm < 16384) ∧ (s.issues t (microR 0x07 d a b imm))) ∧
    (∃ (t : Nat) (d : Nat) (a : Nat) (b : Nat) (imm : Nat) (s : State), (d < 16) ∧ (a < 16) ∧ (b < 16) ∧ (imm < 16384) ∧ (s.issues t (microR 0x08 d a b imm))) ∧
    (∃ (t : Nat) (d : Nat) (a : Nat) (b : Nat) (imm : Nat) (s : State), (d < 16) ∧ (a < 16) ∧ (b < 16) ∧ (imm < 16384) ∧ (s.issues t (microR 0x09 d a b imm))) ∧
    (∃ (t : Nat) (d : Nat) (a : Nat) (b : Nat) (imm : Nat) (s : State), (d < 16) ∧ (a < 16) ∧ (b < 16) ∧ (imm < 16384) ∧ (imm % 64 + (imm / 64 % 64 + 1) ≤ 64) ∧ (s.issues t (microR 0x0A d a b imm))) ∧
    (∃ (t : Nat) (d : Nat) (a : Nat) (b : Nat) (imm : Nat) (s : State), (d < 16) ∧ (a < 16) ∧ (b < 16) ∧ (imm < 16384) ∧ (s.issues t (microR 0x1C d a b imm))) ∧
    (∃ (t : Nat) (d : Nat) (a : Nat) (b : Nat) (imm : Nat) (s : State), (d < 16) ∧ (a < 16) ∧ (b < 16) ∧ (imm < 16384) ∧ (s.issues t (microR 0x1A d a b imm))) ∧
    (∃ (t : Nat) (d : Nat) (a : Nat) (b : Nat) (imm : Nat) (s : State), (d < 16) ∧ (a < 16) ∧ (b < 16) ∧ (imm < 16384) ∧ (s.issues t (microR 0x1B d a b imm))) ∧
    (∃ (t : Nat) (d : Nat) (a : Nat) (b : Nat) (imm : Nat) (s : State), (d < 16) ∧ (a < 16) ∧ (b < 16) ∧ (imm < 4) ∧ (s.issues t (microR 0x1F d a b imm))) ∧
    (∃ (t : Nat) (d : Nat) (a : Nat) (b : Nat) (imm : Nat) (s : State), (d < 16) ∧ (a < 16) ∧ (b < 16) ∧ (imm < 7) ∧ (s.issues t (microR 0x11 d a b imm))) ∧
    (∃ (t : Nat) (d : Nat) (a : Nat) (b : Nat) (imm : Nat) (s : State), (d < 16) ∧ (a < 16) ∧ (b < 16) ∧ (imm < 2) ∧ (s.issues t (microR 0x12 d a b imm))) ∧
    (∃ (t : Nat) (d : Nat) (a : Nat) (b : Nat) (imm : Nat) (c : Bool) (s : State), (d < 16) ∧ (a < 16) ∧ (b < 16) ∧ (imm < 16384) ∧ (s.issues t (microR 0x0F d a b imm)) ∧ (condHolds (s.th t).live (imm % 16) = some c)) ∧
    (∃ (t : Nat) (d : Nat) (sh : Nat) (imm : Nat) (s : State), (d < 16) ∧ (sh < 4) ∧ (imm < 65536) ∧ (s.issues t (microI 0x0B d sh imm))) ∧
    (∃ (t : Nat) (d : Nat) (sh : Nat) (imm : Nat) (s : State), (d < 16) ∧ (sh < 4) ∧ (imm < 65536) ∧ (s.issues t (microI 0x0C d sh imm))) :=
  ⟨⟨0, 1, 2, 3, 5, tRun (microR 0x00 1 2 3 5) tRegs, by decide +kernel⟩,
   ⟨0, 1, 2, 3, 16383, tRun (microR 0x06 1 2 3 16383) tRegs, by decide +kernel⟩,
   ⟨0, 1, 2, 3, 5, tRun (microR 0x07 1 2 3 5) tRegs, by decide +kernel⟩,
   ⟨0, 1, 2, 3, 64, tRun (microR 0x08 1 2 3 64) tRegs, by decide +kernel⟩,
   ⟨0, 1, 2, 3, 0x1C4, tRun (microR 0x09 1 2 3 0x1C4) tRegs, by decide +kernel⟩,
   ⟨0, 1, 2, 3, 0x1C4, tRun (microR 0x0A 1 2 3 0x1C4) tRegs, by decide +kernel⟩,
   ⟨0, 1, 2, 3, 5, tRun (microR 0x1C 1 2 3 5) tRegs, by decide +kernel⟩,
   ⟨0, 1, 2, 3, 5, tRun (microR 0x1A 1 2 3 5) tRegs, by decide +kernel⟩,
   ⟨0, 1, 2, 3, 5, tRun (microR 0x1B 1 2 3 5) tRegs, by decide +kernel⟩,
   ⟨0, 1, 2, 3, 2, tRun (microR 0x1F 1 2 3 2) tRegs, by decide +kernel⟩,
   ⟨0, 1, 2, 3, 4, tRun (microR 0x11 1 2 3 4) tRegs, by decide +kernel⟩,
   ⟨0, 1, 2, 3, 1, tRun (microR 0x12 1 2 3 1) tRegs, by decide +kernel⟩,
   ⟨0, 1, 2, 3, 0, true, tRun (microR 0x0F 1 2 3 0) tRegs, by decide +kernel⟩,
   ⟨0, 1, 3, 65535, tRun (microI 0x0B 1 3 65535) tRegs, by decide +kernel⟩,
   ⟨0, 1, 2, 77, tRun (microI 0x0C 1 2 77) tRegs, by decide +kernel⟩⟩

theorem wit_FlagMicroOps :
    (∃ (t : Nat) (d : Nat) (a : Nat) (b : Nat) (imm : Nat) (s : State), (d < 16) ∧ (a < 16) ∧ (b < 16) ∧ (imm < 16384) ∧ (s.issues t (microR 0x01 d a b imm))) ∧
    (∃ (t : Nat) (d : Nat) (a : Nat) (b : Nat) (imm : Nat) (s : State), (d < 16) ∧ (a < 16) ∧ (b < 16) ∧ (imm < 16384) ∧ (s.issues t (microR 0x02 d a b imm))) ∧
    (∃ (t : Nat) (d : Nat) (a : Nat) (b : Nat) (imm : Nat) (s : State), (d < 16) ∧ (a < 16) ∧ (b < 16) ∧ (imm < 16384) ∧ (s.issues t (microR 0x0D d a b imm))) ∧
    (∃ (t : Nat) (d : Nat) (a : Nat) (b : Nat) (imm : Nat) (s : State), (d < 16) ∧ (a < 16) ∧ (b < 16) ∧ (imm < 16384) ∧ (s.issues t (microR 0x0E d a b imm))) ∧
    (∃ (t : Nat) (d : Nat) (a : Nat) (b : Nat) (imm : Nat) (s : State), (d < 16) ∧ (a < 16) ∧ (b < 16) ∧ (imm < 16384) ∧ (s.issues t (microR 0x03 d a b imm))) ∧
    (∃ (t : Nat) (d : Nat) (a : Nat) (b : Nat) (imm : Nat) (s : State), (d < 16) ∧ (a < 16) ∧ (b < 16) ∧ (imm < 16384) ∧ (s.issues t (microR 0x04 d a b imm))) ∧
    (∃ (t : Nat) (d : Nat) (a : Nat) (b : Nat) (imm : Nat) (s : State), (d < 16) ∧ (a < 16) ∧ (b < 16) ∧ (imm < 16384) ∧ (s.issues t (microR 0x05 d a b imm))) ∧
    (∃ (t : Nat) (d : Nat) (a : Nat) (b : Nat) (imm : Nat) (s : State), (d < 16) ∧ (a < 16) ∧ (b < 16) ∧ (imm < 16384) ∧ (s.issues t (microR 0x22 d a b imm))) ∧
    (∃ (t : Nat) (cond : Nat) (target : Nat) (c : Bool) (s : State), (cond < 16) ∧ (target < 65536) ∧ (s.issues t (microB 0x10 cond target)) ∧ (condHolds (s.th t).live cond = some c)) :=
  ⟨⟨0, 1, 2, 3, 5, tRun (microR 0x01 1 2 3 5) tRegs, by decide +kernel⟩,
   ⟨0, 1, 2, 3, 5, tRun (microR 0x02 1 2 3 5) tRegs, by decide +kernel⟩,
   ⟨0, 1, 2, 3, 5, tRun (microR 0x0D 1 2 3 5) tRegs, by decide +kernel⟩,
   ⟨0, 1, 2, 3, 5, tRun (microR 0x0E 1 2 3 5) tRegs, by decide +kernel⟩,
   ⟨0, 1, 2, 3, 5, tRun (microR 0x03 1 2 3 5) tRegs, by decide +kernel⟩,
   ⟨0, 1, 2, 3, 5, tRun (microR 0x04 1 2 3 5) tRegs, by decide +kernel⟩,
   ⟨0, 1, 2, 3, 5, tRun (microR 0x05 1 2 3 5) tRegs, by decide +kernel⟩,
   ⟨0, 1, 2, 3, 0x0121, tRun (microR 0x22 1 2 3 0x0121) tRegs, by decide +kernel⟩,
   ⟨0, 0, 77, true, tRun (microB 0x10 0 77) tRegs, by decide +kernel⟩⟩

theorem wit_WindowMicroOps :
    (∃ (t : Nat) (d : Nat) (x : Nat) (win : Nat) (size : Nat) (off : Nat) (o : Nat) (xen : Bool) (s : State), (d < 16) ∧ (x < 16) ∧ (win < 4) ∧ (size < 4) ∧ (off < 8192) ∧ (o = (off + (if xen then (thReg (s.th t) x).toNat else 0)) % 2 ^ 64) ∧ (o + 2 ^ size ≤ windowSize (s.th t) win) ∧ ((win ≠ 0 ∨ (s.th t).tm = false)) ∧ (s.issues t (microW 0x13 d x xen win size off))) ∧
    (∃ (t : Nat) (d : Nat) (x : Nat) (win : Nat) (size : Nat) (off : Nat) (o : Nat) (xen : Bool) (s : State), (d < 16) ∧ (x < 16) ∧ (win < 4) ∧ (size < 4) ∧ (off < 8192) ∧ (o = (off + (if xen then (thReg (s.th t) x).toNat else 0)) % 2 ^ 64) ∧ (o + 2 ^ size ≤ windowSize (s.th t) win) ∧ ((win ≠ 0 ∨ (s.th t).tm = false)) ∧ (s.issues t (microW 0x14 d x xen win size off))) ∧
    (∃ (t : Nat) (d : Nat) (x : Nat) (size : Nat) (off : Nat) (o : Nat) (xen : Bool) (s : State), (d < 16) ∧ (x < 16) ∧ (size < 4) ∧ (off < 8192) ∧ (o = (off + (if xen then (thReg (s.th t) x).toNat else 0)) % 2 ^ 64) ∧ (o + 2 ^ size ≤ 128) ∧ ((s.th t).tm = true) ∧ (s.issues t (microW 0x13 d x xen 0 size off))) ∧
    (∃ (t : Nat) (d : Nat) (a : Nat) (b : Nat) (imm : Nat) (win : Nat) (n : Nat) (o : Nat) (net : Bool) (s : State), (d < 16) ∧ (a < 16) ∧ (b < 16) ∧ (imm < 16384) ∧ (s.issues t (microR 0x17 d a b imm)) ∧ (fiAccess (s.th t) = (win, n, net, o)) ∧ (o + n ≤ windowSize (s.th t) win) ∧ ((win ≠ 0 ∨ (s.th t).tm = false))) ∧
    (∃ (t : Nat) (d : Nat) (x : Nat) (win : Nat) (size : Nat) (off : Nat) (xen : Bool) (u : State) (s : State), (d < 16) ∧ (x < 16) ∧ (win < 4) ∧ (size < 4) ∧ (off < 8192) ∧ (s.issues t (microW 0x15 d x xen win size off)) ∧ (storeBytes t win ((off + (if xen then (thReg (s.th t) x).toNat else 0)) % 2 ^ 64) (leBytes (2 ^ size) (thReg (s.th t) d).toNat) (s.uop t (issuedThread (s.th t))) = some u)) ∧
    (∃ (t : Nat) (d : Nat) (x : Nat) (win : Nat) (size : Nat) (off : Nat) (xen : Bool) (u : State) (s : State), (d < 16) ∧ (x < 16) ∧ (win < 4) ∧ (size < 4) ∧ (off < 8192) ∧ (s.issues t (microW 0x16 d x xen win size off)) ∧ (storeBytes t win ((off + (if xen then (thReg (s.th t) x).toNat else 0)) % 2 ^ 64) (beBytes (2 ^ size) (thReg (s.th t) d).toNat) (s.uop t (issuedThread (s.th t))) = some u)) ∧
    (∃ (t : Nat) (d : Nat) (a : Nat) (b : Nat) (imm : Nat) (win : Nat) (n : Nat) (off : Nat) (net : Bool) (u : State) (s : State), (d < 16) ∧ (a < 16) ∧ (b < 16) ∧ (imm < 16384) ∧ (s.issues t (microR 0x18 d a b imm)) ∧ (fiAccess (s.th t) = (win, n, net, off)) ∧ (storeBytes t win off (if net then beBytes n (thReg (s.th t) a).toNat else leBytes n (thReg (s.th t) a).toNat) (s.uop t (issuedThread (s.th t))) = some u)) ∧
    (∃ (t : Nat) (d : Nat) (a : Nat) (b : Nat) (imm : Nat) (bs : List Byte) (u : State) (v : State) (s : State), (d < 16) ∧ (a < 16) ∧ (b < 16) ∧ (imm < 16384) ∧ (imm % 64 < 32) ∧ (s.issues t (microR 0x19 d a b imm)) ∧ (loadBytes t (bits (thReg (s.th t) a).toNat 14 13) (bits (thReg (s.th t) a).toNat 12 0) (imm % 64 + 1) (s.uop t (issuedThread (s.th t))) = (some bs, u)) ∧ (storeBytes t (bits (thReg (s.th t) b).toNat 14 13) (bits (thReg (s.th t) b).toNat 12 0) bs u = some v)) ∧
    (∃ (t : Nat) (d : Nat) (x : Nat) (size : Nat) (off : Nat) (o : Nat) (xen : Bool) (s : State), (d < 16) ∧ (x < 16) ∧ (size < 4) ∧ (off < 8192) ∧ (o = (off + (if xen then (thReg (s.th t) x).toNat else 0)) % 2 ^ 64) ∧ (o + 2 ^ size ≤ 256) ∧ (s.issues t (microW 0x15 d x xen 3 size off))) ∧
    (∃ (t : Nat) (d : Nat) (x : Nat) (size : Nat) (off : Nat) (o : Nat) (xen : Bool) (s : State), (d < 16) ∧ (x < 16) ∧ (size < 4) ∧ (off < 8192) ∧ (o = (off + (if xen then (thReg (s.th t) x).toNat else 0)) % 2 ^ 64) ∧ (o + 2 ^ size ≤ 256) ∧ (s.issues t (microW 0x16 d x xen 3 size off))) ∧
    (∃ (t : Nat) (d : Nat) (a : Nat) (b : Nat) (imm : Nat) (n : Nat) (o : Nat) (net : Bool) (s : State), (d < 16) ∧ (a < 16) ∧ (b < 16) ∧ (imm < 16384) ∧ (s.issues t (microR 0x18 d a b imm)) ∧ (fiAccess (s.th t) = (3, n, net, o)) ∧ (o + n ≤ 256)) ∧
    (∃ (t : Nat) (d : Nat) (a : Nat) (b : Nat) (imm : Nat) (wa : Nat) (oa : Nat) (ob : Nat) (n : Nat) (s : State), (d < 16) ∧ (a < 16) ∧ (b < 16) ∧ (imm < 16384) ∧ (n = imm % 64 + 1) ∧ (n ≤ 32) ∧ (s.issues t (microR 0x19 d a b imm)) ∧ (wa = bits (thReg (s.th t) a).toNat 14 13) ∧ (oa = bits (thReg (s.th t) a).toNat 12 0) ∧ (bits (thReg (s.th t) b).toNat 14 13 = 3) ∧ (ob = bits (thReg (s.th t) b).toNat 12 0) ∧ (oa + n ≤ windowSize (s.th t) wa) ∧ (ob + n ≤ 256) ∧ ((wa ≠ 0 ∨ (s.th t).tm = false))) ∧
    (∃ (t : Nat) (d : Nat) (x : Nat) (size : Nat) (off : Nat) (o : Nat) (xen : Bool) (s : State), (d < 16) ∧ (x < 16) ∧ (size < 4) ∧ (off < 8192) ∧ (o = (off + (if xen then (thReg (s.th t) x).toNat else 0)) % 2 ^ 64) ∧ (o + 2 ^ size ≤ 256) ∧ (s.issues t (microW 0x13 d x xen 3 size off))) ∧
    (∃ (t : Nat) (d : Nat) (x : Nat) (win : Nat) (size : Nat) (off : Nat) (a : Nat) (b : Nat) (imm : Nat) (xen : Bool) (i : Instr) (w : Nat) (s : State), (i ∈ [Instr.uLdl t d x xen win size off .uncorrectable, Instr.uLdn t d x xen win size off .uncorrectable, Instr.uStl t d x xen win size off .uncorrectable, Instr.uStn t d x xen win size off .uncorrectable, Instr.uLdf t d a b imm .uncorrectable, Instr.uStf t d a b imm .uncorrectable, Instr.uMovb t d a b imm .uncorrectable]) ∧ (microOk i = true) ∧ (microEncode i = some w) ∧ (s.issues t w) ∧ ((s.th t).clove = none) ∧ ((s.th t).maps = [])) ∧
    (∃ (t : Nat) (d : Nat) (a : Nat) (b : Nat) (n : Nat) (s : State), (d < 16) ∧ (a < 16) ∧ (b < 16) ∧ (n < 8192) ∧ (s.issues t (microR 0x21 d a b n)) ∧ ((s.th t).pushed + n ≤ 128)) ∧
    (∃ (t : Nat) (d : Nat) (a : Nat) (b : Nat) (n : Nat) (s : State), (d < 16) ∧ (a < 16) ∧ (b < 16) ∧ (0 < n) ∧ (n ≤ 256) ∧ (s.issues t (microR 0x21 d a b (16384 - n))) ∧ ((s.th t).pulled + n ≤ 256) ∧ (n ≤ (s.th t).pkt.bytes.length)) ∧
    (∃ (t : Nat) (d : Nat) (a : Nat) (b : Nat) (imm : Nat) (s : State), (d < 16) ∧ (a < 16) ∧ (b < 16) ∧ (imm < 16384) ∧ (s.issues t (microR 0x20 d a b imm))) :=
  ⟨⟨0, 1, 2, 2, 0, 3, 3, false, tRun (microW 0x13 1 2 false 2 0 3) tMove, by decide +kernel⟩,
   ⟨0, 1, 2, 2, 0, 3, 3, false, tRun (microW 0x14 1 2 false 2 0 3) tMove, by decide +kernel⟩,
   ⟨0, 1, 2, 0, 3, 3, false, tRun (microW 0x13 1 2 false 0 0 3) { tRegs with tm := true }, by decide +kernel⟩,
   ⟨0, 1, 2, 3, 5, (fiAccess ((tRun (microR 0x17 1 2 3 5) tRegs).th 0)).1, (fiAccess ((tRun (microR 0x17 1 2 3 5) tRegs).th 0)).2.1, (fiAccess ((tRun (microR 0x17 1 2 3 5) tRegs).th 0)).2.2.2, (fiAccess ((tRun (microR 0x17 1 2 3 5) tRegs).th 0)).2.2.1, tRun (microR 0x17 1 2 3 5) tRegs, by decide +kernel⟩,
   ⟨0, 1, 2, 2, 0, 3, false, ((storeBytes 0 2 3 (leBytes 1 (thReg ((tRun (microW 0x15 1 2 false 2 0 3) tMove).th 0) 1).toNat) ((tRun (microW 0x15 1 2 false 2 0 3) tMove).uop 0 (issuedThread ((tRun (microW 0x15 1 2 false 2 0 3) tMove).th 0)))).getD {}), tRun (microW 0x15 1 2 false 2 0 3) tMove, by decide +kernel⟩,
   ⟨0, 1, 2, 2, 0, 3, false, ((storeBytes 0 2 3 (beBytes 1 (thReg ((tRun (microW 0x16 1 2 false 2 0 3) tMove).th 0) 1).toNat) ((tRun (microW 0x16 1 2 false 2 0 3) tMove).uop 0 (issuedThread ((tRun (microW 0x16 1 2 false 2 0 3) tMove).th 0)))).getD {}), tRun (microW 0x16 1 2 false 2 0 3) tMove, by decide +kernel⟩,
   ⟨0, 1, 2, 3, 5, (fiAccess ((tRun (microR 0x18 1 2 3 5) tRegs).th 0)).1, (fiAccess ((tRun (microR 0x18 1 2 3 5) tRegs).th 0)).2.1, (fiAccess ((tRun (microR 0x18 1 2 3 5) tRegs).th 0)).2.2.2, (fiAccess ((tRun (microR 0x18 1 2 3 5) tRegs).th 0)).2.2.1, ((storeBytes 0 (fiAccess ((tRun (microR 0x18 1 2 3 5) tRegs).th 0)).1 (fiAccess ((tRun (microR 0x18 1 2 3 5) tRegs).th 0)).2.2.2 (if (fiAccess ((tRun (microR 0x18 1 2 3 5) tRegs).th 0)).2.2.1 then beBytes (fiAccess ((tRun (microR 0x18 1 2 3 5) tRegs).th 0)).2.1 (thReg ((tRun (microR 0x18 1 2 3 5) tRegs).th 0) 2).toNat else leBytes (fiAccess ((tRun (microR 0x18 1 2 3 5) tRegs).th 0)).2.1 (thReg ((tRun (microR 0x18 1 2 3 5) tRegs).th 0) 2).toNat) ((tRun (microR 0x18 1 2 3 5) tRegs).uop 0 (issuedThread ((tRun (microR 0x18 1 2 3 5) tRegs).th 0)))).getD {}), tRun (microR 0x18 1 2 3 5) tRegs, by decide +kernel⟩,
   ⟨0, 1, 2, 3, 3, ((loadBytes 0 2 4 4 ((tRun (microR 0x19 1 2 3 3) tMove).uop 0 (issuedThread ((tRun (microR 0x19 1 2 3 3) tMove).th 0)))).1.getD []), (loadBytes 0 2 4 4 ((tRun (microR 0x19 1 2 3 3) tMove).uop 0 (issuedThread ((tRun (microR 0x19 1 2 3 3) tMove).th 0)))).2, ((storeBytes 0 2 16 ((loadBytes 0 2 4 4 ((tRun (microR 0x19 1 2 3 3) tMove).uop 0 (issuedThread ((tRun (microR 0x19 1 2 3 3) tMove).th 0)))).1.getD []) (loadBytes 0 2 4 4 ((tRun (microR 0x19 1 2 3 3) tMove).uop 0 (issuedThread ((tRun (microR 0x19 1 2 3 3) tMove).th 0)))).2).getD {}), tRun (microR 0x19 1 2 3 3) tMove, by decide +kernel⟩,
   ⟨0, 1, 2, 0, 3, 3, false, tRun (microW 0x15 1 2 false 3 0 3) tRegs, by decide +kernel⟩,
   ⟨0, 1, 2, 0, 3, 3, false, tRun (microW 0x16 1 2 false 3 0 3) tRegs, by decide +kernel⟩,
   ⟨0, 1, 2, 3, 5, 1, 0, false, tRun (microR 0x18 1 2 3 5) { live := { m := ⟨[(2, 7)]⟩, fi := 0xC000 } }, by decide +kernel⟩,
   ⟨0, 1, 2, 3, 3, 2, 4, 16, 4, tRun (microR 0x19 1 2 3 3) { live := { m := ⟨[(2, 16388), (3, 24592)]⟩ }, pkt := { bytes := List.replicate 40 1 } }, by decide +kernel⟩,
   ⟨0, 1, 2, 0, 3, 3, false, tRun (microW 0x13 1 2 false 3 0 3) tRegs, by decide +kernel⟩,
   ⟨0, 1, 2, 3, 0, 3, 0, 0, 0, false, .uLdl 0 1 2 false 3 0 3 .uncorrectable, microW 0x13 1 2 false 3 0 3, tRun (microW 0x13 1 2 false 3 0 3) tRegs, List.mem_cons_self, by decide +kernel⟩,
   ⟨0, 1, 2, 3, 8, tRun (microR 0x21 1 2 3 8) tRegs, by decide +kernel⟩,
   ⟨0, 1, 2, 3, 4, tRun (microR 0x21 1 2 3 16380) { tRegs with pkt := { bytes := List.replicate 20 1 } }, by decide +kernel⟩,
   ⟨0, 1, 2, 3, 5, tRun (microR 0x20 1 2 3 5) tRegs, by decide +kernel⟩⟩

theorem wit_ControlMicroOps :
    (∃ (t : Nat) (d : Nat) (a : Nat) (b : Nat) (imm : Nat) (u : Nat) (s : State), (d < 16) ∧ (a < 16) ∧ (b < 16) ∧ (imm < 16384) ∧ (imm % 4 = 0) ∧ (s.issues t (microR 0x1E d a b imm)) ∧ ((s.th t).tm = false) ∧ ((s.th t).live.fipc < 4095) ∧ ((s.fiAt ((s.th t).live.fipc + 1)).toNat / 2 ^ 24 ≠ 0) ∧ (s.eng.disp.get ((s.fiAt ((s.th t).live.fipc + 1)).toNat / 2 ^ 24) = some u)) ∧
    (∃ (t : Nat) (d : Nat) (a : Nat) (b : Nat) (imm : Nat) (u : Nat) (s : State), (d < 16) ∧ (a < 16) ∧ (b < 16) ∧ (imm < 16384) ∧ (imm % 4 = 1) ∧ (s.issues t (microR 0x1E d a b imm)) ∧ ((s.th t).tm = false) ∧ ((s.fiAt ((thReg (s.th t) a).toNat % 4096)).toNat / 2 ^ 24 ≠ 0) ∧ (s.eng.disp.get ((s.fiAt ((thReg (s.th t) a).toNat % 4096)).toNat / 2 ^ 24) = some u)) ∧
    (∃ (t : Nat) (d : Nat) (a : Nat) (b : Nat) (imm : Nat) (s : State), (d < 16) ∧ (a < 16) ∧ (b < 16) ∧ (imm < 16384) ∧ (imm % 4 = 2) ∧ (s.issues t (microR 0x1E d a b imm)) ∧ ((s.th t).clove = none) ∧ ((s.th t).maps = []) ∧ ((∀ e k, s.eng.pre ≠ some (t, e, k))) ∧ (datB (s.th t).desc 120 0 2 ≠ 1)) ∧
    (∃ (t : Nat) (d : Nat) (a : Nat) (b : Nat) (imm : Nat) (idx : Nat) (g : Nat) (i : Nat) (c : Clove) (s : State), (d < 16) ∧ (a < 16) ∧ (b < 16) ∧ (imm < 16384) ∧ (imm % 4 = 2) ∧ (s.issues t (microR 0x1E d a b imm)) ∧ (i = thCluster t) ∧ ((s.th t).clove = some idx) ∧ ((s.th t).egress = false) ∧ ((s.th t).shared = true) ∧ ((s.th t).maps = []) ∧ ((∀ e k, s.eng.pre ≠ some (t, e, k))) ∧ (datB (s.th t).desc 120 0 2 = 0) ∧ (c = s.cloveNow i idx) ∧ (datU c 64 1 = 4) ∧ (g = datU c 66 2 % 2 ^ 14) ∧ (datU (s.th t).desc 92 4 % 2 ^ 18 = datU c 72 4 % 2 ^ 18) ∧ (s.nhLive (datU c 72 4 % 2 ^ 18) (datB (s.tblGet 0x29 g) 0 0 1 == 1) = false) ∧ ((∀ l ∈ (s.part.get i).lines, l.delAtRelease = none))) ∧
    (∃ (t : Nat) (d : Nat) (a : Nat) (b : Nat) (imm : Nat) (s : State), (d < 16) ∧ (a < 16) ∧ (b < 16) ∧ (imm < 16384) ∧ (imm % 4 = 1) ∧ (s.issues t (microR 0x1E d a b imm)) ∧ ((s.th t).tm = false) ∧ ((s.fiAt ((thReg (s.th t) a).toNat % 4096)).toNat / 2 ^ 24 = 0) ∧ ((s.th t).clove = none) ∧ ((s.th t).maps = [])) ∧
    (∃ (t : Nat) (d : Nat) (a : Nat) (b : Nat) (imm : Nat) (s : State), (d < 16) ∧ (a < 16) ∧ (b < 16) ∧ (imm < 16384) ∧ (s.issues t (microR 0x1D d a b imm)) ∧ (farFunctions.contains (imm % 256) = true)) ∧
    (∃ (t : Nat) (d : Nat) (a : Nat) (b : Nat) (imm : Nat) (s : State), (d < 16) ∧ (a < 16) ∧ (b < 16) ∧ (imm < 16384) ∧ (s.issues t (microR 0x23 d a b imm)) ∧ ((s.th t).tm = true) ∧ ((s.th t).cause ≠ 5) ∧ ((s.th t).cause ≠ 6) ∧ ((s.th t).save.budget < s.budget)) ∧
    (∃ (t : Nat) (d : Nat) (a : Nat) (b : Nat) (imm : Nat) (s : State), (d < 16) ∧ (a < 16) ∧ (b < 16) ∧ (imm < 16384) ∧ (s.issues t (microR 0x23 d a b imm)) ∧ ((s.th t).tm = true) ∧ ((s.th t).cause = 6) ∧ (0 < s.budget)) :=
  ⟨⟨0, 1, 2, 3, 0, 5, { tRun (microR 0x1E 1 2 3 0) tRegs with tbl := ⟨[(tblKey 0x5E 1, 0x01000000)]⟩, eng := { (tRun (microR 0x1E 1 2 3 0) tRegs).eng with disp := ⟨[(1, some 5)]⟩ } }, by decide +kernel⟩,
   ⟨0, 1, 2, 3, 1, 5, { tRun (microR 0x1E 1 2 3 1) tRegs with tbl := ⟨[(tblKey 0x5E 4094, 0x01000000)]⟩, eng := { (tRun (microR 0x1E 1 2 3 1) tRegs).eng with disp := ⟨[(1, some 5)]⟩ } }, by decide +kernel⟩,
   ⟨0, 1, 2, 3, 2, tRun (microR 0x1E 1 2 3 2) tRegs, both8 (by decide +kernel) ⟨(by intro e k h; cases h), by decide +kernel⟩⟩,
   ⟨0, 1, 2, 3, 2, 0, 0, 0, BitVec.ofNat 1024 (2 ^ 384 + 4 * 2 ^ 512), { (tRun (microR 0x1E 1 2 3 2) { tRegs with clove := some 0, shared := true } : State) with clove := ⟨[(0, BitVec.ofNat 1024 (2 ^ 384 + 4 * 2 ^ 512))]⟩ }, both9 (by decide +kernel) (both2 (by decide +kernel) ⟨(by intro e k h; cases h), by decide +kernel⟩)⟩,
   ⟨0, 1, 2, 3, 1, tRun (microR 0x1E 1 2 3 1) tRegs, by decide +kernel⟩,
   ⟨0, 1, 2, 3, 1, tRun (microR 0x1D 1 2 3 1) tRegs, by decide +kernel⟩,
   ⟨0, 1, 2, 3, 0, tRun (microR 0x23 1 2 3 0) { tRegs with tm := true, cause := 3 }, by decide +kernel⟩,
   ⟨0, 1, 2, 3, 0, tRun (microR 0x23 1 2 3 0) { tRegs with tm := true, cause := 6 }, by decide +kernel⟩⟩

theorem wit_FarOperations :
    (∃ (t : Nat) (o : FarOp) (s : State), (s.running) ∧ (s.farWaits t 0x01 = some o) ∧ ((s.th t).clove = none)) ∧
    (∃ (t : Nat) (key : BitVec 384) (sp : Dat) (o : FarOp) (s : State), (s.running) ∧ (s.farWaits t 0x01 = some o) ∧ (s.ownClove t = some (key, sp))) ∧
    (∃ (t : Nat) (i : Nat) (sub : Nat) (tok : Nat) (key : BitVec 384) (sp : Dat) (o : FarOp) (s : State), (i = thCluster t) ∧ (s.running) ∧ (s.farWaits t 0x01 = some o) ∧ (s.ownClove t = some (key, sp)) ∧ (findClove s i (subscriberKey key (datU sp 9 1)) = some sub) ∧ (datU sp 16 4 ≠ 0) ∧ (tok = min (datU (s.cloveNow i sub) 84 4 + serialAge 32 s.ms (datU (s.cloveNow i sub) 88 4) * datU sp 16 4) (datU sp 20 4 * 1000))) ∧
    (∃ (t : Nat) (ue : Bool) (o : FarOp) (s : State), (s.running) ∧ (s.farWaits t 0x02 = some o) ∧ ((s.th t).clove = none)) ∧
    (∃ (t : Nat) (m : Nat) (g : Nat) (key : BitVec 384) (sp : Dat) (blk : Dat) (o : FarOp) (s : State) (u : State), (s.steady) ∧ (s.farWaits t 0x02 = some o) ∧ (s.ownClove t = some (key, sp)) ∧ (mapOp (thCluster t) { key := key, sp := sp, inPort := (s.th t).pkt.inPort, aux := (s.th t).pkt.aux } s.fresh = ((0, blk, m, g), u))) ∧
    (∃ (t : Nat) (i : Nat) (m : Nat) (key : BitVec 384) (sp : Dat) (o : FarOp) (s : State) (u : State), (i = thCluster t) ∧ (s.running) ∧ (s.farWaits t 0x02 = some o) ∧ (s.ownClove t = some (key, sp)) ∧ (findClove s i (mappingKey key) = some m) ∧ (datU sp 16 4 = 0) ∧ (u = setClove i m (datPut (s.cloveNow i m) 66 2 (datU (s.cloveNow i m) 66 2 + 1)) s.fresh)) ∧
    (∃ (t : Nat) (m : Nat) (o : FarOp) (s : State), (s.running) ∧ (s.farWaits t 0x03 = some o) ∧ (s.lbChoose (o.a.toNat % 2 ^ 14) o.b.toNat = some (m, false))) ∧
    (∃ (t : Nat) (ue : Bool) (o : FarOp) (s : State), (s.running) ∧ (s.farWaits t 0x04 = some o) ∧ (s.namedClove t (o.a.toNat % 2 ^ 27) o.b.toNat = 0) ∧ (s.readFails (thCluster t) (o.a.toNat % 2 ^ 27) ue = false)) ∧
    (∃ (t : Nat) (r : Nat) (ue : Bool) (o : FarOp) (s : State), (s.running) ∧ (s.farWaits t 0x04 = some o) ∧ (s.namedClove t (o.a.toNat % 2 ^ 27) o.b.toNat = r) ∧ (r ≠ 0) ∧ (s.readFails (thCluster t) (o.a.toNat % 2 ^ 27) ue = false)) ∧
    (∃ (t : Nat) (idx : Nat) (ue : Bool) (o : FarOp) (s : State), (s.running) ∧ (s.farWaits t 0x04 = some o) ∧ (idx = o.a.toNat % 2 ^ 27) ∧ (s.inPart (thCluster t) idx = true) ∧ (s.readFails (thCluster t) idx ue = true) ∧ ((s.th t).tm = false)) ∧
    (∃ (t : Nat) (ue : Bool) (o : FarOp) (s : State), (s.running) ∧ (s.farWaits t 0x05 = some o) ∧ (s.namedClove t (o.a.toNat % 2 ^ 27) o.b.toNat = 0) ∧ (s.line (thCluster t) (o.a.toNat % 2 ^ 27) = none) ∧ (s.readFails (thCluster t) (o.a.toNat % 2 ^ 27) ue = false)) ∧
    (∃ (t : Nat) (idx : Nat) (g : Nat) (o : FarOp) (s : State) (u : State), (s.steady) ∧ (s.farWaits t 0x06 = some o) ∧ (keyFmtOk (cvFmt (BitVec.ofNat 1024 (s.th t).scratch.toNat)) = true) ∧ (insertClove (thCluster t) (datPut (BitVec.ofNat 1024 (s.th t).scratch.toNat) 48 1 (2 * datB (BitVec.ofNat 1024 (s.th t).scratch.toNat) 48 1 1)) s.fresh = (.ok idx g, u))) ∧
    (∃ (t : Nat) (i : Nat) (b : Nat) (k : Nat) (idx : Nat) (free : List (Nat × Nat)) (key : BitVec 384) (o : FarOp) (s : State), (i = thCluster t) ∧ (i < 4) ∧ (s.running) ∧ (s.farWaits t 0x06 = some o) ∧ (keyFmtOk (cvFmt (BitVec.ofNat 1024 (s.th t).scratch.toNat)) = true) ∧ (datB (BitVec.ofNat 1024 (s.th t).scratch.toNat) 48 1 1 = 0) ∧ (key = cvKey (BitVec.ofNat 1024 (s.th t).scratch.toNat)) ∧ (findClove s i key = none) ∧ (freeBucket s (s.candidates i (s.hashOf i key)).1 (s.candidates i (s.hashOf i key)).2 = some (b, k)) ∧ (runsPop (s.part.get i).freeCache = some (idx, free))) ∧
    (∃ (t : Nat) (ue : Bool) (o : FarOp) (s : State), (s.steady) ∧ (s.farWaits t 0x07 = some o) ∧ (s.namedClove t (o.a.toNat % 2 ^ 27) o.b.toNat = 0) ∧ (s.readFails (thCluster t) (o.a.toNat % 2 ^ 27) ue = false)) ∧
    (∃ (t : Nat) (key : BitVec 384) (sp : Dat) (o : FarOp) (s : State), (s.running) ∧ (s.farWaits t 0x20 = some o) ∧ (s.ownClove t = some (key, sp))) ∧
    (∃ (t : Nat) (o : FarOp) (s : State), (s.running) ∧ (s.farWaits t 0x10 = some o) ∧ (1 ≤ o.a.toNat) ∧ (o.a.toNat ≤ 8) ∧ (o.b.toNat < bits (s.reg (Reg.FWD_DIRECT_CFG (o.a.toNat - 1))) 20 0) ∧ (datB (s.tblGet o.a.toNat o.b.toNat) 8 0 1 = 1)) ∧
    (∃ (t : Nat) (ue : Bool) (o : FarOp) (s : State), (s.running) ∧ (s.farWaits t 0x10 = some o) ∧ (8 < o.a.toNat)) ∧
    (∃ (t : Nat) (bad : List Nat) (o : FarOp) (s : State), (s.running) ∧ (s.farWaits t 0x18 = some o) ∧ (s.asaCascade (o.a.toNat % 32) = false)) ∧
    (∃ (t : Nat) (bad : List Nat) (o : FarOp) (s : State), (s.running) ∧ (s.farWaits t 0x18 = some o) ∧ (s.asaCascade (o.a.toNat % 32) = true) ∧ (s.asa.run.state = .running) ∧ (s.asa.run.retired = false)) ∧
    (∃ (t : Nat) (bad : List Nat) (o : FarOp) (h : AsaHandle) (s : State), (s.running) ∧ (s.farWaits t 0x19 = some o) ∧ (h = s.asa.handles.get (AsaOwner.thread t).key) ∧ (h.live = true) ∧ (s.asaCascade h.profile = false)) ∧
    (∃ (t : Nat) (bad : List Nat) (o : FarOp) (s : State), (s.running) ∧ (s.farWaits t 0x19 = some o) ∧ ((s.asa.handles.get (AsaOwner.thread t).key).live = false)) :=
  ⟨⟨0, { fn := 0x01, a := 0, b := 0 }, { tSvc with eng := { th := ⟨[(0, { wait := .far, far := some { fn := 0x01, a := 0, b := 0 } })]⟩ } }, by decide +kernel⟩,
   ⟨0, 0, 0, { fn := 0x01, a := 0, b := 0 }, { tSvc with eng := { th := ⟨[(0, { wait := .far, far := some { fn := 0x01, a := 0, b := 0 }, clove := some 0 })]⟩ } }, by decide +kernel⟩,
   ⟨0, 0, 0, min (datU (tAdm.cloveNow 0 0) 84 4 + serialAge 32 tAdm.ms (datU (tAdm.cloveNow 0 0) 88 4) * 1) 0, 0, BitVec.ofNat 1024 (2 ^ 128), { fn := 1 }, tAdm, both4 (by decide +kernel) ⟨tAdm_found, by decide +kernel⟩⟩,
   ⟨0, false, { fn := 0x02, a := 0, b := 0 }, { tSvc with eng := { th := ⟨[(0, { wait := .far, far := some { fn := 0x02, a := 0, b := 0 } })]⟩ } }, by decide +kernel⟩,
   ⟨0, tMap.1.2.2.1, tMap.1.2.2.2, 0, 0, tMap.1.2.1, { fn := 2 }, tMapped, tMap.2, both3 (by decide +kernel) (tMap_eq)⟩,
   ⟨0, 0, 0, 0, 0, { fn := 2 }, tMapped, setClove 0 0 (datPut (tMapped.cloveNow 0 0) 66 2 (datU (tMapped.cloveNow 0 0) 66 2 + 1)) tMapped.fresh, both4 (by decide +kernel) ⟨tMapped_found, by decide +kernel, rfl⟩⟩,
   ⟨0, 0, { fn := 0x03, a := 0, b := 0 }, { tSvc with eng := { th := ⟨[(0, { wait := .far, far := some { fn := 0x03, a := 0, b := 0 } })]⟩ }, svc := { slots := ⟨[(0, some 0)]⟩ }, tbl := tLb, port := ⟨[(0, { up := true })]⟩ }, by decide +kernel⟩,
   ⟨0, false, { fn := 0x04, a := 0, b := 0 }, { tSvc with eng := { th := ⟨[(0, { wait := .far, far := some { fn := 0x04, a := 0, b := 0 } })]⟩ }, clove := ⟨[(0, BitVec.ofNat 1024 (2 ^ 384))]⟩, regs := ⟨[(Reg.FSE_PART_CLOVES 0, 1)]⟩ }, both3 (by decide +kernel) (tRead_sound _ rfl _ _)⟩,
   ⟨0, 9, false, { fn := 0x04, a := 0, b := 0 }, { tSvc with eng := { th := ⟨[(0, { wait := .far, far := some { fn := 0x04, a := 0, b := 0 } })]⟩ } }, both4 (by decide +kernel) (tRead_sound _ rfl _ _)⟩,
   ⟨0, 0, true, { fn := 0x04, a := 0, b := 0 }, { tSvc with eng := { th := ⟨[(0, { wait := .far, far := some { fn := 0x04, a := 0, b := 0 } })]⟩ }, regs := ⟨[(Reg.FSE_PART_CLOVES 0, 1)]⟩ }, by decide +kernel⟩,
   ⟨0, false, { fn := 0x05, a := 0, b := 0 }, { tSvc with eng := { th := ⟨[(0, { wait := .far, far := some { fn := 0x05, a := 0, b := 0 } })]⟩ }, clove := ⟨[(0, BitVec.ofNat 1024 (2 ^ 384))]⟩, regs := ⟨[(Reg.FSE_PART_CLOVES 0, 1)]⟩ }, both4 (by decide +kernel) (tRead_sound _ rfl _ _)⟩,
   ⟨0, (insOf tInsd.1).1, (insOf tInsd.1).2, { fn := 6 }, tPeerIns, tInsd.2, both3 (by decide +kernel) (tInsd_eq)⟩,
   ⟨0, 0, (tPeerIns.candidates 0 (tPeerIns.hashOf 0 (cvKey (BitVec.ofNat 1024 (tPeerIns.th 0).scratch.toNat)))).1, 0, 5, [], cvKey (BitVec.ofNat 1024 (tPeerIns.th 0).scratch.toNat), { fn := 6 }, tPeerIns, both7 (by decide +kernel) ⟨tPeerIns_none _ _, tPeerIns_free _ _, by decide +kernel⟩⟩,
   ⟨0, false, { fn := 0x07, a := 0, b := 0 }, { tSvc with eng := { th := ⟨[(0, { wait := .far, far := some { fn := 0x07, a := 0, b := 0 } })]⟩ }, clove := ⟨[(0, BitVec.ofNat 1024 (2 ^ 384))]⟩, regs := ⟨[(Reg.FSE_PART_CLOVES 0, 1)]⟩ }, both3 (by decide +kernel) (tRead_sound _ rfl _ _)⟩,
   ⟨0, 0, 0, { fn := 0x20, a := 0, b := 0 }, { tSvc with eng := { th := ⟨[(0, { wait := .far, far := some { fn := 0x20, a := 0, b := 0 }, clove := some 0 })]⟩ } }, by decide +kernel⟩,
   ⟨0, { fn := 0x10, a := 1, b := 2 }, { tSvc with eng := { th := ⟨[(0, { wait := .far, far := some { fn := 0x10, a := 1, b := 2 } })]⟩ }, regs := ⟨[(Reg.FWD_DIRECT_CFG 0, 16)]⟩, tbl := ⟨[(tblKey 1 2, BitVec.ofNat 1024 (2 ^ 64))]⟩ }, by decide +kernel⟩,
   ⟨0, false, { fn := 0x10, a := 9, b := 0 }, { tSvc with eng := { th := ⟨[(0, { wait := .far, far := some { fn := 0x10, a := 9, b := 0 } })]⟩ } }, by decide +kernel⟩,
   ⟨0, [], { fn := 0x18, a := 0, b := 0 }, { tSvc with eng := { th := ⟨[(0, { wait := .far, far := some { fn := 0x18, a := 0, b := 0 } })]⟩ } }, by decide +kernel⟩,
   ⟨0, [], { fn := 0x18, a := 0, b := 0 }, { tSvc with eng := { th := ⟨[(0, { wait := .far, far := some { fn := 0x18, a := 0, b := 0 } })]⟩ }, regs := ⟨[(Reg.ASA_PROFILE_CFG 0, 4)]⟩, asa := { run := { state := .running } } }, by decide +kernel⟩,
   ⟨0, [], { fn := 0x19, a := 0, b := 0 }, { live := true, entry := 3 }, { tSvc with eng := { th := ⟨[(0, { wait := .far, far := some { fn := 0x19, a := 0, b := 0 } })]⟩ }, asa := { handles := ⟨[(16, { live := true, entry := 3 })]⟩ } }, by decide +kernel⟩,
   ⟨0, [], { fn := 0x19, a := 0, b := 0 }, { tSvc with eng := { th := ⟨[(0, { wait := .far, far := some { fn := 0x19, a := 0, b := 0 } })]⟩ } }, by decide +kernel⟩⟩

theorem wit_RoutineTraps :
    (∃ (t : Nat) (s : State), (s.running) ∧ (s.atBoundary t = true) ∧ ((s.th t).pending.getLsbD 3 = true) ∧ ((s.th t).live.wd = false) ∧ (s.trapVector 3 ≠ 0xFFFF)) ∧
    (∃ (t : Nat) (s : State), (s.running) ∧ (s.atBoundary t = true) ∧ ((s.th t).pending.getLsbD 1 = true) ∧ ((s.th t).pending.getLsbD 2 = false) ∧ ((s.th t).pending.getLsbD 3 = false) ∧ (s.trapVector 1 ≠ 0xFFFF)) ∧
    (∃ (t : Nat) (s : State), (s.running) ∧ (s.atBoundary t = true) ∧ ((s.th t).pending.getLsbD 1 = true) ∧ ((s.th t).pending.getLsbD 2 = false) ∧ ((s.th t).pending.getLsbD 3 = false) ∧ (s.trapVector 1 = 0xFFFF)) ∧
    (∃ (t : Nat) (w : Nat) (s : State), (s.running) ∧ (s.eng.pre = some (t, w, false)) ∧ (s.atBoundary t = true) ∧ ((s.th t).pending.getLsbD 3 = false) ∧ (s.trapVector 2 ≠ 0xFFFF)) ∧
    (∃ (v : Word32) (s : State), (s.hostSets 9) ∧ (bit v.toNat 31 = true) ∧ (s.eng.pre = none) ∧ ((s.th (1024 * bits v.toNat 17 16 + 64 * bits v.toNat 15 12 + bits v.toNat 5 0)).wait = .ready)) ∧
    (∃ (t : Nat) (code : Nat) (len : Nat) (blk : Dat) (f : FarOp) (s : State), (s.running) ∧ (t < 4096) ∧ ((s.th t).wait = .far) ∧ ((s.th t).far = some f) ∧ (f.ue = false) ∧ (f.answer = some (code, len, blk))) ∧
    (∃ (e : Nat) (s : State), (s.running) ∧ (e < 64) ∧ (s.eng.retired.getLsbD e = false) ∧ (s.eng.retiring.getLsbD e = true) ∧ (s.engineBusy e = 0)) ∧
    (∃ (v : Word32) (s : State), (s.hostSets 9) ∧ (bit v.toNat 8 = true) ∧ (s.eng.test.busy = false) ∧ (s.md.mode = .maintenance)) ∧
    (∃ (v : Word32) (s : State), (s.hostSets 9) ∧ (bit v.toNat 8 = false)) ∧
    (∃ (v : Word32) (s : State), (s.hostSets 9) ∧ (bit v.toNat 8 = true) ∧ (s.md.mode ≠ .maintenance) ∧ (s.eng.retired.getLsbD (v.toNat % 64) = false)) ∧
    (∃ (pass : Bool) (s : State), (s.running) ∧ (s.eng.test.busy = true)) :=
  ⟨⟨0, { tSvc with eng := { th := ⟨[(0, { wait := .ready, started := true, pending := 8 })]⟩ } }, by decide +kernel⟩,
   ⟨0, { tSvc with eng := { th := ⟨[(0, { wait := .ready, started := true, pending := 2 })]⟩ } }, by decide +kernel⟩,
   ⟨0, { tSvc with eng := { th := ⟨[(0, { wait := .ready, started := true, pending := 2 })]⟩ }, regs := ⟨[(Reg.ENG_TRAP_VEC 1, 0xFFFF)]⟩ }, by decide +kernel⟩,
   ⟨0, 77, { tSvc with eng := { th := ⟨[(0, { wait := .ready, started := true })]⟩, pre := some (0, 77, false) } }, by decide +kernel⟩,
   ⟨0x80000000, { tSvc with eng := { th := ⟨[(0, { wait := .ready, started := true })]⟩ } }, by decide +kernel⟩,
   ⟨0, 0, 4, 7, { fn := 1, answer := some (0, 4, 7) }, { tSvc with eng := { th := ⟨[(0, { wait := .far, far := some { fn := 1, answer := some (0, 4, 7) } })]⟩ } }, by decide +kernel⟩,
   ⟨5, { tSvc with eng := { retiring := BitVec.ofNat 64 32 } }, by decide +kernel⟩,
   ⟨0x105, tMode .maintenance, by decide +kernel⟩,
   ⟨5, tSvc, by decide +kernel⟩,
   ⟨0x105, tSvc, by decide +kernel⟩,
   ⟨true, { tSvc with eng := { test := { unit := 5, busy := true } } }, by decide +kernel⟩⟩

theorem wit_MicrowordRoundTrip :
    (∃ (i : Instr) (w : Nat), (microOk i = true) ∧ (microEncode i = some w)) :=
  ⟨.uMovi 0 1 3 65535, microI 0x0B 1 3 65535, by decide +kernel⟩

theorem wit_MicroOpsNeedTheirThread :
    (∃ (i : Instr) (t : Nat) (w : Nat) (ecc : BurstOutcome) (s : State), (w < 2 ^ 32) ∧ (microDecode t w ecc = some i) ∧ (s.running) ∧ ((s.canIssue t = false ∨ s.nextWord t ≠ microClean w))) :=
  ⟨.uNop 0 1 2 3 5, 0, microR 0x00 1 2 3 5, .ok, tSvc, by decide +kernel⟩


end Sys2Proof
end

namespace Sys2Proof.Machine

/-! ## Host writes to registers, and the reads of counters -/

/-! ### The frames in which these commands answer -/

/-- A device in Service is quiet: only Drain can end (R87). -/
theorem quiet_of_service {s : State} (h : s.md.mode = .service) : s.quiet :=
  fun d => absurd (h.symm.trans d) (by decide)

theorem hostUp_of_live {s : State} (hl : s.live = true) (hp : s.pins.perstN = true) : s.hostUp = true :=
  Bool.and_eq_true_iff.mpr ⟨hl, hp⟩

/-- A device that serves the host in Service runs. -/
theorem running_of_hostUp {s : State} (hu : s.hostUp = true) (hs : s.md.mode = .service) : s.running :=
  ⟨(Bool.and_eq_true_iff.mp hu).1, quiet_of_service hs⟩

/-- A command of a running block answers the state t that it makes, where t is in the mode that the device was in, with the
packets and the queue that it had. -/
theorem coreCmd_answers {f : State → State} {s t : State} (h : s.running) (e : f s.fresh = t) (hm : t.md = s.md)
    (hk : t.holdsPackets = s.holdsPackets) (hp : t.pending = s.pending) : coreCmd f s = .next t := by
  subst e
  exact coreCmd_running h (quiet_of_eq h.2 hm hk) hp

/-- A command of a running block that leaves what only records and counts touch answers just that. -/
theorem coreCmd_answers_events {f : State → State} {s t : State} (h : s.running) (e : f s.fresh = t)
    (hf : eventFrame s.fresh t) : coreCmd f s = .next t :=
  coreCmd_answers h e hf.md hf.packets hf.pending

theorem emit_frame (o : Out) (s : State) : eventFrame s (emit o s) :=
  ⟨s.isl.log, s.isl.total, s.isl.held, s.isl.wrapped, s.isl.alert, s.cnt, s.cdt, s.msix, _, rfl⟩

theorem ignoreWrite_frame (m : Nat) (w : Option Window) (s : State) : eventFrame s (ignoreWrite m w s) :=
  countA_frame _ _ _ _

theorem badAccess_frame (w : Window) (s : State) : eventFrame s (badAccess w s) :=
  (countA_frame _ _ _ _).trans (emit_frame _ _)

/-! ### A host write that the mode does not let through (R10, R83) -/

/-- The command of a register's write is a host write to the window that `hostWindow` names. -/
theorem exec_of_hostWindow {c : Instr} {win : Nat} (h : c.hostWindow = some win) (s : State) :
    ∃ f, exec c s = hostCmd win f s := by
  cases c with
  | realign | snap | arm | disarm | copy | asaTest | hmcDlyWrite | marchTest | sweepTest | xprTest | forceOut | lpcPortAdmin
  | cdtFlush | progRoot | jtagDisable | killFuse | resendTemplates | engPreempt | engTest => cases h; exact ⟨_, rfl⟩
  | ringEnable k v => cases h; exact ⟨_, show execRingEnable k v s = _ by rw [execRingEnable]⟩
  | hostIdx k v => cases h; exact ⟨_, show execHostIdx k v s = _ by rw [execHostIdx]⟩
  | _ => cases h

/-- A host write that the mode does not let through is counted as ignored, whatever the register would do (R10). -/
theorem hostCmd_ignored {f : State → State} {s : State} {win : Nat} (hu : s.hostUp = true)
    (hw : s.hostMayWrite win = false) (hq : s.quiet) :
    hostCmd win f s = .next (ignoreWrite 0 (some .bar0) s.fresh) := by
  have hf := ignoreWrite_frame 0 (some .bar0) s.fresh
  unfold hostCmd
  rw [if_pos hu, hw, if_neg Bool.false_ne_true]
  exact finish_of_quiet (quiet_of_eq hq hf.md hf.packets) hf.pending

/-- Settles O7: every command that `hostWindow` names runs in the frame of a host write, which counts a write that the mode keeps
out and does no more. -/
theorem ignoredHostWrites : Obligations.IgnoredHostWrites := by
  intro c win s hc hu hw hq
  obtain ⟨f, hf⟩ := exec_of_hostWindow hc s
  rw [hf, hostCmd_ignored hu hw hq]
  rfl

/-! ### Counter reads (R478, R479, R508, R509) -/

theorem counterOf_of_aligned {a : Nat} (h : a % 8 = 0) : counterOf a = a := by unfold counterOf; omega

theorem counterOf_high {a : Nat} (h : a % 8 = 0) : counterOf (a + 4) = a := by unfold counterOf; omega

/-- Every window returns content in Service (R59, R90, R91). -/
theorem readable_of_service {s : State} (h : s.md.mode = .service) (a : Nat) : s.readable a = true := by
  simp [State.readable, State.windowsOpen, h]

/-- A read of the host reaches a device that serves it (R58). -/
theorem reads_host {s : State} (hu : s.hostUp = true) : ¬ s.reads .host = false := by rw [State.reads, hu]; decide

/-- A host read of a counter that is not aligned is an unsupported request (R478). -/
theorem doCounterRead_misaligned {win : Window} {a : Nat} {wide : Bool} {s : State} (hu : s.hostUp = true)
    (ha : a % (if wide then 8 else 4) ≠ 0) : doCounterRead .host win a wide s = badAccess win s := by
  unfold doCounterRead
  rw [if_neg (reads_host hu), if_pos ⟨rfl, ha⟩]

/-- A host read of a counter in BAR4 reads zero (R479). -/
theorem doCounterRead_bar4 {a : Nat} {wide : Bool} {s : State} (hu : s.hostUp = true)
    (ha : a % (if wide then 8 else 4) = 0) (hc : isCounter (counterOf a) = true) (hb : a < 0x10000) :
    doCounterRead .host .bar4 a wide s = emit (.readData 0) s := by
  unfold doCounterRead
  rw [if_neg (reads_host hu), if_neg (fun h => h.2 ha), if_neg (by simp [hc, ha]), if_pos ⟨rfl, rfl⟩, if_pos hb]

/-- A host read of a counter in BAR0 gives what `readCounter` reads (R508). -/
theorem doCounterRead_bar0 {a : Nat} {wide : Bool} {s : State} (hu : s.hostUp = true)
    (ha : a % (if wide then 8 else 4) = 0) (hc : isCounter (counterOf a) = true) :
    doCounterRead .host .bar0 a wide s = emit (.readData (readCounter .host a wide s).1) (readCounter .host a wide s).2 := by
  unfold doCounterRead
  rw [if_neg (reads_host hu), if_neg (fun h => h.2 ha), if_neg (by simp [hc, ha]), if_neg (by simp)]

/-- A read of 8 bytes takes the whole counter, and its master's shadow is empty after it. -/
theorem readCounter_wide {m : Master} {a : Nat} {s : State} (hr : s.readable a = true) :
    readCounter m a true s = ((s.cntValue (counterOf a)).toNat, stampRead m {} s) := by
  simp [readCounter, hr]

/-- A read of the low word keeps the high word in its master's shadow. -/
theorem readCounter_low {m : Master} {a : Nat} {s : State} (hr : s.readable a = true) (ha : a % 8 = 0) :
    readCounter m a false s =
      ((s.cntValue a).toNat % 2 ^ 32,
       stampRead m { last := some a, hi := BitVec.ofNat 32 ((s.cntValue a).toNat / 2 ^ 32) } s) := by
  have hi (v : Nat) : BitVec.ofNat 32 (word32 v 1) = BitVec.ofNat 32 (v / 2 ^ 32) := by
    apply BitVec.eq_of_toNat_eq
    simp [word32, bits, Nat.shiftRight_eq_div_pow]
  have lo (v : Nat) : word32 v 0 = v % 2 ^ 32 := by simp [word32, bits]
  simp [readCounter, hr, cntWord, ha, counterOf_of_aligned ha, hi, lo]

/-- A read of the high word gives the one that the read of the low word kept. -/
theorem readCounter_high {m : Master} {a : Nat} {s : State} (hr : s.readable (a + 4) = true) (ha : a % 8 = 0)
    (hl : (shadowOf m s).last = some a) :
    readCounter m (a + 4) false s = ((shadowOf m s).hi.toNat, stampRead m {} s) := by
  have hn : ¬ (a + 4) % 8 = 0 := by omega
  simp [readCounter, hr, cntWord, hn, counterOf_high ha, hl]

/-- A counter read of the host in BAR0, in Service, answers what `readCounter` reads (R508). -/
theorem exec_counterRead_bar0 {a : Nat} {wide : Bool} {s : State} (hu : s.hostUp = true) (hs : s.md.mode = .service)
    (ha : a % (if wide then 8 else 4) = 0) (hc : isCounter (counterOf a) = true) {v : Nat} {sh : CntShadow}
    (hr : readCounter .host a wide s.fresh = (v, stampRead .host sh s.fresh)) :
    exec (.counterRead .host .bar0 a wide) s = .next (emit (.readData v)
      { s.fresh with hostStamp := BitVec.ofNat 64 s.now, hostShadow := sh }) := by
  refine coreCmd_answers (running_of_hostUp hu hs) ?_ rfl rfl rfl
  rw [doCounterRead_bar0 (s := s.fresh) hu ha hc, hr]
  rfl

/-! ### Register writes of 4 bytes (R10, R478, R541) -/

/-- A host write of 4 bytes that is not aligned is an unsupported request, and counted as one (R478). -/
theorem doRegisterWrite_misaligned {win : Window} {a v : Nat} {s : State} (hu : s.hostUp = true) (ha : a % 4 ≠ 0) :
    doRegisterWrite win a 4 v s = badAccess win s := by
  have hz : writeSizeOk win a 4 = false := by simp [writeSizeOk, ha]
  simp [doRegisterWrite, hu, hz]

/-- An aligned host write of 4 bytes in BAR0 outside the word windows is one register write. -/
theorem doRegisterWrite_word {a v : Nat} {s : State} (hu : s.hostUp = true) (ha : a % 4 = 0) (hb : a + 4 ≤ 0x4000000)
    (hw : windowAt a = none) : doRegisterWrite .bar0 a 4 v s = writeReg 0 (some .bar0) a (word32 v 0) s := by
  have hz : writeSizeOk .bar0 a 4 = true := by simp [writeSizeOk, ha, hb]
  have hc : wideCounter .bar0 a 4 = false := rfl
  simp [doRegisterWrite, hu, hz, hw, hc, hostWrite, List.range_succ]

/-- A write to an offset that holds no register is ignored (R541). -/
theorem writeReg_unassigned {m a v : Nat} {w : Option Window} {s : State} (hw : windowAt a = none)
    (hx : ¬ (0x3F0000 ≤ a ∧ a < 0x3F0400)) (hr : regAt a = none) : writeReg m w a v s = ignoreWrite m w s := by
  unfold writeReg
  rw [hw, if_neg hx, hr]

/-- A write that the mode, a field, the port and the ranges allow is taken (R10). -/
theorem writeReg_taken {m a v : Nat} {w : Option Window} {s : State} {g : RegGroup} (hw : windowAt a = none)
    (hx : ¬ (0x3F0000 ≤ a ∧ a < 0x3F0400)) (hr : regAt a = some g) (hm : s.admits m a v = true)
    (hf : g.fields.any (s.accepts a) = true) (hp : s.absentPort a = false) (hv : s.inRange g.fields a v = true) :
    writeReg m w a v s = takeWrite m w g.fields a v s := by
  unfold writeReg
  rw [hw, if_neg hx, hr]
  simp [hm, hf, hp, hv]

/-- The one field of MGT_SCRATCH: 32 bits that the host reads and writes. -/
def scratchField : RField := { hi := 31, lo := 0, acc := .rw }

theorem regAt_scratch : regAt Reg.MGT_SCRATCH = some { base := Reg.MGT_SCRATCH, fields := [scratchField] } := rfl

/-- A 32-bit write leaves nothing of the old value: the field spans the register. -/
theorem merged_scratch {v : Nat} (s : State) (hv : v < 2 ^ 32) : s.merged [scratchField] Reg.MGT_SCRATCH v = v := by
  have hx : s.reg Reg.MGT_SCRATCH < 2 ^ 32 := (s.regs.get Reg.MGT_SCRATCH).isLt
  have ha : (fieldAcc Reg.MGT_SCRATCH scratchField == .rw || fieldAcc Reg.MGT_SCRATCH scratchField == .rwl) = true := rfl
  have hs : s.accepts Reg.MGT_SCRATCH scratchField = true := rfl
  simp only [State.merged, List.foldl, ha, hs, Bool.and_self, if_true]
  simp only [scratchField, setBits, bits]
  omega

/-- MGT_SCRATCH has no behaviour of its own: a write that is taken is stored whole (R8). -/
theorem takeWrite_scratch {m v : Nat} {w : Option Window} (s : State) (hv : v < 2 ^ 32) :
    takeWrite m w [scratchField] Reg.MGT_SCRATCH v s = setReg Reg.MGT_SCRATCH v s := by
  have hn : actLow m w Reg.MGT_SCRATCH v s = none := rfl
  have hl : isLayout Reg.MGT_SCRATCH = false := by decide
  unfold takeWrite
  rw [if_pos (by decide), hn]
  simp only [storeReg, merged_scratch s hv, hl, Bool.false_and, Bool.false_eq_true, if_false]

/-- The ranges name no field of MGT_SCRATCH. -/
theorem inRange_scratch (s : State) (v : Nat) : s.inRange [scratchField] Reg.MGT_SCRATCH v = true := by
  have hr : ranges.all (fun r => !r.holds Reg.MGT_SCRATCH) = true := by decide
  have ho (f : Nat → Nat → Bool) : rangesOk Reg.MGT_SCRATCH v f = true := by
    refine List.all_eq_true.mpr fun r hm => ?_
    have hn := List.all_eq_true.mp hr r hm
    simp only [Bool.not_eq_true'] at hn
    rw [hn]; rfl
  have hp : (decide (Reg.PRS_PORT_START 0 ≤ Reg.MGT_SCRATCH)) = false := by decide
  have hs : arrIdx Reg.MGT_SCRATCH (Reg.FWD_STEP_HI 0 0) 8 64 = none := rfl
  simp [State.inRange, ho, hp, hs]

/-- The host's write of MGT_SCRATCH in Service takes its value (R8). -/
theorem writeReg_scratch {v : Nat} {w : Option Window} {s : State} (hs : s.md.mode = .service) (hv : v < 2 ^ 32) :
    writeReg 0 w Reg.MGT_SCRATCH v s = setReg Reg.MGT_SCRATCH v s := by
  have hm : s.admits 0 Reg.MGT_SCRATCH v = true := by
    simp [State.admits, State.hostMayWrite, hs, Reg.MGT_SCRATCH, Reg.SEC_ALARM_LATCH, Reg.LPC_PORT_ADMIN]
  rw [writeReg_taken rfl (by decide) regAt_scratch hm rfl rfl (inRange_scratch s v), takeWrite_scratch s hv]

/-! ### Register and counter accesses of the host in Service -/

section service
variable {s : State} (hu : s.hostUp = true) (hs : s.md.mode = .service)
include hu hs

theorem exec_registerWrite_scratch (v : Word32) :
    exec (.registerWrite .bar0 Reg.MGT_SCRATCH 4 v.toNat) s = .next { s.fresh with regs := s.regs.set Reg.MGT_SCRATCH v } := by
  have hv : word32 v.toNat 0 = v.toNat := by simp [word32, bits, Nat.mod_eq_of_lt v.isLt]
  refine coreCmd_answers (running_of_hostUp hu hs) ?_ rfl rfl rfl
  rw [doRegisterWrite_word (s := s.fresh) hu rfl (by decide) rfl, hv, writeReg_scratch (s := s.fresh) hs v.isLt, setReg,
    BitVec.ofNat_toNat, BitVec.setWidth_eq]
  rfl

theorem exec_registerWrite_unassigned {a : Nat} (v : Nat) (ha : a % 4 = 0) (hb : a + 4 ≤ 0x4000000)
    (hw : windowAt a = none) (hx : ¬ (0x3F0000 ≤ a ∧ a < 0x3F0400)) (hr : regAt a = none) :
    exec (.registerWrite .bar0 a 4 v) s = .next (ignoreWrite 0 (some .bar0) s.fresh) := by
  refine coreCmd_answers_events (running_of_hostUp hu hs) ?_ (ignoreWrite_frame _ _ _)
  rw [doRegisterWrite_word (s := s.fresh) hu ha hb hw, writeReg_unassigned hw hx hr]

theorem exec_counterRead_misaligned (win : Window) {a : Nat} (ha : a % 8 ≠ 0) :
    exec (.counterRead .host win a true) s = .next (badAccess win s.fresh) :=
  coreCmd_answers_events (running_of_hostUp hu hs) (doCounterRead_misaligned hu ha) (badAccess_frame _ _)

theorem exec_counterRead_bar4 {a : Nat} (hc : isCounter a = true) (ha : a % 8 = 0) (hb : a < 0x10000) :
    exec (.counterRead .host .bar4 a true) s = .next (emit (.readData 0) s.fresh) := by
  have hk : isCounter (counterOf a) = true := by rwa [counterOf_of_aligned ha]
  exact coreCmd_answers_events (running_of_hostUp hu hs) (doCounterRead_bar4 hu ha hk hb) (emit_frame _ _)

theorem exec_counterRead_wide {a : Nat} (hc : isCounter a = true) (ha : a % 8 = 0) :
    exec (.counterRead .host .bar0 a true) s = .next (emit (.readData (s.cntValue a).toNat)
      { s.fresh with hostStamp := BitVec.ofNat 64 s.now, hostShadow := {} }) := by
  have hk : isCounter (counterOf a) = true := by rwa [counterOf_of_aligned ha]
  refine exec_counterRead_bar0 hu hs ha hk ?_
  rw [readCounter_wide (readable_of_service (s := s.fresh) hs a), counterOf_of_aligned ha]
  rfl

theorem exec_counterRead_low {a : Nat} (hc : isCounter a = true) (ha : a % 8 = 0) :
    exec (.counterRead .host .bar0 a false) s = .next (emit (.readData ((s.cntValue a).toNat % 2 ^ 32))
      { s.fresh with
        hostStamp := BitVec.ofNat 64 s.now,
        hostShadow := { last := some a, hi := BitVec.ofNat 32 ((s.cntValue a).toNat / 2 ^ 32) } }) := by
  have hk : isCounter (counterOf a) = true := by rwa [counterOf_of_aligned ha]
  have h4 : a % 4 = 0 := by omega
  exact exec_counterRead_bar0 hu hs h4 hk (readCounter_low (readable_of_service hs a) ha)

theorem exec_counterRead_high {a : Nat} (hc : isCounter a = true) (ha : a % 8 = 0) (hd : s.hostShadow.last = some a) :
    exec (.counterRead .host .bar0 (a + 4) false) s = .next (emit (.readData s.hostShadow.hi.toNat)
      { s.fresh with hostStamp := BitVec.ofNat 64 s.now, hostShadow := {} }) := by
  have hk : isCounter (counterOf (a + 4)) = true := by rwa [counterOf_high ha]
  have h4 : (a + 4) % 4 = 0 := by omega
  exact exec_counterRead_bar0 hu hs h4 hk (readCounter_high (readable_of_service hs (a + 4)) ha hd)

end service

/-- A misaligned write of 4 bytes on a running device, in Drain too, answers that the access is bad (R478). -/
theorem exec_registerWrite_misaligned (win : Window) {a : Nat} (v : Nat) {s : State} (h : s.running)
    (hp : s.pins.perstN = true) (ha : a % 4 ≠ 0) :
    exec (.registerWrite win a 4 v) s = .next (badAccess win s.fresh) :=
  coreCmd_answers_events h (doRegisterWrite_misaligned (hostUp_of_live h.1 hp) ha) (badAccess_frame _ _)

/-- Settles O24: each access by the branch of `doRegisterWrite` or `doCounterRead` that takes it. -/
theorem registerAccess : Obligations.RegisterAccess := by
  refine ⟨?scratch, ?unassigned, ?badWrite, ?badRead, ?bar4, ?counter, ?high⟩
  case scratch => exact fun v s hl hp hs => exec_registerWrite_scratch (hostUp_of_live hl hp) hs v
  case unassigned =>
    exact fun a v s hl hp hs ha hb hw hx hr => exec_registerWrite_unassigned (hostUp_of_live hl hp) hs v ha hb hw hx hr
  case badWrite => exact fun win a v s h hp ha => exec_registerWrite_misaligned win v h hp ha
  case badRead => exact fun win a s hl hp hs ha => exec_counterRead_misaligned (hostUp_of_live hl hp) hs win ha
  case bar4 => exact fun a s hl hp hs hc ha hb => exec_counterRead_bar4 (hostUp_of_live hl hp) hs hc ha hb
  case counter =>
    intro a s hl hp hs hc ha
    have hu := hostUp_of_live hl hp
    exact ⟨exec_counterRead_wide hu hs hc ha, exec_counterRead_low hu hs hc ha, rfl⟩
  case high => exact fun a s hl hp hs hc ha hd => exec_counterRead_high (hostUp_of_live hl hp) hs hc ha hd

end Sys2Proof.Machine

namespace Sys2Proof.Machine

/-! ## Frames: the fields that an operation may change -/

/-! ### The relation `changesOnly` -/

theorem State.changesOnly.refl (s : State) (fs : List Fld) : s.changesOnly s fs := fun f _ => by cases f <;> rfl

theorem State.changesOnly.trans {s t u : State} {fs : List Fld} (h : s.changesOnly t fs) (g : t.changesOnly u fs) :
    s.changesOnly u fs := fun f hf => by cases f <;> exact Eq.trans (g _ hf) (h _ hf)

theorem State.changesOnly.mono {s t : State} {fs gs : List Fld} (h : s.changesOnly t fs) (hs : fs ⊆ gs) :
    s.changesOnly t gs := fun f hf => h f fun k => hf (hs k)

theorem ite_only {c : Prop} [Decidable c] {s t u : State} {fs : List Fld} (ht : s.changesOnly t fs)
    (hu : s.changesOnly u fs) : s.changesOnly (if c then t else u) fs := by split <;> assumption

theorem foldl_only {α : Type} {g : State → α → State} {fs : List Fld} (h : ∀ (s : State) (x : α), s.changesOnly (g s x) fs) (l : List α)
    (s : State) : s.changesOnly (l.foldl g s) fs := by
  induction l generalizing s with
  | nil => exact .refl s fs
  | cons x l ih => exact (h s x).trans (ih _)

/-! ### Updates of one or two fields -/

section updates
variable (s : State) {fs : List Fld}

theorem flt_only (v : SMap FltCount) (h : Fld.flt ∈ fs := by decide) : s.changesOnly { s with flt := v } fs :=
  fun f hf => by cases f with | flt => exact absurd h hf | _ => rfl
theorem lim_only (v : SMap Limiter) (h : Fld.lim ∈ fs := by decide) : s.changesOnly { s with lim := v } fs :=
  fun f hf => by cases f with | lim => exact absurd h hf | _ => rfl
theorem ecp_only (v : SMap EcpPort) (h : Fld.ecp ∈ fs := by decide) : s.changesOnly { s with ecp := v } fs :=
  fun f hf => by cases f with | ecp => exact absurd h hf | _ => rfl
theorem eng_only (v : EngSt) (h : Fld.eng ∈ fs := by decide) : s.changesOnly { s with eng := v } fs :=
  fun f hf => by cases f with | eng => exact absurd h hf | _ => rfl
theorem tbe_only (v : Tbe) (h : Fld.tbe ∈ fs := by decide) : s.changesOnly { s with tbe := v } fs :=
  fun f hf => by cases f with | tbe => exact absurd h hf | _ => rfl
theorem asa_only (v : AsaSt) (h : Fld.asa ∈ fs := by decide) : s.changesOnly { s with asa := v } fs :=
  fun f hf => by cases f with | asa => exact absurd h hf | _ => rfl
theorem out_only (v : List Out) (h : Fld.out ∈ fs := by decide) : s.changesOnly { s with out := v } fs :=
  fun f hf => by cases f with | out => exact absurd h hf | _ => rfl
theorem cnt_only (v : SMap Word64) (h : Fld.cnt ∈ fs := by decide) : s.changesOnly { s with cnt := v } fs :=
  fun f hf => by cases f with | cnt => exact absurd h hf | _ => rfl
theorem tblSet_only (t i : Nat) (d : Dat) (h : Fld.tbl ∈ fs := by decide) : s.changesOnly (tblSet t i d s) fs :=
  fun f hf => by cases f with | tbl => exact absurd h hf | _ => rfl
theorem cls_only (v : ClsSt) (h : Fld.cls ∈ fs := by decide) : s.changesOnly { s with cls := v } fs :=
  fun f hf => by cases f with | cls => exact absurd h hf | _ => rfl
theorem updFwd_only (v : FwdSt → FwdSt) (h : Fld.fwd ∈ fs := by decide) : s.changesOnly (updFwd v s) fs :=
  fun f hf => by cases f with | fwd => exact absurd h hf | _ => rfl
theorem fwdq_only (v : SMap (List (Pkt × Nat × Nat))) (h : Fld.fwdq ∈ fs := by decide) :
    s.changesOnly { s with fwdq := v } fs :=
  fun f hf => by cases f with | fwdq => exact absurd h hf | _ => rfl
theorem fseq_only (v : SMap (List Pkt)) (h : Fld.fseq ∈ fs := by decide) : s.changesOnly { s with fseq := v } fs :=
  fun f hf => by cases f with | fseq => exact absurd h hf | _ => rfl
theorem part_only (v : SMap Part) (h : Fld.part ∈ fs := by decide) : s.changesOnly { s with part := v } fs :=
  fun f hf => by cases f with | part => exact absurd h hf | _ => rfl
theorem draw_only (h : Fld.free ∈ fs := by decide) : s.changesOnly (draw s).2 fs :=
  fun f hf => by cases f with | free => exact absurd h hf | _ => rfl
theorem swc_only (v : SwcSt) (h : Fld.swc ∈ fs := by decide) : s.changesOnly { s with swc := v } fs :=
  fun f hf => by cases f with | swc => exact absurd h hf | _ => rfl
theorem buf_only (v : BufSt) (h : Fld.buf ∈ fs := by decide) : s.changesOnly { s with buf := v } fs :=
  fun f hf => by cases f with | buf => exact absurd h hf | _ => rfl
theorem buf_swc_only (b : BufSt) (w : SwcSt) (hb : Fld.buf ∈ fs := by decide) (hw : Fld.swc ∈ fs := by decide) :
    s.changesOnly { s with buf := b, swc := w } fs := (buf_only s b hb).trans (swc_only { s with buf := b } w hw)

end updates

/-! ### Events and counts -/

theorem eventFrame.only {s t : State} (h : eventFrame s t) {fs : List Fld} (hs : Fld.events ⊆ fs := by decide) :
    s.changesOnly t fs := by
  obtain ⟨_, _, _, _, _, _, _, _, _, rfl⟩ := h
  refine State.changesOnly.mono (fs := Fld.events) (fun f hf => ?_) hs
  cases f with
  | isl | cnt | cdt | msix | out => exact absurd (by decide) hf
  | _ => rfl

theorem eventFrame.asa {s t : State} (h : eventFrame s t) : t.asa = s.asa := by
  obtain ⟨_, _, _, _, _, _, _, _, _, rfl⟩ := h; rfl

section events
variable (s : State) {fs : List Fld}

theorem countA_only (x : Attr) (a n : Nat) (hs : Fld.events ⊆ fs := by decide) : s.changesOnly (countA x a n s) fs :=
  (countA_frame x a n s).only hs
theorem count_only (a : Nat) (hs : Fld.events ⊆ fs := by decide) : s.changesOnly (count a s) fs :=
  (count_frame a s).only hs
theorem countC_only (c a : Nat) (hs : Fld.events ⊆ fs := by decide) : s.changesOnly (countC c a s) fs :=
  (countA_frame _ a 1 s).only hs
theorem raise_only (b c u d : Nat) (hs : Fld.events ⊆ fs := by decide) : s.changesOnly (raise b c u d s) fs :=
  (raise_frame b c u d s).only hs

theorem raiseLim_only (n x b c u d : Nat) (hs : Fld.events ⊆ fs := by decide) :
    s.changesOnly (raiseLim n x b c u d s) fs := by
  obtain ⟨l, h⟩ := raiseLim_frame n x b c u d s
  exact (lim_only s l (hs (by decide))).trans (h.only hs)

end events

theorem emit_only (o : Out) (s : State) {fs : List Fld} (h : Fld.out ∈ fs := by decide) : s.changesOnly (emit o s) fs :=
  out_only s _ h

theorem runTo_only (n : Nat) (s : State) {fs : List Fld} (h : Fld.tbe ∈ fs := by decide) : s.changesOnly (runTo n s) fs :=
  tbe_only s _ h

/-! ### Commands by the frame of their effect -/

/-- What the end of a command looks at to see whether a device in Drain has drained (R87), with the queue of waiting commands. -/
def Fld.settled : List Fld := [.md, .pending, .buf, .swc, .tms, .pod]

theorem holdsPackets_of_only {s t : State} {fs : List Fld} (h : s.changesOnly t fs) (hs : ∀ f ∈ Fld.settled, f ∉ fs) :
    t.holdsPackets = s.holdsPackets := by
  have hb : t.buf = s.buf := h .buf (hs _ (by decide))
  have hw : t.swc = s.swc := h .swc (hs _ (by decide))
  have ht : t.tms = s.tms := h .tms (hs _ (by decide))
  have hp : t.pod = s.pod := h .pod (hs _ (by decide))
  simp only [State.holdsPackets, State.queuesHold, hb, hw, ht, hp]

/-- A command of a running block that moves no packet and leaves the modes alone answers its effect. -/
theorem coreCmd_only {f : State → State} {s : State} {fs : List Fld} (h : s.running) (hf : s.fresh.changesOnly (f s.fresh) fs)
    (hs : ∀ x ∈ Fld.settled, x ∉ fs := by decide) : coreCmd f s = .next (f s.fresh) :=
  coreCmd_running h (quiet_of_eq h.2 (hf .md (hs _ (by decide))) (holdsPackets_of_only (s := s.fresh) hf hs)) (hf .pending (hs _ (by decide)))

/-- A command of a steady device that leaves the modes alone answers its effect, whatever packets it moves. -/
theorem coreCmd_steady_only {f : State → State} {s : State} {fs : List Fld} (h : s.steady)
    (hf : s.fresh.changesOnly (f s.fresh) fs) (hm : Fld.md ∉ fs := by decide) (hp : Fld.pending ∉ fs := by decide) :
    coreCmd f s = .next (f s.fresh) := by
  have e : (f s.fresh).md = s.md := hf .md hm
  exact coreCmd_steady h (by rw [State.calm, e]; exact h.2) (hf .pending hp)

end Sys2Proof.Machine

namespace Sys2Proof.Machine

/-! ## Membership of the cascade ring (R158 to R172) -/

/-! ### Bits of a member mask -/

theorem bit_eq_testBit (m i : Nat) : bit m i = m.testBit i := by
  rw [bit, Nat.testBit_eq_decide_div_mod_eq, Nat.shiftRight_eq_div_pow]; rfl

/-- A clear bit is set by adding its weight: nothing carries. -/
theorem add_two_pow_eq_or {m p : Nat} (h : m.testBit p = false) : m + 2 ^ p = m ||| 2 ^ p := by
  have ha : m % 2 ^ (p + 1) < 2 ^ p := by
    have e := Nat.mod_pow_succ (b := 2) (x := m) (k := p)
    rw [Nat.testBit_eq_decide_div_mod_eq, decide_eq_false_iff_not] at h
    rw [e, show m / 2 ^ p % 2 = 0 by omega, Nat.mul_zero, Nat.add_zero]
    exact Nat.mod_lt _ (Nat.two_pow_pos p)
  have hs : 2 ^ (p + 1) = 2 ^ p * 2 := Nat.pow_succ 2 p
  have hl : 2 ^ p * 1 + m % 2 ^ (p + 1) < 2 ^ (p + 1) := by omega
  calc m + 2 ^ p = 2 ^ (p + 1) * (m / 2 ^ (p + 1)) + (2 ^ p * 1 + m % 2 ^ (p + 1)) := by
        rw [Nat.mul_one]; have := Nat.div_add_mod m (2 ^ (p + 1)); omega
    _ = (2 ^ (p + 1) * (m / 2 ^ (p + 1)) ||| m % 2 ^ (p + 1)) ||| 2 ^ p := by
        rw [Nat.two_pow_add_eq_or_of_lt hl, Nat.two_pow_add_eq_or_of_lt ha, Nat.mul_one, Nat.or_assoc, Nat.or_comm (2 ^ p)]
    _ = m ||| 2 ^ p := by
        rw [← Nat.two_pow_add_eq_or_of_lt (Nat.mod_lt _ (Nat.two_pow_pos _)), Nat.div_add_mod]

/-- Taking one member out of a mask leaves the bits of the others. -/
theorem bit_setBits_ne {m p q : Nat} (hp : bit m p = true) (hq : q ≠ p) : bit (setBits m p p 0) q = bit m q := by
  rw [bit_eq_testBit] at hp
  have hs : setBits m p p 0 = m - 2 ^ p := by
    have hb : bits m p p = 1 := by
      rw [bits, Nat.add_sub_cancel_left, Nat.pow_one]
      rw [Nat.testBit_eq_decide_div_mod_eq, decide_eq_true_eq] at hp
      rw [Nat.shiftRight_eq_div_pow, hp]
    simp [setBits, hb, Nat.shiftLeft_eq]
  have hm : m = 2 ^ p + (m - 2 ^ p) := (Nat.add_sub_cancel' (Nat.ge_two_pow_of_testBit hp)).symm
  have hz : (m - 2 ^ p).testBit p = false := by
    rw [hm, Nat.testBit_two_pow_add_eq] at hp
    simpa using hp
  rw [hs, bit_eq_testBit, bit_eq_testBit, hm, Nat.add_comm, Nat.add_sub_cancel, add_two_pow_eq_or hz, Nat.testBit_or,
    Nat.testBit_two_pow_of_ne hq.symm, Bool.or_false]

/-- The members of `mask` that were not among `was` before (R167). -/
def rejoining (was mask : Nat) : List Nat := (List.range 8).filter (fun p => bit mask p && !bit was p)

theorem rejoining_add {was p : Nat} (hp : p < 8) (hb : bit was p = false) : rejoining was (was + 2 ^ p) = [p] := by
  have hq (q : Nat) : (bit (was + 2 ^ p) q && !bit was q) = (q == p) := by
    rw [bit_eq_testBit] at hb ⊢
    rw [add_two_pow_eq_or hb, bit_eq_testBit, Nat.testBit_or, Nat.testBit_two_pow]
    by_cases h : q = p
    · simp [h, hb]
    · simp [h, Ne.symm h]
  have h8 : ∀ p < 8, (List.range 8).filter (fun q => q == p) = [p] := by decide
  rw [rejoining, List.filter_congr fun q _ => hq q, h8 p hp]

/-! ### What the operations of the Runner may change -/

/-- The fields that membership and the end of cascaded searches may change. -/
def Fld.runner : List Fld := Fld.events ++ [.asa, .ecp, .eng]

theorem updRun_only (f : Runner → Runner) (s : State) {fs : List Fld} (h : Fld.asa ∈ fs := by decide) :
    s.changesOnly (updRun f s) fs := asa_only s _ h

theorem casDeliver_only (q : CasReq) (r : AsaRes) (s : State) : s.changesOnly (casDeliver q r s) Fld.runner := by
  have h : s.changesOnly (setHandle q.owner (r.handle q.key q.profile 0) s) Fld.runner := asa_only s _
  unfold casDeliver
  dsimp only
  split
  · exact h.trans (ecp_only _ _)
  · exact h.trans (eng_only _ _)

theorem casTimeout_only (q : CasReq) (s : State) : s.changesOnly (casTimeout q s) Fld.runner :=
  ((ite_only (count_only s _) (.refl s _) : s.changesOnly (countDegraded s) Fld.runner).trans (count_only _ _)).trans
    (casDeliver_only _ _ _)

theorem dropWaiting_only (s : State) : s.changesOnly (dropWaiting s) Fld.runner :=
  (updRun_only _ s).trans (foldl_only (fun s q => casTimeout_only q s) _ _)

theorem ringOut_only (b : List Byte) (s : State) {fs : List Fld} (h : Fld.out ∈ fs := by decide) :
    s.changesOnly (ringOut b s) fs := emit_only _ s h

/-- The records of the members that a membership brings back (R167). -/
def reportRejoined (gen was mask : Nat) (s : State) : State :=
  (rejoining was mask).foldl (fun s p => raise 6 5 noUnit (256 * (gen % 256) + p) s) s

theorem reportRejoined_only (gen was mask : Nat) (s : State) {fs : List Fld} (hs : Fld.events ⊆ fs := by decide) :
    s.changesOnly (reportRejoined gen was mask s) fs := foldl_only (fun s _ => raise_only s _ _ _ _ hs) _ _

/-- A membership that names a running member takes effect there, with a record for each member that it brings back (R166, R167). -/
theorem applyMembership_stays {gen mask : Nat} {s : State} (hr : s.asa.run.state = .running)
    (hm : bit mask s.runnerPos = true) :
    applyMembership gen mask s =
      reportRejoined gen s.asa.run.members mask (updRun (fun r => { r with gen := gen % 256, members := mask % 256 }) s) := by
  have hb : ¬ ((updRun (fun r => { r with gen := gen % 256, members := mask % 256 }) s).asa.run.state = .bypass ∧
      (updRun (fun r => { r with gen := gen % 256, members := mask % 256 }) s).asa.run.retired = false) := by
    simp [updRun, hr]
  unfold applyMembership reportRejoined rejoining
  dsimp only
  rw [if_pos hm, if_neg hb, List.foldl_filter]
  simp

/-! ### CONTROL frames -/

theorem forwardControl_only (f : ControlFrame) (s : State) {fs : List Fld} (h : Fld.out ∈ fs := by decide) :
    s.changesOnly (forwardControl f s) fs := ite_only (.refl s fs) (ringOut_only _ s h)

/-- A running member takes a sound frame after it has sent it on (R165). -/
theorem doControlFrame_running {f : ControlFrame} {s : State} (h : s.asa.run.state = .running) :
    doControlFrame f false s = takeControl f (forwardControl f (lapHeard s)) := by simp [doControlFrame, h]

theorem doControlFrame_running_bad {f : ControlFrame} {s : State} (h : s.asa.run.state = .running) :
    doControlFrame f true s = ringError (lapHeard s) := by simp [doControlFrame, h]

theorem doControlFrame_bypass_bad {f : ControlFrame} {s : State} (h : s.asa.run.state = .bypass) :
    doControlFrame f true s = forwardControl f (lapHeard s) := by simp [doControlFrame, h]

theorem exec_controlFrame_keepalive {pos : Nat} {s : State} (h : s.running) (hr : s.asa.run.state = .running) :
    exec (.controlFrame (.keepalive pos false false) false) s = .next
      { s.fresh with
        asa := { s.asa with run := { s.asa.run with heard := s.asa.run.heard.set (pos % 8) s.now, lapAt := s.now } },
        out := if (s.runnerPos + 1) % max 1 s.runnerCount = pos then []
          else [.ring (controlBytes (.keepalive pos false false))] } := by
  refine coreCmd_answers h ?_ rfl rfl rfl
  have hp : (lapHeard s.fresh).runnerPos = s.runnerPos := rfl
  have hc : (lapHeard s.fresh).runnerCount = s.runnerCount := rfl
  rw [doControlFrame_running (s := s.fresh) hr, forwardControl]
  simp only [hp, hc, beq_iff_eq]
  split <;> rfl

theorem exec_controlFrame_membership {gen mask e : Nat} {s : State} (h : s.running) (hr : s.asa.run.state = .running) :
    exec (.controlFrame (.membership gen mask (some e)) false) s = .next
      { s.fresh with
        asa := { s.asa with run := { s.asa.run with rejoin := some (gen, mask, e), lapAt := s.now } },
        out := if bit s.asa.run.members s.runnerPos = true ∧ s.runnerPos = runnerMaster s.asa.run.members then []
          else [.ring (controlBytes (.membership gen mask (some e)))] } := by
  refine coreCmd_answers h ?_ rfl rfl rfl
  have hp : (lapHeard s.fresh).runnerPos = s.runnerPos := rfl
  have hm : (lapHeard s.fresh).asa.run.members = s.asa.run.members := rfl
  rw [doControlFrame_running (s := s.fresh) hr, forwardControl]
  simp only [hp, hm, Bool.and_eq_true, beq_iff_eq]
  split <;> rfl

/-- An error of the ring below its threshold enters the count and does no more (R438, R439). -/
theorem ringError_counts {s : State} (hr : (s.flt.get (fltKey 1 0)).retired = false)
    (hc : (s.flt.get (fltKey 1 0)).count < 65535) (ht : s.thresh 1 ≠ (s.flt.get (fltKey 1 0)).count + 1) :
    ∃ f : FltCount, f.count = (s.flt.get (fltKey 1 0)).count + 1 ∧
      ringError s = { s with flt := s.flt.set (fltKey 1 0) f } := by
  have hn : min 65535 ((s.flt.get (fltKey 1 0)).count + 1) = (s.flt.get (fltKey 1 0)).count + 1 := by omega
  have hx : (decide ((s.flt.get (fltKey 1 0)).count < s.thresh 1) &&
      decide (s.thresh 1 ≤ (s.flt.get (fltKey 1 0)).count + 1)) = false := by
    simp only [Bool.and_eq_false_iff, decide_eq_false_iff_not]; omega
  refine ⟨{ s.flt.get (fltKey 1 0) with
    count := (s.flt.get (fltKey 1 0)).count + 1,
    peak := max (s.flt.get (fltKey 1 0)).peak ((s.flt.get (fltKey 1 0)).count + 1) }, rfl, ?_⟩
  unfold ringError enterError
  simp only [hr, hn, hx, Bool.false_and, Bool.false_eq_true, if_false]

theorem exec_controlFrame_bad {f : ControlFrame} {s : State} (h : s.running) (hs : s.asa.run.state = .running)
    (hr : (s.flt.get (fltKey 1 0)).retired = false) (hc : (s.flt.get (fltKey 1 0)).count < 65535)
    (ht : s.thresh 1 ≠ (s.flt.get (fltKey 1 0)).count + 1) :
    ∃ t, exec (.controlFrame f true) s = .next t ∧ t.out = [] ∧
      t.asa = { s.asa with run := { s.asa.run with lapAt := s.now } } ∧
      (t.flt.get (fltKey 1 0)).count = (s.flt.get (fltKey 1 0)).count + 1 ∧ s.fresh.changesOnly t [.asa, .flt] := by
  obtain ⟨c, hn, he⟩ := ringError_counts (s := lapHeard s.fresh) hr hc ht
  refine ⟨_, coreCmd_answers h ((doControlFrame_running_bad (s := s.fresh) hs).trans he) rfl rfl rfl, rfl, rfl, ?_,
    (updRun_only _ _).trans (flt_only _ _)⟩
  exact (congrArg FltCount.count (SMap.get_set_self _ _ _)).trans hn

theorem exec_controlFrame_bypass {pos : Nat} {ready retired : Bool} {s : State} (h : s.running)
    (hs : s.asa.run.state = .bypass) (hn : (s.runnerPos + 1) % max 1 s.runnerCount ≠ pos) :
    exec (.controlFrame (.keepalive pos ready retired) true) s =
      .next (emit (.ring (controlBytes (.keepalive pos ready retired)))
        { s.fresh with asa := { s.asa with run := { s.asa.run with lapAt := s.now } } }) := by
  refine coreCmd_answers h ?_ rfl rfl rfl
  rw [doControlFrame_bypass_bad (s := s.fresh) hs, forwardControl]
  exact if_neg (beq_iff_eq.not.mpr hn)

theorem recordOf_congr {s t : State} (h : t.tbe = s.tbe) (b c u d : Nat) : recordOf t b c u d = recordOf s b c u d := by
  simp [recordOf, State.now, h]

/-- A membership that brings one member back applies to a member that runs, with MEMBER_REJOINED (R166, R167). -/
theorem exec_controlFrame_rejoined {gen pos : Nat} {s : State} (h : s.running) (hs : s.asa.run.state = .running)
    (hp : pos < 8) (hb : bit s.asa.run.members pos = false) (hm : s.asa.run.members < 256)
    (hr : bit (s.asa.run.members + 2 ^ pos) s.runnerPos = true) :
    ∃ t, exec (.controlFrame (.membership gen (s.asa.run.members + 2 ^ pos) none) false) s = .next t ∧
      t.asa.run.members = s.asa.run.members + 2 ^ pos ∧ t.asa.run.gen = gen % 256 ∧ t.asa.run.state = .running ∧
      t.isl.log.get (s.isl.total.toNat % 1024) = recordOf t 6 5 noUnit (256 * (gen % 256) + pos) := by
  set mask := s.asa.run.members + 2 ^ pos with hk
  have hlt : mask < 256 := by
    rw [hk, add_two_pow_eq_or ((bit_eq_testBit _ _).symm.trans hb)]
    exact Nat.or_lt_two_pow (n := 8) hm (Nat.pow_lt_pow_right (by decide) hp)
  set w := forwardControl (.membership gen mask none) (lapHeard s.fresh) with hw
  have hf : (lapHeard s.fresh).changesOnly w [.out] := forwardControl_only _ _
  have ha : w.asa = (lapHeard s.fresh).asa := hf .asa (by decide)
  have hi : w.isl = s.isl := hf .isl (by decide)
  set u := updRun (fun r => { r with gen := gen % 256, members := mask % 256 }) w with hu
  have e : doControlFrame (.membership gen mask none) false s.fresh = raise 6 5 noUnit (256 * (gen % 256) + pos) u := by
    have hpos : w.runnerPos = s.runnerPos := congrArg (datU · 3 1) (hf .topo (by decide))
    rw [doControlFrame_running (s := s.fresh) hs, ← hw]
    show applyMembership gen mask w = _
    rw [applyMembership_stays (by rw [ha]; exact hs) (by rw [hpos]; exact hr), reportRejoined, ha]
    show List.foldl _ u (rejoining s.asa.run.members mask) = _
    rw [hk, rejoining_add hp hb]
    rfl
  obtain ⟨hfr, hlog⟩ := raise_raised 6 5 noUnit (256 * (gen % 256) + pos) u
  have hru : (raise 6 5 noUnit (256 * (gen % 256) + pos) u).asa = u.asa := hfr.asa
  have hrun : u.asa.run = { (lapHeard s.fresh).asa.run with gen := gen % 256, members := mask % 256 } := by rw [hu, ← ha]; rfl
  have hall : s.fresh.changesOnly (doControlFrame (.membership gen mask none) false s.fresh) Fld.runner := by
    rw [e]
    exact (updRun_only _ _).trans ((hf.mono (by decide)).trans ((updRun_only _ _).trans (raise_only _ _ _ _ _)))
  refine ⟨_, (coreCmd_only h hall).trans (congrArg _ e), ?_, ?_, ?_, ?_⟩
  · rw [hru, hrun]; exact Nat.mod_eq_of_lt hlt
  · rw [hru, hrun]
  · rw [hru, hrun]; exact hs
  · rw [recordOf_congr hfr.tbe, ← hlog, hu]
    show _ = SMap.get _ (w.isl.total.toNat % 1024)
    rw [hi]

/-! ### Silence, keepalives and the ring's training -/

/-- The master drops a member of the ring under the next generation, in a frame with its records (R165). -/
theorem excludeMember_drops {pos : Nat} {s : State} (hr : s.asa.run.state = .running) (hb : bit s.asa.run.members pos = true)
    (hp : pos ≠ s.runnerPos) (hm : s.isMaster pos = true) :
    (excludeMember pos s).asa.run.members = setBits s.asa.run.members pos pos 0 % 256 ∧
      (excludeMember pos s).asa.run.gen = (s.asa.run.gen + 1) % 256 ∧ s.changesOnly (excludeMember pos s) Fld.runner := by
  have hown : bit (setBits s.asa.run.members pos pos 0) s.runnerPos = true :=
    (bit_setBits_ne hb hp.symm).trans (Bool.and_eq_true_iff.mp hm).1
  unfold excludeMember
  extract_lets gen mask w
  have e := applyMembership_stays (gen := gen) (s := w) hr hown
  set u := updRun (fun r => { r with gen := gen % 256, members := mask % 256 }) w with hu
  have hf : u.changesOnly (raise 6 4 noUnit (256 * gen + pos) (applyMembership gen mask w)) Fld.events := by
    rw [e]; exact (reportRejoined_only _ _ _ _).trans (raise_only _ _ _ _ _)
  have ha : (raise 6 4 noUnit (256 * gen + pos) (applyMembership gen mask w)).asa = u.asa := hf .asa (by decide)
  refine ⟨by rw [ha]; rfl, ?_, (ringOut_only _ s).trans ((updRun_only _ w).trans (hf.mono (by decide)))⟩
  rw [ha]
  exact Nat.mod_mod _ _

theorem exec_memberDead {pos : Nat} {s : State} (h : s.running) (hr : s.asa.run.state = .running) (h8 : pos < 8)
    (hb : bit s.asa.run.members pos = true) (hp : pos ≠ s.runnerPos) (hm : s.isMaster pos = true) :
    ∃ t, exec (.memberDead pos) s = .next t ∧ t.tbe.st = max s.tbe.st (s.asa.run.heard.get pos + 64000) ∧
      t.asa.run.members = setBits s.asa.run.members pos pos 0 % 256 ∧ t.asa.run.gen = (s.asa.run.gen + 1) % 256 ∧
      s.fresh.changesOnly t (Fld.events ++ [.tbe, .asa, .ecp, .eng]) := by
  set w := runTo (s.asa.run.heard.get pos + 64000) s.fresh with hw
  obtain ⟨hmem, hgen, hf⟩ := excludeMember_drops (s := w) hr hb hp hm
  have e : doMemberDead pos s.fresh = excludeMember pos w := if_pos ⟨hr, h8, hb, hp, hm⟩
  have ht : (excludeMember pos w).tbe = w.tbe := hf .tbe (by decide)
  have hall : s.fresh.changesOnly (excludeMember pos w) (Fld.events ++ [.tbe, .asa, .ecp, .eng]) :=
    (runTo_only _ _).trans (hf.mono (by decide))
  exact ⟨_, (coreCmd_only h (e.symm ▸ hall)).trans (congrArg _ e), by rw [ht]; rfl, hmem, hgen, hall⟩

theorem exec_runnerKeepalive {s : State} (h : s.running) (hr : s.asa.run.state = .running) :
    exec .runnerKeepalive s = .next (emit (.ring (controlBytes (.keepalive s.runnerPos false s.asa.run.retired)))
      { s.fresh with
        tbe := { s.tbe with st := max s.tbe.st (s.asa.run.sent + 1000) },
        asa := { s.asa with run := { s.asa.run with sent := max s.tbe.st (s.asa.run.sent + 1000) } } }) := by
  refine coreCmd_answers h ?_ rfl rfl rfl
  have hn : ((runTo (s.asa.run.sent + 1000) s.fresh).asa.run.state == .bypass) = false := by
    show (s.asa.run.state == .bypass) = false
    rw [hr]; rfl
  refine (if_pos (Or.inl hr)).trans ?_
  dsimp only
  rw [show s.fresh.asa.run.sent = s.asa.run.sent from rfl, hn]
  rfl

/-- A ring without searches goes down with nothing to abandon (R167). -/
theorem runnerHold_idle {s : State} (hf : s.asa.run.flight = []) (hw : s.asa.run.waiting = []) :
    runnerHold s = updRun (fun r => { r with state := .down, rejoin := none, matched := [] }) s := by
  simp [runnerHold, casAbandon, updRun, hf, hw]

theorem exec_runnerDown {s : State} (h : s.running) (hr : s.asa.run.state = .running ∨ s.asa.run.state = .bypass)
    (hf : s.asa.run.flight = []) (hw : s.asa.run.waiting = []) :
    exec .runnerDown s = .next (raise 6 6 noUnit 0
      { s.fresh with
        tbe := { s.tbe with st := max s.tbe.st (s.asa.run.lapAt + 64000) },
        asa := { s.asa with run := { s.asa.run with state := .down, rejoin := none, matched := [],
                                                    trainAt := max s.tbe.st (s.asa.run.lapAt + 64000) } } }) := by
  refine coreCmd_answers h ?_ (raise_md ..) (raise_frame ..).packets (raise_pending ..)
  refine (if_pos hr).trans ?_
  dsimp only
  rw [runnerHold_idle (s := runTo (s.fresh.asa.run.lapAt + 64000) s.fresh) hf hw]
  rfl

theorem exec_ringTraining {s : State} (h : s.running) (hr : s.asa.run.state = .down ∨ s.asa.run.state = .training)
    (ha : s.ringAllowed = true) :
    exec .ringTraining s = .next
      { s.fresh with
        tbe := { s.tbe with st := max s.tbe.st (s.asa.run.trainAt + 100000000) },
        asa := { s.asa with run := { s.asa.run with state := .training,
                                                    trainAt := max s.tbe.st (s.asa.run.trainAt + 100000000) } } } := by
  refine coreCmd_answers h ?_ rfl rfl rfl
  exact (if_pos ⟨hr, ha⟩).trans (if_pos ha)

theorem exec_runnerUp_long {lap members : Nat} {s : State} (h : s.running) (hr : s.asa.run.state = .training)
    (ha : s.ringAllowed = true) (hl : s.regF Reg.ASA_RUNNER_CFG 15 8 < lap) :
    exec (.runnerUp lap members) s = .next (raise 6 6 noUnit 0
      { s.fresh with asa := { s.asa with run := { s.asa.run with state := .down, trainAt := s.now } } }) := by
  refine coreCmd_answers h ?_ (raise_md ..) (raise_frame ..).packets (raise_pending ..)
  exact (if_neg (not_or.mpr ⟨not_not.mpr hr, (Bool.not_eq_false _).mpr ha⟩)).trans (if_pos hl)

/-- The Runner of a member after training over a lap within LEAD (R162, R172). -/
def upRunner (mask now : Nat) (r : Runner) : Runner :=
  { r with state := .running, members := mask, sent := now, lapAt := now, wideAt := none, rejoin := none,
           heard := (List.range 8).foldl (fun m p => m.set p now) r.heard }

theorem doRunnerUp_member {lap members : Nat} {s : State} (hr : s.asa.run.state = .training) (ha : s.ringAllowed = true)
    (hn : s.asa.run.retired = false) (hl : lap ≤ s.regF Reg.ASA_RUNNER_CFG 15 8)
    (hb : bit (members % 2 ^ s.runnerCount) s.runnerPos = true) :
    doRunnerUp lap members s = raise 6 3 noUnit (256 * s.asa.run.gen + members % 2 ^ s.runnerCount)
      (updRun (upRunner (members % 2 ^ s.runnerCount) s.now) s) := by
  unfold doRunnerUp
  rw [if_neg (by simp [hr, ha]), if_neg (by omega)]
  simp only [updRun, upRunner, hb, hn]
  rfl

theorem exec_runnerUp_member {lap members : Nat} {s : State} (h : s.running) (hr : s.asa.run.state = .training)
    (ha : s.ringAllowed = true) (hn : s.asa.run.retired = false) (hl : lap ≤ s.regF Reg.ASA_RUNNER_CFG 15 8)
    (hb : bit (members % 2 ^ s.runnerCount) s.runnerPos = true) :
    ∃ t, exec (.runnerUp lap members) s = .next t ∧ t.asa.run.state = .running ∧
      t.asa.run.members = members % 2 ^ s.runnerCount ∧
      t.isl.log.get (s.isl.total.toNat % 1024) = recordOf s 6 3 noUnit (256 * s.asa.run.gen + members % 2 ^ s.runnerCount) ∧
      s.fresh.changesOnly t (Fld.events ++ [.asa, .ecp, .eng]) := by
  set u := updRun (upRunner (members % 2 ^ s.runnerCount) s.now) s.fresh
  obtain ⟨hf, hlog⟩ := raise_raised 6 3 noUnit (256 * s.asa.run.gen + members % 2 ^ s.runnerCount) u
  have hu : _ = u.asa := hf.asa
  exact ⟨_, coreCmd_answers h (doRunnerUp_member (s := s.fresh) hr ha hn hl hb) hf.md hf.packets hf.pending,
    congrArg (·.run.state) hu, congrArg (·.run.members) hu, hlog, (updRun_only _ _).trans hf.only⟩

/-- Settles O35: each command of the Runner by the branch that takes it. -/
theorem runnerMembership : Obligations.RunnerMembership := by
  refine ⟨?keepalive, ?rejoin, ?bad, ?bypass, ?rejoined, ?dead, ?send, ?down, ?train, ?long, ?up⟩
  case keepalive => exact fun pos s h hr _ => exec_controlFrame_keepalive h hr
  case rejoin => exact fun gen mask e s h hr => exec_controlFrame_membership h hr
  case bad => exact fun f s h hs hr hc ht => exec_controlFrame_bad h hs hr hc ht
  case bypass => exact fun pos ready retired s h hs hn => exec_controlFrame_bypass h hs hn
  case rejoined =>
    rintro gen _ pos s h hs hp - hb hm rfl hr
    exact exec_controlFrame_rejoined h hs hp hb hm hr
  case dead => exact fun pos s h hr h8 hb hp hm => exec_memberDead h hr h8 hb hp hm
  case send => exact fun s h hr => exec_runnerKeepalive h hr
  case down => exact fun s h hr hf hw => exec_runnerDown h hr hf hw
  case train => exact fun s h hr ha => exec_ringTraining h hr ha
  case long => exact fun lap members s h hr ha hl => exec_runnerUp_long h hr ha hl
  case up => exact fun lap members s h hr ha hn hl hb => exec_runnerUp_member h hr ha hn hl hb

end Sys2Proof.Machine

namespace Sys2Proof.Machine

/-! ## The passes of an ingress pipeline (R17, R108, R115, R177 to R181) -/

/-! ### What a lookup may change -/

/-- The fields that the parser's counts, the classifier and a walk of the forwarding tables may change. -/
def Fld.lookup : List Fld := Fld.events ++ [.asa, .flt, .tbl, .cls, .fwd]

theorem countParse_only (i : Nat) (r : ParseRes) (s : State) : s.changesOnly (countParse i r s) Fld.events := by
  unfold countParse
  split
  · exact count_only s _
  · exact count_only s _
  · exact (count_only s _).trans (count_only _ _)
  · exact count_only s _

theorem enterError_only (c u w : Nat) (s : State) : s.changesOnly (enterError c u w s).2 Fld.lookup := by
  unfold enterError
  extract_lets f n crossed t
  have ht : s.changesOnly t Fld.lookup := flt_only s _
  split
  · exact .refl s _
  · exact ht.trans (ite_only (count_only t _) (.refl t _))

theorem retireBank_only (b : Nat) (s : State) : s.changesOnly (retireBank b s) Fld.lookup :=
  (asa_only s _).trans ((flt_only _ _).trans (raise_only _ _ _ _ _))

theorem asaParityError_only (n : Nat) (s : State) : s.changesOnly (asaParityError n s) Fld.lookup := by
  unfold asaParityError
  extract_lets e a s1 s2 r
  have h1 : s.changesOnly s1 Fld.lookup := asa_only s _
  have h2 : s.changesOnly s2 Fld.lookup := h1.trans ((count_only s1 _).trans (raiseLim_only _ _ _ _ _ _ _))
  have h3 : s.changesOnly r.2 Fld.lookup := h2.trans (enterError_only _ _ _ _)
  exact ite_only (h3.trans (retireBank_only _ _)) h3

theorem asaParity_only (banks : Nat) (bad : List Nat) (s : State) : s.changesOnly (asaParity banks bad s) Fld.lookup :=
  foldl_only (fun s _ => foldl_only (fun s n => asaParityError_only n s) _ s) _ s

theorem countHit_only (r : AsaRes) (s : State) {fs : List Fld} (hs : Fld.events ⊆ fs := by decide) :
    s.changesOnly (countHit r s) fs := by
  have h : s.changesOnly (if r.hit then count Cnt.ASA_HIT s else s) fs := ite_only (count_only s _ hs) (.refl s fs)
  exact h.trans (ite_only (count_only _ _ hs) (.refl _ fs))

theorem asaLocal_only (sc : AsaScope) (key : Nat) (after : Option (Nat × Nat)) (bad : List Nat) (s : State) :
    s.changesOnly (asaLocal sc key after bad s).2 Fld.lookup :=
  (asaParity_only sc.banks bad s).trans ((count_only _ _).trans (countHit_only _ _))

theorem clsMatch_only (i slot : Nat) (m : SetImg) (p : Pkt) (bad : List Nat) (s : State) :
    s.changesOnly (clsMatch i slot m p bad s).2 Fld.lookup := by
  unfold clsMatch
  extract_lets o key tree t r s1
  split
  · exact count_only s _
  · split
    · exact count_only s _
    · have h : s.changesOnly s1 Fld.lookup := by
        show s.changesOnly (ite _ _ _ : Option AsaRes × State).2 _
        split
        · exact asaLocal_only _ _ _ _ s
        · exact .refl s _
      split
      · exact h.trans ((count_only s1 _).trans (raiseLim_only _ _ _ _ _ _ _))
      · exact h.trans (count_only s1 _)
      · exact h
      · split
        · exact h
        · exact h.trans (count_only s1 _)
      · exact h.trans (count_only s1 _)

theorem applyMeter_only (i : Nat) (a : ActEntry) (len : Nat) (s : State) :
    s.changesOnly (applyMeter i a len s).2.2 Fld.lookup := by
  unfold applyMeter
  extract_lets idx e fl rfc4115 cir pir dt fr c p m e' s1 s2
  have h1 : s.changesOnly s1 Fld.lookup := (tblSet_only s 0x4F idx e').trans (cls_only _ _)
  clear_value m s1
  have h2 : s.changesOnly s2 Fld.lookup := h1.trans (countC_only s1 _ _)
  clear_value s2
  split
  · exact .refl s _
  · exact h2

/-- The classifier is unfolded in an equation of its own, with no arguments: the kernel, where it compares a call of `classify` with
its body, evaluates the choice of the rule set first. The proofs below that take `classify` or `ingressPass` apart do the same. -/
theorem classify_only (i : Nat) (p : Pkt) (bad : List Nat) (s : State) :
    s.changesOnly (classify i p bad s).2 Fld.lookup := by
  obtain ⟨f, hf⟩ : ∃ f, f = classify := ⟨_, rfl⟩
  generalize hr : classify i p bad s = o
  rw [← hf] at hr
  delta classify at hf
  subst hf
  beta_reduce at hr
  extract_lets p' at hr
  split at hr
  · subst hr; exact count_only s _
  · rename_i slot _
    extract_lets m r a s1 t s2 p2 at hr
    have h1 : s.changesOnly r.2 Fld.lookup := clsMatch_only _ _ _ _ _ s
    have ht : s1.changesOnly t.2.2 Fld.lookup := by
      show s1.changesOnly (ite _ _ _ : Nat × Bool × State).2.2 _
      split
      · exact applyMeter_only _ _ _ s1
      · exact .refl s1 _
    have h2 := h1.trans ht
    clear_value r a t
    split_ifs at hr <;> subst hr
    · exact h1.trans (countC_only s1 _ _)
    · exact h2.trans (countC_only s2 _ _)
    · exact h2.trans (countC_only s2 _ _)
    · exact h2
    · exact h2

/-! ### What a walk of the forwarding tables may change -/

theorem queueCheck_only (i : Nat) (c : SrcCheck) (s : State) : s.changesOnly (queueCheck i c s) Fld.lookup :=
  ite_only (count_only s _) (ite_only (count_only s _) (updFwd_only s _))

theorem l2StepEffects_only (i lo ctx : Nat) (p : Pkt) (s : State) : s.changesOnly (l2StepEffects i lo ctx p s) Fld.lookup := by
  unfold l2StepEffects
  extract_lets d
  split
  · exact .refl s _
  · extract_lets s1
    have h : s.changesOnly s1 Fld.lookup := ite_only (countC_only s _ _) (.refl s _)
    exact ite_only (h.trans (queueCheck_only _ _ _)) h

theorem takeNextHop_only (i nh : Nat) (p : Pkt) (s : State) {fs : List Fld} (hs : Fld.events ⊆ fs := by decide) :
    s.changesOnly (takeNextHop i nh p s).2 fs := by
  unfold takeNextHop
  extract_lets e kind
  split
  · exact countC_only s _ _ hs
  · exact .refl s _

theorem fwdGo_only (i prof n k ctx : Nat) (back : Bool) (p : Pkt) (s : State) :
    s.changesOnly (fwdGo i prof n k ctx back p s).2 Fld.lookup := by
  induction n generalizing k ctx back p s with
  | zero => exact countC_only s _ _
  | succ n ih =>
    unfold fwdGo
    extract_lets lo hi kind
    split
    · exact countC_only s _ _
    · split
      · exact .refl s _
      · extract_lets p1
        split
        · exact countC_only s _ _
        · exact countC_only s _ _
        · exact ih _ _ _ _ _
      · extract_lets p1 s1 isNh
        have h : s.changesOnly s1 Fld.lookup := ite_only (l2StepEffects_only _ _ _ _ s) (.refl s _)
        split
        · exact h.trans (takeNextHop_only _ _ _ _)
        · exact h.trans (ih _ _ _ _ _)
        · exact h.trans (countC_only s1 _ _)
        · exact h.trans (countC_only s1 _ _)

theorem fwdStart_only (i : Nat) (p : Pkt) (s : State) : s.changesOnly (fwdStart i p s).2 Fld.lookup :=
  (countC_only s _ _).trans (fwdGo_only _ _ _ _ _ _ _ _)

/-! ### What a whole pass may change -/

/-- The fields that a pass may change: those of its lookups, and where its packet can go. -/
def Fld.pass : List Fld := Fld.lookup ++ [.swc, .buf, .part, .fwdq, .fseq, .free]

theorem sendMark_only (c : Option (Nat × Nat)) (gen : Nat) (s : State) : s.changesOnly (sendMark c gen s) Fld.pass := by
  unfold sendMark
  split
  · exact ite_only (part_only s _) (.refl s _)
  · exact .refl s _

theorem poisonDrop_only (p : Pkt) (s : State) : s.changesOnly (poisonDrop p s) Fld.pass :=
  (countC_only s _ _).trans (sendMark_only _ _ _)

theorem discardBad_only (p : Pkt) (s : State) : s.changesOnly (discardBad p s) Fld.pass :=
  ite_only (poisonDrop_only p s) (.refl s _)

theorem ingressPunt_only (i conduit source : Nat) (p : Pkt) (s : State) :
    s.changesOnly (ingressPunt i conduit source p s) Fld.pass := ite_only (discardBad_only p s) (swc_only s _)

theorem recirculate_only (i node : Nat) (p : Pkt) (s : State) : s.changesOnly (recirculate i node p s) Fld.pass :=
  ite_only (countC_only s _ _) (ite_only (discardBad_only p s) (ite_only (countC_only s _ _)
    ((buf_only s _).trans ((swc_only _ _).trans (countC_only _ _ _)))))

theorem freeReserve_only (n : Nat) (s : State) : s.changesOnly (freeReserve n s) Fld.pass := by
  unfold freeReserve
  extract_lets x
  exact ite_only (.refl s _) (buf_swc_only s _ _)

theorem dropTail_only (t : Option Nat) (s : State) : s.changesOnly (dropTail t s) Fld.pass := by
  unfold dropTail
  split
  · exact .refl s _
  · exact (freeReserve_only _ s).trans (buf_swc_only _ _ _)

theorem stagePkt_only (leaf : Bool) (q i : Nat) (p : Pkt) (s : State) : s.changesOnly (stagePkt leaf q i p s) Fld.pass :=
  ite_only ((buf_only s _).trans (buf_only _ _)) ((dropTail_only _ s).trans (countC_only _ _ _))

theorem linkTail_only (leaf : Bool) (q : Nat) (tier : Tier) (s : State) : s.changesOnly (linkTail leaf q tier s) Fld.pass := by
  unfold linkTail
  split
  · split
    · exact .refl s _
    · exact (draw_only s).trans (buf_only _ _)
  · exact .refl s _

theorem linkPkt_only (leaf : Bool) (q : Nat) (it : QItem) (s : State) : s.changesOnly (linkPkt leaf q it s) Fld.pass := by
  unfold linkPkt
  extract_lets s1
  have h : s.changesOnly s1 Fld.pass := (linkTail_only _ _ _ s).trans (buf_only _ _)
  exact ite_only (h.trans (countC_only s1 _ _)) h

theorem linkCut_only (leaf : Bool) (q i : Nat) (p : Pkt) (s : State) : s.changesOnly (linkCut leaf q i p s) Fld.pass := by
  unfold linkCut
  extract_lets c n s1
  have h : s.changesOnly s1 Fld.pass := by
    refine ite_only ?_ (.refl s _)
    unfold linkTailCut
    split
    · exact .refl s _
    · exact (swc_only s _).trans (buf_only _ _)
  exact h.trans ((buf_only s1 _).trans ((countC_only _ _ _).trans (linkPkt_only _ _ _ _)))

theorem enterQueue_only (leaf : Bool) (q i : Nat) (p : Pkt) (s : State) :
    s.changesOnly (enterQueue leaf q i p s) Fld.pass := by
  unfold enterQueue
  extract_lets c st
  split
  · exact dropTail_only _ s
  · have h : s.changesOnly (if st = .arriving then (p, s) else (s.joined p, dropTail p.tail s)).2 Fld.pass := by
      split
      · exact .refl s _
      · exact dropTail_only _ s
    split
    rename_i p1 s1 e
    rw [e] at h
    extract_lets p2 whole
    have hw (t : State) : t.changesOnly (whole t) Fld.pass := ite_only (.refl t _) (stagePkt_only _ _ _ _ t)
    exact h.trans (ite_only (poisonDrop_only _ s1) (ite_only (hw s1) (ite_only (linkCut_only _ _ _ _ s1)
      ((countC_only s1 _ _).trans (hw _)))))

theorem maybeRequest_only (d c : Nat) (s : State) : s.changesOnly (maybeRequest d c s) Fld.pass :=
  ite_only ((swc_only s _).trans (swc_only _ _)) (.refl s _)

theorem voqEnter_only (i : Nat) (p : Pkt) (s : State) : s.changesOnly (voqEnter i p s) Fld.pass := by
  unfold voqEnter
  have h : s.changesOnly (enterQueue false (s.voqKey p) i p s) Fld.pass := enterQueue_only _ _ _ _ s
  exact ite_only (countC_only s _ _) (ite_only (countC_only s _ _) (ite_only h (h.trans (maybeRequest_only _ _ _))))

theorem spreadHash_only (key : Option (BitVec 384)) (s : State) : s.changesOnly (spreadHash key s).2 Fld.pass := by
  unfold spreadHash
  split
  · exact .refl s _
  · exact draw_only s

theorem ingressForward_only (i : Nat) (key : Option (BitVec 384)) (p : Pkt) (s : State) :
    s.changesOnly (ingressForward i key p s) Fld.pass := by
  unfold ingressForward
  have h := takeNextHop_only i p.nexthop p s (fs := Fld.pass)
  generalize takeNextHop i p.nexthop p s = x at h ⊢
  obtain ⟨o, s1⟩ := x
  cases o with
  | dest p1 =>
    refine h.trans (ite_only (voqEnter_only i p1 s1) ?_)
    dsimp only
    have h2 := spreadHash_only key s1
    generalize spreadHash key s1 = y at h2 ⊢
    obtain ⟨n, s2⟩ := y
    dsimp only
    split
    · exact h2.trans ((countC_only s2 _ _).trans (raiseLim_only _ _ _ _ _ _ _))
    · rename_i m fallback _
      have h3 : s2.changesOnly (if fallback then countC p1.cls (Cnt.FSE_LB_FALLBACK i) s2 else s2) Fld.pass :=
        ite_only (countC_only s2 _ _) (.refl s2 _)
      refine h2.trans (h3.trans ?_)
      generalize (if fallback then countC p1.cls (Cnt.FSE_LB_FALLBACK i) s2 else s2) = s3
      have h4 := takeNextHop_only i (s3.lbNextHop (datU (s1.nextHop p1.nexthop) 6 2 % 2 ^ 14) m) p1 s3 (fs := Fld.pass)
      split
      · rename_i e; rw [e] at h4; exact h4.trans (voqEnter_only _ _ _)
      · rename_i e; rw [e] at h4; exact h4
  | _ => exact h

theorem afterForward_only (i : Nat) (o : FwdOut) (s : State) : s.changesOnly (afterForward i o s) Fld.pass := by
  cases o with
  | drop => exact .refl s _
  | punt conduit source p => exact ingressPunt_only _ _ _ _ s
  | wait step ctx p => exact fwdq_only s _
  | dest p => exact ite_only (ingressForward_only _ _ _ s) (fseq_only s _)

/-- What becomes of a packet that the classifier leaves with an outcome (R131, R135). -/
def endOfPass (i : Nat) : ClsOut → State → State
  | .drop, s => s
  | .punt conduit p, s => ingressPunt i conduit 1 p s
  | .recirc p, s => recirculate i (p.recirc.getD 0) p s
  | .forward p, s => afterForward i (fwdStart i p s).1 (fwdStart i p s).2

/-- A pass ends by what the classifier decides. The proof keeps the parser's result opaque, which the kernel would else evaluate. -/
theorem ingressPass_ends {i : Nat} {bad : List Nat} {p : Pkt} {s u : State} {o : ClsOut}
    (h : classify i { p with parse := parseFrame s.graph p.node p.bytes, inp := i } bad
      (countParse i (parseFrame s.graph p.node p.bytes) s) = (o, u)) : ingressPass i bad p s = endOfPass i o u := by
  obtain ⟨f, hf⟩ : ∃ f, f = ingressPass := ⟨_, rfl⟩
  rw [← hf]
  delta ingressPass at hf
  subst hf
  beta_reduce
  extract_lets r
  have hr : parseFrame s.graph p.node p.bytes = r := rfl
  clear_value r
  rw [hr] at h
  rw [h]
  cases o <;> rfl

theorem endOfPass_only (i : Nat) (o : ClsOut) (s : State) : s.changesOnly (endOfPass i o s) Fld.pass := by
  cases o with
  | drop => exact .refl s _
  | punt conduit p => exact ingressPunt_only _ _ _ _ s
  | recirc p => exact recirculate_only _ _ _ s
  | forward p => exact ((fwdStart_only i p s).mono (by decide)).trans (afterForward_only _ _ _)

theorem ingressPass_only (i : Nat) (bad : List Nat) (p : Pkt) (s : State) :
    s.changesOnly (ingressPass i bad p s) Fld.pass := by
  obtain ⟨⟨o, u⟩, h⟩ : ∃ x, classify i { p with parse := parseFrame s.graph p.node p.bytes, inp := i } bad
    (countParse i (parseFrame s.graph p.node p.bytes) s) = x := ⟨_, rfl⟩
  have h0 := (countParse_only i (parseFrame s.graph p.node p.bytes) s).mono (gs := Fld.pass) (by decide)
  have h1 := (classify_only i { p with parse := parseFrame s.graph p.node p.bytes, inp := i } bad
    (countParse i (parseFrame s.graph p.node p.bytes) s)).mono (gs := Fld.pass) (by decide)
  rw [h] at h1
  rw [ingressPass_ends h]
  exact h0.trans (h1.trans (endOfPass_only _ _ _))

/-! ### The classifier's decisions that the statement names -/

theorem epoch_of_only {s t : State} {fs : List Fld} (h : s.changesOnly t fs) (ht : Fld.tbe ∉ fs := by decide)
    (hr : Fld.regs ∉ fs := by decide) : t.epoch = s.epoch := by
  have et : t.tbe = s.tbe := h .tbe ht
  have er : t.regs = s.regs := h .regs hr
  simp only [State.epoch, State.now, State.epochPeriod, State.regF, State.reg, et, er]

theorem selectSlot_of_only {s t : State} {fs : List Fld} (h : s.changesOnly t fs) (e : Nat)
    (ht : Fld.tbe ∉ fs := by decide) (hr : Fld.regs ∉ fs := by decide) (hc : Fld.cls ∉ fs := by decide) :
    selectSlot t e = selectSlot s e := by
  have ec : t.cls = s.cls := h .cls hc
  simp only [selectSlot, epoch_of_only h ht hr, ec]

/-- The present epoch is served by the active set (R136). -/
theorem selectSlot_epoch (s : State) : selectSlot s s.epoch = some s.cls.active := by
  have h : (s.epoch + 2 ^ 32 - s.epoch % 2 ^ 32) % 2 ^ 32 = 0 := by omega
  simp only [selectSlot, h]
  exact if_pos (Nat.zero_le _)

/-- A recirculated packet of an epoch that no set serves is counted and discarded (R136). -/
theorem classify_stale {i : Nat} {p : Pkt} {bad : List Nat} {s : State} (hp : p.pass ≠ 0)
    (h : selectSlot s p.epoch = none) : classify i p bad s = (.drop, count (Cnt.CLS_EPOCH_STALE i) s) := by
  obtain ⟨f, hf⟩ : ∃ f, f = classify := ⟨_, rfl⟩
  rw [← hf]
  delta classify at hf
  subst hf
  beta_reduce
  rw [if_neg hp]
  extract_lets q
  rw [show selectSlot s q.epoch = none from h]

/-- A malformed packet takes the action that its set names for those (R128). -/
theorem clsMatch_malformed {i slot : Nat} {m : SetImg} {p : Pkt} {bad : List Nat} {s : State}
    (h : p.parse.outcome = 2) :
    clsMatch i slot m p bad s = (setU m 26 2, count (Cnt.CLS_MALFORMED_ACT i) s) := if_pos (Or.inl h)

/-- A packet as the action of its pass leaves it (R131). -/
def actedPkt (a : ActEntry) (p : Pkt) : Pkt :=
  { p with cls := a.cls, colour := a.colour, queue := a.queue, noFlow := a.noFlow, flowProfile := a.flowProfile,
           recirc := if a.recirc then some a.recircNode else none }

theorem classify_malformed_punt {i : Nat} {p : Pkt} {bad : List Nat} {s : State} {a : ActEntry} (hp : p.pass = 0)
    (ho : p.parse.outcome = 2)
    (ha : a = setAct (s.slotImg s.cls.active) (setU (s.slotImg s.cls.active) 26 2)) (hd : a.drop = false)
    (hm : a.metered = false) (hu : a.punt = true) :
    classify i p bad s = (.punt a.conduit (actedPkt a { p with epoch := s.epoch }),
      countC a.cls (Cnt.CLS_PUNT i) (count (Cnt.CLS_MALFORMED_ACT i) s)) := by
  obtain ⟨f, hf⟩ : ∃ f, f = classify := ⟨_, rfl⟩
  rw [← hf]
  delta classify at hf
  subst hf
  beta_reduce
  rw [if_pos hp]
  extract_lets q
  rw [show selectSlot s q.epoch = some s.cls.active from selectSlot_epoch s]
  split
  · rename_i e
    exact absurd e (Option.some_ne_none _)
  · rename_i slot e
    obtain rfl : s.cls.active = slot := Option.some.inj e
    extract_lets m r b s1 t s2 k
    have hr : r = (setU m 26 2, count (Cnt.CLS_MALFORMED_ACT i) s) := clsMatch_malformed ho
    have hb : b = a := (congrArg (setAct m) (congrArg Prod.fst hr)).trans ha.symm
    have h1 : s1 = count (Cnt.CLS_MALFORMED_ACT i) s := congrArg Prod.snd hr
    have ht : t = (b.colour, false, s1) := if_neg (by rw [hb, hm]; exact Bool.false_ne_true)
    have h2 : s2 = s1 := congrArg (·.2.2) ht
    have h3 : t.2.1 = false := congrArg (·.2.1) ht
    have hk : k = actedPkt b q := congrArg (fun c => { actedPkt b q with colour := c }) (congrArg Prod.fst ht)
    clear_value t s2 k s1 b
    subst hb
    rw [if_neg (by rw [hd]; exact Bool.false_ne_true), if_neg (by rw [h3]; exact Bool.false_ne_true), if_pos hu, hk, h2, h1]

/-! ### RECIRC (R17, R135) -/

theorem countC_cnt_only (c a : Nat) (s : State) {fs : List Fld} (h : Fld.cnt ∈ fs := by decide) :
    s.changesOnly (countC c a s) fs := ite_only (cnt_only s _ h) (.refl s fs)

/-- A pass that ends with RECIRC before the fourth enters the recirculation queue as the next pass, where the limit of output 11 and
the free cells allow it (R17, R324). -/
theorem recirculate_enters {i : Nat} {q : Pkt} {s : State} (hb : q.bad = false) (hp : q.pass < 3)
    (hl : s.pbfUsed 11 (q.cls % 8) + pktCells q ≤ s.regF (Reg.PBF_LIMIT 11 (q.cls % 8)) 18 0)
    (hf : pktCells q ≤ s.freeCells) :
    (recirculate i (q.recirc.getD 0) q s).swc = { s.swc with
        recirc := s.swc.recirc.upd i (fun l => l ++
          [{ q with pass := q.pass + 1, node := q.recirc.getD 0, recirc := none, clove := none, gen := 0, counted := false }]) } ∧
      (recirculate i (q.recirc.getD 0) q s).pbfUsed 11 (q.cls % 8) = s.pbfUsed 11 (q.cls % 8) + pktCells q ∧
      s.changesOnly (recirculate i (q.recirc.getD 0) q s) [.swc, .buf, .cnt] := by
  unfold recirculate
  extract_lets c k
  rw [if_neg (by omega), if_neg (by rw [hb]; exact Bool.false_ne_true),
    if_neg (not_or.mpr ⟨Nat.not_lt.mpr hl, Nat.not_lt.mpr hf⟩)]
  set u := updSwc (fun w => { w with recirc := w.recirc.upd i (fun l => l ++ [k]) }) (chargeCells 11 c (pktCells q) s)
  have hu : s.changesOnly u [.swc, .buf, .cnt] := (buf_only s _).trans (swc_only _ _)
  have hc : u.changesOnly (countC c (Cnt.CLS_RECIRC i) u) [.cnt] := countC_cnt_only _ _ _
  refine ⟨hc .swc (by decide), ?_, hu.trans (hc.mono (by decide))⟩
  have e : (countC c (Cnt.CLS_RECIRC i) u).buf = u.buf := hc .buf (by decide)
  rw [State.pbfUsed, e]
  exact SMap.get_upd_self _ _ _

/-! ### The packet that a pass takes (R17, R19, R181) -/

section pass
variable {i : Nat} {bad : List Nat} {p : Pkt} {rest : List Pkt} {s : State} (hm : s.moves = true) (hi : i < 4)
  (hq : (s.fwdq.get i).length < 1024)
include hm hi hq

theorem doIngressPass_line (hr : s.refusesFrames i = false) (hl : s.swc.line.get i = p :: rest) :
    doIngressPass i bad s = ingressPass i bad p { s with swc := { s.swc with line := s.swc.line.set i rest } } := by
  unfold doIngressPass
  rw [if_neg (by rw [hm]; simp; omega), hr, hl]
  rfl

theorem doIngressPass_reentry (hr : s.refusesFrames i = true ∨ s.swc.line.get i = [])
    (hl : s.swc.reentry.get i = p :: rest) :
    doIngressPass i bad s = ingressPass i bad (if p.pass = 0 then { p with node := s.startNode p.inPort } else p)
      { s with swc := { s.swc with reentry := s.swc.reentry.set i rest } } := by
  have hn : (if s.refusesFrames i then [] else s.swc.line.get i) = [] := by
    rcases hr with h | h
    · rw [h]; rfl
    · rw [h, ite_self]
  unfold doIngressPass
  rw [if_neg (by rw [hm]; simp; omega), hn, hl]
  rfl

end pass

/-! ### INGRESS_PASS -/

section exec
variable {i : Nat} {bad : List Nat} {p : Pkt} {rest : List Pkt} {s : State}

/-- The state in which the packet at the head of the line has been taken. -/
def lineTaken (i : Nat) (rest : List Pkt) (s : State) : State :=
  { s.fresh with swc := { s.swc with line := s.swc.line.set i rest } }

/-- The state in which the packet at the recirculation input has been taken. -/
def reentryTaken (i : Nat) (rest : List Pkt) (s : State) : State :=
  { s.fresh with swc := { s.swc with reentry := s.swc.reentry.set i rest } }

/-- A pass from a state in which its packet has been taken is all that the command does. -/
theorem exec_ingressPass_of {w : State} (h : s.steady) (hw : s.fresh.changesOnly w Fld.pass)
    (e : doIngressPass i bad s.fresh = ingressPass i bad p w) :
    exec (.ingressPass i bad) s = .next (ingressPass i bad p w) :=
  (coreCmd_steady_only h (e.symm ▸ hw.trans (ingressPass_only i bad p w))).trans (congrArg _ e)

variable (hm : s.moves = true) (hi : i < 4) (hq : (s.fwdq.get i).length < 1024)
include hm hi hq

theorem exec_ingressPass_line (h : s.steady) (hr : s.refusesFrames i = false) (hl : s.swc.line.get i = p :: rest) :
    exec (.ingressPass i bad) s = .next (ingressPass i bad p (lineTaken i rest s)) :=
  exec_ingressPass_of h (swc_only _ _) (doIngressPass_line (s := s.fresh) hm hi hq hr hl)

theorem exec_ingressPass_reentry (h : s.steady) (hr : s.refusesFrames i = true ∨ s.swc.line.get i = [])
    (hl : s.swc.reentry.get i = p :: rest) :
    exec (.ingressPass i bad) s =
      .next (ingressPass i bad (if p.pass = 0 then { p with node := s.startNode p.inPort } else p) (reentryTaken i rest s)) :=
  exec_ingressPass_of h (swc_only _ _) (doIngressPass_reentry (s := s.fresh) hm hi hq hr hl)

/-- A line packet of which the classifier decides o ends its pass by o. -/
theorem exec_ingressPass_line_ends {o : ClsOut} {u : State} (h : s.steady) (hr : s.refusesFrames i = false)
    (hl : s.swc.line.get i = p :: rest)
    (hc : classify i { p with parse := parseFrame s.graph p.node p.bytes, inp := i } bad
      (countParse i (parseFrame s.graph p.node p.bytes) (lineTaken i rest s)) = (o, u)) :
    exec (.ingressPass i bad) s = .next (endOfPass i o u) :=
  (exec_ingressPass_line hm hi hq h hr hl).trans (congrArg _ (ingressPass_ends (s := lineTaken i rest s) hc))

theorem exec_ingressPass_recirc {q : Pkt} {u : State} (h : s.steady) (hr : s.refusesFrames i = false)
    (hl : s.swc.line.get i = p :: rest)
    (hc : classify i { p with parse := parseFrame s.graph p.node p.bytes, inp := i } bad
      (countParse i (parseFrame s.graph p.node p.bytes) (lineTaken i rest s)) = (.recirc q, u)) (hb : q.bad = false) :
    (q.pass < 3 → u.pbfUsed 11 (q.cls % 8) + pktCells q ≤ u.regF (Reg.PBF_LIMIT 11 (q.cls % 8)) 18 0 → pktCells q ≤ u.freeCells →
      ∃ t, exec (.ingressPass i bad) s = .next t ∧
        t.swc = { u.swc with
          recirc := u.swc.recirc.upd i (fun l => l ++
            [{ q with pass := q.pass + 1, node := q.recirc.getD 0, recirc := none, clove := none, gen := 0, counted := false }]) } ∧
        t.pbfUsed 11 (q.cls % 8) = u.pbfUsed 11 (q.cls % 8) + pktCells q ∧ u.changesOnly t [.swc, .buf, .cnt]) ∧
    (3 ≤ q.pass → exec (.ingressPass i bad) s = .next (countC (q.cls % 8) (Cnt.CLS_RECIRC_LIMIT i) u)) := by
  have e := exec_ingressPass_line_ends hm hi hq h hr hl hc
  exact ⟨fun hp hl hf => ⟨_, e, recirculate_enters hb hp hl hf⟩, fun hp => e.trans (congrArg _ (if_pos hp))⟩

theorem exec_ingressPass_malformed {a : ActEntry} (h : s.steady) (hr : s.refusesFrames i = false)
    (hl : s.swc.line.get i = p :: rest) (hp : p.pass = 0) (ho : (parseFrame s.graph p.node p.bytes).outcome = 2)
    (hb : p.bad = false) (ha : a = setAct (s.slotImg s.cls.active) (setU (s.slotImg s.cls.active) 26 2))
    (hd : a.drop = false) (ht : a.metered = false) (hu : a.punt = true) :
    exec (.ingressPass i bad) s = .next (puntIngress i a.conduit 1
      (actedPkt a { p with parse := parseFrame s.graph p.node p.bytes, inp := i, epoch := s.epoch })
      (countC a.cls (Cnt.CLS_PUNT i) (count (Cnt.CLS_MALFORMED_ACT i)
        (countParse i (parseFrame s.graph p.node p.bytes) (lineTaken i rest s))))) := by
  have hf := countParse_only i (parseFrame s.graph p.node p.bytes) (lineTaken i rest s)
  have hc : (countParse i (parseFrame s.graph p.node p.bytes) (lineTaken i rest s)).cls = s.cls := hf .cls (by decide)
  have he : (countParse i (parseFrame s.graph p.node p.bytes) (lineTaken i rest s)).epoch = s.epoch :=
    epoch_of_only (s := lineTaken i rest s) hf
  have e := exec_ingressPass_line_ends (bad := bad) hm hi hq h hr hl
    (classify_malformed_punt (a := a) hp ho (by rw [State.slotImg, hc]; exact ha) hd ht hu)
  rw [he] at e
  exact e.trans (congrArg _ (if_neg (by rw [show _ = false from hb]; exact Bool.false_ne_true)))

theorem exec_ingressPass_stale (h : s.steady) (hr : s.refusesFrames i = true ∨ s.swc.line.get i = [])
    (hl : s.swc.reentry.get i = p :: rest) (hp : p.pass ≠ 0) (he : selectSlot s p.epoch = none)
    (ho : (parseFrame s.graph p.node p.bytes).outcome = 0) :
    exec (.ingressPass i bad) s =
      .next (count (Cnt.CLS_EPOCH_STALE i) (count (Cnt.PRS_OK i) (reentryTaken i rest s))) := by
  have hcount : countParse i (parseFrame s.graph p.node p.bytes) (reentryTaken i rest s) =
      count (Cnt.PRS_OK i) (reentryTaken i rest s) := by
    rw [countParse, ho]; rfl
  have hs : selectSlot (count (Cnt.PRS_OK i) (reentryTaken i rest s)) p.epoch = none :=
    (selectSlot_of_only (count_only _ _ (fs := Fld.events)) _).trans he
  have e := exec_ingressPass_reentry (bad := bad) hm hi hq h hr hl
  rw [if_neg hp] at e
  refine e.trans (congrArg _ (ingressPass_ends (s := reentryTaken i rest s) (o := .drop) ?_))
  exact (congrArg (classify i _ bad) hcount).trans (classify_stale hp hs)

/-- What the classifier forwards and the walk of the tables gives a destination joins the queue of the flow engine (R131, R180). -/
theorem exec_ingressPass_forward {q d : Pkt} {u v : State} (h : s.running) (hr : s.refusesFrames i = false)
    (hl : s.swc.line.get i = p :: rest)
    (hc : classify i { p with parse := parseFrame s.graph p.node p.bytes, inp := i } bad
      (countParse i (parseFrame s.graph p.node p.bytes) (lineTaken i rest s)) = (.forward q, u))
    (hw : fwdStart i q u = (.dest d, v)) (hn : d.noFlow = false) :
    exec (.ingressPass i bad) s = .next { v with fseq := v.fseq.upd (2 * i) (fun l => l ++ [d]) } := by
  have hu : (lineTaken i rest s).changesOnly u Fld.lookup := by
    have h1 := (countParse_only i (parseFrame s.graph p.node p.bytes) (lineTaken i rest s)).mono (gs := Fld.lookup) (by decide)
    have h2 := classify_only i { p with parse := parseFrame s.graph p.node p.bytes, inp := i } bad
      (countParse i (parseFrame s.graph p.node p.bytes) (lineTaken i rest s))
    rw [hc] at h2
    exact h1.trans h2
  have hv : u.changesOnly v Fld.lookup := by
    have h3 := fwdStart_only i q u
    rwa [hw] at h3
  have hall := hu.trans hv
  have e : doIngressPass i bad s.fresh = { v with fseq := v.fseq.upd (2 * i) (fun l => l ++ [d]) } := by
    rw [doIngressPass_line (s := s.fresh) hm hi hq hr hl]
    refine (ingressPass_ends (s := lineTaken i rest s) hc).trans ?_
    rw [endOfPass, hw, afterForward, hn]
    rfl
  exact coreCmd_answers h e (hall .md (by decide)) 
    (holdsPackets_of_only (s := lineTaken i rest s) (t := v) hall (by decide)) (hall .pending (by decide))

end exec

/-! ### FWD_READ_DONE (R181, R430) -/

/-- The forwarding profile of a packet's port (R177). -/
def State.walkProfile (s : State) (p : Pkt) : Nat := bits (s.reg (Reg.FWD_PORT_CFG p.inPort)) 19 16

/-- The place that a waiting packet's step reads is marked poisoned (R429). -/
def State.readBad (s : State) (step ctx : Nat) (p : Pkt) : Bool :=
  s.stepBad (s.reg (Reg.FWD_STEP_LO (s.walkProfile p) step)) (s.reg (Reg.FWD_STEP_HI (s.walkProfile p) step)) ctx p

theorem fwdResume_bad {i step ctx : Nat} {p : Pkt} {poisoned : Bool} {s : State}
    (h : poisoned = true ∨ s.readBad step ctx p = true) :
    fwdResume i step ctx p poisoned s = (.drop, countC p.cls Cnt.HMC_POISON_DROP s) := if_pos (Bool.or_eq_true_iff.mpr h)

theorem fwdResume_sound {i step ctx : Nat} {p : Pkt} {s : State} (h : s.readBad step ctx p = false) :
    fwdResume i step ctx p false s = fwdGo i (s.walkProfile p) (4 - step) step ctx true p s :=
  if_neg (fun k => Bool.noConfusion (h.symm.trans ((Bool.or_eq_true_iff.mp k).resolve_left Bool.false_ne_true)))

section read
variable {i k step ctx : Nat} {p : Pkt} {s : State}

/-- The state in which the k-th waiting packet has left the read queue. -/
def readTaken (i k : Nat) (s : State) : State := { s.fresh with fwdq := s.fwdq.upd i (fun l => l.eraseIdx k) }

theorem readTaken_only (i k : Nat) (s : State) {fs : List Fld} (h : Fld.fwdq ∈ fs := by decide) :
    s.fresh.changesOnly (readTaken i k s) fs := fwdq_only _ _ h

theorem stepBad_readTaken (lo hi : Nat) : (readTaken i k s).stepBad lo hi ctx p = s.stepBad lo hi ctx p := by
  have hb (a n : Nat) : (readTaken i k s).hbmBad a n = s.hbmBad a n := rfl
  have ha (a off : Nat) : (readTaken i k s).fwdAddr a off = s.fwdAddr a off := rfl
  have hl (bd mac : Nat) : (readTaken i k s).l2Bucket bd mac = s.l2Bucket bd mac := rfl
  simp only [State.stepBad, hb, ha, hl]

theorem readBad_readTaken : (readTaken i k s).readBad step ctx p = s.readBad step ctx p := by
  have hr : (readTaken i k s).reg = s.reg := rfl
  rw [State.readBad, stepBad_readTaken, State.walkProfile, hr]
  rfl

variable (hm : s.moves = true) (hk : (s.fwdq.get i)[k]? = some (p, step, ctx))
include hm hk

theorem doFwdReadDone_waiting (poisoned : Bool) :
    doFwdReadDone i k poisoned s.fresh = afterForward i (fwdResume i step ctx p poisoned (readTaken i k s)).1
      (fwdResume i step ctx p poisoned (readTaken i k s)).2 := by
  unfold doFwdReadDone
  rw [show (s.fresh.fwdq.get i)[k]? = some (p, step, ctx) from hk]
  exact if_neg (fun h => Bool.noConfusion (h.symm.trans hm))

/-- A read that comes back poisoned discards its packet (R430). -/
theorem exec_fwdReadDone_drop {poisoned : Bool} (h : s.running) (hb : poisoned = true ∨ s.readBad step ctx p = true) :
    exec (.fwdReadDone i k poisoned) s = .next (countC p.cls Cnt.HMC_POISON_DROP (readTaken i k s)) := by
  have hd : doFwdReadDone i k poisoned s.fresh = countC p.cls Cnt.HMC_POISON_DROP (readTaken i k s) := by
    rw [doFwdReadDone_waiting hm hk, fwdResume_bad (by rwa [readBad_readTaken])]
    rfl
  have hf : s.fresh.changesOnly (countC p.cls Cnt.HMC_POISON_DROP (readTaken i k s)) (Fld.events ++ [.fwdq]) :=
    (readTaken_only i k s).trans (countC_only _ _ _)
  exact (coreCmd_only h (hd.symm ▸ hf)).trans (congrArg _ hd)

/-- A sound read takes the walk of its packet on (R181). -/
theorem doFwdReadDone_sound (hb : s.readBad step ctx p = false) :
    doFwdReadDone i k false s.fresh =
      afterForward i (fwdGo i (s.walkProfile p) (4 - step) step ctx true p (readTaken i k s)).1
        (fwdGo i (s.walkProfile p) (4 - step) step ctx true p (readTaken i k s)).2 := by
  rw [doFwdReadDone_waiting hm hk, fwdResume_sound (by rwa [readBad_readTaken])]
  rfl

theorem exec_fwdReadDone_walks (h : s.steady) (hb : s.readBad step ctx p = false) :
    exec (.fwdReadDone i k false) s = .next
      (afterForward i (fwdGo i (s.walkProfile p) (4 - step) step ctx true p (readTaken i k s)).1
        (fwdGo i (s.walkProfile p) (4 - step) step ctx true p (readTaken i k s)).2) := by
  have e := doFwdReadDone_sound hm hk hb
  have hg := (fwdGo_only i (s.walkProfile p) (4 - step) step ctx true p (readTaken i k s)).mono (gs := Fld.pass) (by decide)
  have hf := (readTaken_only i k s).trans (hg.trans (afterForward_only i
    (fwdGo i (s.walkProfile p) (4 - step) step ctx true p (readTaken i k s)).1 _))
  exact (coreCmd_steady_only h (e.symm ▸ hf)).trans (congrArg _ e)

theorem exec_fwdReadDone_dest {d : Pkt} {v : State} (h : s.running) (hb : s.readBad step ctx p = false)
    (hw : fwdGo i (s.walkProfile p) (4 - step) step ctx true p (readTaken i k s) = (.dest d, v)) (hn : d.noFlow = false) :
    exec (.fwdReadDone i k false) s = .next { v with fseq := v.fseq.upd (2 * i) (fun l => l ++ [d]) } := by
  have e : doFwdReadDone i k false s.fresh = { v with fseq := v.fseq.upd (2 * i) (fun l => l ++ [d]) } := by
    rw [doFwdReadDone_sound hm hk hb, hw, afterForward, hn]
    rfl
  have hg := fwdGo_only i (s.walkProfile p) (4 - step) step ctx true p (readTaken i k s)
  rw [hw] at hg
  have hf : s.fresh.changesOnly { v with fseq := v.fseq.upd (2 * i) (fun l => l ++ [d]) } (Fld.lookup ++ [.fwdq, .fseq]) :=
    (readTaken_only i k s).trans ((hg.mono (by decide)).trans (fseq_only v _))
  exact (coreCmd_only h (e.symm ▸ hf)).trans (congrArg _ e)

end read

/-- Settles O38: the packet that is taken, the end of its pass by what the classifier decides, and the reads that come back. -/
theorem ingressPasses : Obligations.IngressPasses := by
  refine ⟨?line, ?reentry, ?recirc, ?malformed, ?stale, ?forward, ?poisoned, ?marked, ?walks, ?dest⟩
  case line => exact fun i bad p rest s h hm hi hq hr hl => exec_ingressPass_line hm hi hq h hr hl
  case reentry => exact fun i bad p rest s h hm hi hq hr hl => exec_ingressPass_reentry hm hi hq h hr hl
  case recirc => exact fun i bad p q rest s u h hm hi hq hr hl hc hb => exec_ingressPass_recirc hm hi hq h hr hl hc hb
  case malformed =>
    exact fun i bad p rest s a h hm hi hq hr hl hp ho hb ha hd ht hu =>
      exec_ingressPass_malformed hm hi hq h hr hl hp ho hb ha hd ht hu
  case stale => exact fun i bad p rest s h hm hi hq hr hl hp he ho => exec_ingressPass_stale hm hi hq h hr hl hp he ho
  case forward =>
    exact fun i bad p q d rest s u v h hm hi hq hr hl hc hw hn => exec_ingressPass_forward hm hi hq h hr hl hc hw hn
  case poisoned => exact fun i k step ctx p s h hm hk => exec_fwdReadDone_drop hm hk h (.inl rfl)
  case marked =>
    rintro i k step ctx _ p s h hm hk rfl hb
    exact exec_fwdReadDone_drop hm hk h (.inr hb)
  case walks =>
    rintro i k step ctx _ p s h hm hk rfl hb
    exact exec_fwdReadDone_walks hm hk h hb
  case dest =>
    rintro i k step ctx _ p d s v h hm hk rfl hb hw hn
    exact exec_fwdReadDone_dest hm hk h hb hw hn

end Sys2Proof.Machine

namespace Sys2Proof.Machine

/-! ## Frames received by a port: a counter table that lists a zero

The statement's first clause leaves out the count of the codewords found uncorrectable, of which a sound frame brings none. The model
adds that nothing to LPC_FEC_UNCORR all the same, which takes a listed zero off the table of counters (`SMap.set` lists no default
value). In a state whose table lists one, which is not canonical (`SMap.wf`), the two tables differ as data, though every counter
reads alike. -/

/-- A device in Service with port 0 up, whose table of counters lists LPC_FEC_UNCORR of that port at zero. -/
def listedZero : State :=
  { md := { mode := .service }, port := ⟨[(0, { raw := true })]⟩, cnt := ⟨[(Cnt.LPC_FEC_UNCORR 0, 0)]⟩,
    regs := ⟨[(Reg.LPC_PORT_ADMIN, 1), (Reg.LPC_PORT_CFG 0, 1518)]⟩ }

/-- The least sound frame, all its bytes zero. -/
def leastFrame : List Byte := List.replicate 64 0

/-- The counters that a command's answer lists. -/
def Res.counters : Res → List (Nat × Word64)
  | .next t => t.cnt.cells
  | _ => []

/-- The model's answer lists no counter: the count of no uncorrectable codeword took the zero off the table. -/
theorem counters_rxFrame_listedZero : Res.counters (exec (.rxFrame 0 leastFrame {}) listedZero) = [] := by decide +kernel

/-- The statement's answer still lists the zero. -/
theorem countA_corr_listedZero :
    (countA {} (Cnt.LPC_FEC_CORR 0) 0 listedZero.fresh).cnt.cells = [(Cnt.LPC_FEC_UNCORR 0, 0)] := by decide +kernel

/-- Refutes O36: in `listedZero` a sound frame takes the zero that LPC_FEC_UNCORR lists off the table of counters, where the first clause
keeps it. -/
theorem not_lineFrames : ¬ Obligations.LineFrames := by
  rintro ⟨sound, -⟩
  have e := sound 0 leastFrame {} listedZero (by decide) rfl (by decide +kernel) (by decide +kernel) (by decide +kernel)
    (by decide) (by decide +kernel) (by decide +kernel) (by decide +kernel) (by decide +kernel) rfl rfl
  have hc := countA_corr_listedZero.symm.trans ((congrArg Res.counters e).symm.trans counters_rxFrame_listedZero)
  exact absurd hc (List.cons_ne_nil _ _)

end Sys2Proof.Machine

namespace Sys2Proof.Machine

/-! ## Blocks that do not run, a step without a command, and the state after power-on -/

/-! ### Commands while the blocks are held in reset or gated (R32, R57, R472, R530) -/

theorem live_of_coreHeld {s : State} (h : s.coreHeld = true) : s.live = false := by
  rw [State.live, h]; rfl

theorem coreHeld_of_live {s : State} (h : s.live = true) : s.coreHeld = false :=
  Bool.eq_false_iff.mpr fun k => Bool.noConfusion (h.symm.trans (live_of_coreHeld k))

theorem hostUp_of_not_live {s : State} (h : s.live = false) : ¬ s.hostUp = true := by
  rw [State.hostUp, h]; exact Bool.false_ne_true

theorem hostCmd_held {f : State → State} {s : State} {win : Nat} (h : s.live = false) :
    hostCmd win f s = .next s.fresh := if_neg (hostUp_of_not_live h)

theorem hostModeCmd_held {f : State → State} {s : State} (h : s.live = false) : hostModeCmd f s = .next s.fresh :=
  if_neg (hostUp_of_not_live h)

theorem tbeCmd_held {f : State → State} {s : State} (h : s.coreHeld = true) : tbeCmd f s = .next s.fresh := if_pos h

theorem farCmd_held {t fn : Nat} {f : FarOp → State → State} {s : State} (h : s.live = false) :
    farCmd t fn f s = .next s.fresh := by rw [farCmd]; exact coreCmd_held h

/-- A command of a block that does not run, neither the island's nor the timebase's, changes nothing: it stands in the frame of a
block's command or of a host write. -/
theorem exec_not_live {c : Instr} {s : State} (hi : c.island = false) (ht : c.timebase = false) (h : s.live = false) :
    exec c s = .next s.fresh := by
  cases hw : c.hostWindow with
  | some win =>
    obtain ⟨f, hf⟩ := exec_of_hostWindow hw s
    rw [hf]
    exact hostCmd_held h
  | none =>
    cases c with
    | perstNAssert | perstNRelease | alarm | zeroised | killBurned | resetNFall | resetNRise | vddAonFall | islandReset
    | coreRailFall | bootTknInRise | bootTknInFall | responseFetch | alertResponse | smbTimeout | sbIdentify | sbStatus | sbReadReg
    | sbReadLog | sbWriteReg | sbEcp | sbEcpAbort | sbHeadless | sbDrain | sbRestart | sbReload | sbPortAdmin | sbAlertAck
    | thermalTrip | sourceInactive | jtagInstruction => cases hi
    | ppsEdge | todMessage | slewIncrement | holdoverEnter | refclkLost | refclkRestored => cases ht
    | realign | snap | arm | disarm | copy | asaTest | hmcDlyWrite | marchTest | sweepTest | xprTest | forceOut | lpcPortAdmin
    | cdtFlush | progRoot | jtagDisable | killFuse | resendTemplates | engPreempt | engTest | ringEnable | hostIdx => cases hw
    | attach | hostDrain | hostReload | mgtHeartbeat => exact hostModeCmd_held h
    | farAdmit | farMap | farLbSelect | farPeek | farTouch | farInsertPeer | farDeletePeer | farSvcFail | farTblRead | farAsaSearch
    | farAsaStep => exact farCmd_held h
    | ecpAbort port =>
      show ite _ _ _ = _
      split
      · exact hostCmd_held h
      · exact coreCmd_held h
    | fseAgeVisit part ue =>
      show execFseAgeVisit part ue s = _
      rw [execFseAgeVisit]
      exact coreCmd_held h
    | _ => exact coreCmd_held h

/-- The same of a block held in reset, where the timebase stands still too. -/
theorem exec_coreHeld {c : Instr} {s : State} (hi : c.island = false) (h : s.coreHeld = true) : exec c s = .next s.fresh := by
  cases ht : c.timebase with
  | false => exact exec_not_live hi ht (live_of_coreHeld h)
  | true =>
    cases c with
    | ppsEdge | todMessage | slewIncrement | holdoverEnter | refclkLost | refclkRestored => exact tbeCmd_held h
    | _ => cases ht

/-- Settles O6: by the frame in which each command runs. -/
theorem heldBlocksDoNothing : Obligations.HeldBlocksDoNothing :=
  fun _ _ hi => ⟨exec_coreHeld hi, exec_not_live hi⟩

/-! ### A step without a command (R32, R38) -/

/-- Only a device whose blocks run drains (R87). -/
theorem settle_of_not_live {s : State} (h : s.live = false) : settle s = s :=
  if_neg fun k => Bool.noConfusion (h.symm.trans k.2.2.2)

theorem step_idle {s : State} (h : s.pending = []) : step s = idle s := by unfold step; rw [h]

/-- A nanosecond of ST. -/
def tick (s : State) : State := { s with tbe := { s.tbe with st := s.tbe.st + 1 } }

theorem runTo_succ (s : State) : runTo (s.now + 1) s = tick s := by
  rw [runTo, show max s.tbe.st (s.now + 1) = s.tbe.st + 1 from max_eq_right (Nat.le_succ _), tick]

/-- Without a thread none stands at a faulting word. -/
theorem issueFaults_none {s : State} (h : s.eng.th.cells = []) : issueFaults s = s := by rw [issueFaults, h]; rfl

/-- Where the timebase runs, ST advances, and running blocks sense and issue. -/
theorem idle_runs {s : State} (h : s.coreHeld = false) :
    idle s = finish s (if (tick s.fresh).live then issueFaults (senseTemp (tick s.fresh)) else tick s.fresh) := by
  rw [← runTo_succ]
  exact if_neg (Bool.eq_false_iff.mp h)

theorem idle_gated {s : State} (hc : s.coreHeld = false) (hl : s.live = false) :
    idle s = .next { s.fresh with tbe := { s.tbe with st := s.tbe.st + 1 } } := by
  have ht : (tick s.fresh).live = false := hl
  rw [idle_runs hc, ht, if_neg Bool.false_ne_true, finish, settle_of_not_live ht]
  rfl

theorem idle_steady {s : State} (h : s.steady) (ht : s.eng.th.cells = []) :
    idle s = .next { s.fresh with tbe := { s.tbe with st := s.tbe.st + 1 }, temp := Config.sensors (s.tbe.st + 1) } := by
  have hl : (tick s.fresh).live = true := h.1
  rw [idle_runs (coreHeld_of_live h.1), hl, if_pos rfl, issueFaults_none (s := senseTemp (tick s.fresh)) ht]
  exact finish_of_drained h.2 rfl

/-- Settles O2: the idle step by whether the timebase and the core clocks run. -/
theorem idleStepIsANanosecond : Obligations.IdleStepIsANanosecond := by
  intro s hp
  rw [step_idle hp]
  exact ⟨tbeCmd_held, idle_gated, idle_steady⟩

/-! ### The state after power-on (R57, R452, R512) -/

/-- Each filter profile holds its reset values (R510, R512). -/
theorem reset_profiles : ∀ k < 32, State.reset.regs.get (Reg.MGT_CNT_PROF_CFG k) = 0x00FF033F ∧
    State.reset.regs.get (Reg.MGT_CNT_PROF_TBL k) = 0xFF00 ∧ State.reset.regs.get (Reg.MGT_CNT_PROF_IDX_HI k) = 0xFFFFFFFF := by
  decide +kernel

/-- Settles O8: the fields of the reset state, with the log's one record at slot 0. -/
theorem resetState : Obligations.ResetState := by
  refine ⟨rfl, rfl, rfl, rfl, rfl, rfl, rfl, rfl, fun i _ => ?_, reset_profiles⟩
  exact if_neg (t := islandResetRec) (Nat.succ_ne_zero i).symm

end Sys2Proof.Machine

namespace Sys2Proof.Machine

/-! ## Pulses, messages, slews, and the loss of the reference clock (R33 to R48, R54, R554) -/

/-! ### Commands of the timebase -/

/-- A command of the timebase on a running device answers the state t that it makes, where t moves no packet and leaves the modes
alone. -/
theorem tbeCmd_answers {f : State → State} {s t : State} {fs : List Fld} (h : s.running) (e : f s.fresh = t)
    (hf : s.fresh.changesOnly t fs) (hs : ∀ x ∈ Fld.settled, x ∉ fs := by decide) : tbeCmd f s = .next t := by
  subst e
  unfold tbeCmd
  rw [if_neg (by rw [coreHeld_of_live h.1]; exact Bool.false_ne_true)]
  exact finish_of_quiet (quiet_of_eq h.2 (hf .md (hs _ (by decide))) (holdsPackets_of_only (s := s.fresh) hf hs))
    (hf .pending (hs _ (by decide)))

/-- The fields of the timebase and of counts. -/
def Fld.clock : List Fld := Fld.events ++ [.tbe]

/-! ### Pulses (R33, R34, R41, R42) -/

/-- An accepted edge: it is the last one, and the message that was bound to it is taken. -/
def acceptEdge (gap : Nat) (s : State) : State :=
  { s with tbe := { s.tbe with st := s.tbe.st + gap, lastEdge := some (s.tbe.st + gap), bound := none } }

section pulse
variable {gap : Nat} {rising : Bool} {s : State}

theorem doPpsEdge_otherPolarity (h : rising = bit (s.reg Reg.TBE_PPS_CFG) 16) : doPpsEdge gap rising s = elapse gap s :=
  if_pos (beq_iff_eq.mpr h)

theorem doPpsEdge_glitch {e : Nat} (h : rising ≠ bit (s.reg Reg.TBE_PPS_CFG) 16) (he : s.tbe.lastEdge = some e)
    (hd : s.tbe.st + gap - e < 500000000) : doPpsEdge gap rising s = count Cnt.TBE_PPS_GLITCH (elapse gap s) := by
  have hg : (match (elapse gap s).tbe.lastEdge with
      | some e => decide ((elapse gap s).now - e < 500000000) | none => false) = true := by
    rw [show (elapse gap s).tbe.lastEdge = some e from he]
    exact decide_eq_true hd
  exact (if_neg (mt beq_iff_eq.mp h)).trans (if_pos hg)

/-- An edge at least 500 ms after the accepted one before is accepted (R34), with or without a message. -/
theorem doPpsEdge_accepted (h : rising ≠ bit (s.reg Reg.TBE_PPS_CFG) 16)
    (he : ∀ e, s.tbe.lastEdge = some e → 500000000 ≤ s.tbe.st + gap - e) :
    doPpsEdge gap rising s =
      match s.tbe.bound with
      | none => count Cnt.TBE_TOD_MISSING { acceptEdge gap s with tbe := { (acceptEdge gap s).tbe with kept := none, prev := none } }
      | some sec => if s.tbe.state = .unsync then acquirePulse sec (acceptEdge gap s) else disciplinePulse sec (acceptEdge gap s) := by
  have hg : ¬ (match (elapse gap s).tbe.lastEdge with
      | some e => decide ((elapse gap s).now - e < 500000000) | none => false) = true := by
    show ¬ (match s.tbe.lastEdge with
      | some e => decide (s.tbe.st + gap - e < 500000000) | none => false) = true
    cases hl : s.tbe.lastEdge with
    | none => exact Bool.false_ne_true
    | some e => exact fun k => absurd (of_decide_eq_true k) (Nat.not_lt.mpr (he e hl))
  refine (if_neg (mt beq_iff_eq.mp h)).trans ((if_neg hg).trans ?_)
  rfl

/-- In LOCKED a pulse of the second after the one before whose phase error is that one's within 100 ns and within SLEW_LIMIT starts a
slew of its negative: the predicted second is the one that its message names (R41, R42). -/
theorem disciplinePulse_slews {sec : Nat} {phase before : Int} (hs : s.tbe.state = .locked)
    (ht : ((s.tbe.st - s.tbe.off : Nat) : Int) - s.ppsComp = ((sec + 1 : Nat) : Int) * 1000000000 + phase)
    (hp : s.tbe.prev = some (sec, 0, before)) (hb : (before - phase).natAbs ≤ 100) (hl : phase.natAbs ≤ s.slewLimit)
    (hh : phase.natAbs < 500000000) :
    disciplinePulse (sec + 1) s =
      { s with tbe := { s.tbe with prev := some (sec + 1, 0, phase), phaseErr := phase, lastGood := s.tbe.st, slew := -phase,
                                   slewDue := s.tbe.st + 20000 } } := by
  have hnt : s.nt = s.tbe.st - s.tbe.off := by rw [State.nt, hs]; rfl
  have hpred : ((s.nt : Int) - s.ppsComp + 500000000) / 1000000000 = ((sec + 1 : Nat) : Int) := by rw [hnt, ht]; omega
  have hphase : (s.nt : Int) - s.ppsComp - ((sec + 1 : Nat) : Int) * 1000000000 = phase := by rw [hnt, ht]; omega
  have hlarge : ¬ s.slewLimit < phase.natAbs := Nat.not_lt.mpr hl
  simp only [disciplinePulse, hpred, hphase, hp, sub_self]
  simp [hb, hs, hlarge]

end pulse

/-! ### Messages (R35 to R37, R54) -/

/-- The state in which a sound message is bound to the next accepted pulse. -/
def bindTod (gap : Nat) (bytes : List Byte) (s : State) : State :=
  { s with tbe := { s.tbe with st := s.tbe.st + gap, bound := some (leVal (slice bytes 2 6)), lastTod := bvOfBytes 128 bytes,
                               leap := bit (byteAt bytes 8).toNat 1, traceable := bit (byteAt bytes 8).toNat 0 } }

theorem length_of_todOk {bytes : List Byte} (h : todOk bytes = true) : bytes.length = 16 := by
  simp only [todOk, Bool.and_eq_true, beq_iff_eq] at h
  obtain ⟨⟨⟨⟨⟨hl, -⟩, -⟩, -⟩, -⟩, -⟩ := h
  exact hl

theorem doTodMessage_sound {gap : Nat} {bytes : List Byte} {s : State} (hk : todOk bytes = true) (hb : s.tbe.bound = none) :
    doTodMessage gap bytes s = bindTod gap bytes s := by
  have he : ¬ bytes.isEmpty = true := by
    rw [List.isEmpty_iff_length_eq_zero, length_of_todOk hk]; decide
  have hn : ¬ (elapse gap s).tbe.bound.isSome = true := by
    rw [show (elapse gap s).tbe.bound = none from hb]; exact Bool.false_ne_true
  rw [doTodMessage, if_neg he, if_pos hk, if_neg hn, elapse, bindTod]

/-! ### Slews (R42) -/

theorem doSlewIncrement_adds {s : State} (h : 0 < s.tbe.slew) :
    doSlewIncrement s =
      { s with tbe := { s.tbe with st := max s.tbe.st s.tbe.slewDue + 1, slew := s.tbe.slew - 1,
                                   slewDue := max s.tbe.st s.tbe.slewDue + 20001 } } :=
  (if_neg h.ne').trans ((if_pos h).trans (congrArg (fun due : Nat => { s with
    tbe := { s.tbe with st := max s.tbe.st s.tbe.slewDue + 1, slew := s.tbe.slew - 1, slewDue := due } }) (Nat.add_assoc _ 1 20000)))

theorem doSlewIncrement_withholds {s : State} (h : s.tbe.slew < 0) :
    doSlewIncrement s =
      { s with tbe := { s.tbe with st := max s.tbe.st s.tbe.slewDue, slew := s.tbe.slew + 1,
                                   slewDue := max s.tbe.st s.tbe.slewDue + 19999 } } :=
  (if_neg h.ne).trans (if_neg h.le.not_gt)

/-- Settles O21: each input of the timebase by the branch that takes it. -/
theorem timeInputs : Obligations.TimeInputs := by
  refine ⟨?polarity, ?glitch, ?missing, ?slewed, ?bound, ?adds, ?withholds⟩
  case polarity =>
    intro gap rising s h hr
    exact tbeCmd_answers h (doPpsEdge_otherPolarity (s := s.fresh) hr) (tbe_only (fs := Fld.clock) s.fresh _)
  case glitch =>
    intro gap e rising s h hr he hd
    exact tbeCmd_answers h (doPpsEdge_glitch (s := s.fresh) hr he hd) ((tbe_only (fs := Fld.clock) s.fresh _).trans (count_only _ _))
  case missing =>
    intro gap rising s h hr he hb
    refine tbeCmd_answers h ?_ ((tbe_only (fs := Fld.clock) s.fresh _).trans (count_only _ _))
    rw [doPpsEdge_accepted (s := s.fresh) hr he, show s.fresh.tbe.bound = none from hb]
    rfl
  case slewed =>
    intro gap sec rising phase before s h hr he hb hl ht hp hd hs hh
    refine tbeCmd_answers h ?_ (tbe_only (fs := Fld.clock) s.fresh _)
    have hn : ¬ s.tbe.state = .unsync := by rw [hl]; decide
    rw [doPpsEdge_accepted (s := s.fresh) hr he, show s.fresh.tbe.bound = some (sec + 1) from hb]
    exact (if_neg hn).trans (disciplinePulse_slews (s := acceptEdge gap s.fresh) hl ht hp hd hs hh)
  case bound =>
    intro gap bytes s h hk hb
    exact tbeCmd_answers h (doTodMessage_sound (s := s.fresh) hk hb) (tbe_only (fs := Fld.clock) s.fresh _)
  case adds =>
    intro s h hs
    exact tbeCmd_answers h (doSlewIncrement_adds (s := s.fresh) hs) (tbe_only (fs := Fld.clock) s.fresh _)
  case withholds =>
    intro s h hs
    exact tbeCmd_answers h (doSlewIncrement_withholds (s := s.fresh) hs) (tbe_only (fs := Fld.clock) s.fresh _)

end Sys2Proof.Machine

namespace Sys2Proof.Machine

/-! ### Alarm sources beside records and counts -/

/-- s with other alarm sources, another latch and another security state: what no record and no count reads. -/
def State.noting (s : State) (p l : BitVec 17) (c : Sec) : State :=
  { s with pins := { s.pins with sources := p }, isl := { s.isl with latch := l }, sec := c }

section noting
variable (s : State) (p l : BitVec 17) (c : Sec)

theorem noting_only {fs : List Fld} (hp : Fld.pins ∈ fs := by decide) (hi : Fld.isl ∈ fs := by decide)
    (hs : Fld.sec ∈ fs := by decide) : s.changesOnly (s.noting p l c) fs := fun f hf => by
  cases f with
  | pins => exact absurd hp hf
  | isl => exact absurd hi hf
  | sec => exact absurd hs hf
  | _ => rfl

theorem countA_noting (x : Attr) (a n : Nat) : countA x a n (s.noting p l c) = (countA x a n s).noting p l c := by
  show ite (profilePass s (s.binding a) x = true) _ _ = State.noting (ite _ _ _) p l c
  split <;> rfl

theorem msixRaise_noting (v : Nat) : msixRaise v (s.noting p l c) = (msixRaise v s).noting p l c := by
  show ite (s.pins.perstN = true) (ite ((s.msix.get v).unmasked = true) _ _) _ =
    State.noting (ite _ (ite _ _ _) _) p l c
  split
  · split <;> rfl
  · rfl

theorem cdtOffer_noting (k : Nat) (bs : List Byte) :
    cdtOffer k bs (s.noting p l c) = (cdtOffer k bs s).map (State.noting · p l c) := by
  show ite ((cdtWords bs).length ≤ (s.cdt.get k).credit) _ _ = Option.map _ (ite _ _ _)
  split <;> rfl

theorem cdtPush_noting (k : Nat) (x : Attr) (bs : List Byte) :
    cdtPush k x bs (s.noting p l c) = (cdtPush k x bs s).noting p l c := by
  unfold cdtPush
  rw [cdtOffer_noting]
  cases cdtOffer k bs s with
  | none => exact countA_noting s p l c x _ 1
  | some t => rfl

/-- ALERT_N as a record asserts it (R507). -/
def alertFor (r : EventRec) (s : State) : State :=
  if alertAlways r.block.toNat r.code.toNat || bit (s.reg Reg.MGT_SB_ALERT_MASK) r.block.toNat then
    { s with isl := { s.isl with alert := true } } else s

/-- A record as the blocks outside the island see it: MGT_EVENTS, the event conduit and MSI-X vector 49 (R449, R500). -/
def announce (r : EventRec) (s : State) : State :=
  if s.coreHeld then s else
    if (r.block == 0 && r.code == 1) || (r.block == 1 && r.code == 4) then
      msixRaise 49 (cdtPush 40 {} r.bytes (count Cnt.MGT_EVENTS s))
    else cdtPush 40 {} r.bytes (count Cnt.MGT_EVENTS s)

theorem recPut_eq (r : EventRec) (s : State) : recPut r s = announce r (alertFor r (logPut r s)) := rfl

theorem alertFor_noting (r : EventRec) : alertFor r (s.noting p l c) = (alertFor r s).noting p l c := by
  show ite ((alertAlways r.block.toNat r.code.toNat || bit (s.reg Reg.MGT_SB_ALERT_MASK) r.block.toNat) = true) _ _ =
    State.noting (ite _ _ _) p l c
  split <;> rfl

theorem announce_noting (r : EventRec) : announce r (s.noting p l c) = (announce r s).noting p l c := by
  have h : cdtPush 40 {} r.bytes (count Cnt.MGT_EVENTS (s.noting p l c)) =
      (cdtPush 40 {} r.bytes (count Cnt.MGT_EVENTS s)).noting p l c := by
    unfold count; rw [countA_noting, cdtPush_noting]
  unfold announce
  rw [h, msixRaise_noting, show (s.noting p l c).coreHeld = s.coreHeld from rfl]
  split
  · rfl
  · split <;> rfl

theorem recPut_noting (r : EventRec) : recPut r (s.noting p l c) = (recPut r s).noting p l c := by
  rw [recPut_eq, recPut_eq, show logPut r (s.noting p l c) = (logPut r s).noting p l c from rfl, alertFor_noting,
    announce_noting]

theorem recWrite_noting (r : EventRec) : recWrite r (s.noting p l c) = (recWrite r s).noting p l c := by
  unfold recWrite
  rw [recPut_noting]
  show ite ((s.isl.held == 1024 && !s.isl.wrapped) = true) _ _ = State.noting (ite _ _ _) p l c
  split
  · exact recPut_noting { recPut r s with isl := { (recPut r s).isl with wrapped := true } } p l c _
  · rfl

/-- An event leaves the alarm sources, the latch and the security state alone, and does not read them. -/
theorem raise_noting (b k u d : Nat) : raise b k u d (s.noting p l c) = (raise b k u d s).noting p l c :=
  recWrite_noting s p l c _

end noting

theorem eventFrame.latch {s t : State} (h : eventFrame s t) : t.isl.latch = s.isl.latch := by
  obtain ⟨_, _, _, _, _, _, _, _, _, rfl⟩ := h; rfl

/-- A source whose condition holds becomes a bit of the sources, and nothing else changes. -/
theorem holdSource_eq (src : Nat) {s t : State} (h : eventFrame s t) :
    holdSource src t = t.noting (s.pins.sources ||| ((1 : BitVec 17) <<< src)) s.isl.latch s.sec := by
  rw [← h.pins, ← h.latch, ← h.sec]; rfl

theorem aonDown_of_not_held {s : State} (h : s.coreHeld = false) : s.isl.aonDown = false := (Bool.or_eq_false_iff.mp h).2

/-- A source that is active already is only held (R468). -/
theorem doAlarm_active {src : Nat} {s : State} (hs : src < 11) (hc : s.coreHeld = false)
    (ha : bit s.sec.status.toNat src = true) : doAlarm src s = holdSource src s := by
  have hk : (holdSource src s).coreHeld = false := hc
  have hb : bit (holdSource src s).sec.status.toNat src = true := ha
  simp only [doAlarm, aonDown_of_not_held hk, hk, hb, if_neg (show ¬ 12 ≤ src by omega), if_neg (show ¬ src = 11 by omega),
    if_true, Bool.false_eq_true, if_false]

/-- A source of grade Log becomes active: it is latched and recorded, with no response (R470). -/
theorem doAlarm_logged {src : Nat} {s : State} (hs : src < 11) (hc : s.coreHeld = false)
    (ha : bit s.sec.status.toNat src = false) (hg : s.grade src = 0) :
    doAlarm src s = raiseAlarm src 0
      (s.noting (s.pins.sources ||| ((1 : BitVec 17) <<< src)) (s.isl.latch ||| ((1 : BitVec 17) <<< src))
        { s.sec with status := s.sec.status ||| ((1 : BitVec 17) <<< src), answered := s.sec.answered.set src 0 }) := by
  have hk : (holdSource src s).coreHeld = false := hc
  have hb : bit (holdSource src s).sec.status.toNat src = false := ha
  have hz : (holdSource src s).grade src = 0 := hg
  simp only [doAlarm, aonDown_of_not_held hk, hk, hb, hz, if_neg (show ¬ 12 ≤ src by omega), if_neg (show ¬ src = 11 by omega),
    Bool.false_eq_true, if_false]
  rfl

theorem raiseAlarm_only (src grade : Nat) (s : State) {fs : List Fld} (hs : Fld.events ⊆ fs := by decide) :
    s.changesOnly (raiseAlarm src grade s) fs := by
  have h := raiseLim_only s 1 src 1 4 src (src + 256 * grade) hs
  exact ite_only (h.trans (count_only _ _ hs)) h

/-! ### HOLDOVER and TIME_REFCLK (R47, R48) -/

theorem doHoldoverEnter_locked {s : State} (h : s.tbe.state = .locked) :
    doHoldoverEnter s = raise 2 4 noUnit 0 (count Cnt.TBE_HOLDOVER_ENTRY
      { s with tbe := { s.tbe with st := max s.tbe.st (s.tbe.lastGood + 2000000000), state := .holdover, slew := 0 } }) := if_pos h

/-- The clock monitor has noticed the loss of TIME_REFCLK. -/
def refclkGone (s : State) : State := { s with tbe := { s.tbe with refclkLost := true } }

/-- A LOCKED timebase has entered HOLDOVER at that loss. -/
def refclkGoneLocked (s : State) : State := { s with tbe := { s.tbe with refclkLost := true, state := .holdover, slew := 0 } }

/-- The loss of TIME_REFCLK on a timebase that is not LOCKED is recorded, and holds source 5. -/
theorem doRefclkLost_unlocked {ppm : Int} {s : State} (hr : s.tbe.refclkLost = false) (hl : s.tbe.state ≠ .locked) :
    doRefclkLost ppm s = doAlarm 5 (raise 2 6 noUnit (wrap 32 ppm) (refclkGone s)) := by
  simp only [doRefclkLost, hr, hl, Bool.false_eq_true, if_false, refclkGone]

/-- On a LOCKED timebase it enters HOLDOVER before. -/
theorem doRefclkLost_locked {ppm : Int} {s : State} (hr : s.tbe.refclkLost = false) (hl : s.tbe.state = .locked) :
    doRefclkLost ppm s = doAlarm 5 (raise 2 6 noUnit (wrap 32 ppm) (raise 2 4 noUnit 1 (count Cnt.TBE_HOLDOVER_ENTRY
      (refclkGoneLocked s)))) := by
  simp only [doRefclkLost, hr, hl, Bool.false_eq_true, if_true, if_false]
  rfl

/-- TIME_REFCLK is back: source 5 has ended. -/
def refclkBack (s : State) : State :=
  State.noting { s with tbe := { s.tbe with refclkLost := false } } (s.pins.sources &&& ~~~(32 : BitVec 17)) s.isl.latch
    { s.sec with status := s.sec.status &&& ~~~(32 : BitVec 17), answered := s.sec.answered.set 5 0 }

theorem doRefclkRestored_running {s : State} (h : s.coreHeld = false) : doRefclkRestored s = refclkBack s := by
  unfold doRefclkRestored doSourceInactive
  rw [if_neg (by decide)]
  exact (if_neg (by exact Bool.eq_false_iff.mp h)).trans (if_neg (fun k => absurd k.1 (by decide)))

/-- The fields that the loss and the return of TIME_REFCLK touch. -/
def Fld.refclk : List Fld := Fld.clock ++ [.pins, .sec]

theorem refclkBack_only (s : State) : s.changesOnly (refclkBack s) Fld.refclk :=
  (tbe_only s _).trans (noting_only _ _ _ _)

theorem exec_refclkLost_active {ppm : Int} {s : State} (h : s.running) (hr : s.tbe.refclkLost = false)
    (hl : s.tbe.state ≠ .locked) (hb : bit s.sec.status.toNat 5 = true) :
    exec (.refclkLost ppm) s = .next (raise 2 6 noUnit (wrap 32 ppm)
      { s.fresh with
        tbe := { s.tbe with refclkLost := true }, pins := { s.pins with sources := s.pins.sources ||| 32 } }) := by
  set u := refclkGone s.fresh
  have hu : eventFrame u (raise 2 6 noUnit (wrap 32 ppm) u) := raise_frame _ _ _ _ _
  have hc : (raise 2 6 noUnit (wrap 32 ppm) u).coreHeld = false := hu.held.trans (coreHeld_of_live h.1)
  refine tbeCmd_answers h ?_ (State.changesOnly.trans (fs := Fld.refclk) ((tbe_only s.fresh _).trans
    (noting_only u (s.pins.sources ||| 32) s.isl.latch s.sec)) (raise_only _ _ _ _ _))
  rw [doRefclkLost_unlocked (s := s.fresh) hr hl, doAlarm_active (by decide) hc (by rw [hu.sec]; exact hb), holdSource_eq 5 hu,
    ← raise_noting]
  rfl

theorem exec_refclkLost_logged {ppm : Int} {s : State} (h : s.running) (hr : s.tbe.refclkLost = false)
    (hl : s.tbe.state = .locked) (hb : bit s.sec.status.toNat 5 = false) (hg : s.grade 5 = 0) :
    exec (.refclkLost ppm) s = .next (raiseAlarm 5 0 (raise 2 6 noUnit (wrap 32 ppm) (raise 2 4 noUnit 1 (count Cnt.TBE_HOLDOVER_ENTRY
      { s.fresh with
        tbe := { s.tbe with refclkLost := true, state := .holdover, slew := 0 },
        pins := { s.pins with sources := s.pins.sources ||| 32 }, isl := { s.isl with latch := s.isl.latch ||| 32 },
        sec := { s.sec with status := s.sec.status ||| 32, answered := s.sec.answered.set 5 0 } })))) := by
  set u := refclkGoneLocked s.fresh
  set t := raise 2 6 noUnit (wrap 32 ppm) (raise 2 4 noUnit 1 (count Cnt.TBE_HOLDOVER_ENTRY u)) with ht
  have hu : eventFrame u t := (count_frame _ _).trans ((raise_frame _ _ _ _ _).trans (raise_frame _ _ _ _ _))
  have hc : t.coreHeld = false := hu.held.trans (coreHeld_of_live h.1)
  have hz : t.grade 5 = 0 := by
    rw [← hg]; unfold State.grade State.regF State.reg; rw [hu.sec, hu.regs]; rfl
  set c : Sec := { s.sec with status := s.sec.status ||| 32, answered := s.sec.answered.set 5 0 }
  refine tbeCmd_answers h ?_ (State.changesOnly.trans (fs := Fld.refclk) ((tbe_only s.fresh _).trans
    (noting_only u (s.pins.sources ||| 32) (s.isl.latch ||| 32) c)) ((count_only _ _).trans ((raise_only _ _ _ _ _).trans
      ((raise_only _ _ _ _ _).trans (raiseAlarm_only _ _ _)))))
  rw [doRefclkLost_locked (s := s.fresh) hr hl, doAlarm_logged (by decide) hc (by rw [hu.sec]; exact hb) hz, hu.pins, hu.latch,
    hu.sec, ht, ← raise_noting, ← raise_noting, count, ← countA_noting]
  rfl

/-- Settles O22: the sources that an event does not read commute with the records of the loss. -/
theorem holdoverAndReference : Obligations.HoldoverAndReference := by
  refine ⟨?holdover, ?active, ?logged, ?restored⟩
  case holdover =>
    exact fun s h hl => tbeCmd_answers h (doHoldoverEnter_locked (s := s.fresh) hl)
      ((tbe_only (fs := Fld.clock) s.fresh _).trans ((count_only _ _).trans (raise_only _ _ _ _ _)))
  case active => exact fun ppm s h hr hl hb => exec_refclkLost_active h hr hl hb
  case logged => exact fun ppm s h hr hl hb hg => exec_refclkLost_logged h hr hl hb hg
  case restored =>
    intro s h
    exact tbeCmd_answers h (doRefclkRestored_running (s := s.fresh) (coreHeld_of_live h.1)) (refclkBack_only _)

end Sys2Proof.Machine

namespace Sys2Proof.Machine

/-! ## Boundaries of ST, the discharge of a skipped interval, and re-alignment (R44 to R46, R49, R55) -/

/-! ### The epoch boundary (R49, R136, R139, R167) -/

/-- The fields that the boundary of an epoch may change. -/
def Fld.boundary : List Fld := Fld.events ++ [.tbe, .cls, .eng, .asa, .ecp]

theorem svc_only (v : SvcSt) (s : State) {fs : List Fld} (h : Fld.svc ∈ fs := by decide) : s.changesOnly { s with svc := v } fs :=
  fun f hf => by cases f with | svc => exact absurd h hf | _ => rfl

theorem clsEpoch_only (passed : Nat) (last : Option Nat) (s : State) : s.changesOnly (clsEpoch passed last s) (Fld.events ++ [.cls]) := by
  unfold clsEpoch
  extract_lets bump s1
  have h1 : s.changesOnly s1 (Fld.events ++ [.cls]) := cls_only s _
  split
  · exact ite_only (h1.trans ((cls_only s1 _).trans (raise_only _ _ _ _ _))) h1
  · exact h1

theorem applyMembership_only (gen mask : Nat) (s : State) : s.changesOnly (applyMembership gen mask s) Fld.runner := by
  unfold applyMembership
  extract_lets was pos s1 s2
  have h1 : s.changesOnly s1 Fld.runner := updRun_only _ s
  have h2 : s.changesOnly s2 Fld.runner := by
    refine h1.trans ?_
    show s1.changesOnly (ite _ (ite _ _ _) (ite _ _ _)) _
    exact ite_only (ite_only (updRun_only _ s1) (.refl s1 _))
      (ite_only ((updRun_only _ s1).trans ((dropWaiting_only _).trans (raise_only _ _ _ _ _))) (.refl s1 _))
  exact h2.trans (foldl_only (fun s p => ite_only (raise_only s _ _ _ _) (.refl s _)) _ _)

theorem runnerEpoch_only (last : Option Nat) (s : State) : s.changesOnly (runnerEpoch last s) Fld.runner := by
  unfold runnerEpoch
  split
  · exact ite_only ((updRun_only _ s).trans (applyMembership_only _ _ _)) (.refl s _)
  · exact .refl s _

/-- Without a re-admission that waits the boundary leaves the Runner alone. -/
theorem runnerEpoch_none {last : Option Nat} {s : State} (h : s.asa.run.rejoin = none) : runnerEpoch last s = s := by
  unfold runnerEpoch; rw [h]

theorem eventFrame.cls {s t : State} (h : eventFrame s t) : t.cls = s.cls := by
  obtain ⟨_, _, _, _, _, _, _, _, _, rfl⟩ := h; rfl

/-- The epoch index of the current ST. -/
def markEpoch (s : State) : State := { s with tbe := { s.tbe with epochSeen := s.now / s.epochPeriod } }

/-- A boundary before its threads are told: the classifier's swap, then the Runner's re-admission. -/
def turnEpoch (changed : Bool) (s : State) : State :=
  let last := if changed then none else some s.tbe.epochSeen
  runnerEpoch last (clsEpoch (max 1 (s.now / s.epochPeriod - s.tbe.epochSeen)) last (markEpoch s))

theorem epochAt_eq (changed : Bool) (s : State) :
    epochAt changed s = { turnEpoch changed s with
      eng := { (turnEpoch changed s).eng with th := (turnEpoch changed s).eng.th.mapAll (flagEpoch (turnEpoch changed s).epoch) } } := rfl

theorem turnEpoch_only (changed : Bool) (s : State) :
    (markEpoch s).changesOnly (turnEpoch changed s) (Fld.events ++ [.cls, .eng, .asa, .ecp]) :=
  ((clsEpoch_only _ _ _).mono (by decide)).trans ((runnerEpoch_only _ _).mono (by decide))

theorem epochAt_only (changed : Bool) (s : State) : s.changesOnly (epochAt changed s) Fld.boundary :=
  (tbe_only s _).trans (((turnEpoch_only changed s).mono (by decide)).trans (eng_only _ _))

/-- Of the timebase an epoch boundary changes the epoch index alone. -/
theorem epochAt_tbe (changed : Bool) (s : State) :
    (epochAt changed s).tbe = { s.tbe with epochSeen := s.now / s.epochPeriod } := turnEpoch_only changed s .tbe (by decide)

theorem epochPeriod_of_regs {s t : State} (h : t.regs = s.regs) : t.epochPeriod = s.epochPeriod := by
  unfold State.epochPeriod State.regF State.reg; rw [h]

theorem agePeriod_of_regs {s t : State} (h : t.regs = s.regs) : t.agePeriod = s.agePeriod := by
  unfold State.agePeriod State.regF State.reg; rw [h]

theorem epoch_of_eq {s t : State} (hs : t.tbe.st = s.tbe.st) (hr : t.regs = s.regs) : t.epoch = s.epoch := by
  rw [State.epoch, State.epoch, epochPeriod_of_regs hr, State.now, State.now, hs]

theorem epochAt_epoch (changed : Bool) (s : State) : (epochAt changed s).epoch = s.epoch :=
  epoch_of_eq (by rw [epochAt_tbe]) (epochAt_only changed s .regs (by decide))

/-- Threads are told of the epoch where no re-admission of the Runner waits for it (R308). -/
theorem epochAt_threads {changed : Bool} {s : State} (h : s.asa.run.rejoin = none) :
    (epochAt changed s).eng.th = s.eng.th.mapAll (flagEpoch s.epoch) := by
  set last := if changed then none else some s.tbe.epochSeen
  set c := clsEpoch (max 1 (s.now / s.epochPeriod - s.tbe.epochSeen)) last (markEpoch s)
  have hc := clsEpoch_only (max 1 (s.now / s.epochPeriod - s.tbe.epochSeen)) last (markEpoch s)
  have hasa : c.asa = s.asa := hc .asa (by decide)
  have heng : c.eng = s.eng := hc .eng (by decide)
  have ht : turnEpoch changed s = c := runnerEpoch_none (by rw [hasa]; exact h)
  have htbe : c.tbe = (markEpoch s).tbe := hc .tbe (by decide)
  have he : c.epoch = s.epoch := epoch_of_eq (by rw [htbe]; rfl) (hc .regs (by decide))
  rw [epochAt_eq, ht, he, heng]

/-- A swap whose epoch is reached fires (R139): the record is written with the slots exchanged. -/
theorem clsEpoch_fires {passed e : Nat} {last : Option Nat} {s : State} (ha : s.cls.armed = some e)
    (hr : s.epochReached last e = true) (hm : s.swapMode = true) :
    ∃ c : ClsSt, clsEpoch passed last s = raise 5 2 noUnit s.epoch { s with cls := c } ∧
      c.active = 1 - s.cls.active ∧ c.armed = none ∧ c.draining = true := by
  unfold clsEpoch
  extract_lets bump s1
  have ha1 : s1.cls.armed = some e := ha
  rw [ha1]
  exact ⟨_, if_pos ⟨hr, hm⟩, rfl, rfl, rfl⟩

theorem epochReached_iff (s : State) (l e : Nat) :
    s.epochReached (some l) e = true ↔ (s.epoch + 2 ^ 32 - e % 2 ^ 32) % 2 ^ 32 < 2 ^ 31 ∨
      (e + 2 ^ 32 - l % 2 ^ 32) % 2 ^ 32 ≤ s.now / s.epochPeriod - l := by
  rw [State.epochReached, Option.any_some, Bool.or_eq_true, decide_eq_true_iff, decide_eq_true_iff]

/-- The boundary at which an armed swap fires: its record stands in the log's next slot. -/
theorem epochAt_swaps {e : Nat} {s : State} (ha : s.cls.armed = some e) (hr : s.epochReached (some s.tbe.epochSeen) e = true)
    (hm : s.swapMode = true) (hj : s.asa.run.rejoin = none) :
    (epochAt false s).cls.active = 1 - s.cls.active ∧ (epochAt false s).cls.armed = none ∧ (epochAt false s).cls.draining = true ∧
      (epochAt false s).isl.log.get (s.isl.total.toNat % 1024) =
        recordOf (epochAt false s) 5 2 noUnit (epochAt false s).epoch := by
  obtain ⟨c, hc, hact, harm, hdr⟩ := clsEpoch_fires (passed := max 1 (s.now / s.epochPeriod - s.tbe.epochSeen))
    (s := markEpoch s) ha hr hm
  obtain ⟨hf, hlog⟩ := raise_raised 5 2 noUnit (markEpoch s).epoch { markEpoch s with cls := c }
  have hcls : (raise 5 2 noUnit (markEpoch s).epoch { markEpoch s with cls := c }).cls = c := hf.cls
  have hasa : (raise 5 2 noUnit (markEpoch s).epoch { markEpoch s with cls := c }).asa = s.asa := hf.asa
  have ht : turnEpoch false s = raise 5 2 noUnit (markEpoch s).epoch { markEpoch s with cls := c } :=
    (runnerEpoch_none (by exact (congrArg (·.asa.run.rejoin) hc).trans ((congrArg (·.run.rejoin) hasa).trans hj))).trans hc
  have he : (epochAt false s).epoch = (markEpoch s).epoch := epochAt_epoch false s
  have hrec : recordOf (epochAt false s) 5 2 noUnit (epochAt false s).epoch =
      recordOf { markEpoch s with cls := c } 5 2 noUnit (markEpoch s).epoch := by
    rw [he]; exact recordOf_congr (epochAt_tbe false s) _ _ _ _
  rw [hrec, ← hlog, epochAt_eq, ht]
  exact ⟨(congrArg ClsSt.active hcls).trans hact, (congrArg ClsSt.armed hcls).trans harm,
    (congrArg ClsSt.draining hcls).trans hdr, rfl⟩

/-! ### The order of items at one instant (R45) -/

/-- An epoch boundary that has come by the current ST. -/
def passEpoch (s : State) : State := if s.tbe.epochSeen = s.now / s.epochPeriod then s else epochAt false s

/-- The boundaries of the first n windows that have come by the current ST. -/
def passTwins (n : Nat) (s : State) : State :=
  (List.range n).foldl (fun s n => if s.tbe.twinSeen.get n = s.now / s.twinPeriod n then s else twinAt n s) s

theorem priorItems_one (s : State) : priorItems 1 s = passEpoch s := by
  show ite (1 = 0 ∨ _) _ _ = ite _ _ _
  simp only [Nat.one_ne_zero, false_or]

theorem priorItems_two_add (n : Nat) (s : State) : priorItems (2 + n) s = passTwins (min 8 n) (ageAt (passEpoch s)) := by
  have he : (if 2 + n = 0 ∨ s.tbe.epochSeen = s.now / s.epochPeriod then s else epochAt false s) = passEpoch s := by
    unfold passEpoch; simp
  rw [priorItems, he, if_neg (by omega), Nat.add_sub_cancel_left, passTwins]

theorem passEpoch_only (s : State) : s.changesOnly (passEpoch s) Fld.boundary := ite_only (.refl s _) (epochAt_only false s)

theorem passEpoch_tbe (s : State) : (passEpoch s).tbe = { s.tbe with epochSeen := s.now / s.epochPeriod } := by
  unfold passEpoch
  split
  · rename_i h; rw [← h]
  · exact epochAt_tbe false s

theorem tbe_of_ageSeen {s t : State} {a : Nat} (h : t.tbe = { s.tbe with ageSeen := a }) :
    t.tbe.st = s.tbe.st ∧ t.tbe.skip = s.tbe.skip ∧ t.tbe.epochSeen = s.tbe.epochSeen ∧ t.tbe.ageSeen = a := by
  rw [h]; exact ⟨rfl, rfl, rfl, rfl⟩

/-- The boundary of an age quantum brings its index up to ST and changes no more of the timebase. The new index is kept behind a
variable in the proof, where the kernel would else compare it with the old one by computing both. -/
theorem ageAt_tbe (s : State) :
    (ageAt s).tbe.st = s.tbe.st ∧ (ageAt s).tbe.skip = s.tbe.skip ∧ (ageAt s).tbe.epochSeen = s.tbe.epochSeen ∧
      (ageAt s).tbe.ageSeen = s.tbe.st / s.agePeriod := tbe_of_ageSeen rfl

theorem tbe_of_epochSeen {s t : State} {e : Nat} (h : t.tbe = { s.tbe with epochSeen := e }) :
    t.tbe.st = s.tbe.st ∧ t.tbe.skip = s.tbe.skip ∧ t.tbe.epochSeen = e := by
  rw [h]; exact ⟨rfl, rfl, rfl⟩

theorem twinPart_only (n i : Nat) (s : State) : s.changesOnly (twinPart n i s) (Fld.events ++ [.svc]) := by
  unfold twinPart
  split
  · exact (count_only s _).trans (raise_only _ _ _ _ _)
  · exact svc_only _ s

/-- The index of window n at the current ST. -/
def markTwin (n : Nat) (s : State) : State :=
  { s with tbe := { s.tbe with twinSeen := s.tbe.twinSeen.set n (s.now / s.twinPeriod n) } }

theorem twinAt_of_markTwin (n : Nat) (s : State) : (markTwin n s).changesOnly (twinAt n s) (Fld.events ++ [.svc]) :=
  ite_only (foldl_only (fun s i => twinPart_only n i s) _ _) (.refl _ _)

theorem twinAt_only (n : Nat) (s : State) : s.changesOnly (twinAt n s) (Fld.events ++ [.tbe, .svc]) :=
  (tbe_only s _).trans ((twinAt_of_markTwin n s).mono (by decide))

theorem passTwins_only (n : Nat) (s : State) : s.changesOnly (passTwins n s) (Fld.events ++ [.tbe, .svc]) :=
  foldl_only (fun s n => ite_only (.refl s _) (twinAt_only n s)) _ s

/-- ST, its skipped interval and the age quantum's index are the same. -/
def sameClock (s t : State) : Prop := t.tbe.st = s.tbe.st ∧ t.tbe.skip = s.tbe.skip ∧ t.tbe.ageSeen = s.tbe.ageSeen

theorem sameClock_of_twinSeen {s t : State} {m : SMap Nat} (h : t.tbe = { s.tbe with twinSeen := m }) : sameClock s t := by
  rw [sameClock, h]
  exact ⟨rfl, rfl, rfl⟩

theorem twinAt_sameClock (n : Nat) (s : State) : sameClock s (twinAt n s) :=
  sameClock_of_twinSeen (m := s.tbe.twinSeen.set n (s.now / s.twinPeriod n)) (twinAt_of_markTwin n s .tbe (by decide))

/-- The windows' boundaries change no more of the timebase than the windows' indices. -/
theorem passTwins_sameClock (n : Nat) (s : State) : sameClock s (passTwins n s) := by
  have hstep (s : State) (k : Nat) : sameClock s (if s.tbe.twinSeen.get k = s.now / s.twinPeriod k then s else twinAt k s) := by
    split
    · exact ⟨rfl, rfl, rfl⟩
    · exact twinAt_sameClock k s
  unfold passTwins
  generalize List.range n = l
  induction l generalizing s with
  | nil => exact ⟨rfl, rfl, rfl⟩
  | cons k l ih =>
    obtain ⟨hst, hskip, hage⟩ := hstep s k
    rw [List.foldl_cons]
    generalize (if s.tbe.twinSeen.get k = s.now / s.twinPeriod k then s else twinAt k s) = u at hst hskip hage
    obtain ⟨hst', hskip', hage'⟩ := ih u
    exact ⟨hst'.trans hst, hskip'.trans hskip, hage'.trans hage⟩

/-- The fields that the boundaries of every kind may change. -/
def Fld.boundaries : List Fld := Fld.events ++ [.tbe, .svc, .cls, .eng, .asa, .ecp]

theorem priorItems_only (n : Nat) (s : State) : s.changesOnly (priorItems (2 + n) s) Fld.boundaries := by
  rw [priorItems_two_add]
  exact ((passEpoch_only s).mono (by decide)).trans ((tbe_only _ _).trans ((passTwins_only _ _).mono (by decide)))

/-- The boundaries before a window or a wheel entry leave ST and its skipped interval alone, and bring the age quantum up to ST. -/
theorem priorItems_tbe (n : Nat) (s : State) :
    (priorItems (2 + n) s).tbe.st = s.tbe.st ∧ (priorItems (2 + n) s).tbe.skip = s.tbe.skip ∧
      (priorItems (2 + n) s).tbe.ageSeen = s.tbe.st / s.agePeriod := by
  have ha : (passEpoch s).agePeriod = s.agePeriod := agePeriod_of_regs (passEpoch_only s .regs (by decide))
  obtain ⟨est, eskip, -⟩ := tbe_of_epochSeen (passEpoch_tbe s)
  obtain ⟨ast, askip, -, aage⟩ := ageAt_tbe (passEpoch s)
  obtain ⟨tst, tskip, tage⟩ := passTwins_sameClock (min 8 n) (ageAt (passEpoch s))
  rw [priorItems_two_add, tst, tskip, tage, ast, askip, aage, est, eskip, ha]
  exact ⟨rfl, rfl, rfl⟩

/-- Where every boundary of the instant has come, none goes before an item of it. -/
theorem priorItems_of_caughtUp {n : Nat} {s : State} (hn : n ≤ 8) (h : s.caughtUp s.now n) : priorItems (2 + n) s = s := by
  obtain ⟨he, ha, ht⟩ := h
  have hage : ageAt s = s := by unfold ageAt; rw [← ha]
  have hl : ∀ l : List Nat, (∀ m ∈ l, m < n) →
      l.foldl (fun s n => if s.tbe.twinSeen.get n = s.now / s.twinPeriod n then s else twinAt n s) s = s := by
    intro l
    induction l with
    | nil => exact fun _ => rfl
    | cons k l ih =>
      intro hk
      rw [List.foldl_cons, if_pos (ht k (hk k List.mem_cons_self))]
      exact ih fun m hm => hk m (List.mem_cons_of_mem _ hm)
  rw [priorItems_two_add, min_eq_right hn, passEpoch, if_pos he, hage]
  exact hl _ fun m hm => List.mem_range.mp hm

/-! ### The wheels (R51, R387, R389) -/

section wheels
variable {fs : List Fld}

theorem updTms_only (f : TmsSt → TmsSt) (s : State) (h : Fld.tms ∈ fs := by decide) : s.changesOnly (updTms f s) fs :=
  fun x hx => by cases x with | tms => exact absurd h hx | _ => rfl

theorem placeEntries_only (n : Nat) (s : State) (h : Fld.tms ∈ fs := by decide) : s.changesOnly (placeEntries n s) fs := by
  unfold placeEntries
  extract_lets x r s1
  have h1 : s.changesOnly s1 fs := ite_only (updTms_only _ s h) (.refl s fs)
  exact ite_only (h1.trans (updTms_only _ s1 h)) h1

theorem updateNode_only (n : Nat) (s : State) (h : Fld.tms ∈ fs := by decide) : s.changesOnly (updateNode n s) fs :=
  (updTms_only _ s h).trans (placeEntries_only n _ h)

end wheels

theorem fireEntry_only (e : WheelEnt) (s : State) : s.changesOnly (fireEntry e s) (Fld.events ++ [.tms]) := by
  have h1 : s.changesOnly (updTms (fun t => { t with wheel := t.wheel.erase e }) s) (Fld.events ++ [.tms]) := updTms_only _ s
  exact ite_only (h1.trans (count_only _ _)) (h1.trans ((updTms_only _ _).trans (updateNode_only _ _)))

theorem fireDue_only (n : Nat) (s : State) : s.changesOnly (fireDue n s) (Fld.events ++ [.tms]) := by
  induction n generalizing s with
  | zero => exact .refl s _
  | succ n ih =>
    unfold fireDue
    split
    · exact (fireEntry_only _ s).trans (ih _)
    · exact .refl s _

/-! ### The discharge of a skipped interval (R44) -/

/-- s with no interval to skip. -/
def withoutSkip (s : State) : State := { s with tbe := { s.tbe with skip := none } }

theorem withoutSkip_only (s : State) : s.changesOnly (withoutSkip s) Fld.boundaries := tbe_only s { s.tbe with skip := none }

/-- s with its skipped interval ended and every boundary up to ST behind it. -/
def skipEnded (s : State) : State := priorItems 10 (withoutSkip s)

theorem doDischarge_skip {n : Nat} {s : State} (h : s.tbe.skip = some n) :
    doDischarge s = fireDue (recoarse (skipEnded s)).tms.wheel.length (recoarse (skipEnded s)) := by
  unfold doDischarge skipEnded withoutSkip
  simp only [h]

theorem recoarse_only (s : State) : s.changesOnly (recoarse s) (Fld.events ++ [.tms]) := by unfold recoarse; exact updTms_only _ s

theorem skipEnded_only (s : State) : s.changesOnly (skipEnded s) Fld.boundaries :=
  (withoutSkip_only s).trans (priorItems_only 8 (withoutSkip s))

theorem skipEnded_tbe (s : State) :
    (skipEnded s).tbe.skip = none ∧ (skipEnded s).tbe.st = s.tbe.st ∧ (skipEnded s).tbe.ageSeen = s.tbe.st / s.agePeriod := by
  have ha : (withoutSkip s).agePeriod = s.agePeriod := agePeriod_of_regs (withoutSkip_only s .regs (by decide))
  have hs : (withoutSkip s).tbe.st = s.tbe.st := rfl
  obtain ⟨hst, hskip, hage⟩ := priorItems_tbe 8 (withoutSkip s)
  rw [ha, hs] at hage
  rw [show skipEnded s = priorItems (2 + 8) (withoutSkip s) from rfl]
  exact ⟨hskip, hst.trans hs, hage⟩

theorem doDischarge_of_skipEnded {n : Nat} {s : State} (h : s.tbe.skip = some n) :
    (skipEnded s).changesOnly (doDischarge s) (Fld.events ++ [.tms]) := by
  rw [doDischarge_skip h]
  exact (recoarse_only _).trans (fireDue_only _ _)

theorem exec_discharge {n : Nat} {s : State} (h : s.steady) (hk : s.tbe.skip = some n) :
    ∃ t, exec .discharge s = .next t ∧ t.tbe.skip = none ∧ t.tbe.st = s.tbe.st ∧ t.tbe.ageSeen = s.tbe.st / s.agePeriod ∧
      s.fresh.changesOnly t (Fld.events ++ [.tbe, .svc, .cls, .tms, .eng, .asa, .ecp]) := by
  have hd := doDischarge_of_skipEnded (s := s.fresh) hk
  have htbe : (doDischarge s.fresh).tbe = (skipEnded s.fresh).tbe := hd .tbe (by decide)
  have hall : s.fresh.changesOnly (doDischarge s.fresh) (Fld.events ++ [.tbe, .svc, .cls, .tms, .eng, .asa, .ecp]) :=
    ((skipEnded_only s.fresh).mono (by decide)).trans (hd.mono (by decide))
  obtain ⟨hskip, hst, hage⟩ := skipEnded_tbe s.fresh
  refine ⟨_, coreCmd_steady_only h hall, ?_⟩
  rw [htbe]
  exact ⟨hskip, hst, hage, hall⟩

/-! ### Re-alignment (R46, R550) -/

theorem emptyWheels_only (s : State) : s.changesOnly (emptyWheels s) [.tms] :=
  (updTms_only _ s).trans (foldl_only (fun s n => updateNode_only n s) _ _)

/-- ST as NT gives it, before what the device holds follows it. -/
def stFromNt (s : State) : State :=
  { s with tbe := { s.tbe with st := s.nt, off := 0, skip := none, slewDue := s.tbe.slewDue - s.tbe.off } }

/-- The device with its instants, indices and wheels moved to the new ST. -/
def realigned (s : State) : State := emptyWheels (reindex (clampInstants (stFromNt s)))

theorem realigned_of_reindex (s : State) : (reindex (clampInstants (stFromNt s))).changesOnly (realigned s) [.tms] :=
  emptyWheels_only _

/-- No draining slot is released where none drains. -/
theorem releaseSet_none {s : State} (h : s.cls.draining = false) : releaseSet s = s :=
  if_neg fun k => Bool.noConfusion (h.symm.trans k.1)

theorem doRealign_aligns {s : State} (hm : s.md.mode = .drain) (hl : s.tbe.state = .locked) (hq : s.queuesHold = false)
    (ha : s.cls.armed = none) (hd : s.cls.draining = false) :
    doRealign s = raise 2 8 noUnit (sat32 (s.tbe.off / 1000)) (realigned s) := by
  have hn : ¬ (s.md.mode ≠ .drain ∨ s.tbe.state ≠ .locked ∨ s.queuesHold = true ∨ s.cls.armed.isSome = true) := by
    simp [hm, hl, hq, ha]
  have hcls : (realigned s).cls = (reindex (clampInstants (stFromNt s))).cls := realigned_of_reindex s .cls (by decide)
  refine (if_neg hn).trans (congrArg (raise 2 8 noUnit (sat32 (s.tbe.off / 1000))) (releaseSet_none (s := realigned s) ?_))
  rw [hcls]; exact hd

theorem exec_realign_aligns {s : State} (hu : s.hostUp = true) (hw : s.hostMayWrite 2 = true) (hm : s.md.mode = .drain)
    (hdr : s.md.drained = true) (hl : s.tbe.state = .locked) (hq : s.queuesHold = false) (ha : s.cls.armed = none)
    (hd : s.cls.draining = false) :
    ∃ t, exec .realign s = .next t ∧ t.tbe.st = s.nt ∧ t.tbe.off = 0 ∧ t.tbe.skip = none ∧
      t.isl.log.get (s.isl.total.toNat % 1024) = recordOf t 2 8 noUnit (sat32 (s.tbe.off / 1000)) := by
  have hr := realigned_of_reindex s.fresh
  have htbe : (realigned s.fresh).tbe = (reindex (clampInstants (stFromNt s.fresh))).tbe := hr .tbe (by decide)
  have hisl : (realigned s.fresh).isl = s.isl := hr .isl (by decide)
  have hm' : (realigned s.fresh).md = (reindex (clampInstants (stFromNt s.fresh))).md := hr .md (by decide)
  have hmd : (realigned s.fresh).md.drained = s.md.drained := by rw [hm']; rfl
  have hpend : (realigned s.fresh).pending = s.pending := hr .pending (by decide)
  obtain ⟨hf, hlog⟩ := raise_raised 2 8 noUnit (sat32 (s.tbe.off / 1000)) (realigned s.fresh)
  rw [hisl] at hlog
  have he := doRealign_aligns (s := s.fresh) hm hl hq ha hd
  set t := raise 2 8 noUnit (sat32 (s.tbe.off / 1000)) (realigned s.fresh)
  have hx : exec .realign s = .next t := by
    refine (hostCmd_writes (f := doRealign) ⟨hu, hw, fun _ => hdr⟩ ?_ ?_).trans (congrArg _ he)
    · exact fun _ => by rw [he]; exact (congrArg ModeSt.drained hf.md).trans (hmd.trans hdr)
    · rw [he]; exact hf.pending.trans hpend
  have ht : t.tbe = (reindex (clampInstants (stFromNt s.fresh))).tbe := hf.tbe.trans htbe
  exact ⟨t, hx, congrArg Tbe.st ht, congrArg Tbe.off ht, congrArg Tbe.skip ht, hlog.trans (recordOf_congr hf.tbe.symm _ _ _ _)⟩

theorem exec_realign_service {s : State} (hu : s.hostUp = true) (hm : s.md.mode = .service) :
    exec .realign s = .next { s.fresh with tbe := { s.tbe with realignRefused := true } } := by
  have he : doRealign s.fresh = { s.fresh with tbe := { s.tbe with realignRefused := true } } :=
    if_pos (.inl (show s.md.mode ≠ .drain by rw [hm]; decide))
  have hw : s.hostMayWrite 2 = true := by rw [State.hostMayWrite, hm]
  refine (hostCmd_sets (f := doRealign) ⟨hu, hw, quiet_of_service hm⟩ ?_ ?_).trans (congrArg _ he)
  · rw [he]; exact quiet_of_service hm
  · rw [he]; rfl

/-! ### The commands of the boundaries -/

theorem exec_ageQuantumBoundary {s : State} (h : s.running)
    (he : s.tbe.epochSeen = max s.tbe.st ((s.tbe.ageSeen + 1) * s.agePeriod) / s.epochPeriod) :
    exec .ageQuantumBoundary s = .next
      { s.fresh with
        tbe := { s.tbe with st := max s.tbe.st ((s.tbe.ageSeen + 1) * s.agePeriod),
                            ageSeen := max s.tbe.st ((s.tbe.ageSeen + 1) * s.agePeriod) / s.agePeriod } } := by
  refine coreCmd_answers h ?_ rfl rfl rfl
  rw [doAgeQuantumBoundary, priorItems_one, passEpoch]
  exact congrArg ageAt (if_pos he)

/-- What the boundary of an age quantum leaves: an epoch boundary of the same instant has gone before it (R45). -/
theorem exec_ageQuantumBoundary_after_epoch {s : State} (h : s.running) :
    ∃ t, exec .ageQuantumBoundary s = .next t ∧ t.tbe.st = max s.tbe.st ((s.tbe.ageSeen + 1) * s.agePeriod) ∧
      t.tbe.ageSeen = t.tbe.st / s.agePeriod ∧ t.tbe.epochSeen = t.tbe.st / s.epochPeriod ∧
      s.fresh.changesOnly t (Fld.events ++ [.tbe, .cls, .eng, .asa, .ecp]) := by
  set u := runTo ((s.tbe.ageSeen + 1) * s.agePeriod) s.fresh
  have he : doAgeQuantumBoundary s.fresh = ageAt (passEpoch u) := congrArg ageAt (priorItems_one u)
  have hall : s.fresh.changesOnly (ageAt (passEpoch u)) Fld.boundary :=
    (runTo_only _ s.fresh).trans ((passEpoch_only u).trans (tbe_only _ _))
  have ha : (passEpoch u).agePeriod = s.agePeriod := agePeriod_of_regs (passEpoch_only u .regs (by decide))
  have hp : u.epochPeriod = s.epochPeriod := epochPeriod_of_regs rfl
  obtain ⟨est, -, eseen⟩ := tbe_of_epochSeen (passEpoch_tbe u)
  obtain ⟨ast, -, aseen, aage⟩ := ageAt_tbe (passEpoch u)
  have hst : u.tbe.st = max s.tbe.st ((s.tbe.ageSeen + 1) * s.agePeriod) := rfl
  refine ⟨_, (coreCmd_only h (he ▸ hall)).trans (congrArg _ he), ast.trans (est.trans hst), ?_, ?_, hall⟩
  · rw [ast, aage, ha]
  · rw [ast, aseen, eseen, est, hp]; rfl

theorem exec_epochBoundary {s : State} (h : s.running) :
    exec .epochBoundary s = .next (epochAt false (runTo ((s.tbe.epochSeen + 1) * s.epochPeriod) s.fresh)) ∧
      s.fresh.changesOnly (epochAt false (runTo ((s.tbe.epochSeen + 1) * s.epochPeriod) s.fresh))
        (Fld.events ++ [.tbe, .cls, .eng, .asa, .ecp]) := by
  have hall : s.fresh.changesOnly (epochAt false (runTo ((s.tbe.epochSeen + 1) * s.epochPeriod) s.fresh)) Fld.boundary :=
    (runTo_only _ s.fresh).trans (epochAt_only false _)
  exact ⟨coreCmd_only (f := doEpochBoundary) h hall, hall⟩

/-- Settles O23: each boundary by what goes before it, and re-alignment by what its moves leave of ST, the log and the modes. -/
theorem boundaries : Obligations.Boundaries := by
  refine ⟨?age, ?ageEpoch, ?epoch, ?swap, ?snap, ?discharge, ?realign, ?refused⟩
  case age => exact fun s h he => exec_ageQuantumBoundary h he
  case ageEpoch => exact fun s h _ => exec_ageQuantumBoundary_after_epoch h
  case epoch =>
    intro s h _
    obtain ⟨hx, hall⟩ := exec_epochBoundary h
    have ht := epochAt_tbe false (runTo ((s.tbe.epochSeen + 1) * s.epochPeriod) s.fresh)
    refine ⟨_, hx, congrArg Tbe.st ht, ?_, fun hj => ?_, hall⟩
    · rw [ht]; rfl
    · rw [epochAt_epoch]; exact epochAt_threads hj
  case swap =>
    intro e s h ha hm hj hr
    obtain ⟨hx, hall⟩ := exec_epochBoundary h
    set u := runTo ((s.tbe.epochSeen + 1) * s.epochPeriod) s.fresh
    obtain ⟨hact, harm, hdr, hlog⟩ := epochAt_swaps (s := u) ha ((epochReached_iff u s.tbe.epochSeen e).mpr hr) hm hj
    exact ⟨_, hx, hact, harm, hdr, hlog, hall⟩
  case snap => exact fun s h => hostCmd_sets h h.2.2 rfl
  case discharge => exact fun n s h hk => exec_discharge h hk
  case realign => exact fun s hu hw hm hdr hl hq ha hd => exec_realign_aligns hu hw hm hdr hl hq ha hd
  case refused => exact fun s hu hm => exec_realign_service hu hm

end Sys2Proof.Machine

namespace Sys2Proof.Machine

/-! ## The traffic manager: wheels and selection (R51, R385 to R394) -/

/-! ### Wheel entries (R51, R387, R389) -/

theorem doWheelEntry_next {e : WheelEnt} {s : State} (h : wheelNext s.tms.wheel = some e) :
    doWheelEntry s = fireEntry e (priorItems 10 (runTo e.slot s)) := by unfold doWheelEntry; rw [h]

/-- The earliest entry fires after the boundaries that come by its slot (R45). -/
theorem exec_wheelEntry {e : WheelEnt} {s : State} (h : s.steady) (hw : wheelNext s.tms.wheel = some e) :
    exec .wheelEntry s = .next (fireEntry e (priorItems 10 (runTo e.slot s.fresh))) := by
  have he := doWheelEntry_next (s := s.fresh) hw
  have hall : s.fresh.changesOnly (doWheelEntry s.fresh) (.tms :: Fld.boundaries) := by
    rw [he]
    exact (runTo_only _ s.fresh).trans (((priorItems_only 8 _).mono (by decide)).trans ((fireEntry_only _ _).mono (by decide)))
  exact (coreCmd_steady_only h hall).trans (congrArg _ he)

/-- Where the boundaries of its slot have come, the entry fires at once. -/
theorem exec_wheelEntry_caughtUp {e : WheelEnt} {s : State} (h : s.steady) (hw : wheelNext s.tms.wheel = some e)
    (hc : s.caughtUp (max s.tbe.st e.slot) 8) : exec .wheelEntry s = .next (fireEntry e (runTo e.slot s.fresh)) := by
  have hp : priorItems 10 (runTo e.slot s.fresh) = runTo e.slot s.fresh := priorItems_of_caughtUp (n := 8) le_rfl hc
  rw [exec_wheelEntry h hw, hp]

/-- The entry leaves the wheel. -/
def dropEntry (e : WheelEnt) (s : State) : State := updTms (fun t => { t with wheel := t.wheel.erase e }) s

theorem fireEntry_stale {e : WheelEnt} {s : State} (h : e.gen ≠ (s.node e.node).gen) :
    fireEntry e s = count (Cnt.TMS_WHEEL_STALE (s.nodePipe e.node)) (dropEntry e s) := if_pos h

/-- A node whose negative buckets have their entries gets no more (R387). -/
theorem placeEntries_of_placed {n : Nat} {s : State} (hp : 0 ≤ (s.node n).tp ∨ (s.node n).pendP = true)
    (hc : 0 ≤ (s.node n).tc ∨ (s.node n).pendC = true) : placeEntries n s = s := by
  have h1 : ¬ ((s.node n).tp < 0 ∧ (s.node n).pendP = false ∧ (s.nodeRate n).pir ≠ 0) := fun k =>
    hp.elim (fun g => not_lt.mpr g k.1) (fun g => Bool.noConfusion (g.symm.trans k.2.1))
  have h2 : ¬ ((s.node n).tc < 0 ∧ (s.node n).pendC = false ∧ (s.nodeRate n).cir ≠ 0 ∧ (s.nodeRate n).port = false) := fun k =>
    hc.elim (fun g => not_lt.mpr g k.1) (fun g => Bool.noConfusion (g.symm.trans k.2.1))
  unfold placeEntries
  extract_lets x r s1
  have hs : s1 = s := if_neg h1
  rw [hs]
  exact if_neg h2

theorem node_setNode (n : Nat) (x : NodeSt) (s : State) : (setNode n x s).node n = x := SMap.get_set_self _ _ _

/-- A peak entry of its node's own generation brings the buckets up to ST; where they are not negative, no entry follows. -/
theorem fireEntry_peak {e : WheelEnt} {x : NodeSt} {s : State} (hg : e.gen = (s.node e.node).gen) (hp : e.peak = true)
    (hx : x = nodeAdvance { s.node e.node with pendP := false } (s.nodeRate e.node) s.now) (htp : 0 ≤ x.tp) (htc : 0 ≤ x.tc) :
    fireEntry e s = setNode e.node x (dropEntry e s) := by
  set u := updTms (fun t => { t with nodes := t.nodes.upd e.node (fun x => { x with pendP := false }) }) (dropEntry e s)
  have hn : u.node e.node = { s.node e.node with pendP := false } := SMap.get_upd_self _ _ _
  have hs : setNode e.node (nodeAdvance (u.node e.node) (u.nodeRate e.node) u.now) u = setNode e.node x (dropEntry e s) := by
    rw [hn, hx]
    exact congrArg (fun m => { s with tms := { s.tms with wheel := s.tms.wheel.erase e, nodes := m } }) (SMap.set_set _ _ _ _)
  have hf : fireEntry e s = updateNode e.node u := by
    refine (if_neg (not_not.mpr hg)).trans ?_
    simp only [hp, if_true]
    rfl
  rw [hf, updateNode, hs]
  exact placeEntries_of_placed (.inl (by rw [node_setNode]; exact htp)) (.inl (by rw [node_setNode]; exact htc))

/-! ### What the choice of a frame leaves alone (R390 to R392) -/

theorem pickQueue_fifo {s : State} {t t' : TmsSt} {sub k : Nat} (h : s.pickQueue t sub = some (k, t')) : t'.fifo = t.fifo := by
  unfold State.pickQueue at h
  extract_lets ready at h
  split at h
  · cases h; rfl
  · split at h
    · cases h; rfl
    · split at h
      · cases h
      · split at h <;> cases h
        rfl

theorem pickSub_fifo {s : State} {t t' : TmsSt} {v k : Nat} (h : s.pickSub t v = some (k, t')) : t'.fifo = t.fifo := by
  unfold State.pickSub at h
  dsimp only at h
  split at h
  · cases h
  · split at h <;> cases h
    rfl

theorem pickSvc_fifo {s : State} {t t' : TmsSt} {p v : Nat} (h : s.pickSvc t p = some (v, t')) : t'.fifo = t.fifo := by
  unfold State.pickSvc at h
  dsimp only at h
  split at h
  · cases h
  · split at h <;> cases h
    rfl

theorem count_cnt_only (a : Nat) (s : State) {fs : List Fld} (h : Fld.cnt ∈ fs := by decide) : s.changesOnly (count a s) fs :=
  ite_only (cnt_only s _ h) (.refl s fs)

/-! ### The debits of a frame (R385, R393) -/

theorem placeEntries_fifo (n : Nat) (s : State) : (placeEntries n s).tms.fifo = s.tms.fifo := by
  unfold placeEntries
  extract_lets x r s1
  have h1 : s1.tms.fifo = s.tms.fifo := by
    show (ite _ _ _ : State).tms.fifo = _
    split <;> rfl
  split
  · exact h1
  · exact h1

theorem chargeNode_fifo (n b : Nat) (s : State) : (chargeNode n b s).tms.fifo = s.tms.fifo :=
  (placeEntries_fifo n _).trans (placeEntries_fifo n _)

theorem chargeNode_only (n b : Nat) (s : State) : s.changesOnly (chargeNode n b s) [.tms] :=
  (updateNode_only n s).trans ((updTms_only _ _).trans (placeEntries_only n _))

/-- A frame of b bytes is debited at its subscriber, its service and its port. -/
def chargeTree (p v sub b : Nat) (s : State) : State :=
  chargeNode (portNode p) b (chargeNode (svcNode v) b (chargeNode sub b s))

theorem chargeTree_only (p v sub b : Nat) (s : State) : s.changesOnly (chargeTree p v sub b s) [.tms] :=
  (chargeNode_only _ _ _).trans ((chargeNode_only _ _ _).trans (chargeNode_only _ _ _))

theorem chargeTree_fifo (p v sub b : Nat) (s : State) : (chargeTree p v sub b s).tms.fifo = s.tms.fifo := by
  simp only [chargeTree, chargeNode_fifo]

/-! ### A packet leaves its queue (R324, R328, R391) -/

theorem emptiedQueue_only (leaf : Bool) (q : Nat) (s : State) : s.changesOnly (emptiedQueue leaf q s) [.tms] :=
  ite_only (updTms_only _ s) (.refl s _)

theorem emptiedQueue_fifo (leaf : Bool) (q : Nat) (s : State) : (emptiedQueue leaf q s).tms.fifo = s.tms.fifo := by
  unfold emptiedQueue; split <;> rfl

/-- The room that a packet held in the on-chip memory or among the returned cells is free again. -/
def freedTier (it : QItem) (s : State) : State :=
  match it.tier with
  | .chip => freeCharge it.inp it.cls it.cells s
  | .returned => updBuf (fun b => { b with retCells := b.retCells - it.cells }) s
  | .spilled _ => s

theorem freedTier_only (it : QItem) (s : State) : s.changesOnly (freedTier it s) [.buf] := by
  unfold freedTier
  cases it.tier with
  | chip => exact buf_only s _
  | returned => exact buf_only s _
  | spilled a => exact .refl s _

theorem freedTier_leaf (it : QItem) (s : State) : (freedTier it s).buf.leaf = s.buf.leaf := by
  unfold freedTier
  cases it.tier <;> rfl

theorem leaveQueue_eq (leaf : Bool) (q : Nat) (it : QItem) (s : State) :
    leaveQueue leaf q it s =
      emptiedQueue leaf q (freedTier it (updQueue leaf q (fun k => { k with items := k.items.erase it }) s)) := rfl

/-- The head of a leaf queue leaves: the queue holds the rest, and the transmit FIFOs are as they were. -/
theorem leaveQueue_head {q : Nat} {it : QItem} {rest : List QItem} {s : State} (h : (s.pqueue true q).items = it :: rest) :
    (leaveQueue true q it s).buf.leaf = s.buf.leaf.upd q (fun k => { k with items := rest }) ∧
      (leaveQueue true q it s).tms.fifo = s.tms.fifo ∧ s.changesOnly (leaveQueue true q it s) [.tms, .buf] := by
  rw [leaveQueue_eq]
  set s1 := updQueue true q (fun k => { k with items := k.items.erase it }) s
  have h1 : s.changesOnly s1 [.buf] := buf_only s _
  have hleaf : s1.buf.leaf = s.buf.leaf.upd q (fun k => { k with items := rest }) := by
    refine congrArg (s.buf.leaf.set q) ?_
    show { s.pqueue true q with items := (s.pqueue true q).items.erase it } = { s.pqueue true q with items := rest }
    rw [h, List.erase_cons_head]
  have h2 := freedTier_only it s1
  have he := emptiedQueue_only true q (freedTier it s1)
  have htms : (freedTier it s1).tms = s.tms := (h2 .tms (by decide)).trans (h1 .tms (by decide))
  refine ⟨?_, ?_, (h1.trans h2).mono (by decide) |>.trans (he.mono (by decide))⟩
  · rw [(he .buf (by decide) : State.buf _ = _), freedTier_leaf, hleaf]
  · rw [emptiedQueue_fifo, htms]

/-- A packet with no tail to come is whole. -/
theorem joined_of_no_tail {p : Pkt} {s : State} (h : p.tail = none) : s.joined p = p := by
  cases p
  cases h
  simp [State.joined, State.tailOf]

theorem tailOpen_of_no_tail {p : Pkt} {s : State} (h : p.tail = none) : s.tailOpen p = false := by
  rw [State.tailOpen, h]; rfl

/-- A packet is debited at the nodes above its queue, and waits for no more than one return. -/
def debited (p v sub : Nat) (it : QItem) (s : State) : State :=
  if (chargeTree p v sub (s.pktLen it.pkt + 4) s).returnWaits p then
    count (Cnt.TMS_RETURN_WAIT (p / 8)) (chargeTree p v sub (s.pktLen it.pkt + 4) s)
  else chargeTree p v sub (s.pktLen it.pkt + 4) s

theorem debited_only (p v sub : Nat) (it : QItem) (s : State) : s.changesOnly (debited p v sub it s) [.tms, .cnt] :=
  have hc := chargeTree_only p v sub (s.pktLen it.pkt + 4) s
  ite_only ((hc.mono (by decide)).trans (count_cnt_only _ _)) (hc.mono (by decide))

theorem debited_fifo (p v sub : Nat) (it : QItem) (s : State) : (debited p v sub it s).tms.fifo = s.tms.fifo := by
  unfold debited
  split
  · rw [((count_cnt_only _ _ : State.changesOnly _ _ [.cnt]) .tms (by decide) : State.tms _ = _), chargeTree_fifo]
  · exact chargeTree_fifo p v sub _ s

/-- A packet, debited, leaves its queue and is counted. -/
def headGone (p v sub k : Nat) (it : QItem) (s : State) : State :=
  countC it.cls (Cnt.TMS_DEQ (p / 8))
    (addStats (8 * sub + k) 1 (s.pktLen it.pkt + 4) 0 (leaveQueue true (8 * sub + k) it (debited p v sub it s)))

theorem headGone_only_of_left (p v sub k : Nat) (it : QItem) (s : State) :
    (leaveQueue true (8 * sub + k) it (debited p v sub it s)).changesOnly (headGone p v sub k it s) [.tbl, .cnt] :=
  (tblSet_only _ _ _ _).trans (countC_cnt_only _ _ _)

theorem sendHead_whole {p v sub k : Nat} {it : QItem} {s : State} (h : (s.pqueue true (8 * sub + k)).items.head? = some it)
    (ht : it.pkt.tail = none) :
    sendHead p v sub k s =
      updTms (fun t => { t with fifo := t.fifo.upd p (fun l => l ++ [it.pkt]) }) (headGone p v sub k it s) := by
  have hx : ∀ x : State, (if x.tailOpen it.pkt = true then (it.pkt, keepReserve it x)
      else (x.joined it.pkt, dropTail it.pkt.tail x)) = (it.pkt, x) := fun x => by
    rw [tailOpen_of_no_tail ht, if_neg Bool.false_ne_true, joined_of_no_tail ht, ht]; rfl
  unfold sendHead
  simp only [h, hx]
  rfl

/-- The head of the queue that the tree selects goes to the transmit FIFO (R393). -/
theorem sendHead_sends {p v sub k : Nat} {it : QItem} {rest : List QItem} {s : State}
    (h : (s.pqueue true (8 * sub + k)).items = it :: rest) (ht : it.pkt.tail = none) :
    (sendHead p v sub k s).tms.fifo = s.tms.fifo.upd p (fun l => l ++ [it.pkt]) ∧
      (sendHead p v sub k s).buf.leaf = s.buf.leaf.upd (8 * sub + k) (fun q => { q with items := rest }) ∧
      s.changesOnly (sendHead p v sub k s) [.tms, .buf, .tbl, .cnt] := by
  have hd := debited_only p v sub it s
  have hdb : (debited p v sub it s).buf = s.buf := hd .buf (by decide)
  have hq : ((debited p v sub it s).pqueue true (8 * sub + k)).items = it :: rest :=
    (congrArg (fun x : BufSt => (x.leaf.get (8 * sub + k)).items) hdb).trans h
  obtain ⟨hleaf, hfifo, hl⟩ := leaveQueue_head hq
  have hx := headGone_only_of_left p v sub k it s
  have hfx : (headGone p v sub k it s).tms.fifo = s.tms.fifo := by
    rw [(hx .tms (by decide) : State.tms _ = _), hfifo, debited_fifo]
  have hlx : (headGone p v sub k it s).buf.leaf = s.buf.leaf.upd (8 * sub + k) (fun q => { q with items := rest }) := by
    rw [(hx .buf (by decide) : State.buf _ = _), hleaf, hdb]
  have hall : s.changesOnly (headGone p v sub k it s) [.tms, .buf, .tbl, .cnt] :=
    (hd.mono (by decide)).trans ((hl.mono (by decide)).trans (hx.mono (by decide)))
  rw [sendHead_whole (by rw [h]; rfl) ht]
  generalize headGone p v sub k it s = x at hfx hlx hall
  refine ⟨?_, hlx, hall.trans (updTms_only _ x)⟩
  rw [← hfx]
  rfl

/-! ### PORT_SELECT (R393) -/

section select
variable {p : Nat} {s : State} (hm : s.moves = true) (hp : p < 32) (he : s.portExists p = true)
include hm hp he

theorem selects_of_port : ¬ (31 < p ∨ s.moves = false ∨ s.portExists p = false) := by
  rw [hm, he]; simp; omega

theorem doPortSelect_waits (ht : (s.node (portNode p)).tp < 0) : doPortSelect p s = placeEntries (portNode p) s :=
  (if_neg (selects_of_port hm hp he)).trans (if_pos ht)

theorem doPortSelect_sends {v sub k : Nat} {t1 t2 t3 : TmsSt} (ha : s.portAsks p = true) (h1 : s.pickSvc s.tms p = some (v, t1))
    (h2 : s.pickSub t1 v = some (sub, t2)) (h3 : s.pickQueue t2 sub = some (k, t3)) :
    doPortSelect p s = sendHead p v sub k { s with tms := t3 } := by
  have ht : ¬ (s.node (portNode p)).tp < 0 := by
    simp only [State.portAsks, Bool.and_eq_true, decide_eq_true_iff] at ha
    exact not_lt.mpr ha.1.1.1.2
  refine (if_neg (selects_of_port hm hp he)).trans ((if_neg ht).trans ((if_neg (by rw [ha]; decide)).trans ?_))
  rw [h1]
  dsimp only
  rw [h2]
  dsimp only
  rw [h3]

end select

theorem exec_portSelect_sends {p v sub k : Nat} {t1 t2 t3 : TmsSt} {it : QItem} {rest : List QItem} {s : State} (h : s.steady)
    (hm : s.moves = true) (hp : p < 32) (he : s.portExists p = true) (ha : s.portAsks p = true)
    (h1 : s.pickSvc s.tms p = some (v, t1)) (h2 : s.pickSub t1 v = some (sub, t2)) (h3 : s.pickQueue t2 sub = some (k, t3))
    (hq : (s.pqueue true (8 * sub + k)).items = it :: rest) (ht : it.pkt.tail = none) :
    ∃ t, exec (.portSelect p) s = .next t ∧ t.tms.fifo = s.tms.fifo.upd p (fun l => l ++ [it.pkt]) ∧
      t.buf.leaf = s.buf.leaf.upd (8 * sub + k) (fun q => { q with items := rest }) ∧
      s.fresh.changesOnly t [.tms, .buf, .tbl, .cnt] := by
  have hd := doPortSelect_sends (s := s.fresh) hm hp he ha h1 h2 h3
  obtain ⟨hfifo, hleaf, hall⟩ := sendHead_sends (p := p) (v := v) (s := { s.fresh with tms := t3 }) hq ht
  have hf : t3.fifo = s.tms.fifo := (pickQueue_fifo h3).trans ((pickSub_fifo h2).trans (pickSvc_fifo h1))
  have hall := (updTms_only (fun _ => t3) s.fresh).trans hall
  refine ⟨_, (coreCmd_steady_only h (hd ▸ hall)).trans (congrArg _ hd), hfifo.trans ?_, hleaf, hall⟩
  exact congrArg (fun f : SMap (List Pkt) => f.upd p (fun l => l ++ [it.pkt])) hf

/-- Settles O46: the wheel's entries by generation, the coarse slot, and the port by its bucket. -/
theorem trafficManager : Obligations.TrafficManager := by
  refine ⟨?stale, ?fires, ?prior, ?coarse, ?sends, ?waits⟩
  case stale =>
    intro e s h hw hc hg
    rw [exec_wheelEntry_caughtUp h hw hc, fireEntry_stale (s := runTo e.slot s.fresh) hg]
    rfl
  case fires =>
    intro e s h hw hc hg hp htp htc
    refine ⟨_, exec_wheelEntry_caughtUp h hw hc, ?_⟩
    rw [fireEntry_peak (s := runTo e.slot s.fresh) hg hp rfl htp htc]
    exact ⟨rfl, rfl, node_setNode _ _ _, (runTo_only _ s.fresh).trans ((updTms_only _ _).trans (updTms_only _ _))⟩
  case prior => exact fun e s h hw => exec_wheelEntry h hw
  case coarse =>
    exact fun s h => coreCmd_steady_only (f := doCoarseSlotVisit) (fs := [.tbe, .tms]) h
      ((runTo_only _ s.fresh).trans (updTms_only _ _))
  case sends =>
    intro p v sub k t1 t2 t3 it rest s h hm hp he ha h1 h2 h3 hq ht
    exact exec_portSelect_sends h hm hp he ha h1 h2 h3 hq ht
  case waits =>
    intro p s h hm hp he ht hpp hpc
    refine coreCmd_answers h ?_ rfl rfl rfl
    rw [doPortSelect_waits (s := s.fresh) hm hp he ht]
    exact placeEntries_of_placed (.inr hpp) (.inr hpc)

end Sys2Proof.Machine

namespace Sys2Proof.Machine

/-! ## Telemetry: records, messages, templates and passes (R273 to R280) -/

/-! ### The flow services of a partition -/

theorem updSvc_only (i : Nat) (f : SvcPart → SvcPart) (s : State) {fs : List Fld} (h : Fld.svc ∈ fs := by decide) :
    s.changesOnly (updSvc i f s) fs := svc_only _ s h

@[simp] theorem updSvc_get_self (i : Nat) (f : SvcPart → SvcPart) (s : State) :
    (updSvc i f s).svc.part.get i = f (s.svc.part.get i) := SMap.get_upd_self _ _ _

@[simp] theorem updSvc_get_ne {i j : Nat} (f : SvcPart → SvcPart) (s : State) (h : j ≠ i) :
    (updSvc i f s).svc.part.get j = s.svc.part.get j := SMap.get_upd_ne _ _ h

/-- A change of several partitions leaves the others alone. -/
theorem foldl_updSvc_get_of_notMem (f : SvcPart → SvcPart) {l : List Nat} {i : Nat} (hi : i ∉ l) (s : State) :
    (l.foldl (fun s i => updSvc i f s) s).svc.part.get i = s.svc.part.get i := by
  induction l generalizing s with
  | nil => rfl
  | cons k l ih =>
    obtain ⟨hk, hl⟩ := not_or.mp fun h => hi (List.mem_cons.mpr h)
    rw [List.foldl_cons, ih hl, updSvc_get_ne f s hk]

/-- Each of several partitions is changed once. -/
theorem foldl_updSvc_get (f : SvcPart → SvcPart) {l : List Nat} (hl : l.Nodup) {i : Nat} (hi : i ∈ l) (s : State) :
    (l.foldl (fun s i => updSvc i f s) s).svc.part.get i = f (s.svc.part.get i) := by
  induction l generalizing s with
  | nil => cases hi
  | cons k l ih =>
    obtain ⟨hk, hl⟩ := List.nodup_cons.mp hl
    rw [List.foldl_cons]
    rcases List.mem_cons.mp hi with rfl | hm
    · rw [foldl_updSvc_get_of_notMem f hk, updSvc_get_self]
    · rw [ih hl hm, updSvc_get_ne f s (ne_of_mem_of_not_mem hm hk)]

/-! ### A frame enters a leaf queue whole (R275, R325, R380, R381) -/

/-- A packet that its subscriber's leaf queue takes enters it (R380, R381). -/
theorem tmsEnqueue_takes {pipe sub q port : Nat} {p : Pkt} {s : State} (hr : s.resolveLeaf pipe p = (sub, port, 0))
    (hq : q = 8 * sub + p.queue % 8) (hn : p.natOwner = false) (hon : datB (s.tmQueue q) 2 0 1 ≠ 0)
    (hd : s.depthBytes (s.pqueue true q) + (s.pktLen p + 4) ≤ dropLimit (s.tblGet 0x45 (datB (s.tmQueue q) 0 4 4)) p.colour)
    (hl : (s.pqueue true q).items.length + 1 ≤ datU (s.tblGet 0x45 (datB (s.tmQueue q) 0 4 4)) 12 4) :
    tmsEnqueue pipe p s = enterQueue true q p.inp { p with port := port, natOwner := false } s := by
  subst hq
  unfold tmsEnqueue
  extract_lets c
  rw [hr]
  refine (if_neg ?_).trans ((if_neg hon).trans (if_neg (not_or.mpr ⟨Nat.not_lt.mpr hd, Nat.not_lt.mpr hl⟩)))
  rw [hn]
  exact Bool.false_ne_true

/-- A sound packet that is whole, where cut-through is off, is received whole (R325). -/
theorem enterQueue_whole {leaf : Bool} {q inp : Nat} {p : Pkt} {s : State} (ht : p.tail = none) (hb : p.bad = false)
    (hc : s.wantsCut leaf q inp (p.cls % 8) = false) :
    enterQueue leaf q inp p s = stagePkt leaf q inp { p with inp := inp, cut := false } s := by
  have hs : (s.tailOf p.tail).state = .whole := by rw [ht]; rfl
  have hd : dropTail p.tail s = s := by rw [ht]; rfl
  unfold enterQueue
  extract_lets c st
  rw [if_neg (by rw [show st = .whole from hs]; decide), if_neg (by rw [show st = .whole from hs]; decide), joined_of_no_tail ht, hd]
  refine (if_neg (by rw [hb]; exact Bool.false_ne_true)).trans ((if_pos (congrArg not hc)).trans ?_)
  exact if_neg (c := p.bad = true) (Bool.eq_false_iff.mp hb)

/-- A whole packet comes under reception where its cells have room (R325). -/
theorem stagePkt_stages {leaf : Bool} {q inp : Nat} {p : Pkt} {s : State} (ht : p.tail = none)
    (hr : s.stageRoom inp (cdiv p.bytes.length 256) = true) :
    stagePkt leaf q inp p s = updBuf (fun b => { b with staged := b.staged ++
        [{ pkt := p, leaf := leaf, queue := q, inp := inp, cls := p.cls % 8, cells := cdiv p.bytes.length 256 }] })
      (addStage inp (cdiv p.bytes.length 256) s) := by
  have hn : cdiv (s.pktLen p) 256 - (s.tailOf p.tail).held = cdiv p.bytes.length 256 := by
    rw [State.pktLen, ht]; rfl
  unfold stagePkt
  rw [hn]
  exact if_pos hr

/-- A UDP frame that its leaf queue takes comes under reception for it, and no more changes (R275). -/
theorem queueUdp_stages {i x q : Nat} {recs : List (Nat × List Byte)} {s : State} (h : s.udpTakes i x q recs) :
    (queueUdp i (s.exporter x) (s.ipfix i recs) s).buf.staged = s.buf.staged ++ [s.udpStaged i x q recs] ∧
      s.changesOnly (queueUdp i (s.exporter x) (s.ipfix i recs) s) [.buf] := by
  obtain ⟨-, hup, hr, hq, hon, hd, hl, hc, hroom⟩ := h
  have hcut : s.wantsCut true q i ((s.udpStaged i x q recs).pkt.cls % 8) = false := by
    have hm : (s.udpStaged i x q recs).pkt.cls % 8 % 8 = (s.udpStaged i x q recs).cls := (Nat.mod_mod _ _).trans (Nat.mod_mod _ _)
    rw [State.wantsCut, hm, hc]; rfl
  have hqq : q = 8 * (q / 8) + (s.udpStaged i x q recs).pkt.queue % 8 := by
    rw [show (s.udpStaged i x q recs).pkt.queue % 8 = 0 from rfl]; omega
  have hport : queueUdp i (s.exporter x) (s.ipfix i recs) s =
      tmsEnqueue ((s.udpStaged i x q recs).pkt.port / 8) (s.udpStaged i x q recs).pkt s :=
    if_neg (by rw [show (s.port.get (exTarget (s.exporter x) % 32)).up = true from hup]; decide)
  have hleaf : tmsEnqueue ((s.udpStaged i x q recs).pkt.port / 8) (s.udpStaged i x q recs).pkt s =
      enterQueue true q i (s.udpStaged i x q recs).pkt s := tmsEnqueue_takes hr hqq rfl hon hd hl
  have hwhole : enterQueue true q i (s.udpStaged i x q recs).pkt s = stagePkt true q i (s.udpStaged i x q recs).pkt s :=
    enterQueue_whole rfl rfl hcut
  have hcls : (s.udpStaged i x q recs).pkt.cls % 8 = (s.udpStaged i x q recs).cls := Nat.mod_mod _ _
  rw [hport, hleaf, hwhole, stagePkt_stages rfl hroom, hcls]
  exact ⟨rfl, (buf_only s _).trans (buf_only _ _)⟩

/-- A UDP frame to a port that is down is counted there, and no more changes. -/
theorem queueUdp_down_only (i : Nat) (d : Dat) (msg : List Byte) {s : State} (h : (s.port.get (exTarget d % 32)).up = false) :
    s.changesOnly (queueUdp i d msg s) [.cnt] := by
  have he : queueUdp i d msg s = countC (datU d 8 1 % 8) (Cnt.LPC_TX_DOWN_DROP (exTarget d % 32)) s := if_pos (by rw [h]; rfl)
  rw [he]
  exact countC_cnt_only _ _ s

/-! ### Messages (R273, R275) -/

theorem cdt_only (v : SMap Conduit) (s : State) {fs : List Fld} (h : Fld.cdt ∈ fs := by decide) : s.changesOnly { s with cdt := v } fs :=
  fun f hf => by cases f with | cdt => exact absurd h hf | _ => rfl

/-- s with the words of bs pushed into conduit c. -/
def pushedTo (c : Nat) (bs : List Byte) (s : State) : State :=
  { s with cdt := s.cdt.upd c (fun k => (cdtWords bs).foldl Conduit.push k) }

theorem cdtOffer_eq (c : Nat) (bs : List Byte) (s : State) :
    cdtOffer c bs s = if (cdtWords bs).length ≤ (s.cdt.get c).credit then some (pushedTo c bs s) else none := rfl

/-- The message of exporter x has gone: the sequence number counts its data records, and none is open. -/
def messageSent (i x : Nat) (recs : List (Nat × List Byte)) (s : State) : State :=
  updSvc i (fun p => { p with seq := p.seq + BitVec.ofNat 32 (dataRecs recs), msgs := p.msgs.set x none }) s

theorem sendMsg_udp {i x : Nat} {recs : List (Nat × List Byte)} {s : State} (h : exUdp (s.exporter x) = true) :
    sendMsg i x recs s = some (messageSent i x recs (queueUdp i (s.exporter x) (s.ipfix i recs) s)) := if_pos h

theorem sendMsg_conduit {i x : Nat} {recs : List (Nat × List Byte)} {s : State} (h : exUdp (s.exporter x) = false) :
    sendMsg i x recs s = (cdtOffer (32 + exTarget (s.exporter x) % 8) (s.ipfix i recs) s).map (messageSent i x recs) :=
  if_neg (by rw [h]; exact Bool.false_ne_true)

theorem messageSent_only (i x : Nat) (recs : List (Nat × List Byte)) (s : State) : s.changesOnly (messageSent i x recs s) [.svc] :=
  updSvc_only _ _ s

/-- In a state that holds the flow services of s. -/
theorem messageSent_part (i x : Nat) (recs : List (Nat × List Byte)) {w s : State} (h : w.svc = s.svc) :
    (messageSent i x recs w).svc.part = s.svc.part.set i { s.svc.part.get i with
      seq := (s.svc.part.get i).seq + BitVec.ofNat 32 (dataRecs recs), msgs := (s.svc.part.get i).msgs.set x none } := by
  rw [← h]; rfl

/-- In a state that holds the conduits and the flow services of s. -/
theorem messageSent_pushedTo (i x c : Nat) (recs : List (Nat × List Byte)) (bs : List Byte) {u s : State} (hc : u.cdt = s.cdt)
    (hs : u.svc = s.svc) :
    messageSent i x recs (pushedTo c bs u) =
      { u with
        cdt := s.cdt.upd c (fun k => (cdtWords bs).foldl Conduit.push k),
        svc := { s.svc with part := s.svc.part.upd i (fun p =>
          { p with seq := p.seq + BitVec.ofNat 32 (dataRecs recs), msgs := p.msgs.set x none }) } } := by
  rw [← hc, ← hs]; rfl

section message
variable {i x : Nat} {m : TelMsg} {u s : State} (h : (s.svc.part.get i).msgs.get x = some m)
  (hu : u = runTo (m.firstAt + 1000000) s)
include h hu

theorem doMessageClose_open : doMessageClose i x s = (sendMsg i x m.recs u).getD u := by
  unfold doMessageClose; rw [h, hu]

/-- A message of a UDP exporter closes: its frame goes to the port, whatever becomes of it there. -/
theorem doMessageClose_udp (he : exUdp (u.exporter x) = true) :
    doMessageClose i x s = messageSent i x m.recs (queueUdp i (u.exporter x) (u.ipfix i m.recs) u) := by
  rw [doMessageClose_open h hu, sendMsg_udp he]; rfl

theorem doMessageClose_conduit (he : exUdp (u.exporter x) = false) :
    doMessageClose i x s =
      if (cdtWords (u.ipfix i m.recs)).length ≤ (u.cdt.get (32 + exTarget (u.exporter x) % 8)).credit then
        messageSent i x m.recs (pushedTo (32 + exTarget (u.exporter x) % 8) (u.ipfix i m.recs) u)
      else u := by
  rw [doMessageClose_open h hu, sendMsg_conduit he, cdtOffer_eq]
  split
  · rfl
  · rfl

end message

/-! ### The guard of a telemetry command -/

/-- What a steady device answers, by the state that the command's effect gives. -/
theorem coreCmd_steady_answers {f : State → State} {s t : State} {fs : List Fld} (h : s.steady) (e : f s.fresh = t)
    (hf : s.fresh.changesOnly t fs) (hm : Fld.md ∉ fs := by decide) (hp : Fld.pending ∉ fs := by decide) :
    coreCmd f s = .next t := by
  subst e; exact coreCmd_steady_only h hf hm hp

theorem coreCmd_running_answers {f : State → State} {s t : State} {fs : List Fld} (h : s.running) (e : f s.fresh = t)
    (hf : s.fresh.changesOnly t fs) (hs : ∀ x ∈ Fld.settled, x ∉ fs := by decide) : coreCmd f s = .next t := by
  subst e; exact coreCmd_only h hf hs

/-- The fields that a record on its way to an exporter may change. -/
def Fld.telemetry : List Fld := Fld.events ++ [.part, .svc, .swc, .buf, .tbe]

theorem exec_messageClose_udp {i x q : Nat} {m : TelMsg} {u s : State} (h : s.steady) (hm : s.moves = true) (hi : i < 4)
    (hx : x < 8) (ho : (s.svc.part.get i).msgs.get x = some m) (hu : u = runTo (m.firstAt + 1000000) s.fresh)
    (ht : u.udpTakes i x q m.recs) :
    ∃ t, exec (.messageClose i x) s = .next t ∧ t.tbe.st = max s.tbe.st (m.firstAt + 1000000) ∧
      t.buf.staged = s.buf.staged ++ [u.udpStaged i x q m.recs] ∧
      t.svc.part = s.svc.part.set i { s.svc.part.get i with
        seq := (s.svc.part.get i).seq + BitVec.ofNat 32 (dataRecs m.recs), msgs := (s.svc.part.get i).msgs.set x none } ∧
      s.fresh.changesOnly t [.svc, .buf, .tbe] := by
  obtain ⟨hs, hf⟩ := queueUdp_stages ht
  have hd := doMessageClose_udp (s := s.fresh) ho hu ht.1
  generalize queueUdp i (u.exporter x) (u.ipfix i m.recs) u = w at hs hf hd
  have hru : s.fresh.changesOnly u [.svc, .buf, .tbe] := hu ▸ runTo_only _ s.fresh
  have hall := hru.trans ((hf.mono (by decide)).trans ((messageSent_only i x m.recs w).mono (by decide)))
  have htbe : w.tbe = u.tbe := hf .tbe (by decide)
  have hsvc : w.svc = s.svc := (hf .svc (by decide)).trans (by rw [hu]; rfl)
  have hbuf : u.buf = s.buf := by rw [hu]; rfl
  refine ⟨messageSent i x m.recs w, coreCmd_steady_answers h ((if_pos ⟨hi, hx, hm⟩).trans hd) hall, ?_, ?_, ?_, hall⟩
  · exact (congrArg Tbe.st htbe).trans (by rw [hu]; rfl)
  · exact hs.trans (by rw [hbuf])
  · exact messageSent_part i x m.recs hsvc

theorem exec_messageClose_conduit {i x : Nat} {m : TelMsg} {u s : State} (h : s.running) (hm : s.moves = true) (hi : i < 4)
    (hx : x < 8) (ho : (s.svc.part.get i).msgs.get x = some m) (he : exUdp (s.exporter x) = false)
    (hu : u = runTo (m.firstAt + 1000000) s.fresh) :
    exec (.messageClose i x) s = .next
      (if (cdtWords (u.ipfix i m.recs)).length ≤ (s.cdt.get (32 + exTarget (s.exporter x) % 8)).credit then
        { u with
          cdt := s.cdt.upd (32 + exTarget (s.exporter x) % 8) (fun k => (cdtWords (u.ipfix i m.recs)).foldl Conduit.push k),
          svc := { s.svc with part := s.svc.part.upd i (fun p =>
            { p with seq := p.seq + BitVec.ofNat 32 (dataRecs m.recs), msgs := p.msgs.set x none }) } }
      else u) := by
  have hex : u.exporter x = s.exporter x := by rw [hu]; rfl
  have hcdt : u.cdt = s.cdt := by rw [hu]; rfl
  have hsvc : u.svc = s.svc := by rw [hu]; rfl
  have hd := doMessageClose_conduit (s := s.fresh) ho hu (by rw [hex]; exact he)
  have hf : s.fresh.changesOnly u [.cdt, .svc, .tbe] := hu ▸ runTo_only _ s.fresh
  have hall := ite_only (c := (cdtWords (u.ipfix i m.recs)).length ≤ (u.cdt.get (32 + exTarget (u.exporter x) % 8)).credit)
    (hf.trans ((cdt_only _ u).trans ((messageSent_only i x m.recs (pushedTo (32 + exTarget (u.exporter x) % 8) (u.ipfix i m.recs) u)).mono
      (by decide)))) hf
  refine (coreCmd_running_answers h ((if_pos ⟨hi, hx, hm⟩).trans hd) hall).trans ?_
  rw [messageSent_pushedTo _ _ _ _ _ hcdt hsvc, hex, hcdt]

theorem exec_messageClose_down {i x : Nat} {m : TelMsg} {s : State} (h : s.steady) (hm : s.moves = true) (hi : i < 4)
    (hx : x < 8) (ho : (s.svc.part.get i).msgs.get x = some m) (he : exUdp (s.exporter x) = true)
    (hp : (s.port.get (exTarget (s.exporter x) % 32)).up = false) :
    ∃ t, exec (.messageClose i x) s = .next t ∧ t.tbe.st = max s.tbe.st (m.firstAt + 1000000) ∧
      t.svc.part = s.svc.part.set i { s.svc.part.get i with
        seq := (s.svc.part.get i).seq + BitVec.ofNat 32 (dataRecs m.recs), msgs := (s.svc.part.get i).msgs.set x none } ∧
      s.fresh.changesOnly t (Fld.events ++ [.part, .svc, .swc, .buf, .tbe]) := by
  generalize hu : runTo (m.firstAt + 1000000) s.fresh = u
  have hd := doMessageClose_udp (s := s.fresh) ho hu.symm (by rw [← hu]; exact he)
  have hf := queueUdp_down_only i (s.exporter x) (u.ipfix i m.recs) (s := u) (by rw [← hu]; exact hp)
  rw [show u.exporter x = s.exporter x by rw [← hu]; rfl] at hd
  generalize queueUdp i (s.exporter x) (u.ipfix i m.recs) u = w at hf hd
  have hru : s.fresh.changesOnly u Fld.telemetry := hu ▸ runTo_only _ s.fresh
  have hall := hru.trans ((hf.mono (by decide)).trans ((messageSent_only i x m.recs w).mono (by decide)))
  have htbe : w.tbe = u.tbe := hf .tbe (by decide)
  have hsvc : w.svc = s.svc := (hf .svc (by decide)).trans (by rw [← hu]; rfl)
  refine ⟨messageSent i x m.recs w, coreCmd_steady_answers h ((if_pos ⟨hi, hx, hm⟩).trans hd) hall, ?_, ?_, hall⟩
  · exact (congrArg Tbe.st htbe).trans (by rw [← hu]; rfl)
  · exact messageSent_part i x m.recs hsvc

/-! ### Records (R274, R276, R277, R280) -/

/-- The end record of a clove (R276, R277). -/
def State.endRecord (s : State) (r : EndRec) : Nat × List Byte :=
  ((if datB r.clove 40 0 1 = 1 then 256 else 257), s.recCommon r.clove ++ beBytes 1 (endReason r.reason) ++ s.recPen r.clove)

/-- The block record of the NAT log (R280). -/
def State.natRecord (s : State) (r : NatRec) : Nat × List Byte :=
  ((if r.v6 then 261 else 260), beBytes 8 (s.ntMs r.at_) ++ beBytes 1 r.event ++ beBytes 4 r.zone ++
    (if r.v6 then bvBytes 16 r.saddr else (bvBytes 16 r.saddr).drop 12) ++ beBytes 4 r.pubAddr ++ beBytes 2 r.portLo ++
    beBytes 2 r.portHi)

section records
variable {i x : Nat} {r : Nat × List Byte} {s : State}

/-- A record that fits joins the open message (R273). -/
theorem addRecord_joins {m : TelMsg} (h : (s.svc.part.get i).msgs.get x = some m)
    (hl : 16 + (setBytes (m.recs ++ [r])).length ≤ msgMax (s.exporter x)) :
    addRecord i x r s = some (updSvc i (fun p => { p with msgs := p.msgs.set x (some { m with recs := m.recs ++ [r] }) }) s) := by
  unfold addRecord
  rw [h]
  exact if_pos hl

/-- A record opens a message that needs no templates (R273, R275). -/
theorem addRecord_opens (h : (s.svc.part.get i).msgs.get x = none) (ht : s.tmplDue i x = false) :
    addRecord i x r s = some (startMsg i x [r] s) := by
  unfold addRecord openMsg
  rw [h]
  exact if_pos (by rw [ht]; rfl)

end records

section exporting
variable {i : Nat} {s : State}

/-- The oldest end record leaves its queue. -/
def popEnd (i : Nat) (rest : List EndRec) (s : State) : State := updPart i (fun p => { p with endq := rest }) s

theorem doEndRecordExport_exports {r : EndRec} {rest : List EndRec} {u : State} (hq : (s.part.get i).endq = r :: rest)
    (hb : r.bare = false) (hf : spFlag (s.svcParam (cvProfile r.clove)) 3 = true)
    (hv : exValid (s.exporter (datU (s.svcParam (cvProfile r.clove)) 3 1)) = true)
    (ha : addRecord i (datU (s.svcParam (cvProfile r.clove)) 3 1) (s.endRecord r) s = some u) :
    doEndRecordExport i s = count (Cnt.FSE_TEL_END i) (popEnd i rest u) := by
  have hr : ((if (datB r.clove 40 0 1 == 1) = true then 256 else 257),
      s.recCommon r.clove ++ beBytes 1 (endReason r.reason) ++ s.recPen r.clove) = s.endRecord r := by
    simp only [State.endRecord, beq_iff_eq]
  unfold doEndRecordExport
  rw [hq]
  dsimp only
  rw [hr, ha]
  exact if_neg (by rw [hb, hf, hv]; decide)

theorem doEndRecordExport_drops {r : EndRec} {rest : List EndRec} (hq : (s.part.get i).endq = r :: rest)
    (hf : spFlag (s.svcParam (cvProfile r.clove)) 3 = false) : doEndRecordExport i s = popEnd i rest s := by
  unfold doEndRecordExport
  rw [hq]
  exact if_pos (by rw [hf]; simp)

theorem doNatRecordExport_exports {r : NatRec} {rest : List NatRec} {u : State} (hq : (s.svc.part.get i).natq = r :: rest)
    (hv : exValid (s.exporter r.exporter) = true) (ha : addRecord i r.exporter (s.natRecord r) s = some u) :
    doNatRecordExport i s = count (Cnt.FSE_TEL_NAT i) (updSvc i (fun p => { p with natq := rest }) u) := by
  unfold State.natRecord at ha
  unfold doNatRecordExport
  rw [hq]
  dsimp only
  rw [ha]
  exact if_neg (by rw [hv]; decide)

theorem exec_endRecordExport_joins {x : Nat} {r : EndRec} {rest : List EndRec} {m : TelMsg} (h : s.steady) (hm : s.moves = true)
    (hi : i < 4) (hq : (s.part.get i).endq = r :: rest) (hb : r.bare = false)
    (hf : spFlag (s.svcParam (cvProfile r.clove)) 3 = true) (hx : x = datU (s.svcParam (cvProfile r.clove)) 3 1)
    (hv : exValid (s.exporter x) = true) (ho : (s.svc.part.get i).msgs.get x = some m)
    (hl : 16 + (setBytes (m.recs ++ [s.endRecord r])).length ≤ msgMax (s.exporter x)) :
    ∃ t, exec (.endRecordExport i) s = .next t ∧ t.part = s.part.set i { s.part.get i with endq := rest } ∧
      (t.svc.part.get i).msgs = (s.svc.part.get i).msgs.set x (some { m with recs := m.recs ++ [s.endRecord r] }) ∧
      s.fresh.changesOnly t (Fld.events ++ [.part, .svc, .swc, .buf, .tbe]) := by
  subst hx
  have hd := doEndRecordExport_exports (s := s.fresh) hq hb hf hv (addRecord_joins (s := s.fresh) ho hl)
  set u := updSvc i (fun p => { p with msgs := p.msgs.set _ (some { m with recs := m.recs ++ [s.fresh.endRecord r] }) }) s.fresh
  have hc : (popEnd i rest u).changesOnly (count (Cnt.FSE_TEL_END i) (popEnd i rest u)) [.cnt] := count_cnt_only _ _
  have hall : s.fresh.changesOnly (count (Cnt.FSE_TEL_END i) (popEnd i rest u)) Fld.telemetry :=
    (updSvc_only _ _ s.fresh).trans ((part_only u _).trans (hc.mono (by decide)))
  refine ⟨count (Cnt.FSE_TEL_END i) (popEnd i rest u), coreCmd_steady_answers h ((if_pos ⟨hi, hm⟩).trans hd) hall,
    hc .part (by decide), ?_, hall⟩
  rw [(hc .svc (by decide) : _ = (popEnd i rest u).svc)]
  exact congrArg SvcPart.msgs (updSvc_get_self _ _ _)

theorem exec_natRecordExport_opens {r : NatRec} {rest : List NatRec} (h : s.steady) (hm : s.moves = true) (hi : i < 4)
    (hq : (s.svc.part.get i).natq = r :: rest) (hv : exValid (s.exporter r.exporter) = true)
    (ho : (s.svc.part.get i).msgs.get r.exporter = none) (ht : s.tmplDue i r.exporter = false) :
    ∃ t, exec (.natRecordExport i) s = .next t ∧ (t.svc.part.get i).natq = rest ∧
      (t.svc.part.get i).msgs = (s.svc.part.get i).msgs.set r.exporter (some { recs := [s.natRecord r], firstAt := s.now }) ∧
      s.fresh.changesOnly t (Fld.events ++ [.part, .svc, .swc, .buf, .tbe]) := by
  have hd := doNatRecordExport_exports (s := s.fresh) hq hv (addRecord_opens (s := s.fresh) ho ht)
  set w := updSvc i (fun p => { p with natq := rest }) (startMsg i r.exporter [s.fresh.natRecord r] s.fresh) with hw
  have hc : w.changesOnly (count (Cnt.FSE_TEL_NAT i) w) [.cnt] := count_cnt_only _ _
  have hall : s.fresh.changesOnly (count (Cnt.FSE_TEL_NAT i) w) Fld.telemetry :=
    (updSvc_only _ _ s.fresh).trans ((updSvc_only _ _ _).trans (hc.mono (by decide)))
  refine ⟨count (Cnt.FSE_TEL_NAT i) w, coreCmd_steady_answers h ((if_pos ⟨hi, hm⟩).trans hd) hall, ?_⟩
  rw [(hc .svc (by decide) : _ = w.svc), hw, updSvc_get_self, startMsg, updSvc_get_self]
  exact ⟨rfl, rfl, hall⟩

end exporting

/-! ### Templates (R275, R282) -/

theorem get_foldl_set_true {xs : List Nat} {m : SMap Bool} {x : Nat} (h : x ∈ xs ∨ m.get x = true) :
    (xs.foldl (fun m x => m.set x true) m).get x = true := by
  induction xs generalizing m with
  | nil => exact h.resolve_left List.not_mem_nil
  | cons y ys ih =>
    refine ih ?_
    by_cases hy : x = y
    · exact .inr (by rw [hy, SMap.get_set_self])
    · rw [SMap.get_set_ne m true hy]
      exact h.imp (fun hm => (List.mem_cons.mp hm).resolve_left hy) id

/-- The exporters that RESEND asks: the valid ones to a conduit (R275). -/
def State.asked (s : State) : List Nat := (List.range 8).filter (fun x => exValid (s.exporter x) && !exUdp (s.exporter x))

/-- Templates are asked of a partition for the exporters xs. -/
def askTemplates (xs : List Nat) (p : SvcPart) : SvcPart := { p with tmplAsk := xs.foldl (fun m x => m.set x true) p.tmplAsk }

/-- Of the flow services RESEND changes what the partitions ask, and its own bit. -/
theorem doResend_only (s : State) : s.changesOnly (doResend s) [.svc] :=
  (foldl_only (fun s i => updSvc_only i _ s) _ s).trans (svc_only _ _)

theorem doResend_get {i : Nat} (hi : i < 4) (s : State) :
    (doResend s).svc.part.get i = askTemplates s.asked (s.svc.part.get i) :=
  foldl_updSvc_get (askTemplates s.asked) List.nodup_range (List.mem_range.mpr hi) s

theorem exec_resendTemplates {s : State} (h : s.hostWrites 8) :
    exec .resendTemplates s = .next (doResend s.fresh) ∧
      s.fresh.changesOnly (doResend s.fresh) (Fld.events ++ [.part, .svc, .swc, .buf, .tbe]) := by
  have hf := doResend_only s.fresh
  have hmd : (doResend s.fresh).md = s.md := hf .md (by decide)
  refine ⟨hostCmd_writes h ?_ (hf .pending (by decide)), hf.mono (by decide)⟩
  rw [State.calm, hmd]
  exact h.2.2

section templates
variable {i x q at_ : Nat} {s : State}

/-- The template period of a UDP exporter ends: its templates go to the port, whatever becomes of them there. -/
theorem doTemplateRefresh_udp {u : State} (ha : (s.svc.part.get i).tmplAt.get x = some at_) (hv : exValid (s.exporter x) = true)
    (he : exUdp (s.exporter x) = true) (hu : u = runTo (at_ + datU (s.exporter x) 6 2 * 1000000000) s) :
    doTemplateRefresh i x s = tmplSent i x (queueUdp i (s.exporter x) (u.ipfix i [(2, s.templates)]) u) := by
  unfold doTemplateRefresh
  rw [ha, hu]
  exact if_pos (by rw [hv, he]; rfl)

theorem tmplSent_only (i x : Nat) (s : State) {fs : List Fld} (h : Fld.svc ∈ fs := by decide) :
    s.changesOnly (tmplSent i x s) fs := (updSvc_only i _ s h).trans (svc_only _ _ h)

theorem tmplSent_tmplAt (i x : Nat) (s : State) :
    ((tmplSent i x s).svc.part.get i).tmplAt = (s.svc.part.get i).tmplAt.set x (some s.now) :=
  congrArg SvcPart.tmplAt (updSvc_get_self i _ s)

theorem exec_templateRefresh_udp {u : State} (h : s.steady) (hm : s.moves = true) (hi : i < 4) (hx : x < 8)
    (ha : (s.svc.part.get i).tmplAt.get x = some at_) (hv : exValid (s.exporter x) = true)
    (hu : u = runTo (at_ + datU (s.exporter x) 6 2 * 1000000000) s.fresh) (ht : u.udpTakes i x q [(2, s.templates)]) :
    ∃ t, exec (.templateRefresh i x) s = .next t ∧
      t.tbe.st = max s.tbe.st (at_ + datU (s.exporter x) 6 2 * 1000000000) ∧
      t.buf.staged = s.buf.staged ++ [u.udpStaged i x q [(2, s.templates)]] ∧
      (t.svc.part.get i).tmplAt = (s.svc.part.get i).tmplAt.set x (some t.tbe.st) ∧
      s.fresh.changesOnly t [.svc, .buf, .tbe] := by
  have hex : u.exporter x = s.exporter x := by rw [hu]; rfl
  obtain ⟨hs, hf⟩ := queueUdp_stages ht
  have hd := doTemplateRefresh_udp (s := s.fresh) ha hv (hex ▸ ht.1) hu
  rw [hex] at hs hf
  replace hd : doTemplateRefresh i x s.fresh = tmplSent i x (queueUdp i (s.exporter x) (u.ipfix i [(2, s.templates)]) u) := hd
  generalize queueUdp i (s.exporter x) (u.ipfix i [(2, s.templates)]) u = w at hs hf hd
  have hru : s.fresh.changesOnly u [.svc, .buf, .tbe] := hu ▸ runTo_only _ s.fresh
  have hall : s.fresh.changesOnly (tmplSent i x w) [.svc, .buf, .tbe] := hru.trans ((hf.mono (by decide)).trans (tmplSent_only _ _ _))
  have htbe : w.tbe = u.tbe := hf .tbe (by decide)
  have hsvc : w.svc = s.svc := (hf .svc (by decide)).trans (by rw [hu]; rfl)
  have hbuf : u.buf = s.buf := by rw [hu]; rfl
  refine ⟨tmplSent i x w, coreCmd_steady_answers h ((if_pos ⟨hi, hx, hm⟩).trans hd) hall, ?_, ?_, ?_, hall⟩
  · exact (congrArg Tbe.st htbe).trans (by rw [hu]; rfl)
  · exact hs.trans (by rw [hbuf])
  · rw [tmplSent_tmplAt, hsvc]; rfl

theorem exec_templateRefresh_down (h : s.steady) (hm : s.moves = true) (hi : i < 4) (hx : x < 8)
    (ha : (s.svc.part.get i).tmplAt.get x = some at_) (hv : exValid (s.exporter x) = true)
    (he : exUdp (s.exporter x) = true) (hp : (s.port.get (exTarget (s.exporter x) % 32)).up = false) :
    ∃ t, exec (.templateRefresh i x) s = .next t ∧
      t.tbe.st = max s.tbe.st (at_ + datU (s.exporter x) 6 2 * 1000000000) ∧
      (t.svc.part.get i).tmplAt = (s.svc.part.get i).tmplAt.set x (some t.tbe.st) ∧
      s.fresh.changesOnly t (Fld.events ++ [.part, .svc, .swc, .buf, .tbe]) := by
  generalize hu : runTo (at_ + datU (s.exporter x) 6 2 * 1000000000) s.fresh = u
  have hd := doTemplateRefresh_udp (s := s.fresh) ha hv he hu.symm
  have hf := queueUdp_down_only i (s.exporter x) (u.ipfix i [(2, s.templates)]) (s := u) (by rw [← hu]; exact hp)
  replace hd : doTemplateRefresh i x s.fresh = tmplSent i x (queueUdp i (s.exporter x) (u.ipfix i [(2, s.templates)]) u) := hd
  generalize queueUdp i (s.exporter x) (u.ipfix i [(2, s.templates)]) u = w at hf hd
  have hru : s.fresh.changesOnly u Fld.telemetry := hu ▸ runTo_only _ s.fresh
  have hall : s.fresh.changesOnly (tmplSent i x w) Fld.telemetry := hru.trans ((hf.mono (by decide)).trans (tmplSent_only _ _ _))
  have htbe : w.tbe = u.tbe := hf .tbe (by decide)
  have hsvc : w.svc = s.svc := (hf .svc (by decide)).trans (by rw [← hu]; rfl)
  refine ⟨tmplSent i x w, coreCmd_steady_answers h ((if_pos ⟨hi, hx, hm⟩).trans hd) hall, ?_, ?_, hall⟩
  · exact (congrArg Tbe.st htbe).trans (by rw [← hu]; rfl)
  · rw [tmplSent_tmplAt, hsvc]; rfl

end templates

/-! ### Interval passes (R278) -/

section passes
variable {i n : Nat} {p : TelPass} {s : State}

/-- The pass of window n in partition i becomes p, or is over. -/
def setPass (i n : Nat) (p : Option TelPass) (s : State) : State := updSvc i (fun k => { k with passes := k.passes.set n p }) s

theorem doTelemetryPass_ends {ue : Bool} (h : (s.svc.part.get i).passes.get n = some p)
    (hc : s.nextClove i (s.cloveBase i + p.pos) = none) : doTelemetryPass i n ue s = setPass i n none s := by
  unfold doTelemetryPass
  extract_lets k
  rw [show k.passes.get n = some p from h]
  dsimp only
  rw [hc]
  rfl

theorem doTelemetryPass_skips {idx : Nat} (h : (s.svc.part.get i).passes.get n = some p)
    (hc : s.nextClove i (s.cloveBase i + p.pos) = some idx) (hr : s.readFails i idx false = false)
    (hf : spFlag (s.svcParam (cvProfile (s.cloveNow i idx))) 4 = false) :
    doTelemetryPass i n false s = setPass i n (some { p with pos := idx + 1 - s.cloveBase i }) s := by
  unfold doTelemetryPass
  extract_lets k
  rw [show k.passes.get n = some p from h]
  dsimp only
  rw [hc]
  dsimp only
  rw [hr, hf]
  rfl

end passes

/-! ### Window boundaries (R45, R49, R278) -/

/-- The pass of window n that a boundary at the instant `due` starts in a partition. -/
def startPass (n due : Nat) (p : SvcPart) : SvcPart :=
  { p with passes := p.passes.set n (some { pos := 0, instant := due, unrel := p.unrel.get n }), unrel := p.unrel.set n false }

theorem twinPart_starts {n i : Nat} {s : State} (h : (s.svc.part.get i).passes.get n = none) :
    twinPart n i s = updSvc i (startPass n s.now) s := by
  unfold twinPart; rw [h]; rfl

/-- A boundary starts a pass in each of the partitions that have none. -/
theorem foldl_twinPart_starts {n due : Nat} {l : List Nat} (hl : l.Nodup) {s : State} (hd : s.now = due)
    (h : ∀ i ∈ l, (s.svc.part.get i).passes.get n = none) :
    l.foldl (fun s i => twinPart n i s) s = l.foldl (fun s i => updSvc i (startPass n due) s) s := by
  induction l generalizing s with
  | nil => rfl
  | cons k l ih =>
    obtain ⟨hk, hl⟩ := List.nodup_cons.mp hl
    rw [List.foldl_cons, List.foldl_cons, twinPart_starts (h k List.mem_cons_self), hd]
    refine ih hl hd fun i hi => ?_
    rw [updSvc_get_ne _ s (ne_of_mem_of_not_mem hi hk)]
    exact h i (List.mem_cons_of_mem k hi)

theorem markTwin_only (n : Nat) (s : State) : s.changesOnly (markTwin n s) [.tbe] := tbe_only s _

theorem markTwin_now (n : Nat) (s : State) : (markTwin n s).now = s.now :=
  (sameClock_of_twinSeen (m := s.tbe.twinSeen.set n (s.now / s.twinPeriod n)) rfl).1

theorem markTwin_starts (n : Nat) (s : State) : ((markTwin n s).moves && (markTwin n s).twinOn n) = (s.moves && s.twinOn n) := by
  have hmd : (markTwin n s).md = s.md := markTwin_only n s .md (by decide)
  have hregs : (markTwin n s).regs = s.regs := markTwin_only n s .regs (by decide)
  rw [State.moves, State.twinOn, State.reg, hmd, hregs, State.moves, State.twinOn, State.reg]

theorem twinAt_eq (n : Nat) (s : State) :
    twinAt n s = if ((markTwin n s).moves && (markTwin n s).twinOn n) = true then
        (List.range 4).foldl (fun s i => twinPart n i s) (markTwin n s)
      else markTwin n s := rfl

theorem twinAt_starts {n : Nat} {s : State} (hm : s.moves = true) (hw : s.twinOn n = true)
    (h : ∀ i < 4, (s.svc.part.get i).passes.get n = none) :
    twinAt n s = (List.range 4).foldl (fun u i => updSvc i (startPass n s.now) u) (markTwin n s) := by
  have hs : (markTwin n s).svc = s.svc := markTwin_only n s .svc (by decide)
  rw [twinAt_eq, markTwin_starts, hm, hw]
  refine (if_pos rfl).trans (foldl_twinPart_starts (s := markTwin n s) List.nodup_range (markTwin_now n s) fun i hi => ?_)
  rw [hs]
  exact h i (List.mem_range.mp hi)

theorem doTwinBoundary_on {n : Nat} {s : State} (hn : n < 8) (hw : s.twinOn n = true) :
    doTwinBoundary n s = twinAt n (priorItems (2 + n) (runTo ((s.tbe.twinSeen.get n + 1) * s.twinPeriod n) s)) :=
  if_neg (not_or.mpr ⟨by omega, by rw [hw]; decide⟩)

/-- A window's boundary comes after those that go before it at its instant (R45). -/
theorem exec_twinBoundary {n : Nat} {s : State} (h : s.steady) (hn : n < 8) (hw : s.twinOn n = true) :
    exec (.twinBoundary n) s = .next
      (twinAt n (priorItems (2 + n) (runTo ((s.tbe.twinSeen.get n + 1) * s.twinPeriod n) s.fresh))) := by
  have hd := doTwinBoundary_on (s := s.fresh) hn hw
  have hall : s.fresh.changesOnly (doTwinBoundary n s.fresh) Fld.boundaries := by
    rw [hd]
    exact (runTo_only _ s.fresh).trans ((priorItems_only n _).trans ((twinAt_only n _).mono (by decide)))
  exact (coreCmd_steady_only h hall).trans (congrArg _ hd)

theorem exec_twinBoundary_starts {n due : Nat} {s : State} (h : s.running) (hm : s.moves = true) (hn : n < 8)
    (hw : s.twinOn n = true) (hd : due = max s.tbe.st ((s.tbe.twinSeen.get n + 1) * s.twinPeriod n)) (hc : s.caughtUp due n)
    (hp : ∀ i < 4, (s.svc.part.get i).passes.get n = none) :
    ∃ t, exec (.twinBoundary n) s = .next t ∧ t.tbe.st = due ∧ t.tbe.twinSeen = s.tbe.twinSeen.set n (due / s.twinPeriod n) ∧
      (∀ i < 4, (t.svc.part.get i).passes.get n = some
        { pos := 0, instant := due, unrel := (s.svc.part.get i).unrel.get n }) ∧
      s.fresh.changesOnly t [.svc, .tbe] := by
  subst hd
  set u := runTo ((s.tbe.twinSeen.get n + 1) * s.twinPeriod n) s.fresh
  have he : doTwinBoundary n s.fresh = (List.range 4).foldl (fun s i => updSvc i (startPass n u.now) s) (markTwin n u) := by
    rw [doTwinBoundary_on (s := s.fresh) hn hw]
    exact (congrArg (twinAt n) (priorItems_of_caughtUp (s := u) hn.le hc)).trans (twinAt_starts hm hw hp)
  have hf : (markTwin n u).changesOnly
      ((List.range 4).foldl (fun s i => updSvc i (startPass n u.now) s) (markTwin n u)) [.svc] :=
    foldl_only (fun s i => updSvc_only i _ s) _ _
  have hall : s.fresh.changesOnly ((List.range 4).foldl (fun s i => updSvc i (startPass n u.now) s) (markTwin n u)) [.svc, .tbe] :=
    (runTo_only _ s.fresh).trans ((tbe_only u _).trans (hf.mono (by decide)))
  have ht : _ = (markTwin n u).tbe := hf .tbe (by decide)
  refine ⟨_, (coreCmd_only h (he ▸ hall)).trans (congrArg _ he), congrArg Tbe.st ht, congrArg Tbe.twinSeen ht, ?_, hall⟩
  intro i hi
  rw [foldl_updSvc_get _ List.nodup_range (List.mem_range.mpr hi)]
  exact SMap.get_set_self _ _ _

/-- Settles O43: each command of telemetry by what becomes of its record, its message, its pass or its window. -/
theorem telemetry : Obligations.Telemetry := by
  refine ⟨?joins, ?drops, ?closes, ?pushed, ?down, ?opens, ?nothing, ?asks, ?ends, ?skips, ?templates, ?templatesDown, ?window, ?order⟩
  case joins =>
    intro i x r rest m s h hm hi hq hb hf hx hv ho hl
    exact exec_endRecordExport_joins h hm hi hq hb hf hx hv ho hl
  case drops =>
    intro i r rest s h hm hi hq hf
    have hd := doEndRecordExport_drops (s := s.fresh) hq hf
    exact coreCmd_answers h ((if_pos ⟨hi, hm⟩).trans hd) rfl rfl rfl
  case closes => exact fun i x q m u s h hm hi hx ho hu ht => exec_messageClose_udp h hm hi hx ho hu ht
  case pushed => exact fun i x m u s h hm hi hx ho he hu => exec_messageClose_conduit h hm hi hx ho he hu
  case down => exact fun i x m s h hm hi hx ho he hp => exec_messageClose_down h hm hi hx ho he hp
  case opens => exact fun i r rest s h hm hi hq hv ho ht => exec_natRecordExport_opens h hm hi hq hv ho ht
  case nothing =>
    intro s h hn
    obtain ⟨hx, hall⟩ := exec_resendTemplates h
    have ha : s.fresh.asked = [] := List.filter_eq_nil_iff.mpr fun x hx => by
      rcases hn x (List.mem_range.mp hx) with hv | hu
      · simp [show exValid (s.fresh.exporter x) = false from hv]
      · simp [show exUdp (s.fresh.exporter x) = true from hu]
    exact ⟨_, hx, congrArg (fun l : List Nat => !l.isEmpty) ha, hall⟩
  case asks =>
    intro x s h hx8 hv hu
    obtain ⟨hx, hall⟩ := exec_resendTemplates h
    have ha : x ∈ s.fresh.asked := List.mem_filter.mpr ⟨List.mem_range.mpr hx8, by
      simp [show exValid (s.fresh.exporter x) = true from hv, show exUdp (s.fresh.exporter x) = false from hu]⟩
    refine ⟨_, hx, ?_, fun i hi => ?_, hall⟩
    · show (!s.fresh.asked.isEmpty) = true
      rw [Bool.not_eq_true', List.isEmpty_eq_false_iff]
      exact List.ne_nil_of_mem ha
    · rw [doResend_get hi]; exact get_foldl_set_true (.inl ha)
  case ends =>
    intro i n ue p s h hm hi hn hp hc
    exact coreCmd_answers h ((if_pos ⟨hi, hn, hm⟩).trans (doTelemetryPass_ends (s := s.fresh) hp hc)) rfl rfl rfl
  case skips =>
    intro i n idx p s h hm hi hn hp hc hr hf
    exact coreCmd_answers h ((if_pos ⟨hi, hn, hm⟩).trans (doTelemetryPass_skips (s := s.fresh) hp hc hr hf)) rfl rfl rfl
  case templates => exact fun i x q a u s h hm hi hx ha hv hu ht => exec_templateRefresh_udp h hm hi hx ha hv hu ht
  case templatesDown => exact fun i x a s h hm hi hx ha hv hu hp => exec_templateRefresh_down h hm hi hx ha hv hu hp
  case window => exact fun n due s h hm hn hw hd hc hp => exec_twinBoundary_starts h hm hn hw hd hc hp
  case order => exact fun n s h _ hn hw => exec_twinBoundary h hn hw

end Sys2Proof.Machine

namespace Sys2Proof.Machine

/-! ## Changes of mode, Load and the end of Drain (R63, R77, R80, R86 to R89) -/

/-! ### The fields that these operations may change -/

section updates
variable (s : State) {fs : List Fld}

theorem pins_only (v : Pins) (h : Fld.pins ∈ fs := by decide) : s.changesOnly { s with pins := v } fs :=
  fun f hf => by cases f with | pins => exact absurd h hf | _ => rfl
theorem isl_only (v : Island) (h : Fld.isl ∈ fs := by decide) : s.changesOnly { s with isl := v } fs :=
  fun f hf => by cases f with | isl => exact absurd h hf | _ => rfl
theorem md_only (v : ModeSt) (h : Fld.md ∈ fs := by decide) : s.changesOnly { s with md := v } fs :=
  fun f hf => by cases f with | md => exact absurd h hf | _ => rfl
theorem load_only (v : Load) (h : Fld.load ∈ fs := by decide) : s.changesOnly { s with load := v } fs :=
  fun f hf => by cases f with | load => exact absurd h hf | _ => rfl
theorem sec_only (v : Sec) (h : Fld.sec ∈ fs := by decide) : s.changesOnly { s with sec := v } fs :=
  fun f hf => by cases f with | sec => exact absurd h hf | _ => rfl

end updates

theorem changeMode_only (m : Mode) (cause : Nat) (s : State) {fs : List Fld} (hm : Fld.md ∈ fs := by decide)
    (hs : Fld.events ⊆ fs := by decide) : s.changesOnly (changeMode m cause s) fs :=
  (md_only s _ hm).trans ((changeMode_raised m cause s).frame.only hs)

theorem changeMode_md (m : Mode) (cause : Nat) (s : State) :
    (changeMode m cause s).md = { s.md with mode := m, cause := cause,
                                            drained := if s.md.mode == .drain && m != .drain then false else s.md.drained } :=
  (changeMode_raised m cause s).frame.md

theorem runnerHold_only (s : State) : s.changesOnly (runnerHold s) Fld.runner :=
  (updRun_only _ s).trans ((updRun_only _ _).trans (foldl_only (fun t q => casTimeout_only q t) _ _))

theorem moveMode_only (m : Mode) (cause : Nat) (s : State) : s.changesOnly (moveMode m cause s) (.md :: Fld.runner) :=
  (changeMode_only m cause s).trans (ite_only (.refl _ _) ((runnerHold_only _).mono (by decide)))

theorem moveMode_md (m : Mode) (cause : Nat) (s : State) : (moveMode m cause s).md = (changeMode m cause s).md :=
  (ite_only (.refl _ Fld.runner) (runnerHold_only _) : (changeMode m cause s).changesOnly (moveMode m cause s) Fld.runner) .md (by decide)

theorem tokenOut_only (s : State) {fs : List Fld} (h : Fld.pins ∈ fs := by decide) : s.changesOnly (tokenOut s) fs :=
  ite_only (.refl s fs) (pins_only s _ h)

theorem flashDone_only (s : State) {fs : List Fld} (hp : Fld.pins ∈ fs := by decide) (hl : Fld.load ∈ fs := by decide) :
    s.changesOnly (flashDone s) fs :=
  ((load_only s _ hl).trans (pins_only _ _ hp)).trans (tokenOut_only _ hp)

theorem tokenOut_xspi (s : State) : (tokenOut s).pins.xspiDriven = s.pins.xspiDriven := by
  unfold tokenOut; dsimp only; split <;> rfl

theorem flashDone_load (s : State) : (flashDone s).load = { s.load with done := true } :=
  tokenOut_only (fs := [.pins]) _ (by decide) .load (by decide)

/-! ### A Load that fails (R77, R93, R94) -/

/-- The loader as a failure leaves it. -/
def failedLoad (l : Load) (code step sect detail : Nat) : Load :=
  { l with phase := .idle, ok := false, code := code, step := step, sect := sect, detail := detail, applied := false, image := {},
           dir := none, sig := [], devId := 0, flags := 0, secVersion := 0, buildId := 0 }

/-- A device whose Load has failed, before the event and the change of mode. -/
def loadFailing (code step sect detail : Nat) (s : State) : State :=
  { s with load := failedLoad s.load code step sect detail, sec := { s.sec with policy := false },
           md := { s.md with loadFailed := true } }

theorem loadFail_eq (code step sect detail : Nat) (s : State) :
    loadFail code step sect detail s =
      flashDone (changeMode .maintenance 2 (raise 1 2 noUnit (code * 2 ^ 24 + detail % 2 ^ 24) (loadFailing code step sect detail s))) :=
  rfl

theorem loadFailing_only (code step sect detail : Nat) (s : State) :
    s.changesOnly (loadFailing code step sect detail s) [.md, .load, .sec] :=
  fun f hf => by cases f with | md | load | sec => exact absurd (by decide) hf | _ => rfl

theorem loadFail_only (code step sect detail : Nat) (s : State) :
    s.changesOnly (loadFail code step sect detail s) (Fld.events ++ [.md, .load, .sec, .pins]) :=
  ((loadFailing_only code step sect detail s).mono (by decide)).trans
    ((raise_only _ _ _ _ _).trans ((changeMode_only _ _ _).trans (flashDone_only _)))

theorem loadFail_md (code step sect detail : Nat) (s : State) :
    (loadFail code step sect detail s).md =
      { s.md with mode := .maintenance, cause := 2, loadFailed := true,
                  drained := if s.md.mode = .drain then false else s.md.drained } := by
  rw [loadFail_eq, flashDone_only (fs := [.pins, .load]) _ (by decide) (by decide) .md (by decide), changeMode_md, raise_md]
  simp [loadFailing]

theorem loadFail_load (code step sect detail : Nat) (s : State) :
    (loadFail code step sect detail s).load = { failedLoad s.load code step sect detail with done := true } := by
  rw [loadFail_eq, flashDone_load, changeMode_only (fs := .md :: Fld.events) _ _ _ (by decide) (by decide) .load (by decide), raise_load]
  rfl

/-! ### A Load that begins (R63, R64, R89) -/

/-- The blocks and the host's interface as a warm reload leaves them, before Load begins (R77, R89). -/
def reloaded (cause : Nat) (s : State) : State :=
  { resetHost (resetBlocks (changeMode .load cause s)) with md := { mode := .load, cause := cause } }

theorem sbStop_only (s : State) : s.changesOnly (sbStop s) [.isl] := by
  unfold sbStop; split
  · exact isl_only s _
  · exact .refl s _

theorem warmReload_eq (cause : Nat) (s : State) : warmReload cause s = beginLoad (reloaded cause s) := by
  have hm : (resetHost (resetBlocks (changeMode .load cause s))).md = (changeMode .load cause s).md :=
    sbStop_only (resetBlocks (changeMode .load cause s)) .md (by decide)
  unfold warmReload reloaded
  dsimp only
  rw [hm, changeMode_md]

/-- Step 1 of a Load fails into Maintenance, and otherwise leaves the mode alone. -/
theorem loadStep1_mode (s : State) : (loadStep1 s).md.mode = .maintenance ∨ (loadStep1 s).md = s.md := by
  unfold loadStep1; split
  · exact .inl (congrArg ModeSt.mode (loadFail_md _ _ _ _ _))
  · exact .inr rfl

theorem beginLoad_mode (s : State) : (beginLoad s).md.mode = .maintenance ∨ (beginLoad s).md = s.md := by
  have hm : (tokenOut { s with load := { entered := s.now, phase := .idle } }).md = s.md :=
    tokenOut_only (fs := [.pins]) _ (by decide) .md (by decide)
  unfold beginLoad; dsimp only; split
  · exact .inr hm
  · exact (loadStep1_mode _).imp_right fun h => h.trans hm

theorem warmReload_mode (cause : Nat) (s : State) : (warmReload cause s).md.mode = .maintenance ∨ (warmReload cause s).md.mode = .load := by
  rw [warmReload_eq]
  exact (beginLoad_mode _).imp_right (congrArg ModeSt.mode)

/-! ### The end of Drain (R87, R88) -/

/-- A drained device has moved to its target, or stays drained. -/
theorem drainTarget_settled {cause : Nat} {s : State} (h : s.md.drained = true) : (drainTarget cause s).drainSettled := by
  intro _ hm _
  unfold drainTarget at hm ⊢
  split at hm
  · split at hm
    · rw [moveMode_md, changeMode_md] at hm; cases hm
    · split at hm
      · rcases warmReload_mode cause s with e | e <;> exact absurd (e.symm.trans hm) (by decide)
      · rw [if_pos ‹_›, if_neg ‹_›, if_neg ‹_›]; exact h
  · rw [if_neg ‹_›]; exact h

/-- The end of a command leaves no running device in Drain that holds no packet and is not drained (R87). -/
theorem settle_settled (s : State) : (settle s).drainSettled := by
  unfold settle; split
  · exact drainTarget_settled (by rw [raise_md])
  · rename_i h
    intro hl hm hp
    cases hd : s.md.drained with
    | true => rfl
    | false => exact absurd ⟨hm, hd, hp, hl⟩ h

end Sys2Proof.Machine

namespace Sys2Proof.Machine

/-! ### Every command ends alike (R87) -/

/-- An answer of a command: nothing but State.out has changed, or the end of the command has looked at what it leaves, or there is no
next state. -/
def Ends (s : State) (r : Res) : Prop := ∀ t, r = .next t → t = s.fresh ∨ ∃ u, t = { settle u with pending := s.pending }

theorem finish_ends (s t : State) : Ends s (finish s t) := fun _ h => .inr ⟨t, (Host.Outcome.next.inj h).symm⟩

theorem fresh_ends (s : State) : Ends s (.next s.fresh) := fun _ h => .inl (Host.Outcome.next.inj h).symm

theorem ite_ends {c : Prop} [Decidable c] {s : State} {a b : Res} (ha : Ends s a) (hb : Ends s b) : Ends s (if c then a else b) := by
  split <;> assumption

section frames
variable (f : State → State) (s : State)

theorem coreCmd_ends : Ends s (coreCmd f s) := ite_ends (finish_ends s _) (fresh_ends s)
theorem tbeCmd_ends : Ends s (tbeCmd f s) := ite_ends (fresh_ends s) (finish_ends s _)
theorem islandCmd_ends : Ends s (islandCmd f s) := finish_ends s _
theorem hostCmd_ends (win : Nat) : Ends s (hostCmd win f s) := ite_ends (finish_ends s _) (fresh_ends s)
theorem hostModeCmd_ends : Ends s (hostModeCmd f s) := ite_ends (finish_ends s _) (fresh_ends s)

end frames

theorem refused_ends (s : State) (e : Refusal) : Ends s (.refused e) := fun _ h => by cases h

theorem jtagInstruction_ends (i : JtagInstr) (s : State) : Ends s (execJtagInstruction i s) := by
  cases i with
  | idcode | bypass => rw [execJtagInstruction]; exact islandCmd_ends _ s
  | other => rw [execJtagInstruction]; exact ite_ends (refused_ends s _) (islandCmd_ends _ s)

/-- The commands of the always-on island, and of the pins, the monitors and the debug port beside it. -/
theorem exec_ends_of_island {c : Instr} (h : c.island = true) (s : State) : Ends s (exec c s) := by
  cases c with
  | alarm | bootTknInFall | bootTknInRise | coreRailFall | islandReset | perstNAssert | resetNFall | resetNRise | sourceInactive
  | thermalTrip | vddAonFall | smbTimeout | sbAlertAck | sbDrain | sbEcp | sbEcpAbort | sbHeadless | sbPortAdmin | sbReadLog
  | sbReadReg | sbReload | sbRestart | sbStatus | sbWriteReg => exact islandCmd_ends _ s
  | alertResponse w => show Ends s (execAlertResponse w s); rw [execAlertResponse]; exact islandCmd_ends _ s
  | sbIdentify k q n ok => show Ends s (execSbIdentify k q n ok s); rw [execSbIdentify]; exact islandCmd_ends _ s
  | killBurned b => show Ends s (execKillBurned b s); rw [execKillBurned]; exact islandCmd_ends _ s
  | perstNRelease => show Ends s (execPerstNRelease s); rw [execPerstNRelease]; exact islandCmd_ends _ s
  | responseFetch => show Ends s (execResponseFetch s); rw [execResponseFetch]; exact islandCmd_ends _ s
  | zeroised ok => show Ends s (execZeroised ok s); rw [execZeroised]; exact islandCmd_ends _ s
  | jtagInstruction i => exact jtagInstruction_ends i s
  | _ => cases h

theorem farCmd_ends (t fn : Nat) (f : FarOp → State → State) (s : State) : Ends s (farCmd t fn f s) := coreCmd_ends _ s

/-- Every command runs in one of the frames. -/
theorem exec_ends (c : Instr) (s : State) : Ends s (exec c s) := by
  cases hi : c.island with
  | true => exact exec_ends_of_island hi s
  | false =>
    cases hw : c.hostWindow with
    | some win =>
      obtain ⟨f, hf⟩ := exec_of_hostWindow hw s
      rw [hf]
      exact hostCmd_ends f s win
    | none =>
      cases c with
      | perstNAssert | perstNRelease | alarm | zeroised | killBurned | resetNFall | resetNRise | vddAonFall | islandReset
      | coreRailFall | bootTknInRise | bootTknInFall | responseFetch | alertResponse | smbTimeout | sbIdentify | sbStatus | sbReadReg
      | sbReadLog | sbWriteReg | sbEcp | sbEcpAbort | sbHeadless | sbDrain | sbRestart | sbReload | sbPortAdmin | sbAlertAck
      | thermalTrip | sourceInactive | jtagInstruction => cases hi
      | realign | snap | arm | disarm | copy | asaTest | hmcDlyWrite | marchTest | sweepTest | xprTest | forceOut | lpcPortAdmin
      | cdtFlush | progRoot | jtagDisable | killFuse | resendTemplates | engPreempt | engTest | ringEnable | hostIdx => cases hw
      | attach | hostDrain | hostReload | mgtHeartbeat => exact hostModeCmd_ends _ s
      | holdoverEnter | ppsEdge | refclkLost | refclkRestored | slewIncrement | todMessage => exact tbeCmd_ends _ s
      | farAdmit | farMap | farLbSelect | farPeek | farTouch | farInsertPeer | farDeletePeer | farSvcFail | farTblRead
      | farAsaSearch | farAsaStep => exact farCmd_ends _ _ _ s
      | fseAgeVisit i ue => show Ends s (execFseAgeVisit i ue s); rw [execFseAgeVisit]; exact coreCmd_ends _ s
      | ecpAbort => exact ite_ends (hostCmd_ends _ s _) (coreCmd_ends _ s)
      | _ => exact coreCmd_ends _ s

theorem Ends.settled {s t : State} {r : Res} (h : Ends s r) (hs : s.drainSettled) (e : r = .next t) : t.drainSettled := by
  rcases h t e with rfl | ⟨u, rfl⟩
  · exact hs
  · exact settle_settled u

/-- Settles O4: a step runs a command, or lets a nanosecond pass, in a frame whose end settles Drain. -/
theorem drainSettledIsKept : Obligations.DrainSettledIsKept := by
  intro s t hs ht
  unfold step at ht
  split at ht
  · exact (tbeCmd_ends _ s).settled hs ht
  · next c rest _ => exact (exec_ends c { s with pending := rest }).settled hs ht

/-- Settles O5: the blocks are held in reset then. -/
theorem drainSettledAtReset : Obligations.DrainSettledAtReset := fun hl => by
  rw [show State.reset.live = false from rfl] at hl; cases hl

end Sys2Proof.Machine

namespace Sys2Proof.Machine

/-! ## Mode commands, the watchdog and Drain (R80 to R92) -/

/-! ### What a command answers -/

/-- A command of a running block answers a state that the end of the command leaves alone. -/
theorem coreCmd_live {f : State → State} {s t : State} (hl : s.live = true) (e : f s.fresh = t) (hq : t.quiet)
    (hp : t.pending = s.pending) : coreCmd f s = .next t := by
  subst e; unfold coreCmd; rw [if_pos hl, finish_of_quiet hq hp]

/-- A command of the island does the same. -/
theorem islandCmd_quiet {f : State → State} {s t : State} (e : f s.fresh = t) (hq : t.quiet) (hp : t.pending = s.pending) :
    islandCmd f s = .next t := by
  subst e; exact finish_of_quiet hq hp

/-- What the end of a command makes of a state that waits with the commands that it was given. -/
theorem finish_of_settled {s t u : State} (e : settle t = u) (hp : u.pending = s.pending) : finish s t = .next u := by
  subst e; unfold finish; rw [← hp]

/-- A host write of MGT_MODE_CTL or MGT_HEARTBEAT outside Lockdown has its effect (R83, R91). -/
theorem hostModeCmd_acts {f : State → State} {s : State} (hu : s.hostUp = true) (hm : s.md.mode ≠ .lockdown) :
    hostModeCmd f s = finish s (f s.fresh) := by
  unfold hostModeCmd; rw [if_pos hu, if_neg hm]

theorem hostModeCmd_answers {f : State → State} {s t : State} (hu : s.hostUp = true) (hm : s.md.mode ≠ .lockdown)
    (e : f s.fresh = t) (hq : t.quiet) (hp : t.pending = s.pending) : hostModeCmd f s = .next t := by
  rw [hostModeCmd_acts hu hm, e, finish_of_quiet hq hp]

/-- In Lockdown such a write is ignored and counted (R91). -/
theorem hostModeCmd_lockdown {f : State → State} {s : State} (hu : s.hostUp = true) (hm : s.md.mode = .lockdown) :
    hostModeCmd f s = .next (ignoreWrite 0 (some .bar0) s.fresh) := by
  have hf := ignoreWrite_frame 0 (some .bar0) s.fresh
  unfold hostModeCmd
  rw [if_pos hu, if_pos hm]
  exact finish_of_quiet (fun d => absurd ((congrArg ModeSt.mode hf.md).symm.trans d) (by simp [hm])) hf.pending

/-- Outside Drain the end of a command changes nothing more. -/
theorem quiet_of_mode {s : State} {m : Mode} (h : s.md.mode = m) (hm : m ≠ .drain := by decide) : s.quiet :=
  fun d => absurd (h.symm.trans d) hm

theorem live_of_hostUp {s : State} (h : s.hostUp = true) : s.live = true := (Bool.and_eq_true_iff.mp h).1

/-! ### A device that has drained (R87, R88) -/

/-- DRAINED is set and DRAIN_DONE raised, with the microseconds since Drain began. -/
def drainDone (s : State) : State :=
  raise 0 3 noUnit (sat32 ((s.now - s.md.drainStart) / 1000)) { s with md := { s.md with drained := true } }

theorem drainDone_md (s : State) : (drainDone s).md = { s.md with drained := true } := raise_md _ _ _ _ _

theorem settle_drains {s : State} (h : s.md.mode = .drain ∧ s.md.drained = false ∧ s.holdsPackets = false ∧ s.live = true) :
    settle s = drainTarget 6 (drainDone s) := if_pos h

section target
variable {cause : Nat} {s : State} (hm : s.md.mode = .drain) (hd : s.md.drained = true)

theorem drainTarget_stays (ht : s.md.target = 0) : drainTarget cause s = s := by
  unfold drainTarget; rw [ht]; split <;> rfl

include hm hd

theorem drainTarget_maintenance (ht : s.md.target = 1) : drainTarget cause s = moveMode .maintenance cause s := by
  unfold drainTarget; rw [if_pos ⟨hm, hd⟩, if_pos ht]

theorem drainTarget_load (ht : s.md.target = 2) : drainTarget cause s = warmReload cause s := by
  unfold drainTarget; rw [if_pos ⟨hm, hd⟩, ht]; rfl

end target

/-! ### Records that stay in the log (R451, R453) -/

/-- The record r stands in the log slot of the total T, and at least one and at most n records have been written since T. -/
def State.logged (s : State) (T : Word32) (r : EventRec) (n : Nat) : Prop :=
  s.isl.log.get (T.toNat % 1024) = r ∧ ∃ j, 1 ≤ j ∧ j ≤ n ∧ s.isl.total = T + BitVec.ofNat 32 j

theorem logged_of_log {s t : State} {T : Word32} {r : EventRec} {n : Nat} (h : s.logged T r n) (hl : t.isl.log = s.isl.log)
    (ht : t.isl.total = s.isl.total) : t.logged T r n := by
  unfold State.logged; rw [hl, ht]; exact h

theorem wrapped_logged {s : State} {T : Word32} {r : EventRec} {n : Nat} (h : s.logged T r n) (w : Bool) :
    { s with isl := { s.isl with wrapped := w } }.logged T r n := h

theorem logged_mono {s : State} {T : Word32} {r : EventRec} {n k : Nat} (h : s.logged T r n) (hk : n ≤ k) : s.logged T r k := by
  obtain ⟨hr, j, h1, hj, ht⟩ := h
  exact ⟨hr, j, h1, hj.trans hk, ht⟩

theorem recPut_new (r : EventRec) (s : State) : (recPut r s).logged s.isl.total r 1 := by
  refine ⟨?_, 1, le_rfl, le_rfl, (recPut_log r s).2⟩
  rw [(recPut_log r s).1]
  exact SMap.get_set_self _ _ _

/-- A record takes the next slot, and the log has 1,024. -/
theorem recPut_logged {s : State} {T : Word32} {r : EventRec} {n : Nat} (h : s.logged T r n) (hn : n < 1024) (x : EventRec) :
    (recPut x s).logged T r (n + 1) := by
  obtain ⟨hr, j, h1, hj, ht⟩ := h
  have hne : T.toNat % 1024 ≠ s.isl.total.toNat % 1024 := by
    rw [ht, BitVec.toNat_add, BitVec.toNat_ofNat]
    have := T.isLt
    omega
  refine ⟨?_, j + 1, Nat.le_add_left 1 j, Nat.add_le_add_right hj 1, ?_⟩
  · rw [(recPut_log x s).1, SMap.get_set_ne _ _ hne, hr]
  · rw [(recPut_log x s).2, ht, BitVec.add_assoc]
    congr 1
    rw [BitVec.ofNat_add]
    rfl

theorem recWrite_logged {s : State} {T : Word32} {r : EventRec} {n : Nat} (h : s.logged T r n) (hn : n + 1 < 1024) (x : EventRec) :
    (recWrite x s).logged T r (n + 2) := by
  have h1 := recPut_logged h (Nat.lt_of_succ_lt hn) x
  unfold recWrite; dsimp only; split
  · exact recPut_logged (wrapped_logged h1 true) hn _
  · exact logged_mono h1 (Nat.le_succ _)

theorem recWrite_new (x : EventRec) (s : State) : (recWrite x s).logged s.isl.total x 2 := by
  have h1 := recPut_new x s
  unfold recWrite; dsimp only; split
  · exact recPut_logged (wrapped_logged h1 true) (by decide) _
  · exact logged_mono h1 (Nat.le_succ _)

theorem raise_new (b c u d : Nat) (s : State) : (raise b c u d s).logged s.isl.total (recordOf s b c u d) 2 := recWrite_new _ s

theorem changeMode_logged {s : State} {T : Word32} {r : EventRec} {n : Nat} (h : s.logged T r n) (hn : n + 1 < 1024) (m : Mode)
    (cause : Nat) : (changeMode m cause s).logged T r (n + 2) := recWrite_logged (s := { s with
    isl := { s.isl with wrapped := s.isl.wrapped && s.md.mode != Mode.load },
    md := { s.md with mode := m, cause := cause, drained := if s.md.mode == .drain && m != .drain then false else s.md.drained } }) h hn _

theorem casTimeout_isl (q : CasReq) (s : State) : (casTimeout q s).isl = s.isl := by
  have hc : (count Cnt.ASA_RUN_TIMEOUT (countDegraded s)).isl = s.isl := by
    refine (countA_isl _ _ _ _).trans ?_
    unfold countDegraded; split
    · exact countA_isl _ _ _ _
    · rfl
  unfold casTimeout casDeliver; dsimp only
  split <;> exact hc

theorem runnerHold_isl (s : State) : (runnerHold s).isl = s.isl := by
  have hf (l : List CasReq) (s : State) : (l.foldl (fun s q => casTimeout q s) s).isl = s.isl := by
    induction l generalizing s with
    | nil => rfl
    | cons q l ih => exact (ih _).trans (casTimeout_isl q s)
  exact hf _ _

theorem moveMode_isl (m : Mode) (cause : Nat) (s : State) : (moveMode m cause s).isl = (changeMode m cause s).isl := by
  unfold moveMode; dsimp only; split
  · rfl
  · exact runnerHold_isl _

theorem moveMode_logged {s : State} {T : Word32} {r : EventRec} {n : Nat} (h : s.logged T r n) (hn : n + 1 < 1024) (m : Mode)
    (cause : Nat) : (moveMode m cause s).logged T r (n + 2) :=
  logged_of_log (changeMode_logged h hn m cause) (congrArg Island.log (moveMode_isl m cause s))
    (congrArg Island.total (moveMode_isl m cause s))

theorem loadFail_logged (code step sect detail : Nat) (s : State) :
    (loadFail code step sect detail s).isl.log.get (s.isl.total.toNat % 1024) =
      recordOf s 1 2 noUnit (code * 2 ^ 24 + detail % 2 ^ 24) := by
  have h := changeMode_logged (raise_new 1 2 noUnit (code * 2 ^ 24 + detail % 2 ^ 24) (loadFailing code step sect detail s))
    (by decide) .maintenance 2
  rw [loadFail_eq, flashDone_only (fs := [.pins, .load]) _ (by decide) (by decide) .isl (by decide)]
  exact h.1

/-! ### A warm reload with a root hash and no pending Scorch (R63, R89) -/

theorem sbStop_isl (s : State) : ∃ b r, (sbStop s).isl = { s.isl with busy := b, resp := r } := by
  unfold sbStop; split
  · exact ⟨_, _, rfl⟩
  · exact ⟨s.isl.busy, s.isl.resp, rfl⟩

/-- A Load that does not end at step 1 waits for the token. -/
theorem beginLoad_waits {s : State} (hr : s.otp.rootHash ≠ 0) (hs : s.isl.scorchPending = false) :
    beginLoad s = { tokenOut { s with load := { entered := s.now, phase := .idle } } with
                    load := { entered := s.now, phase := .wait, step := 2 } } := by
  have ht := tokenOut_only (fs := [.pins]) { s with load := { entered := s.now, phase := .idle } } (by decide)
  have ho : (tokenOut { s with load := { entered := s.now, phase := .idle } }).otp = s.otp := ht .otp (by decide)
  have hi : (tokenOut { s with load := { entered := s.now, phase := .idle } }).isl = s.isl := ht .isl (by decide)
  have hl : (tokenOut { s with load := { entered := s.now, phase := .idle } }).load = { entered := s.now, phase := .idle } :=
    ht .load (by decide)
  unfold beginLoad loadStep1
  dsimp only
  rw [hi, ho, hl, hs, if_neg Bool.false_ne_true, if_neg hr]

theorem beginLoad_waits_only {s : State} (hr : s.otp.rootHash ≠ 0) (hs : s.isl.scorchPending = false) :
    s.changesOnly (beginLoad s) [.load, .pins] := by
  rw [beginLoad_waits hr hs]
  exact ((load_only s _).trans (tokenOut_only _)).trans (load_only _ _)

/-- What a warm reload resets beside the blocks, with the mode and the loader. -/
def Fld.reload : List Fld :=
  [.md, .isl, .regs, .cnt, .lim, .ecp, .cdt, .ring, .msix, .hostShadow, .sbShadow, .hostStamp, .sbStamp, .temp, .sec, .load, .pins]

theorem reloaded_only (cause : Nat) (s : State) :
    (resetBlocks (changeMode .load cause s)).changesOnly (reloaded cause s) Fld.reload := by
  refine (sbStop_only _).mono (by decide) |>.trans fun f hf => ?_
  cases f with
  | md | isl | regs | cnt | lim | ecp | cdt | ring | msix | hostShadow | sbShadow | hostStamp | sbStamp | temp | sec | load | pins =>
    exact absurd (by decide) hf
  | _ => rfl

theorem reloaded_otp (cause : Nat) (s : State) : (reloaded cause s).otp = s.otp :=
  (reloaded_only cause s .otp (by decide)).trans (changeMode_only (fs := .md :: Fld.events) .load cause s (by decide) (by decide) .otp (by decide))

theorem reloaded_scorchPending (cause : Nat) (s : State) : (reloaded cause s).isl.scorchPending = s.isl.scorchPending := by
  obtain ⟨b, r, h⟩ := sbStop_isl (resetBlocks (changeMode .load cause s))
  obtain ⟨_, _, _, _, _, _, _, _, _, e⟩ := (changeMode_raised .load cause s).frame
  refine (congrArg Island.scorchPending h).trans ?_
  show (changeMode .load cause s).isl.scorchPending = _
  rw [e]

section reload
variable {cause : Nat} {s : State} (hr : s.otp.rootHash ≠ 0) (hs : s.isl.scorchPending = false)
include hr hs

theorem warmReload_waits_only : (reloaded cause s).changesOnly (warmReload cause s) [.load, .pins] := by
  rw [warmReload_eq]
  exact beginLoad_waits_only (by rwa [reloaded_otp]) (by rwa [reloaded_scorchPending])

theorem warmReload_only : (resetBlocks (changeMode .load cause s)).changesOnly (warmReload cause s) Fld.reload :=
  (reloaded_only cause s).trans ((warmReload_waits_only hr hs).mono (by decide))

theorem warmReload_md : (warmReload cause s).md = { mode := .load, cause := cause } := warmReload_waits_only hr hs .md (by decide)

theorem warmReload_tbe : (warmReload cause s).tbe = s.tbe :=
  (warmReload_only hr hs .tbe (by decide)).trans (changeMode_only (fs := .md :: Fld.events) .load cause s (by decide) (by decide) .tbe (by decide))

theorem warmReload_load : (warmReload cause s).load = { entered := s.now, phase := .wait, step := 2 } := by
  have ht := warmReload_tbe hr hs (cause := cause)
  have e : (reloaded cause s).tbe = s.tbe := (warmReload_waits_only hr hs .tbe (by decide)).symm.trans ht
  rw [warmReload_eq, beginLoad_waits (by rwa [reloaded_otp]) (by rwa [reloaded_scorchPending])]
  simp [State.now, e]

theorem warmReload_pending : (warmReload cause s).pending = s.pending :=
  (warmReload_only hr hs .pending (by decide)).trans
    (changeMode_only (fs := .md :: Fld.events) .load cause s (by decide) (by decide) .pending (by decide))

end reload

end Sys2Proof.Machine

namespace Sys2Proof.Machine

/-! ## ATTACH and the heartbeat watchdog (R82, R85) -/

/-! ### ATTACH (R85, R91, R92) -/

theorem modeCtl_attach (s : State) :
    modeCtl 2 s = if s.md.mode = .headless then enterService 4 (setRefused false (setReg Reg.MGT_MODE_CTL 0 s))
      else setRefused true (setReg Reg.MGT_MODE_CTL 0 s) := rfl

/-- What a refused ATTACH leaves (R92). -/
def attachRefused (s : State) : State :=
  { s.fresh with regs := s.regs.set Reg.MGT_MODE_CTL 0, md := { s.md with refused := true } }

theorem modeCtl_attach_refused {s : State} (h : s.md.mode ≠ .headless) : modeCtl 2 s.fresh = attachRefused s := by
  rw [modeCtl_attach]; exact if_neg h

/-- Entry into Service outside Drain, with the watchdog armed (R82, R85). -/
theorem enterService_raised_of {s : State} (cause : Nat) (h : s.md.mode ≠ .drain) :
    Raised 0 1 noUnit (1 + 256 * s.md.mode.code + 65536 * cause)
      { s with md := { s.md with mode := .service, cause := cause, hbLast := s.now } } (enterService cause s) := by
  have g := enterService_raised cause s
  rwa [if_neg (by simp [h])] at g

theorem exec_attach_headless {s : State} (hu : s.hostUp = true) (hm : s.md.mode = .headless) :
    ∃ t, exec .attach s = .next t ∧
      Raised 0 1 noUnit 0x040201
        { s.fresh with
          regs := s.regs.set Reg.MGT_MODE_CTL 0,
          md := { s.md with mode := .service, cause := 4, refused := false, hbLast := s.now } } t := by
  have hn : s.md.mode ≠ .lockdown := by rw [hm]; decide
  have e : modeCtl 2 s.fresh = enterService 4 (setRefused false (setReg Reg.MGT_MODE_CTL 0 s.fresh)) := by
    rw [modeCtl_attach]; exact if_pos hm
  have h := enterService_raised_of (s := setRefused false (setReg Reg.MGT_MODE_CTL 0 s.fresh)) 4
    (by show s.md.mode ≠ _; rw [hm]; decide)
  rw [show (setRefused false (setReg Reg.MGT_MODE_CTL 0 s.fresh)).md.mode = .headless from hm] at h
  exact ⟨_, hostModeCmd_answers hu hn e (quiet_of_mode (m := .service) (congrArg ModeSt.mode h.frame.md)) h.frame.pending, h⟩

theorem exec_attach_refused {s : State} (hu : s.hostUp = true) (hh : s.md.mode ≠ .headless) (hl : s.md.mode ≠ .lockdown)
    (hq : s.quiet) : exec .attach s = .next (attachRefused s) :=
  hostModeCmd_answers hu hl (modeCtl_attach_refused hh) hq rfl

theorem drainTarget_mode (cause : Nat) (s : State) :
    (drainTarget cause s).md.mode = s.md.mode ∨ (drainTarget cause s).md.mode = .maintenance ∨
      (drainTarget cause s).md.mode = .load := by
  unfold drainTarget; split
  · split
    · exact .inr (.inl (by rw [moveMode_md, changeMode_md]))
    · split
      · exact .inr (warmReload_mode _ _)
      · exact .inl rfl
  · exact .inl rfl

/-- The end of a command keeps the mode, or leaves Drain for its target (R88). -/
theorem settle_mode (s : State) : (settle s).md.mode = s.md.mode ∨ (settle s).md.mode = .maintenance ∨ (settle s).md.mode = .load := by
  by_cases h : s.md.mode = .drain ∧ s.md.drained = false ∧ s.holdsPackets = false ∧ s.live = true
  · rw [settle_drains h]
    exact (drainTarget_mode 6 (drainDone s)).imp_left fun e => e.trans (by rw [drainDone_md])
  · exact .inl (congrArg (fun t : State => t.md.mode) (if_neg h))

/-- ATTACH enters Service from Headless alone (R85). -/
theorem exec_attach_not_service {s : State} (hh : s.md.mode ≠ .headless) (hs : s.md.mode ≠ .service) :
    ∃ t, exec .attach s = .next t ∧ t.md.mode ≠ .service := by
  by_cases hu : s.hostUp = true
  · by_cases hl : s.md.mode = .lockdown
    · exact ⟨_, hostModeCmd_lockdown hu hl, by rw [(ignoreWrite_frame _ _ _).md]; exact hs⟩
    · refine ⟨_, (hostModeCmd_acts hu hl).trans (congrArg (finish s) (modeCtl_attach_refused hh)), ?_⟩
      rcases settle_mode (attachRefused s) with e | e | e
      · exact fun k => hs (e.symm.trans k)
      · exact fun k => absurd (e.symm.trans k) (by decide)
      · exact fun k => absurd (e.symm.trans k) (by decide)
  · exact ⟨_, if_neg hu, hs⟩

/-- Settles O11: by the mode in which ATTACH arrives. -/
theorem attachReturnsToService : Obligations.AttachReturnsToService := by
  refine ⟨?headless, ?refused, ?drain, ?service, ?lockdown⟩
  case headless => exact fun s hu hm => exec_attach_headless hu hm
  case refused => exact fun s hu hh hl hd => exec_attach_refused hu hh hl fun d => absurd d hd
  case drain =>
    intro s hu hm hq
    exact exec_attach_refused hu (by rw [hm]; decide) (by rw [hm]; decide) fun _ => hq
  case service => exact fun s hh hs => exec_attach_not_service hh hs
  case lockdown => exact fun s hu hm => hostModeCmd_lockdown hu hm

/-! ### The watchdog (R72, R82) -/

theorem exec_mgtHeartbeat {s : State} (v : Word32) (hu : s.hostUp = true) (hm : s.md.mode ≠ .lockdown) (hq : s.quiet) :
    exec (.mgtHeartbeat v) s = .next { s.fresh with md := { s.md with hbLast := s.now } } :=
  hostModeCmd_answers hu hm rfl hq rfl

theorem enterService_md (cause : Nat) (s : State) :
    (enterService cause s).md.mode = .service ∧ (enterService cause s).md.hbLast = s.now := by
  have h := (enterService_raised cause s).frame.md
  exact ⟨congrArg ModeSt.mode h, congrArg ModeSt.hbLast h⟩

theorem doHbExpired_expires {s : State} (hm : s.md.mode = .service) (hn : s.regF Reg.MGT_HB_CFG 15 0 ≠ 0) :
    doHbExpired s = changeMode .headless 3 (raise 0 2 noUnit (s.regF Reg.MGT_HB_CFG 15 0)
      (runTo (s.md.hbLast + s.regF Reg.MGT_HB_CFG 15 0 * 1000000) s)) := if_pos ⟨hm, hn⟩

theorem exec_hbExpired {s : State} (hl : s.live = true) (hm : s.md.mode = .service) (hn : s.regF Reg.MGT_HB_CFG 15 0 ≠ 0) :
    exec .hbExpired s = .next (changeMode .headless 3 (raise 0 2 noUnit (s.regF Reg.MGT_HB_CFG 15 0)
      { s.fresh with tbe := { s.tbe with st := max s.tbe.st (s.md.hbLast + s.regF Reg.MGT_HB_CFG 15 0 * 1000000) } })) := by
  refine coreCmd_live hl (doHbExpired_expires (s := s.fresh) hm hn) ?_ ?_
  · exact quiet_of_mode (m := .headless) (by rw [changeMode_md])
  · exact (changeMode_raised _ _ _).frame.pending.trans (raise_pending _ _ _ _ _)

/-- Outside Service, or with no time-out set, the watchdog does nothing (R72, R82). -/
theorem exec_hbExpired_rests {s : State} (h : s.md.mode ≠ .service ∨ s.regF Reg.MGT_HB_CFG 15 0 = 0) (hq : s.quiet) :
    exec .hbExpired s = .next s.fresh := by
  by_cases hl : s.live = true
  · exact coreCmd_live hl (if_neg fun k => h.elim (fun m => m k.1) (fun n => k.2 n)) hq rfl
  · exact coreCmd_held (Bool.eq_false_iff.mpr hl)

/-- Settles O12: the heartbeat, the entry to Service, and the expiry by the mode and the time-out. -/
theorem heartbeatWatchdog : Obligations.HeartbeatWatchdog := by
  refine ⟨?beat, ?drain, enterService_md, ?expires, ?outside, ?off, ?outsideDrain⟩
  case beat => exact fun v s hu hl hd => exec_mgtHeartbeat v hu hl fun d => absurd d hd
  case drain => exact fun v s hu hm hq => exec_mgtHeartbeat v hu (by rw [hm]; decide) fun _ => hq
  case expires => exact fun s hl hm hn => exec_hbExpired hl hm hn
  case outside => exact fun s hs hd => exec_hbExpired_rests (.inl hs) fun d => absurd d hd
  case off => exact fun s hm h0 => exec_hbExpired_rests (.inr h0) (quiet_of_service hm)
  case outsideDrain => exact fun s hm hq => exec_hbExpired_rests (.inl (by rw [hm]; decide)) fun _ => hq

end Sys2Proof.Machine

namespace Sys2Proof.Machine

/-! ## Packets that are discarded (R87, R101, R102, R336 to R341) -/

/-! ### The fields that a discard may change -/

/-- What a discard of packets touches: records and counts, the buffers, tails and credits, queues' deficits and express queues. -/
def Fld.discard : List Fld := Fld.events ++ [.buf, .swc, .tms, .pod]

section discard
variable (s : State)

theorem updBuf_only (f : BufSt → BufSt) {fs : List Fld} (h : Fld.buf ∈ fs := by decide) : s.changesOnly (updBuf f s) fs :=
  buf_only s _ h

theorem updPod_only (f : PodSt → PodSt) {fs : List Fld} (h : Fld.pod ∈ fs := by decide) : s.changesOnly (updPod f s) fs :=
  fun x hx => by cases x with | pod => exact absurd h hx | _ => rfl

theorem updSwc_only (f : SwcSt → SwcSt) {fs : List Fld} (h : Fld.swc ∈ fs := by decide) : s.changesOnly (updSwc f s) fs :=
  swc_only s _ h

theorem freeReserve_stages (n : Nat) : s.changesOnly (freeReserve n s) [.buf, .swc] := by
  unfold freeReserve; dsimp only
  exact ite_only (.refl s _) (buf_swc_only s _ _)

theorem dropTail_stages (t : Option Nat) : s.changesOnly (dropTail t s) [.buf, .swc] := by
  unfold dropTail; split
  · exact .refl s _
  · exact (freeReserve_stages s _).trans (buf_swc_only _ _ _)

theorem leaveQueue_only (leaf : Bool) (q : Nat) (it : QItem) : s.changesOnly (leaveQueue leaf q it s) [.buf, .tms] := by
  rw [leaveQueue_eq]
  exact (updBuf_only s _).trans (((freedTier_only it _).mono (by decide)).trans ((emptiedQueue_only leaf q _).mono (by decide)))

theorem rejectFree_only (c a r n p i : Nat) : s.changesOnly (rejectFree c a r n p i s) Fld.discard :=
  (updBuf_only s _).trans ((count_only _ _).trans (raiseLim_only _ _ _ _ _ _ _))

theorem poolReturn_only (k i : Nat) : s.changesOnly (poolReturn k i s) Fld.discard := updBuf_only s _

theorem clearBuf_only (k i : Nat) : s.changesOnly (clearBuf k i s) Fld.discard := by
  unfold clearBuf; dsimp only
  refine ((updBuf_only s _).trans (count_only _ _)).trans (ite_only (count_only _ _) (ite_only ?_ (poolReturn_only _ k i)))
  exact (updBuf_only _ _).trans ((updBuf_only _ _).trans (count_only _ _))

theorem bpmFree_only (c a : Nat) : s.changesOnly (bpmFree c a s).2 Fld.discard := by
  unfold bpmFree
  split
  · exact rejectFree_only s _ _ _ _ _ _
  · dsimp only
    split_ifs
    · exact rejectFree_only s _ _ _ _ _ _
    · exact rejectFree_only s _ _ _ _ _ _
    · exact rejectFree_only s _ _ _ _ _ _
    · exact clearBuf_only s _ _

theorem breakChain_only (leaf : Bool) (q : Nat) : s.changesOnly (breakChain leaf q s) Fld.discard := by
  unfold breakChain; dsimp only
  exact (updBuf_only s _).trans (((emptiedQueue_only leaf q _).mono (by decide)).trans
    ((count_only _ _).trans ((countA_only _ _ _ _).trans ((raise_only _ _ _ _ _).trans (updBuf_only _ _)))))

theorem flushItems_only (leaf : Bool) (q n : Nat) : s.changesOnly (flushItems leaf q n s) Fld.discard := by
  induction n generalizing s with
  | zero => exact .refl s _
  | succ n ih =>
    unfold flushItems
    split
    · exact .refl s _
    · next it _ =>
      refine ite_only ((breakChain_only s leaf q).trans (ih _)) ?_
      have h : s.changesOnly (dropTail it.pkt.tail (leaveQueue leaf q it s)) Fld.discard :=
        ((leaveQueue_only s leaf q it).mono (by decide)).trans ((dropTail_stages _ _).mono (by decide))
      refine State.changesOnly.trans ?_ (ih _)
      split
      · exact h.trans (bpmFree_only _ _ _)
      · exact h

theorem flushQueue_only (leaf : Bool) (q : Nat) : s.changesOnly (flushQueue leaf q s) Fld.discard := flushItems_only s leaf q _

theorem reclaimDone_only (unread : List Nat) : s.changesOnly (doReclaimDone unread s) Fld.discard := by
  unfold doReclaimDone
  split
  · exact .refl s _
  · refine ite_only (.refl s _) ?_
    extract_lets s1 mute hit bad s2 s3
    have h1 : s.changesOnly s1 Fld.discard := updBuf_only s _
    have h2 : s1.changesOnly s2 Fld.discard := foldl_only (fun t c => (clearBuf_only t _ _).trans (count_only _ _)) _ _
    have h3 : s2.changesOnly s3 Fld.discard := foldl_only (fun t c => (updBuf_only t _).trans (count_only _ _)) _ _
    exact h1.trans (h2.trans (h3.trans (raise_only _ _ _ _ _)))

theorem finishSweeps_only : s.changesOnly (finishSweeps s) Fld.discard := foldl_only (fun t _ => reclaimDone_only t []) _ s

theorem returnCredits_only (d : Nat) : s.changesOnly (returnCredits d s) [.swc] :=
  ite_only (.refl s _) ((updSwc_only s _).trans (updSwc_only _ _))

end discard

/-! ### Packets under reception (R325, R338) -/

/-- Cells under reception, charged cells, reservations and tails may change; what waits in the queues stays. -/
def stagesOnly (s t : State) : Prop :=
  ∃ u g w, t = { s with buf := { s.buf with used := u, stage := g }, swc := { s.swc with tails := w } }

theorem stagesOnly.refl (s : State) : stagesOnly s s := ⟨s.buf.used, s.buf.stage, s.swc.tails, rfl⟩

theorem stagesOnly.trans {s t u : State} (h : stagesOnly s t) (g : stagesOnly t u) : stagesOnly s u := by
  obtain ⟨_, _, _, rfl⟩ := h
  obtain ⟨_, _, _, rfl⟩ := g
  exact ⟨_, _, _, rfl⟩

theorem stagesOnly.only {s t : State} (h : stagesOnly s t) : s.changesOnly t [.buf, .swc] := by
  obtain ⟨_, _, _, rfl⟩ := h
  exact buf_swc_only s _ _

theorem foldl_stages {α : Type} {g : State → α → State} (h : ∀ (s : State) (x : α), stagesOnly s (g s x)) (l : List α) (s : State) :
    stagesOnly s (l.foldl g s) := by
  induction l generalizing s with
  | nil => exact .refl s
  | cons x l ih => exact (h s x).trans (ih _)

theorem subStage_stagesOnly (p n : Nat) (s : State) : stagesOnly s (subStage p n s) := ⟨s.buf.used, _, s.swc.tails, rfl⟩
theorem freeCharge_stagesOnly (p c n : Nat) (s : State) : stagesOnly s (freeCharge p c n s) := ⟨_, s.buf.stage, s.swc.tails, rfl⟩

theorem freeReserve_stagesOnly (n : Nat) (s : State) : stagesOnly s (freeReserve n s) := by
  unfold freeReserve; dsimp only; split
  · exact .refl s
  · exact ⟨_, s.buf.stage, _, rfl⟩

theorem dropTail_stagesOnly (t : Option Nat) (s : State) : stagesOnly s (dropTail t s) := by
  unfold dropTail; split
  · exact .refl s
  · next n =>
    exact (freeReserve_stagesOnly n s).trans ⟨(freeReserve n s).buf.used, _, _, rfl⟩

/-- A packet under reception for the named queues. -/
def stagedFor (leaf : Bool) (p : Nat → Bool) (t : Staged) : Bool := t.leaf == leaf && p t.queue

/-- The requests of packets under reception for the named queues are taken off a pool's list. -/
def flushPool (leaf : Bool) (p : Nat → Bool) (k : Nat) (s : State) : State :=
  updPool k (fun x => { x with reqs := x.reqs.filter (fun r => !stagedFor leaf p r.item) })
    (((s.buf.pools.get k).reqs.filter (fun r => stagedFor leaf p r.item)).foldl (fun s r => subStage r.item.inp r.item.cells s) s)

theorem flushStaged_eq (leaf : Bool) (p : Nat → Bool) (s : State) :
    flushStaged leaf p s = (List.range 4).foldl (fun s k => flushPool leaf p k s)
      (updBuf (fun b => { b with staged := b.staged.filter (fun t => !stagedFor leaf p t) })
        ((s.buf.staged.filter (stagedFor leaf p)).foldl (fun s t => dropTail t.pkt.tail (subStage t.inp t.cells s)) s)) := rfl

/-- What waits in the queues of PBF and for a sweep, and the packets under reception. -/
def State.waits (s : State) : SMap PQueue × SMap PQueue × List Sweep × List Staged := (s.buf.voq, s.buf.leaf, s.buf.sweeps, s.buf.staged)

theorem stagesOnly.waits {s t : State} (h : stagesOnly s t) : t.waits = s.waits := by
  obtain ⟨_, _, _, rfl⟩ := h; rfl

theorem flushPool_waits (leaf : Bool) (p : Nat → Bool) (k : Nat) (s : State) : (flushPool leaf p k s).waits = s.waits :=
  (foldl_stages (fun t (r : BufReq) => subStage_stagesOnly r.item.inp r.item.cells t) _ s).waits

theorem flushPool_only (leaf : Bool) (p : Nat → Bool) (k : Nat) (s : State) : s.changesOnly (flushPool leaf p k s) [.buf, .swc] :=
  (foldl_stages (fun t (r : BufReq) => subStage_stagesOnly r.item.inp r.item.cells t) _ s).only.trans (updBuf_only _ _)

theorem flushStaged_only (leaf : Bool) (p : Nat → Bool) (s : State) : s.changesOnly (flushStaged leaf p s) [.buf, .swc] := by
  rw [flushStaged_eq]
  refine State.changesOnly.trans ?_ (foldl_only (fun t k => flushPool_only leaf p k t) _ _)
  exact (foldl_only (fun t x => ((updBuf_only t _).trans (dropTail_stages _ _))) _ s).trans (updBuf_only _ _)

/-- A flush takes the packets under reception for its queues, and leaves every other. -/
theorem flushStaged_waits (leaf : Bool) (p : Nat → Bool) (s : State) :
    (flushStaged leaf p s).waits =
      (s.buf.voq, s.buf.leaf, s.buf.sweeps, s.buf.staged.filter (fun t => !stagedFor leaf p t)) := by
  have hp (l : List Nat) (s : State) : (l.foldl (fun s k => flushPool leaf p k s) s).waits = s.waits := by
    induction l generalizing s with
    | nil => rfl
    | cons k l ih => exact (ih _).trans (flushPool_waits leaf p k s)
  have hs := (foldl_stages (fun s (t : Staged) => (subStage_stagesOnly t.inp t.cells s).trans (dropTail_stagesOnly t.pkt.tail _))
    (s.buf.staged.filter (stagedFor leaf p)) s).waits
  rw [flushStaged_eq, hp]
  simp only [State.waits, Prod.mk.injEq] at hs ⊢
  obtain ⟨hv, hl, hw, hg⟩ := hs
  exact ⟨hv, hl, hw, congrArg (List.filter _) hg⟩

end Sys2Proof.Machine

namespace Sys2Proof.Machine

/-! ## Host mode commands and the drain timeout (R80, R86 to R89) -/

/-! ### Every packet held is discarded (R87, R338, R368) -/

/-- The packets of the virtual output queues, and of the leaf queues, with those under reception for them. -/
def flushVoqs (s : State) : State :=
  (s.buf.voq.cells.map Prod.fst).foldl (fun s q => flushQueue false q s) (flushStaged false (fun _ => true) s)
def flushLeaves (s : State) : State :=
  (s.buf.leaf.cells.map Prod.fst).foldl (fun s q => flushQueue true q s) (flushStaged true (fun _ => true) s)

/-- The cells and tails of the packets at recirculation, in the receive queues, in the transmit FIFOs and in the express queues. -/
def releaseRecirc (s : State) : State :=
  s.swc.recirc.cells.foldl (fun s c => c.2.foldl (fun s p => freeCharge 11 (p.cls % 8) (pktCells p) s) s) s
def releaseRxq (s : State) : State :=
  s.swc.rxq.cells.foldl (fun s c => c.2.foldl (fun s p =>
    if p.tail.isSome then dropTail p.tail s else subStage (4 + c.1 / 4) (pktCells p) s) s) s
def releaseFifo (s : State) : State := s.tms.fifo.cells.foldl (fun s c => c.2.foldl (fun s p => dropTail p.tail s) s) s
def releaseExq (s : State) : State := s.pod.exq.cells.foldl (fun s c => c.2.foldl (fun s f => dropTail f.tail s) s) s
def releaseHeld (s : State) : State := releaseExq (releaseFifo (releaseRxq (releaseRecirc s)))

/-- The queues of the switch core are empty, and the express packets not yet in cells are gone. -/
def clearFabric (s : State) : State :=
  updSwc (fun w => { w with
    recirc := {}, rxq := {},
    xfers := w.xfers.filter (fun x => x.tail.isSome || decide (x.queue = 10000 ∨ (10016 ≤ x.queue ∧ x.queue < 10040))),
    peers := w.peers.mapAll (fun p => { p with tx := p.tx.upd 8 (fun t => { t with pkts := t.pkts.filter (fun k => !k.fresh) }) }) }) s

/-- The sweeps that wait have run, and unused credits are given back. -/
def returnAll (s : State) : State := (s.swc.peers.cells.map Prod.fst).foldl (fun s d => returnCredits d s) (finishSweeps s)

theorem discardAll_eq (s : State) :
    discardAll s = updPod (fun p => { p with frames := [], exq := {} }) (updTms (fun t => { t with fifo := {} })
      (returnAll (clearFabric (releaseHeld (flushLeaves (flushVoqs s)))))) := rfl

theorem foldl_foldl_stages {α β : Type} {g : α → State → β → State} (h : ∀ (a : α) (s : State) (x : β), stagesOnly s (g a s x))
    (l : List (α × List β)) (s : State) : stagesOnly s (l.foldl (fun s c => c.2.foldl (g c.1) s) s) :=
  foldl_stages (fun s c => foldl_stages (h c.1) c.2 s) l s

theorem releaseHeld_stagesOnly (s : State) : stagesOnly s (releaseHeld s) := by
  have h1 : stagesOnly s (releaseRecirc s) :=
    foldl_foldl_stages (fun _ t (p : Pkt) => freeCharge_stagesOnly 11 (p.cls % 8) (pktCells p) t) _ s
  have h2 (s : State) : stagesOnly s (releaseRxq s) := by
    unfold releaseRxq
    refine foldl_stages (fun t c => foldl_stages (fun u (p : Pkt) => ?_) (Prod.snd c) t) _ s
    split
    · exact dropTail_stagesOnly p.tail u
    · exact subStage_stagesOnly (4 + c.1 / 4) (pktCells p) u
  have h3 (s : State) : stagesOnly s (releaseFifo s) := foldl_foldl_stages (fun _ t (p : Pkt) => dropTail_stagesOnly p.tail t) _ s
  have h4 (s : State) : stagesOnly s (releaseExq s) := foldl_foldl_stages (fun _ t (f : ExpFrame) => dropTail_stagesOnly f.tail t) _ s
  exact h1.trans ((h2 _).trans ((h3 _).trans (h4 _)))

theorem discardAll_only (s : State) : s.changesOnly (discardAll s) Fld.discard := by
  have hv : s.changesOnly (flushVoqs s) Fld.discard :=
    ((flushStaged_only false _ s).mono (by decide)).trans (foldl_only (fun t q => flushQueue_only t false q) _ _)
  have hl (s : State) : s.changesOnly (flushLeaves s) Fld.discard :=
    ((flushStaged_only true _ s).mono (by decide)).trans (foldl_only (fun t q => flushQueue_only t true q) _ _)
  have hc (s : State) : s.changesOnly (returnAll (clearFabric (releaseHeld s))) Fld.discard :=
    ((releaseHeld_stagesOnly s).only.mono (by decide)).trans ((updSwc_only _ _).trans
      ((finishSweeps_only _).trans (foldl_only (fun t d => (returnCredits_only t d).mono (by decide)) _ _)))
  rw [discardAll_eq]
  exact hv.trans ((hl _).trans ((hc _).trans ((updTms_only _ _).trans (updPod_only _ _))))

theorem returnCredits_peers (d : Nat) (s : State) : ∃ p, returnCredits d s = { s with swc := { s.swc with peers := p } } := by
  unfold returnCredits; dsimp only; split
  · exact ⟨s.swc.peers, rfl⟩
  · exact ⟨_, rfl⟩

theorem foldl_returnCredits_peers (l : List Nat) (s : State) :
    ∃ p, l.foldl (fun s d => returnCredits d s) s = { s with swc := { s.swc with peers := p } } := by
  induction l generalizing s with
  | nil => exact ⟨s.swc.peers, rfl⟩
  | cons d l ih =>
    obtain ⟨p, hp⟩ := returnCredits_peers d s
    obtain ⟨q, hq⟩ := ih (returnCredits d s)
    exact ⟨q, by rw [List.foldl_cons, hq, hp]⟩

/-- With no sweep waiting only credits are given back. -/
theorem returnAll_of_no_sweeps {s : State} (h : s.buf.sweeps = []) : ∃ p, returnAll s = { s with swc := { s.swc with peers := p } } := by
  have e : finishSweeps s = s := by unfold finishSweeps; rw [h, List.foldl_nil]
  unfold returnAll; rw [e]
  exact foldl_returnCredits_peers _ s

theorem waits_iff {s : State} {v l : SMap PQueue} {w : List Sweep} {g : List Staged} :
    s.waits = (v, l, w, g) ↔ s.buf.voq = v ∧ s.buf.leaf = l ∧ s.buf.sweeps = w ∧ s.buf.staged = g := by
  simp only [State.waits, Prod.mk.injEq]

section empty
variable {s : State} (hv : s.buf.voq = {}) (hl : s.buf.leaf = {}) (hw : s.buf.sweeps = [])
include hv hl hw

/-- With no packet in a queue the flushes take what is under reception alone. -/
theorem flushed_of_empty :
    s.changesOnly (flushLeaves (flushVoqs s)) [.buf, .swc] ∧ (flushLeaves (flushVoqs s)).waits = ({}, {}, [], []) := by
  have none (m : SMap PQueue) (h : m = {}) : m.cells.map Prod.fst = [] := by rw [h]; rfl
  have ev : flushVoqs s = flushStaged false (fun _ => true) s := by
    unfold flushVoqs; rw [none _ hv, List.foldl_nil]
  have w1 := flushStaged_waits false (fun _ => true) s
  rw [hv, hl, hw] at w1
  obtain ⟨e1, hleaf, e3, e4⟩ := waits_iff.mp w1
  have el : flushLeaves (flushVoqs s) = flushStaged true (fun _ => true) (flushStaged false (fun _ => true) s) := by
    rw [ev]; unfold flushLeaves; rw [none _ hleaf, List.foldl_nil]
  have w2 := flushStaged_waits true (fun _ => true) (flushStaged false (fun _ => true) s)
  rw [el]
  obtain ⟨f1, f2, f3, f4⟩ := waits_iff.mp w2
  refine ⟨(flushStaged_only _ _ s).trans (flushStaged_only _ _ _),
    waits_iff.mpr ⟨f1.trans e1, f2.trans hleaf, f3.trans e3, f4.trans ?_⟩⟩
  rw [e4, List.filter_filter, List.filter_eq_nil_iff]
  intro t _
  cases h : t.leaf <;> simp [stagedFor, h]

/-- With no packet in a queue and no sweep waiting, what is discarded leaves the log alone. -/
theorem discardAll_of_empty :
    s.changesOnly (discardAll s) [.buf, .swc, .tms, .pod] ∧ (discardAll s).buf.staged = [] ∧ (discardAll s).swc.recirc = {} ∧
      (discardAll s).swc.rxq = {} := by
  obtain ⟨hf, hs⟩ := flushed_of_empty hv hl hw
  have hr := releaseHeld_stagesOnly (flushLeaves (flushVoqs s))
  rw [discardAll_eq]
  generalize releaseHeld (flushLeaves (flushVoqs s)) = u at hr ⊢
  obtain ⟨-, -, hsw, hst⟩ := waits_iff.mp (hr.waits.trans hs)
  obtain ⟨p, hp⟩ := returnAll_of_no_sweeps (s := clearFabric u) hsw
  rw [hp]
  have hu : s.changesOnly (clearFabric u) [.buf, .swc, .tms, .pod] :=
    (hf.mono (by decide)).trans ((hr.only.mono (by decide)).trans (updSwc_only u _))
  refine ⟨?_, hst, rfl, rfl⟩
  exact hu.trans ((swc_only (clearFabric u) _).trans ((updTms_only _ _).trans (updPod_only _ _)))

end empty

end Sys2Proof.Machine

namespace Sys2Proof.Machine

/-! ### DRAIN and RELOAD (R80, R86, R88, R89) -/

/-- A host DRAIN in Service or Drain (R80, R88, R92). -/
theorem modeCtl_drain {target : Nat} {s : State} (ht : target ≤ 2) (hm : s.md.mode = .service ∨ s.md.mode = .drain) :
    modeCtl (1 + 256 * (target % 4)) s = startDrain target 4 (setRefused false (setReg Reg.MGT_MODE_CTL (256 * target) s)) := by
  have hc : bits (1 + 256 * (target % 4)) 2 0 = 1 := by unfold bits; omega
  have hb : bits (1 + 256 * (target % 4)) 9 8 = target := by unfold bits; omega
  have hok : ((s.md.mode == .service || s.md.mode == .drain) && decide (target ≤ 2)) = true := by
    rcases hm with e | e <;> simp [e, ht]
  unfold modeCtl drainCmd
  rw [hc, hb]
  exact congrArg (fun o : Option State => o.getD _) (if_pos hok)

/-- Entry into Drain (R86). -/
theorem startDrain_raised (target cause : Nat) {s : State} (h : s.md.mode ≠ .drain) :
    Raised 0 1 noUnit (3 + 256 * s.md.mode.code + 65536 * cause)
      { s with md := { s.md with mode := .drain, cause := cause, target := target, drainStart := s.now, drained := false } }
      (startDrain target cause s) := by
  have g := changeMode_raised .drain cause s
  have e := g.frame.md
  have n : (changeMode .drain cause s).now = s.now := congrArg Tbe.st g.frame.tbe
  refine (g.md_set { s.md with mode := .drain, cause := cause, target := target, drainStart := s.now, drained := false }).of_eq ?_
  unfold startDrain
  rw [if_neg h]
  dsimp only
  rw [e, n]

theorem exec_hostDrain_service {target : Nat} {s : State} (hu : s.hostUp = true) (hm : s.md.mode = .service) (ht : target ≤ 2)
    (hp : s.holdsPackets = true) :
    ∃ t, exec (.hostDrain target) s = .next t ∧
      Raised 0 1 noUnit 0x040103
        { s.fresh with
          regs := s.regs.set Reg.MGT_MODE_CTL (BitVec.ofNat 32 (256 * target)),
          md := { s.md with mode := .drain, cause := 4, refused := false, target := target, drainStart := s.now, drained := false } } t := by
  have hn : s.md.mode ≠ .lockdown := by rw [hm]; decide
  have h := startDrain_raised target 4 (s := setRefused false (setReg Reg.MGT_MODE_CTL (256 * target) s.fresh))
    (by show s.md.mode ≠ _; rw [hm]; decide)
  rw [show (setRefused false (setReg Reg.MGT_MODE_CTL (256 * target) s.fresh)).md.mode = .service from hm] at h
  exact ⟨_, hostModeCmd_answers hu hn (modeCtl_drain (s := s.fresh) ht (.inl hm)) (fun _ => .inr (h.frame.packets.trans hp))
    h.frame.pending, h⟩

/-- A DRAIN in Drain gives a device that is not drained its new target (R88). -/
theorem exec_hostDrain_target {target : Nat} {s : State} (hu : s.hostUp = true) (hm : s.md.mode = .drain) (ht : target ≤ 2)
    (hd : s.md.drained = false) (hp : s.holdsPackets = true) :
    exec (.hostDrain target) s = .next
      { s.fresh with
        regs := s.regs.set Reg.MGT_MODE_CTL (BitVec.ofNat 32 (256 * target)), md := { s.md with refused := false, target := target } } := by
  refine hostModeCmd_answers hu (by rw [hm]; decide) ((modeCtl_drain (s := s.fresh) ht (.inr hm)).trans ?_) (fun _ => .inr hp) rfl
  unfold startDrain
  rw [show (setRefused false (setReg Reg.MGT_MODE_CTL (256 * target) s.fresh)).md.mode = .drain from hm, if_pos rfl]
  exact if_neg fun k => Bool.noConfusion (hd.symm.trans k.2)

/-- The mode after a change to Maintenance. -/
theorem moveMode_maintenance_md {cause : Nat} {s : State} (hm : s.md.mode = .drain) :
    (moveMode .maintenance cause s).md = { s.md with mode := .maintenance, cause := cause, drained := false } := by
  rw [moveMode_md, changeMode_md, hm]; rfl

theorem moveMode_pending (m : Mode) (cause : Nat) (s : State) : (moveMode m cause s).pending = s.pending :=
  moveMode_only m cause s .pending (by decide)

/-- A drained device moves to Maintenance at a DRAIN with that target (R88). -/
theorem exec_hostDrain_drained {s : State} (hu : s.hostUp = true) (hm : s.md.mode = .drain) (hd : s.md.drained = true) :
    ∃ t, exec (.hostDrain 1) s = .next t ∧
      t.md = { s.md with mode := .maintenance, cause := 6, refused := false, target := 1, drained := false } := by
  have e : modeCtl (1 + 256 * (1 % 4)) s.fresh = moveMode .maintenance 6
      { s.fresh with regs := s.regs.set Reg.MGT_MODE_CTL 256, md := { s.md with refused := false, target := 1 } } := by
    rw [modeCtl_drain (s := s.fresh) (by decide) (.inr hm)]
    unfold startDrain
    rw [show (setRefused false (setReg Reg.MGT_MODE_CTL (256 * 1) s.fresh)).md.mode = .drain from hm, if_pos rfl]
    exact drainTarget_maintenance hm hd rfl
  have hmd := moveMode_maintenance_md (cause := 6)
    (s := { s.fresh with regs := s.regs.set Reg.MGT_MODE_CTL 256, md := { s.md with refused := false, target := 1 } }) hm
  exact ⟨_, hostModeCmd_answers hu (by rw [hm]; decide) e (quiet_of_mode (m := .maintenance) (congrArg ModeSt.mode hmd))
    (moveMode_pending _ _ _), hmd⟩

theorem modeCtl_reload {s : State} (hm : s.md.mode = .maintenance) :
    modeCtl 3 s = warmReload 4 (setRefused false (setReg Reg.MGT_MODE_CTL 0 s)) := if_pos hm

theorem exec_hostReload {s : State} (hu : s.hostUp = true) (hm : s.md.mode = .maintenance) (hr : s.otp.rootHash ≠ 0)
    (hs : s.isl.scorchPending = false) :
    exec .hostReload s = .next (warmReload 4 (setRefused false (setReg Reg.MGT_MODE_CTL 0 s.fresh))) := by
  have hmd := warmReload_md (cause := 4) (s := setRefused false (setReg Reg.MGT_MODE_CTL 0 s.fresh)) hr hs
  exact hostModeCmd_answers hu (by rw [hm]; decide) (modeCtl_reload (s := s.fresh) hm)
    (quiet_of_mode (m := .load) (congrArg ModeSt.mode hmd)) (warmReload_pending (s := setRefused false _) hr hs)

/-! ### A command that finds the device drained (R87, R88) -/

/-- The state that a heartbeat leaves before the end of the command. -/
def beaten (s : State) : State := { s.fresh with md := { s.md with hbLast := s.now } }

section drained
variable {s : State} (v : Word32) (hu : s.hostUp = true) (hm : s.md.mode = .drain) (hd : s.md.drained = false)
  (hp : s.holdsPackets = false)
include hu hm hd hp

theorem exec_mgtHeartbeat_drains {u : State} (e : drainTarget 6 (drainDone (beaten s)) = u) (hq : u.pending = s.pending) :
    exec (.mgtHeartbeat v) s = .next u := by
  refine (hostModeCmd_acts hu (by rw [hm]; decide)).trans (finish_of_settled ?_ hq)
  exact (settle_drains (s := beaten s) ⟨hm, hd, hp, live_of_hostUp hu⟩).trans e

omit hu hm hd hp in
theorem drainDone_pending (s : State) : (drainDone s).pending = s.pending := raise_pending _ _ _ _ _

theorem exec_mgtHeartbeat_settles (ht : s.md.target = 0) : exec (.mgtHeartbeat v) s = .next (drainDone (beaten s)) :=
  exec_mgtHeartbeat_drains v hu hm hd hp (drainTarget_stays (by rw [drainDone_md]; exact ht)) (drainDone_pending _)

theorem exec_mgtHeartbeat_maintenance (ht : s.md.target = 1) :
    exec (.mgtHeartbeat v) s = .next (moveMode .maintenance 6 (drainDone (beaten s))) :=
  exec_mgtHeartbeat_drains v hu hm hd hp
    (drainTarget_maintenance (by rw [drainDone_md]; exact hm) (by rw [drainDone_md]) (by rw [drainDone_md]; exact ht))
    ((moveMode_pending _ _ _).trans (drainDone_pending _))

end drained

theorem eventFrame.otp {s t : State} (h : eventFrame s t) : t.otp = s.otp := by
  obtain ⟨_, _, _, _, _, _, _, _, _, rfl⟩ := h; rfl

theorem eventFrame.scorchPending {s t : State} (h : eventFrame s t) : t.isl.scorchPending = s.isl.scorchPending := by
  obtain ⟨_, _, _, _, _, _, _, _, _, rfl⟩ := h; rfl

theorem drainDone_frame (s : State) : eventFrame { s with md := { s.md with drained := true } } (drainDone s) := raise_frame _ _ _ _ _

/-! ### Frames in Drain (R86) -/

theorem countLineFec_frame (p : Nat) (r : RxSide) (s : State) : eventFrame s (countLineFec p r s) :=
  (countA_frame _ _ _ s).trans (countA_frame _ _ _ _)

/-- In Drain a port that exists counts a frame and takes none (R86, R98). -/
theorem doRxFrame_drain {p : Nat} {bytes : List Byte} {r : RxSide} {s : State} (hm : s.md.mode = .drain)
    (he : s.portExists p = true) (hr : (s.port.get p).raw = true) :
    doRxFrame p bytes r s = count (Cnt.LPC_RX_MODE_DROP p) (countLineFec p r s) := by
  have hmv : s.moves = true := by simp [State.moves, hm]
  have hf := countLineFec_frame p r s
  have hmd : (countLineFec p r s).md = s.md := hf.md
  have hmv' : (countLineFec p r s).moves = true := by rw [State.moves, hmd]; exact hmv
  have he' : (countLineFec p r s).portExists p = true := by obtain ⟨_, _, _, _, _, _, _, _, _, e⟩ := hf; rw [e]; exact he
  have hr' : ((countLineFec p r s).port.get p).raw = true := by obtain ⟨_, _, _, _, _, _, _, _, _, e⟩ := hf; rw [e]; exact hr
  unfold doRxFrame takeFrame
  rw [hmv, he, Bool.and_self, if_pos rfl, hmv', he', hr', hmd, hm, if_neg (by decide), if_pos (.inl rfl)]

theorem exec_rxFrame_drain {p : Nat} {bytes : List Byte} {r : RxSide} {s : State} (hl : s.live = true) (hm : s.md.mode = .drain)
    (hd : s.md.drained = true) (he : s.portExists p = true) (hr : (s.port.get p).raw = true) :
    exec (.rxFrame p bytes r) s = .next (count (Cnt.LPC_RX_MODE_DROP p) (countLineFec p r s.fresh)) :=
  coreCmd_answers_events ⟨hl, fun _ => .inl hd⟩ (doRxFrame_drain (s := s.fresh) hm he hr)
    ((countLineFec_frame p r s.fresh).trans (count_frame _ _))

/-! ### The drain timeout (R87, R88) -/

/-- The device at the drain timeout. -/
def drainDue (s : State) : State := runTo (s.md.drainStart + s.regF Reg.MGT_DRAIN_CFG 15 0 * 1000000) s

/-- What it holds is gone, and DRAIN_FLUSH tells how many packets that were. -/
def drainFlushed (s : State) : State :=
  raise 0 4 noUnit (sat32 (drainDue s).heldPackets) (discardAll (drainDue s))

/-- DRAINED is set. -/
def markDrained (s : State) : State := { s with md := { s.md with drained := true } }

theorem markDrained_drained (s : State) : (markDrained s).md.drained = true := rfl
theorem markDrained_pending (s : State) : (markDrained s).pending = s.pending := rfl
theorem markDrained_only (s : State) : s.changesOnly (markDrained s) [.md] := md_only s _

theorem drainDue_st (s : State) : (drainDue s).tbe.st = max s.tbe.st (s.md.drainStart + s.regF Reg.MGT_DRAIN_CFG 15 0 * 1000000) := rfl
theorem drainDue_held (s : State) : (drainDue s).heldPackets = s.heldPackets := rfl

theorem doDrainFlush_flushes {s : State} (hm : s.md.mode = .drain) (hd : s.md.drained = false) :
    doDrainFlush s = drainTarget 7 (markDrained (drainFlushed s)) := by
  unfold doDrainFlush
  rw [if_pos ⟨hm, hd⟩]
  unfold markDrained drainFlushed drainDue
  rfl

theorem drainFlushed_only (s : State) : s.changesOnly (drainFlushed s) (Fld.discard ++ [.tbe]) :=
  (runTo_only _ s).trans (((discardAll_only _).mono (by decide)).trans (raise_only _ _ _ _ _))

theorem drainFlushed_md (s : State) : (drainFlushed s).md = s.md := drainFlushed_only s .md (by decide)
theorem drainFlushed_pending (s : State) : (drainFlushed s).pending = s.pending := drainFlushed_only s .pending (by decide)

/-- A device whose packets are discarded moves on to Maintenance where that is its target. -/
theorem drainTarget_markDrained {x : State} (hm : x.md.mode = .drain) (ht : x.md.target = 1) :
    ∃ t, drainTarget 7 (markDrained x) = t ∧ t.md = { x.md with mode := .maintenance, cause := 7, drained := false } ∧
      t.pending = x.pending :=
  ⟨_, drainTarget_maintenance hm rfl ht, moveMode_maintenance_md hm, moveMode_pending _ _ _⟩

theorem exec_drainFlush_maintenance {s : State} (hl : s.live = true) (hm : s.md.mode = .drain) (hd : s.md.drained = false)
    (ht : s.md.target = 1) :
    ∃ t, exec .drainFlush s = .next t ∧ t.md = { s.md with mode := .maintenance, cause := 7, drained := false } := by
  have hmd := drainFlushed_md s.fresh
  obtain ⟨t, e, hmt, hp⟩ := drainTarget_markDrained (x := drainFlushed s.fresh) (by rw [hmd]; exact hm) (by rw [hmd]; exact ht)
  rw [hmd] at hmt
  exact ⟨t, coreCmd_live hl ((doDrainFlush_flushes (s := s.fresh) hm hd).trans e)
    (quiet_of_mode (m := .maintenance) (congrArg ModeSt.mode hmt)) (hp.trans (drainFlushed_pending s.fresh)), hmt⟩

/-- What the timeout leaves of a device with nothing in a queue and no sweep waiting. -/
theorem drainFlushed_of_empty {s : State} (hv : s.buf.voq = {}) (hf : s.buf.leaf = {}) (hw : s.buf.sweeps = []) :
    (drainFlushed s).tbe = (drainDue s).tbe ∧ (drainFlushed s).buf.staged = [] ∧ (drainFlushed s).swc.recirc = {} ∧
      (drainFlushed s).swc.rxq = {} ∧ (drainFlushed s).tms.fifo = {} ∧ (drainFlushed s).pod.frames = [] ∧
      (drainFlushed s).pod.exq = {} ∧
      (drainFlushed s).isl.log.get (s.isl.total.toNat % 1024) =
        recordOf (drainFlushed s) 0 4 noUnit (sat32 (drainDue s).heldPackets) := by
  obtain ⟨ho, hst, hrc, hrx⟩ := discardAll_of_empty (s := drainDue s) hv hf hw
  have hisl : (discardAll (drainDue s)).isl = s.isl := ho .isl (by decide)
  have htbe : (discardAll (drainDue s)).tbe = (drainDue s).tbe := ho .tbe (by decide)
  have hfifo : (discardAll (drainDue s)).tms.fifo = {} := by rw [discardAll_eq]; rfl
  have hframes : (discardAll (drainDue s)).pod.frames = [] := by rw [discardAll_eq]; rfl
  have hexq : (discardAll (drainDue s)).pod.exq = {} := by rw [discardAll_eq]; rfl
  have hr := raise_raised 0 4 noUnit (sat32 (drainDue s).heldPackets) (discardAll (drainDue s))
  unfold drainFlushed
  generalize discardAll (drainDue s) = x at *
  obtain ⟨hfr, hlog⟩ := hr
  rw [hisl] at hlog
  have hrec := recordOf_congr hfr.tbe 0 4 noUnit (sat32 (drainDue s).heldPackets)
  generalize raise 0 4 noUnit (sat32 (drainDue s).heldPackets) x = t at *
  obtain ⟨_, _, _, _, _, _, _, _, _, rfl⟩ := hfr
  exact ⟨htbe, hst, hrc, hrx, hfifo, hframes, hexq, hlog.trans hrec.symm⟩

/-- With nothing in a queue and no sweep waiting, the timeout discards the rest, and the device is drained. -/
theorem exec_drainFlush_empties {s : State} (hl : s.live = true) (hm : s.md.mode = .drain) (hd : s.md.drained = false)
    (ht : s.md.target = 0) : exec .drainFlush s = .next (markDrained (drainFlushed s.fresh)) := by
  have htg : (markDrained (drainFlushed s.fresh)).md.target = 0 := by
    rw [markDrained, drainFlushed_md]; exact ht
  exact coreCmd_live hl ((doDrainFlush_flushes (s := s.fresh) hm hd).trans (drainTarget_stays htg))
    (fun _ => .inl (markDrained_drained _)) ((markDrained_pending _).trans (drainFlushed_pending s.fresh))

/-- Settles O10: the change of mode, the host's DRAIN and RELOAD, the command that finds the device drained by its target, a frame in
Drain, and the timeout by its target. -/
theorem hostModeCommands : Obligations.HostModeCommands := by
  refine ⟨?change, ?enter, ?reload, ?settles, ?target, ?frame, ?empties, ?maintenance⟩
  case change =>
    intro m cause s
    have h := changeMode_raised m cause s
    simpa only [Bool.and_eq_true, beq_iff_eq, bne_iff_ne] using h
  case enter => exact fun target s hu hm ht hp => exec_hostDrain_service hu hm ht hp
  case reload =>
    intro s hu hm hr hs
    have ho := warmReload_only (cause := 4) (s := setRefused false (setReg Reg.MGT_MODE_CTL 0 s.fresh)) hr hs
    have hc := changeMode_only (fs := .md :: Fld.events) .load 4 (setRefused false (setReg Reg.MGT_MODE_CTL 0 s.fresh)) (by decide) (by decide)
    refine ⟨_, exec_hostReload hu hm hr hs, warmReload_md hr hs, warmReload_load hr hs, ho .tbl (by decide), ho .port (by decide), ?_,
      ho .buf (by decide), ?_, (ho .otp (by decide)).trans (hc .otp (by decide)), warmReload_tbe hr hs⟩
    · refine (ho .svc (by decide)).trans ?_
      show ({ part := SMap.mapAll _ _ } : SvcSt) = _
      rw [(hc .svc (by decide) : State.svc _ = _)]
      rfl
    · exact warmReload_waits_only (s := setRefused false (setReg Reg.MGT_MODE_CTL 0 s.fresh)) hr hs .cdt (by decide)
  case settles =>
    intro v s hu hm hd hp
    refine ⟨fun ht => exec_mgtHeartbeat_settles v hu hm hd hp ht, fun ht => ?_, fun ht hr hs => ?_⟩
    · have hmd := moveMode_maintenance_md (cause := 6) (s := drainDone (beaten s)) (by rw [drainDone_md]; exact hm)
      refine ⟨_, exec_mgtHeartbeat_maintenance v hu hm hd hp ht, ?_, ?_⟩
      · rw [hmd, drainDone_md]; rfl
      · exact (moveMode_logged (raise_new 0 3 noUnit _ _) (by decide) .maintenance 6).1
    · have hf := drainDone_frame (beaten s)
      have hr' : (drainDone (beaten s)).otp.rootHash ≠ 0 := by rw [hf.otp]; exact hr
      have hs' : (drainDone (beaten s)).isl.scorchPending = false := by rw [hf.scorchPending]; exact hs
      have hn : (drainDone (beaten s)).now = s.now := congrArg Tbe.st hf.tbe
      have ho := warmReload_only (cause := 6) hr' hs'
      refine ⟨_, exec_mgtHeartbeat_drains v hu hm hd hp
        (drainTarget_load (by rw [drainDone_md]; exact hm) (by rw [drainDone_md]) (by rw [drainDone_md]; exact ht))
        ((warmReload_pending hr' hs').trans (drainDone_pending _)), warmReload_md hr' hs', ?_, ho .tbl (by decide), ho .port (by decide)⟩
      rw [warmReload_load hr' hs', hn]
  case target =>
    intro target s hu hm ht
    refine ⟨fun hd hp => exec_hostDrain_target hu hm ht hd hp, ?_⟩
    rintro hd rfl
    exact exec_hostDrain_drained hu hm hd
  case frame => exact fun p bytes r s hl hm hd he hr => exec_rxFrame_drain hl hm hd he hr
  case empties =>
    intro s hl hm hd ht hv hf hw
    obtain ⟨htbe, hst, hrc, hrx, hfi, hfr, hex, hlog⟩ := drainFlushed_of_empty (s := s.fresh) hv hf hw
    have he := exec_drainFlush_empties hl hm hd ht
    have ho := drainFlushed_only s.fresh
    have hst' := congrArg Tbe.st htbe
    rw [drainDue_st] at hst'
    rw [drainDue_held] at hlog
    generalize drainFlushed s.fresh = x at *
    exact ⟨_, he, markDrained_drained x, hst', hst, hrc, hrx, hfi, hfr, hex, hlog,
      (ho.mono (by decide)).trans ((markDrained_only x).mono (by decide))⟩
  case maintenance => exact fun s hl hm hd ht => exec_drainFlush_maintenance hl hm hd ht

end Sys2Proof.Machine

namespace Sys2Proof.Machine

/-! ## The boot token (R61 to R64) -/

/-! ### BOOT_TKN_OUT (R61) -/

theorem tokenOut_kept {s : State} (h : (s.load.done && s.pins.tknIn && !s.coreHeld) = s.pins.tknOut) : tokenOut s = s := if_pos h

theorem tokenOut_moves {s : State} {v : Bool} (h : (s.load.done && s.pins.tknIn && !s.coreHeld) = v) (hv : v ≠ s.pins.tknOut) :
    tokenOut s = { s with pins := { s.pins with tknOut := v, tknOutSince := s.now } } := by
  unfold tokenOut; dsimp only; rw [h, if_neg hv]

/-- A device that is not done with the flash keeps BOOT_TKN_OUT low. -/
theorem tokenOut_waits {s : State} (ht : s.pins.tknOut = false) (hd : s.load.done = false) : tokenOut s = s :=
  tokenOut_kept (by rw [hd, ht]; rfl)

theorem setTknIn_moves {v : Bool} {s : State} (h : s.pins.tknIn = !v) :
    setTknIn v s = tokenOut { s with pins := { s.pins with tknIn := v, tknInSince := s.now } } :=
  if_neg (by rw [h]; cases v <;> decide)

/-! ### The input's edges (R61, R63, R64) -/

section rise
variable {s : State} (hi : s.pins.tknIn = false) (ho : s.pins.tknOut = false) (hq : s.quiet)
include hi ho hq

theorem exec_bootTknInRise_passes (hc : s.coreHeld = false) (hd : s.load.done = true) :
    exec .bootTknInRise s = .next
      { s.fresh with pins := { s.pins with tknIn := true, tknInSince := s.now, tknOut := true, tknOutSince := s.now } } := by
  refine islandCmd_quiet ((setTknIn_moves (v := true) (s := s.fresh) hi).trans (tokenOut_moves (v := true) ?_ ?_)) hq rfl
  · show (s.load.done && true && !s.coreHeld) = true
    rw [hd, hc]; rfl
  · show true ≠ s.pins.tknOut
    rw [ho]; decide

theorem exec_bootTknInRise_waits (hd : s.load.done = false) :
    exec .bootTknInRise s = .next { s.fresh with pins := { s.pins with tknIn := true, tknInSince := s.now } } :=
  islandCmd_quiet ((setTknIn_moves (v := true) (s := s.fresh) hi).trans (tokenOut_waits ho hd)) hq rfl

end rise

theorem exec_bootTknInFall_done {s : State} (hi : s.pins.tknIn = true) (ho : s.pins.tknOut = true) (hd : s.load.done = true)
    (hq : s.quiet) :
    exec .bootTknInFall s = .next
      { s.fresh with pins := { s.pins with tknIn := false, tknInSince := s.now, tknOut := false, tknOutSince := s.now } } := by
  refine islandCmd_quiet ?_ hq rfl
  have e : setTknIn false s.fresh =
      { s.fresh with pins := { s.pins with tknIn := false, tknInSince := s.now, tknOut := false, tknOutSince := s.now } } := by
    refine (setTknIn_moves (v := false) (s := s.fresh) hi).trans (tokenOut_moves (v := false) ?_ ?_)
    · show (s.load.done && false && !s.coreHeld) = false
      rw [Bool.and_false, Bool.false_and]
    · show false ≠ s.pins.tknOut
      rw [ho]; decide
  unfold doBootTknInFall
  rw [if_neg (by show ¬ s.pins.tknIn = false; rw [hi]; decide), e]
  exact if_pos (by show (s.coreHeld || s.md.mode != .load || s.load.done) = true; rw [hd, Bool.or_true])

/-- The holder of the token loses it while it reads the flash, and waits afresh (R63, R64). -/
theorem exec_bootTknInFall_reading {s : State} (hi : s.pins.tknIn = true) (ho : s.pins.tknOut = false) (hc : s.coreHeld = false)
    (hm : s.md.mode = .load) (hd : s.load.done = false) (hp : s.load.phase = .reading) :
    exec .bootTknInFall s = .next
      { s.fresh with
        pins := { s.pins with tknIn := false, tknInSince := s.now, xspiDriven := false },
        load := { s.load with phase := .wait, entered := s.now, dir := none } } := by
  have e : setTknIn false s.fresh = { s.fresh with pins := { s.pins with tknIn := false, tknInSince := s.now } } :=
    (setTknIn_moves (v := false) (s := s.fresh) hi).trans (tokenOut_waits ho hd)
  refine islandCmd_quiet ?_ (quiet_of_mode hm) rfl
  unfold doBootTknInFall
  rw [if_neg (by show ¬ s.pins.tknIn = false; rw [hi]; decide), e]
  dsimp only
  rw [if_neg (by show ¬ (s.coreHeld || s.md.mode != .load || s.load.done) = true; rw [hc, hm, hd]; decide), show s.fresh.load.phase = .reading from hp]
  rfl

/-! ### The token is taken (R61, R66) -/

/-- The device as it takes the token at its instant, with the directory that it reads. -/
def tokenTaken (d : Option (List Byte)) (s : State) : State :=
  { s with
    tbe := { s.tbe with st := max s.tbe.st (max s.pins.tknInSince s.pins.tknOutSince + 20000) },
    load := { s.load with phase := .reading, step := 2, dir := d },
    pins := { s.pins with xspiDriven := true },
    out := s.out ++ (softReset ++ [dirRead]) }

/-- The profile's enter commands, where the directory read is valid. -/
def dirEnter (d : Option (List Byte)) (bpos : Nat) : List Out :=
  match d with
  | some b => if dirOk b bpos then enterCmds b else []
  | none => []

theorem goodDir_of_dir {d : Option (List Byte)} {s : State} (h : s.load.dir = d) :
    s.goodDir = d.bind (fun b => if dirOk b s.pins.bpos then some b else none) := by
  unfold State.goodDir; rw [h]; cases d <;> rfl

/-- The profile's enter commands appear on the pins where the directory held is valid. -/
def enterOctal (s : State) : State :=
  match s.goodDir with
  | some b => emitAll (enterCmds b) s
  | none => s

theorem enterOctal_eq {d : Option (List Byte)} {s : State} (h : s.load.dir = d) :
    enterOctal s = emitAll (dirEnter d s.pins.bpos) s := by
  have hn : emitAll [] s = s := by unfold emitAll; rw [List.append_nil]
  unfold enterOctal dirEnter
  rw [goodDir_of_dir h]
  cases d with
  | none => exact hn.symm
  | some b => by_cases hb : dirOk b s.pins.bpos = true <;> simp [hb, hn]

theorem doBootTokenTake_takes {d : Option (List Byte)} {s : State} (hm : s.md.mode = .load) (hp : s.load.phase = .wait)
    (hd : s.load.done = false) (hi : s.pins.tknIn = true) (ho : s.pins.tknOut = false) :
    doBootTokenTake d s = emitAll (dirEnter d s.pins.bpos) (tokenTaken d s) := by
  have e : doBootTokenTake d s = enterOctal (tokenTaken d s) := if_pos ⟨hm, hp, hd, hi, ho⟩
  exact e.trans (enterOctal_eq rfl)

/-- Settles O14: the input's rise and fall with the load done and not done, and the token taken. -/
theorem bootToken : Obligations.BootToken := by
  refine ⟨fun s hi ho hc hd hq => exec_bootTknInRise_passes hi ho hq hc hd, fun s hi ho hd hq => exec_bootTknInRise_waits hi ho hq hd,
    fun s hi ho hd hq => exec_bootTknInFall_done hi ho hd hq,
    fun s hi ho hc hm hd hp => exec_bootTknInFall_reading hi ho hc hm hd hp, ?_⟩
  intro d s hl hm hp hd hi ho
  refine (coreCmd_live hl (doBootTokenTake_takes (s := s.fresh) hm hp hd hi ho) (quiet_of_mode (m := .load) hm) rfl).trans ?_
  cases d <;> rfl

end Sys2Proof.Machine

namespace Sys2Proof.Machine

/-! ## Reset and the supplies (R57, R60, R452, R513, R526) -/

/-! ### The blocks go into reset -/

/-- A command of the island that leaves the blocks held or gated. -/
theorem islandCmd_not_live {f : State → State} {s t : State} (e : f s.fresh = t) (hl : t.live = false) (hp : t.pending = s.pending) :
    islandCmd f s = .next t := by
  subst e; exact finish_of_settled (settle_of_not_live hl) hp

theorem held_of_railHold {s : State} (h : s.isl.railHold = true) : s.coreHeld = true := by
  unfold State.coreHeld; rw [h]; simp

theorem held_of_tripHold {s : State} (h : s.isl.tripHold = true) : s.coreHeld = true := by
  unfold State.coreHeld; rw [h]; simp

theorem held_of_aonDown {s : State} (h : s.isl.aonDown = true) : s.coreHeld = true := by
  unfold State.coreHeld; rw [h]; simp

theorem not_held_iff {s : State} : s.coreHeld = false ↔
    s.pins.resetN = true ∧ s.pins.coreRails = true ∧ s.isl.railHold = false ∧ s.isl.tripHold = false ∧ s.isl.aonDown = false := by
  unfold State.coreHeld; simp [and_assoc]

theorem seenMode_running {s : State} (h : s.coreHeld = false) : seenMode s = some s.md.mode := by
  unfold seenMode; rw [h]; rfl

/-- The standing response after a reset: a request in execution ends with REFUSED (R556). -/
theorem sbStop_isl_eq (s : State) :
    (sbStop s).isl = { s.isl with busy := none,
                                  resp := match s.isl.busy with | some q => { seq := q, status := 2 } | none => s.isl.resp } := by
  unfold sbStop
  generalize hb : s.isl.busy = b
  cases b with
  | some q => rfl
  | none => dsimp only; rw [← hb]

theorem sbStop_idle {s : State} (h : s.isl.busy = none) : sbStop s = s := by
  unfold sbStop; rw [h]

/-- Nothing but the island's request tells a stopped side-band port from a running one. -/
theorem coldState_sbStop (s : State) :
    coldState (sbStop s) = { coldState s with isl := { (sbStop s).isl with wrapped := false } } := by
  unfold sbStop; split <;> rfl

theorem exec_resetNFall {s : State} (hr : s.pins.resetN = true) (hc : s.coreHeld = false) :
    exec .resetNFall s = .next
      { pins := { s.pins with resetN := false, tknOut := false, xspiDriven := false, tknInSince := 0, tknOutSince := 0, casMout := false },
        isl := { s.isl with wrapped := false, lastMode := some s.md.mode, railHold := false, tripHold := false, busy := none,
                            resp := match s.isl.busy with | some q => { seq := q, status := 2 } | none => s.isl.resp },
        otp := s.otp, regs := resetRegs, free := s.free, pending := s.pending } := by
  refine islandCmd_quiet ?_ (quiet_of_mode (m := .load) rfl) rfl
  unfold doResetNFall
  rw [if_neg (by show ¬ s.pins.resetN = false; rw [hr]; decide), seenMode_running (s := s.fresh) hc, coldState_sbStop, sbStop_isl_eq]
  dsimp only
  rw [if_neg (show ¬ s.fresh.isl.aonDown = true by rw [aonDown_of_not_held (s := s.fresh) hc]; decide)]
  rfl

theorem exec_vddAonFall {s : State} (ha : s.isl.aonDown = false) :
    exec .vddAonFall s = .next
      { pins := { s.pins with tknOut := false, xspiDriven := false, tknInSince := 0, tknOutSince := 0, casMout := false, thermTrip := false },
        isl := { aonDown := true }, otp := s.otp, regs := resetRegs, free := s.free, pending := s.pending } :=
  islandCmd_quiet (if_neg (by show ¬ s.isl.aonDown = true; rw [ha]; decide)) (quiet_of_mode (m := .load) rfl) rfl

theorem exec_islandReset_held {s : State} (ha : s.isl.aonDown = true) (hr : s.pins.resetN = false) (hm : s.md.mode = .load) :
    exec .islandReset s = .next { s.fresh with isl := { log := ⟨[(0, islandResetRec)]⟩, total := 1, held := 1 } } := by
  refine islandCmd_quiet ?_ (quiet_of_mode (m := .load) hm) rfl
  unfold doIslandReset
  rw [if_neg (by show ¬ s.isl.aonDown = false; rw [ha]; decide)]
  refine if_pos ?_
  show (!s.pins.resetN || _ || _ || _ || _) = true
  rw [hr]; rfl

theorem doAlarm_no_source {src : Nat} (h : 12 ≤ src) (s : State) : doAlarm src s = s := if_pos h

theorem exec_coreRailFall_running {src : Nat} {s : State} (hc : s.coreHeld = false) (hs : 12 ≤ src) (hb : s.isl.busy = none) :
    exec (.coreRailFall src) s = .next
      { pins := { s.pins with coreRails := false, tknOut := false, xspiDriven := false, tknInSince := 0, tknOutSince := 0, casMout := false },
        isl := { s.isl with wrapped := false, lastMode := some s.md.mode, railHold := true },
        otp := s.otp, regs := resetRegs, free := s.free, pending := s.pending } := by
  obtain ⟨hr, _, _, _, ha⟩ := not_held_iff.mp hc
  refine islandCmd_quiet ?_ (quiet_of_mode (m := .load) rfl) rfl
  unfold doCoreRailFall
  rw [if_neg (by show ¬ (s.pins.resetN = false ∨ s.isl.aonDown = true); rw [hr, ha]; decide),
    if_neg (by show ¬ s.coreHeld = true; rw [hc]; decide), doAlarm_no_source hs]
  dsimp only
  rw [sbStop_idle (s := s.fresh) hb]
  rfl

theorem exec_coreRailFall_held {src : Nat} {s : State} (hr : s.pins.resetN = true) (ha : s.isl.aonDown = false) (hc : s.coreHeld = true)
    (hs : 12 ≤ src) :
    exec (.coreRailFall src) s = .next
      { s.fresh with pins := { s.pins with coreRails := false }, isl := { s.isl with railHold := true } } := by
  have e : doCoreRailFall src s.fresh =
      { s.fresh with pins := { s.pins with coreRails := false }, isl := { s.isl with railHold := true } } := by
    unfold doCoreRailFall
    rw [if_neg (by show ¬ (s.pins.resetN = false ∨ s.isl.aonDown = true); rw [hr, ha]; decide), if_pos (show s.fresh.coreHeld = true from hc), doAlarm_no_source hs]
    rfl
  exact islandCmd_not_live e (live_of_coreHeld (held_of_railHold rfl)) rfl

/-! ### RESET_N rises (R57, R452, R513) -/

/-- The device whose monitors find nothing as it leaves reset. -/
def sensedNone (s : State) : State := { s with lim := {}, tbe := { s.tbe with refclkLost := false } }

/-- With no source active the monitors find none. -/
theorem senseSources_clear {s : State} (h : s.pins.sources = 0) : senseSources false s = sensedNone s := by
  have hz : s.pins.sources &&& ~~~((1 : BitVec 17) <<< 10) = s.pins.sources := by rw [h]; exact BitVec.zero_and
  have hl : bit s.pins.sources.toNat 5 = false := by rw [h]; rfl
  unfold senseSources
  simp only [hz, Bool.false_eq_true, if_false, hl]
  rfl

theorem answerSources_clear {s : State} (h : s.pins.sources = 0) : answerSources s = s := by
  refine List.foldl_fixed' (fun src => if_neg ?_) _
  rw [h, show (0 : BitVec 17).toNat = 0 from rfl, bit]
  simp

/-- A cold start with no source active, from which a Load waits for the token. -/
theorem coldStart_waits {s : State} (hm : s.md.mode = .load) (ht : s.pins.tknOut = false) (hs : s.isl.scorchPending = false)
    (hr : s.otp.rootHash ≠ 0) (hp : s.pins.sources = 0) :
    coldStart false s = { resetMarker s with
      lim := {}, tbe := { s.tbe with refclkLost := false }, load := { entered := s.now, phase := .wait, step := 2 } } := by
  have hf : eventFrame s (resetMarker s) := raise_frame _ _ _ _ s
  have hpins := hf.pins
  have htbe := hf.tbe
  have hmd := hf.md
  have hotp := hf.otp
  have hscorch := hf.scorchPending
  unfold coldStart
  generalize resetMarker s = x at *
  have hx : x.pins.sources = 0 := by rw [hpins]; exact hp
  have hn : x.now = s.now := congrArg Tbe.st htbe
  have hb := beginLoad_waits (s := sensedNone x) (by show x.otp.rootHash ≠ 0; rw [hotp]; exact hr)
    (by show x.isl.scorchPending = _; rw [hscorch]; exact hs)
  rw [tokenOut_waits (by show x.pins.tknOut = _; rw [hpins]; exact ht) rfl] at hb
  rw [senseSources_clear hx, answerSources_clear (s := sensedNone x) hx]
  refine (if_pos (by show x.md.mode = _; rw [hmd]; exact hm)).trans (hb.trans ?_)
  rw [show (sensedNone x).now = s.now from hn, ← htbe]
  rfl

/-- The device as RESET_N releases its blocks, with the straps sampled. -/
def released (bpos : Nat) (s : State) : State :=
  { s with pins := { s.pins with resetN := true, thermTrip := false, coreRails := true, bpos := bpos } }

section rise
variable {bpos : Nat} {junction : Int} {t : OtpSense} {s : State} (hr : s.pins.resetN = false) (hb : bpos < 8)
include hr hb

theorem doResetNRise_samples : ¬ (s.pins.resetN = true ∨ 8 ≤ bpos) := by
  rw [hr]; simp [hb]

theorem doResetNRise_powered_down (ha : s.isl.aonDown = true) :
    doResetNRise bpos junction t s = { s with pins := { s.pins with resetN := true, bpos := bpos } } := by
  unfold doResetNRise
  rw [if_neg (doResetNRise_samples hr hb)]
  exact if_pos ha

variable (ha : s.isl.aonDown = false)
include ha

theorem doResetNRise_tripped (ht : s.pins.thermTrip = true) (hj : 105 ≤ junction) :
    doResetNRise bpos junction t s = resetMarker
      { s with pins := { s.pins with resetN := true, bpos := bpos }, isl := { s.isl with tripHold := true } } := by
  unfold doResetNRise
  rw [if_neg (doResetNRise_samples hr hb)]
  exact (if_neg (by show ¬ s.isl.aonDown = true; rw [ha]; decide)).trans (if_pos ⟨ht, hj⟩)

theorem doResetNRise_starts (ht : s.pins.thermTrip = false ∨ junction < 105) :
    doResetNRise bpos junction t s = coldStart t.disagree (released bpos s) := by
  unfold doResetNRise
  rw [if_neg (doResetNRise_samples hr hb)]
  refine (if_neg (by show ¬ s.isl.aonDown = true; rw [ha]; decide)).trans (if_neg ?_)
  rintro ⟨h, hj⟩
  rcases ht with ht | ht
  · exact Bool.noConfusion (ht.symm.trans h)
  · omega

end rise

/-- Settles O13: the falls of RESET_N, VDD_AON and a core rail, the return of VDD_AON, and the rises of RESET_N. -/
theorem resetAndSupplies : Obligations.ResetAndSupplies := by
  refine ⟨fun s hr hc => exec_resetNFall hr hc, fun s ha => exec_vddAonFall ha, fun s ha hr hm => exec_islandReset_held ha hr hm,
    fun src s hc hs hb => exec_coreRailFall_running hc hs hb, ?starts, ?tripped, ?down,
    fun src s hr ha hc hs => exec_coreRailFall_held hr ha hc hs⟩
  case starts =>
    intro bpos junction t s hr hb ha _ _ ht hd hm hto hs hroot hp
    have e := doResetNRise_starts (s := s.fresh) (t := t) hr hb ha ht
    rw [hd, coldStart_waits (s := released bpos s.fresh) hm hto hs hroot hp] at e
    have hf : eventFrame (released bpos s.fresh) (resetMarker (released bpos s.fresh)) := raise_frame _ _ _ _ _
    exact islandCmd_quiet e (quiet_of_mode (m := .load) ((congrArg ModeSt.mode hf.md).trans hm)) hf.pending
  case tripped =>
    intro bpos junction t s hr hb ha ht hj
    have e := doResetNRise_tripped (s := s.fresh) (t := t) hr hb ha ht hj
    have hf : eventFrame _ (resetMarker { s.fresh with pins := { s.pins with resetN := true, bpos := bpos }, isl := { s.isl with tripHold := true } }) :=
      raise_frame _ _ _ _ _
    exact islandCmd_not_live e (hf.live.trans (live_of_coreHeld (held_of_tripHold rfl))) hf.pending
  case down =>
    intro bpos junction t s hr hb ha
    have e := doResetNRise_powered_down (junction := junction) (t := t) (s := s.fresh) hr hb ha
    exact islandCmd_not_live e (live_of_coreHeld (held_of_aonDown ha)) rfl

end Sys2Proof.Machine

namespace Sys2Proof.Machine

/-! ## PERST_N and the inject conduits (R58, R494) -/

/-- A device with part of an inject packet from the courier in conduit 16, a flush of that conduit that waits for the packet's end, and a
transfer of a packet of the conduit in the switch core. -/
def injectCut : State :=
  { cdt := ⟨[(16, { flush := true, inPkt := 1, wr := 1 })]⟩, ring := ⟨[(16, { enable := true, courier := true })]⟩,
    swc := { xfers := [{ queue := 10016 }] } }

/-- PERST_N cuts the packet, the flush takes effect (R494), and with the conduit's queue goes the transfer. -/
theorem doPerstAssert_injectCut : (doPerstAssert injectCut.fresh).swc.xfers = [] := by decide +kernel

/-- Refutes O28: PERST_N asserted also changes the transfers of the switch core, where the courier is within an inject packet and a
flush of its conduit waits for the packet's end. -/
theorem not_hostRings : ¬ Obligations.HostRings := by
  unfold Obligations.HostRings
  rintro ⟨_, _, _, _, _, _, hassert, _⟩
  have hq : injectCut.quiet := quiet_of_mode (m := .load) rfl
  obtain ⟨t, e, _, _, _, _, _, ho⟩ := hassert injectCut hq
  have hm : (doPerstAssert injectCut.fresh).md.mode = .load := by decide +kernel
  have hp : (doPerstAssert injectCut.fresh).pending = injectCut.pending := by decide +kernel
  obtain rfl : doPerstAssert injectCut.fresh = t := Host.Outcome.next.inj ((islandCmd_quiet rfl (quiet_of_mode hm) hp).symm.trans e)
  have hx : (doPerstAssert injectCut.fresh).swc.xfers = [{ queue := 10016 }] := congrArg SwcSt.xfers (ho .swc (by decide))
  exact absurd (doPerstAssert_injectCut.symm.trans hx) (by simp)

end Sys2Proof.Machine

namespace Sys2Proof.Machine

/-! ## How a Load ends (R61 to R63, R77) -/

/-! ### A Load that fails -/

theorem loadFail_mode (code step sect detail : Nat) (s : State) : (loadFail code step sect detail s).md.mode = .maintenance :=
  congrArg ModeSt.mode (loadFail_md code step sect detail s)

theorem loadFail_xspi (code step sect detail : Nat) (s : State) : (loadFail code step sect detail s).pins.xspiDriven = false := by
  rw [loadFail_eq]; exact tokenOut_xspi _

/-- A command of a running block in which Load fails. -/
theorem coreCmd_fails {f : State → State} {s x : State} {code step sect detail : Nat} (hl : s.live = true)
    (e : f s.fresh = loadFail code step sect detail x) (hp : x.pending = s.pending) :
    coreCmd f s = .next (loadFail code step sect detail x) :=
  coreCmd_live hl e (quiet_of_mode (loadFail_mode code step sect detail x))
    ((loadFail_only code step sect detail x .pending (by decide)).trans hp)

/-- A command of a running block that leaves the device outside Drain. -/
theorem coreCmd_leaves {f : State → State} {s t : State} {m : Mode} (hl : s.live = true) (e : f s.fresh = t) (hm : t.md.mode = m)
    (hd : m ≠ .drain := by decide) : coreCmd f s = .next { t with pending := s.pending } := by
  subst e
  unfold coreCmd finish
  rw [if_pos hl, settle_of_quiet (quiet_of_mode hm hd)]

theorem exec_tokenTimeout {s : State} (hl : s.live = true) (hm : s.md.mode = .load) (hd : s.load.done = false)
    (hp : s.load.phase = .wait) :
    exec .tokenTimeout s = .next (loadFail 3 2 0xFF 0 (runTo (s.load.entered + 30000000000) s.fresh)) :=
  coreCmd_fails hl (if_pos ⟨hm, hd, .inl hp⟩) rfl

/-! ### The read of the flash (R61, R62, R77 steps 2 to 5) -/

/-- The device on which the flash has been read: steps 2 to 5 fail, or it is done with the flash and verifies. -/
def flashRead (f : FlashRead) (s : State) : State :=
  match readFault s.load.dir f s.pins.bpos s.otp.rootHash with
  | some (code, step, sect, detail) => loadFail code step sect detail s
  | none => flashDone { s with load := { s.load with
      phase := .verify, step := 6, image := f.image, sig := f.sig, dir := none, dirCount := fieldU (s.load.dir.getD []) 6 1 } }

theorem doFlashReadDone_reads {f : FlashRead} {s : State} (hm : s.md.mode = .load) (hp : s.load.phase = .reading) :
    doFlashReadDone f s = flashRead f (driveReads f s) := if_neg (by simp [hm, hp])

theorem flashRead_faults {f : FlashRead} {s : State} {code step sect detail : Nat}
    (h : readFault s.load.dir f s.pins.bpos s.otp.rootHash = some (code, step, sect, detail)) :
    flashRead f s = loadFail code step sect detail s := by
  unfold flashRead; rw [h]

theorem flashRead_passes {f : FlashRead} {s : State} (h : readFault s.load.dir f s.pins.bpos s.otp.rootHash = none) :
    flashRead f s = flashDone { s with load := { s.load with
      phase := .verify, step := 6, image := f.image, sig := f.sig, dir := none, dirCount := fieldU (s.load.dir.getD []) 6 1 } } := by
  unfold flashRead; rw [h]

theorem exec_flashReadDone_no_flash {f : FlashRead} {s : State} (hl : s.live = true) (hm : s.md.mode = .load)
    (hp : s.load.phase = .reading) (hd : s.load.dir = none) :
    exec (.flashReadDone f) s = .next (loadFail 4 2 0xFF (f.fail.getD 0) s.fresh) := by
  have e : driveReads f s.fresh = s.fresh := by
    unfold driveReads; rw [goodDir_of_dir (s := s.fresh) hd]; rfl
  refine coreCmd_fails hl ?_ rfl
  rw [doFlashReadDone_reads (s := s.fresh) hm hp, e]
  exact flashRead_faults (by rw [show s.fresh.load.dir = none from hd]; rfl)

section directory
variable {d : List Byte} {f : FlashRead} {s : State} (hl : s.live = true) (hm : s.md.mode = .load) (hp : s.load.phase = .reading)
  (hd : s.load.dir = some d)

include hd in
theorem driveReads_bad (hk : dirOk d s.pins.bpos = false) : driveReads f s = s := by
  unfold driveReads; rw [goodDir_of_dir hd]
  simp [hk]

/-- The commands that the read leaves on the pins. -/
def flashOut (d : List Byte) (f : FlashRead) (s : State) : List Out :=
  (if f.fail.isSome then [] else imageReads d f s.pins.bpos s.otp.rootHash) ++ exitCmds d

include hp hd in
theorem driveReads_good (hk : dirOk d s.pins.bpos = true) : driveReads f s = emitAll (flashOut d f s) s := by
  have hg : s.goodDir = some d := by rw [goodDir_of_dir hd]; simp [hk]
  have hx : ∀ o, flashExit (emitAll o s) = emitAll (exitCmds d) (emitAll o s) := fun o => by
    unfold flashExit
    rw [show (emitAll o s).load.phase = .reading from hp, show (emitAll o s).goodDir = some d from hg]
  have hn : emitAll [] s = s := by unfold emitAll; rw [List.append_nil]
  unfold driveReads flashOut
  rw [hg]
  cases f.fail with
  | none => exact (hx _).trans (by unfold emitAll; rw [List.append_assoc]; rfl)
  | some a => exact (congrArg flashExit hn.symm).trans ((hx []).trans (by rw [hn]; rfl))

include hl hm hp hd

/-- A fault of steps 2 to 5 ends Load with its code. -/
theorem exec_flashReadDone_faults {x : State} {code step sect detail : Nat} (e : driveReads f s.fresh = x)
    (hx : s.fresh.changesOnly x [.out]) (hr : readFault (some d) f s.pins.bpos s.otp.rootHash = some (code, step, sect, detail)) :
    exec (.flashReadDone f) s = .next (loadFail code step sect detail x) := by
  have h1 : x.load = s.load := hx .load (by decide)
  have h2 : x.pins = s.pins := hx .pins (by decide)
  have h3 : x.otp = s.otp := hx .otp (by decide)
  refine coreCmd_fails hl ?_ (hx .pending (by decide))
  rw [doFlashReadDone_reads (s := s.fresh) hm hp, e]
  exact flashRead_faults (by rw [h1, h2, h3, hd, hr])

theorem exec_flashReadDone_bad_dir (hk : dirOk d s.pins.bpos = false) :
    exec (.flashReadDone f) s = .next (loadFail 2 2 0xFF 0 s.fresh) :=
  exec_flashReadDone_faults hl hm hp hd (driveReads_bad (s := s.fresh) hd hk) (.refl _ _) (by simp [readFault, hk])

variable (hk : dirOk d s.pins.bpos = true)
include hk

theorem exec_flashReadDone_silent {a : Nat} (ha : f.fail = some a) :
    exec (.flashReadDone f) s = .next (loadFail 4 2 0xFF a { s.fresh with out := exitCmds d }) := by
  have hf : flashOut d f s.fresh = exitCmds d := by unfold flashOut; rw [ha]; rfl
  have e := driveReads_good (f := f) (s := s.fresh) hp hd hk
  rw [hf] at e
  exact exec_flashReadDone_faults hl hm hp hd e (out_only _ _) (by simp [readFault, hk, ha])

variable (hf : f.fail = none)
include hf

omit hl hm hk in
theorem driveReads_answers (hk : dirOk d s.pins.bpos = true) :
    driveReads f s.fresh = { s.fresh with out := imageReads d f s.pins.bpos s.otp.rootHash ++ exitCmds d } := by
  have e := driveReads_good (f := f) (s := s.fresh) hp hd hk
  rw [show flashOut d f s.fresh = imageReads d f s.pins.bpos s.otp.rootHash ++ exitCmds d by unfold flashOut; rw [hf]; rfl] at e
  exact e

theorem exec_flashReadDone_checked {code step sect detail : Nat}
    (hr : readFault (some d) f s.pins.bpos s.otp.rootHash = some (code, step, sect, detail)) :
    exec (.flashReadDone f) s = .next (loadFail code step sect detail
      { s.fresh with out := imageReads d f s.pins.bpos s.otp.rootHash ++ exitCmds d }) :=
  exec_flashReadDone_faults hl hm hp hd (driveReads_answers hp hd hf hk) (out_only _ _) hr

/-- The image passes steps 2 to 5: the device is done with the flash and hands the token on. -/
theorem exec_flashReadDone_passes (ho : formatOk f.image s.pins.bpos (dirLength d s.pins.bpos) = true)
    (hs : sha256 (f.image.bytes 32 60) = s.otp.rootHash) (hb : badCrc f.image = none) (hi : s.pins.tknIn = true)
    (ht : s.pins.tknOut = false) :
    exec (.flashReadDone f) s = .next
      { s.fresh with
        pins := { s.pins with xspiDriven := false, tknOut := true, tknOutSince := s.now },
        load := { s.load with phase := .verify, step := 6, image := f.image, sig := f.sig, dir := none, dirCount := fieldU d 6 1,
                              done := true },
        out := imageReads d f s.pins.bpos s.otp.rootHash ++ exitCmds d } := by
  have hr : readFault (some d) f s.pins.bpos s.otp.rootHash = none := by simp [readFault, hk, hf, ho, hs, hb]
  refine coreCmd_live hl ?_ (quiet_of_mode hm) rfl
  rw [doFlashReadDone_reads (s := s.fresh) hm hp, driveReads_answers hp hd hf hk, flashRead_passes (hd ▸ hr)]
  unfold flashDone
  refine (tokenOut_moves (v := true) ?_ ?_).trans ?_
  · show (true && s.pins.tknIn && !s.coreHeld) = true
    rw [hi, coreHeld_of_live hl]; rfl
  · show true ≠ s.pins.tknOut
    rw [ht]; decide
  · dsimp only
    rw [show s.fresh.load.dir = some d from hd]
    rfl

end directory

/-! ### Verification (R77 steps 6 to 8) -/

section verify
variable {s : State} (hl : s.live = true) (hm : s.md.mode = .load) (hp : s.load.phase = .verify)

omit hl in
include hm hp in
theorem doHssVerifyDone_verifies : ¬ (s.md.mode ≠ .load ∨ s.load.phase ≠ .verify) := by simp [hm, hp]

include hl hm hp

theorem exec_hssVerifyDone_unsigned (hs : imageSigned s.load.image s.load.sig = false) :
    exec .hssVerifyDone s = .next (loadFail 8 6 0xFF 0 s.fresh) :=
  coreCmd_fails hl ((if_neg (doHssVerifyDone_verifies (s := s.fresh) hm hp)).trans (if_pos hs)) rfl

variable (hs : imageSigned s.load.image s.load.sig = true)
include hs

omit hl hm hp in
theorem not_unsigned : ¬ imageSigned s.load.image s.load.sig = false := by rw [hs]; decide

theorem exec_hssVerifyDone_old (hv : imgSecVersion (imgHeader s.load.image) < s.fusedVersion) :
    exec .hssVerifyDone s = .next (loadFail 9 7 0xFF 0 s.fresh) :=
  coreCmd_fails hl ((if_neg (doHssVerifyDone_verifies (s := s.fresh) hm hp)).trans ((if_neg (not_unsigned hs)).trans (if_pos hv))) rfl

variable (hv : s.fusedVersion ≤ imgSecVersion (imgHeader s.load.image))
include hv

theorem exec_hssVerifyDone_passes (hc : contentFaults s.load.image s.pins.bpos s.load.dirCount (Config.pick s.free) = []) :
    exec .hssVerifyDone s = .next { s.fresh with load := { s.load with phase := .applying, step := 9 } } := by
  refine coreCmd_live hl ?_ (quiet_of_mode (m := .load) hm) rfl
  unfold doHssVerifyDone
  rw [if_neg (doHssVerifyDone_verifies (s := s.fresh) hm hp), if_neg (not_unsigned (s := s.fresh) hs),
    if_neg (Nat.not_lt.mpr (show s.fresh.fusedVersion ≤ imgSecVersion (imgHeader s.fresh.load.image) from hv)),
    show contentFaults s.fresh.load.image s.fresh.pins.bpos s.fresh.load.dirCount (Config.pick s.fresh.free) = [] from hc]
  rfl

/-- Of several faults a free value picks the one reported. -/
theorem exec_hssVerifyDone_content (hc : contentFaults s.load.image s.pins.bpos s.load.dirCount (Config.pick s.free) ≠ []) :
    ∃ f ∈ contentFaults s.load.image s.pins.bpos s.load.dirCount (Config.pick s.free),
      exec .hssVerifyDone s = .next (loadFail 10 8 f.1 f.2 { s.fresh with free := s.free + 2 }) := by
  obtain ⟨x, r, e⟩ := List.exists_cons_of_ne_nil hc
  have hi : Config.pick (s.free + 1) % (r.length + 1) < (x :: r).length := Nat.mod_lt _ (Nat.succ_pos _)
  refine ⟨(x :: r)[Config.pick (s.free + 1) % (r.length + 1)], by rw [e]; exact List.getElem_mem hi, ?_⟩
  rw [← List.getD_eq_getElem _ x hi]
  refine coreCmd_fails hl ?_ rfl
  unfold doHssVerifyDone
  rw [if_neg (doHssVerifyDone_verifies (s := s.fresh) hm hp), if_neg (not_unsigned (s := s.fresh) hs),
    if_neg (Nat.not_lt.mpr (show s.fresh.fusedVersion ≤ imgSecVersion (imgHeader s.fresh.load.image) from hv)),
    show contentFaults s.fresh.load.image s.fresh.pins.bpos s.fresh.load.dirCount (Config.pick s.fresh.free) = x :: r from e]
  rfl

end verify

/-! ### The image applies, or does not (R77 step 9, R78, R80, R82) -/

theorem startScans_only (s : State) : s.changesOnly (startScans s) [.fwd, .asa, .pod, .hmc, .part] :=
  fun f hf => by cases f with | fwd | asa | pod | hmc | part => exact absurd (by decide) hf | _ => rfl

theorem otp_only (s : State) (v : Otp) {fs : List Fld} (h : Fld.otp ∈ fs := by decide) : s.changesOnly { s with otp := v } fs :=
  fun f hf => by cases f with | otp => exact absurd h hf | _ => rfl

theorem commitVersion_only (flags version count : Nat) (s : State) :
    s.changesOnly (commitVersion flags version count s) (.otp :: Fld.events) := by
  have h : ∀ v c d, s.changesOnly (raise 1 c noUnit d { s with otp := v }) (.otp :: Fld.events) :=
    fun v c d => (otp_only s v).trans (raise_only _ 1 c noUnit d)
  exact ite_only (.refl _ _) (ite_only (h _ 7 0) (h _ 3 _))

theorem podService_only (s : State) : s.changesOnly (podService s) [.pod] :=
  (updPod_only s _).trans (foldl_only (fun t _ => updPod_only t _) _ _)

theorem runnerStart_only (s : State) : s.changesOnly (runnerStart s) [.asa] :=
  ite_only (updRun_only _ s) (.refl _ _)

/-- The loader of an image that has passed, in a device with its ports as they start. -/
def loadPassing (s : State) : State :=
  { s with load := { s.load with phase := .idle, ok := true, step := 9, applied := true },
           port := (List.range 32).foldl (fun m p => m.set p { rawSince := s.now }) s.port }

/-- Once Service is entered, a Load that passes starts the rounds, records the pass, commits the version and starts Pod and ring. -/
theorem loadPass_only (a : ApplyRead) (s : State) :
    (enterService 1 (reindex (loadPassing s))).changesOnly (loadPass a s)
      (Fld.events ++ [.cls, .fwd, .asa, .pod, .hmc, .part, .otp]) := by
  refine (cls_only _ _).trans (((startScans_only _).mono (by decide)).trans
    ((raise_only _ 1 1 noUnit _).trans (((commitVersion_only _ _ _ _).mono (by decide)).trans
      (((podService_only _).mono (by decide)).trans ((runnerStart_only _).mono (by decide))))))

theorem loadPass_md (a : ApplyRead) (s : State) :
    (loadPass a s).md = { s.md with mode := .service, cause := 1, hbLast := s.now,
                                    drained := if s.md.mode == .drain then false else s.md.drained } := by
  rw [loadPass_only a s .md (by decide), (enterService_raised 1 (reindex (loadPassing s))).frame.md]
  simp [reindex, loadPassing, State.now]

theorem loadPass_load (a : ApplyRead) (s : State) :
    (loadPass a s).load = { s.load with phase := .idle, ok := true, step := 9, applied := true } := by
  rw [loadPass_only a s .load (by decide)]
  exact changeMode_only (fs := .md :: Fld.events) _ _ _ (by decide) (by decide) .load (by decide)

theorem doApplyDone_applies {a : ApplyRead} {s : State} (hm : s.md.mode = .load) (hp : s.load.phase = .applying) (ha : a.inc ≠ 0)
    (hi : a.inc ≠ s.isl.inc) (hb : a.inc < 65536) :
    ¬ (s.md.mode ≠ .load ∨ s.load.phase ≠ .applying ∨ a.inc = 0 ∨ a.inc = s.isl.inc ∨ 65536 ≤ a.inc) := by
  simp [hm, hp, ha, hi, hb]

section apply
variable {a : ApplyRead} {s t : State} (hl : s.live = true) (hm : s.md.mode = .load) (hp : s.load.phase = .applying) (ha : a.inc ≠ 0)
  (hi : a.inc ≠ s.isl.inc) (hb : a.inc < 65536)
include hl hm hp ha hi hb

theorem exec_applyDone_passes (e : applyImage s.load.image a s.fresh = (.passed, t)) :
    exec (.applyDone a) s = .next { loadPass a t with pending := s.pending } := by
  refine coreCmd_leaves (m := .service) hl ?_ (congrArg ModeSt.mode (loadPass_md a t))
  unfold doApplyDone
  rw [if_neg (doApplyDone_applies (s := s.fresh) hm hp ha hi hb), show s.fresh.load.image = s.load.image from rfl, e]

theorem exec_applyDone_fails {sect detail : Nat} (e : applyImage s.load.image a s.fresh = (.failed sect detail, t)) :
    exec (.applyDone a) s = .next { applyFail sect detail s.fresh t with pending := s.pending } := by
  refine coreCmd_leaves (m := .maintenance) hl ?_ (loadFail_mode _ _ _ _ _)
  unfold doApplyDone
  rw [if_neg (doApplyDone_applies (s := s.fresh) hm hp ha hi hb), show s.fresh.load.image = s.load.image from rfl, e]

end apply

/-- Settles O15: the failure in general, the token's time-out, the read of the flash, the verification and the apply. -/
theorem loadOutcomes : Obligations.LoadOutcomes := by
  refine ⟨?fails, fun s hl hm hd hp => exec_tokenTimeout hl hm hd hp,
    fun d f s hl hm hp hd hk hf ho hs hb hi ht => exec_flashReadDone_passes hl hm hp hd hk hf ho hs hb hi ht,
    fun f s hl hm hp hd => exec_flashReadDone_no_flash hl hm hp hd, ?reads,
    fun s hl hm hp hs hv hc => exec_hssVerifyDone_passes hl hm hp hs hv (hc _),
    fun s hl hm hp hs => exec_hssVerifyDone_unsigned hl hm hp hs, fun s hl hm hp hs hv => exec_hssVerifyDone_old hl hm hp hs hv,
    fun s hl hm hp hs hv hc => exec_hssVerifyDone_content hl hm hp hs hv hc, ?passes, ?applyFails⟩
  case fails =>
    intro code step sect detail s
    exact ⟨loadFail_md _ _ _ _ s, loadFail_load _ _ _ _ s, loadFail_xspi _ _ _ _ s, loadFail_logged _ _ _ _ s⟩
  case reads =>
    intro d f s hl hm hp hd
    refine ⟨exec_flashReadDone_bad_dir hl hm hp hd, fun hk => ⟨fun a ha => exec_flashReadDone_silent hl hm hp hd hk ha, fun hf => ?_⟩⟩
    refine ⟨fun ho => ?_, fun ho hs => ?_, fun x ho hs hb => ?_⟩
    · exact exec_flashReadDone_checked hl hm hp hd hk hf (by simp [readFault, hk, hf, ho])
    · exact exec_flashReadDone_checked hl hm hp hd hk hf (by simp [readFault, hk, hf, ho, hs])
    · exact exec_flashReadDone_checked hl hm hp hd hk hf (by simp [readFault, hk, hf, ho, hs, hb])
  case passes =>
    intro a s hl hm hp ha hi hb he
    have e : applyImage s.load.image a s.fresh = (.passed, (applyImage s.load.image a s.fresh).2) := Prod.ext he rfl
    have hx := exec_applyDone_passes hl hm hp ha hi hb e
    generalize (applyImage s.load.image a s.fresh).2 = t at *
    have hmd := loadPass_md a t
    have hld := loadPass_load a t
    generalize loadPass a t = u at *
    exact ⟨_, hx, congrArg ModeSt.mode hmd, congrArg ModeSt.cause hmd, congrArg Load.ok hld, congrArg Load.applied hld,
      congrArg Load.phase hld, congrArg ModeSt.hbLast hmd⟩
  case applyFails =>
    intro a s t sect detail hl hm hp ha hi hb e
    have hx := exec_applyDone_fails hl hm hp ha hi hb e
    have hmd : (applyFail sect detail s.fresh t).md.mode = .maintenance := loadFail_mode _ _ _ _ _
    have hld : (applyFail sect detail s.fresh t).load = _ := loadFail_load _ _ _ _ _
    generalize applyFail sect detail s.fresh t = u at *
    exact ⟨_, hx, hmd, congrArg Load.code hld, congrArg Load.step hld, congrArg Load.sect hld, congrArg Load.detail hld⟩

end Sys2Proof.Machine

namespace Sys2Proof.Machine

/-! ## Alarms and their responses (R91, R468 to R473) -/

/-! ### Commands of the island by the frame of their effect -/

theorem quiet_of_only {s t : State} {fs : List Fld} (hq : s.quiet) (hf : s.changesOnly t fs)
    (hs : ∀ x ∈ Fld.settled, x ∉ fs := by decide) : t.quiet :=
  quiet_of_eq hq (hf .md (hs _ (by decide))) (holdsPackets_of_only hf hs)

/-- A command of the island that moves no packet and leaves the modes alone answers its effect. -/
theorem islandCmd_only {f : State → State} {s t : State} {fs : List Fld} (hq : s.quiet) (e : f s.fresh = t)
    (hf : s.fresh.changesOnly t fs) (hs : ∀ x ∈ Fld.settled, x ∉ fs := by decide) : islandCmd f s = .next t :=
  islandCmd_quiet e (quiet_of_only (s := s.fresh) hq hf hs) (hf .pending (hs _ (by decide)))

section updates
variable (s : State) {fs : List Fld}

theorem isl_sec_only (i : Island) (c : Sec) (hi : Fld.isl ∈ fs := by decide) (hs : Fld.sec ∈ fs := by decide) :
    s.changesOnly { s with isl := i, sec := c } fs :=
  fun f hf => by cases f with | isl => exact absurd hi hf | sec => exact absurd hs hf | _ => rfl

theorem pins_sec_only (p : Pins) (c : Sec) (hp : Fld.pins ∈ fs := by decide) (hs : Fld.sec ∈ fs := by decide) :
    s.changesOnly { s with pins := p, sec := c } fs :=
  fun f hf => by cases f with | pins => exact absurd hp hf | sec => exact absurd hs hf | _ => rfl

end updates

/-! ### The event of an alarm (R470, R475) -/

theorem eventFrame.free {s t : State} (h : eventFrame s t) : t.free = s.free := by
  obtain ⟨_, _, _, _, _, _, _, _, _, rfl⟩ := h; rfl

theorem raiseAlarm_frame (src grade : Nat) (s : State) : ∃ l, eventFrame { s with lim := l } (raiseAlarm src grade s) := by
  obtain ⟨l, h⟩ := raiseLim_frame 1 src 1 4 src (src + 256 * grade) s
  refine ⟨l, ?_⟩
  unfold raiseAlarm
  dsimp only
  split
  · exact h.trans (count_frame _ _)
  · exact h

theorem raiseAlarm_latch (src grade : Nat) (s : State) : (raiseAlarm src grade s).isl.latch = s.isl.latch := by
  obtain ⟨l, h⟩ := raiseAlarm_frame src grade s
  exact h.latch

/-- While the blocks are held a record goes to the island alone (R449). -/
theorem recPut_held {s : State} (r : EventRec) (h : s.coreHeld = true) : s.changesOnly (recPut r s) [.isl] := by
  have ha : s.changesOnly (alertFor r (logPut r s)) [.isl] := (isl_only s _).trans (ite_only (isl_only _ _) (.refl _ _))
  have hc : (alertFor r (logPut r s)).coreHeld = true := by
    rw [← h]; unfold alertFor; split <;> rfl
  rw [recPut_eq, show announce r (alertFor r (logPut r s)) = alertFor r (logPut r s) from if_pos hc]
  exact ha

theorem recWrite_held {s : State} (r : EventRec) (h : s.coreHeld = true) : s.changesOnly (recWrite r s) [.isl] := by
  have h1 := recPut_held r h
  have hc : (recPut r s).coreHeld = true := (recPut_frame r s).held.trans h
  exact ite_only (h1.trans ((isl_only _ _).trans (recPut_held _ hc))) h1

theorem raiseLim_held {n x b c u d : Nat} {s : State} (h : s.coreHeld = true) : s.changesOnly (raiseLim n x b c u d s) [.isl, .lim] := by
  unfold raiseLim
  extract_lets k sec l l' s1
  have hl : s.changesOnly s1 [.isl, .lim] := lim_only s _
  split
  · refine (lim_only s _).trans (State.changesOnly.mono (recWrite_held _ ?_) (by decide))
    exact h
  · rw [show (if s1.coreHeld = true then s1 else count Cnt.MGT_EVENTS_SUPPRESSED s1) = s1 from if_pos h]
    exact hl

theorem raiseAlarm_held {src grade : Nat} {s : State} (h : s.coreHeld = true) : s.changesOnly (raiseAlarm src grade s) [.isl, .lim] := by
  have hn : (limOpen 1 src 1 4 s && !s.coreHeld) = false := by rw [h]; exact Bool.and_false _
  unfold raiseAlarm
  rw [hn]
  exact raiseLim_held h

/-- The island with a source latched. -/
def latching (src : Nat) (s : State) : State := { s with isl := { s.isl with latch := s.isl.latch ||| ((1 : BitVec 17) <<< src) } }

/-- While the blocks are held the island records a latched source and nothing more. -/
theorem raiseAlarm_latching {src grade : Nat} {s : State} (h : s.coreHeld = true) :
    s.changesOnly (raiseAlarm src grade (latching src s)) [.isl, .lim] ∧ (raiseAlarm src grade (latching src s)).coreHeld = true ∧
      (raiseAlarm src grade (latching src s)).isl.latch = s.isl.latch ||| ((1 : BitVec 17) <<< src) :=
  ⟨(isl_only s _).trans (raiseAlarm_held (s := latching src s) h), (raiseAlarm_frame _ _ _).elim fun _ hf => hf.held.trans h,
    raiseAlarm_latch src grade (latching src s)⟩

/-- While the blocks are held the island latches a source (R468). -/
theorem exec_alarm_held {src : Nat} {s : State} (hs : src < 12) (ha : s.isl.aonDown = false) (hc : s.coreHeld = true)
    (hp : bit s.pins.sources.toNat src = false) :
    ∃ t, exec (.alarm src) s = .next t ∧ t.pins = { s.pins with sources := s.pins.sources ||| ((1 : BitVec 17) <<< src) } ∧
      t.isl.latch = s.isl.latch ||| ((1 : BitVec 17) <<< src) ∧ s.fresh.changesOnly t [.isl, .lim, .pins] := by
  have e : doAlarm src s.fresh = noteHeld src (holdSource src s.fresh) := by
    unfold doAlarm
    rw [if_neg (by omega), show bit s.fresh.pins.sources.toNat src = false from hp]
    exact (if_neg (by show ¬ s.isl.aonDown = true; rw [ha]; decide)).trans (if_pos hc)
  obtain ⟨hn, hh, hlt⟩ := raiseAlarm_latching (src := src) (grade := alarmFloor src) (s := holdSource src s.fresh) hc
  have ho : s.fresh.changesOnly (noteHeld src (holdSource src s.fresh)) [.isl, .lim, .pins] :=
    (pins_only s.fresh _).trans (hn.mono (by decide))
  exact ⟨_, islandCmd_not_live e (live_of_coreHeld hh) (ho .pending (by decide)), hn .pins (by decide), hlt, ho⟩

/-! ### Entry into Lockdown (R91, R497) -/

theorem flashExit_only (s : State) : s.changesOnly (flashExit s) [.out] := by
  unfold flashExit
  split
  · exact out_only s _
  · exact .refl s _

theorem dropInject_only (s : State) : s.changesOnly (dropInject s) Fld.events :=
  foldl_only (fun t _ => (cdt_only _ t).trans (countA_only _ _ _ _)) _ s

theorem dropInject_isl (s : State) : (dropInject s).isl = s.isl := by
  have hf (l : List Nat) (s : State) : (l.foldl (fun s c =>
      countA {} Cnt.MGT_INJECT_MODE_DROP (s.cdt.get c).pkts { s with cdt := s.cdt.set c (s.cdt.get c).emptied }) s).isl = s.isl := by
    induction l generalizing s with
    | nil => rfl
    | cons c l ih => exact (ih _).trans (countA_isl _ _ _ _)
  exact hf _ s

/-- A device about to enter Lockdown: a holder of the token leaves octal mode, and Load is over. -/
def locking (s : State) : State := { flashExit s with load := { (flashExit s).load with phase := .idle } }

theorem locking_only (s : State) : s.changesOnly (locking s) [.out, .load] :=
  ((flashExit_only s).mono (by decide)).trans (load_only _ _)

theorem enterLockdown_eq {s : State} (h : s.md.mode ≠ .lockdown) :
    enterLockdown s = dropInject (flashDone (moveMode .lockdown 8 (locking s))) := if_neg h

/-- What entry into Lockdown may change. -/
def Fld.lockdown : List Fld := Fld.runner ++ [.md, .load, .pins]

theorem enterLockdown_only (s : State) : s.changesOnly (enterLockdown s) Fld.lockdown :=
  ite_only (.refl s _) (((locking_only s).mono (by decide)).trans (((moveMode_only .lockdown 8 _).mono (by decide)).trans
    ((flashDone_only _).trans ((dropInject_only _).mono (by decide)))))

theorem enterLockdown_mode (s : State) : (enterLockdown s).md.mode = .lockdown := by
  by_cases h : s.md.mode = .lockdown
  · unfold enterLockdown; rw [if_pos h]; exact h
  · rw [enterLockdown_eq h, dropInject_only _ .md (by decide), flashDone_only (fs := [.pins, .load]) _ (by decide) (by decide) .md (by decide),
      moveMode_md, changeMode_md]

theorem enterLockdown_latch (s : State) : (enterLockdown s).isl.latch = s.isl.latch := by
  by_cases h : s.md.mode = .lockdown
  · unfold enterLockdown; rw [if_pos h]
  · rw [enterLockdown_eq h, dropInject_isl, flashDone_only (fs := [.pins, .load]) _ (by decide) (by decide) .isl (by decide), moveMode_isl,
      (changeMode_raised .lockdown 8 (locking s)).frame.latch]
    exact congrArg Island.latch (locking_only s .isl (by decide))

theorem casDeliver_run (q : CasReq) (r : AsaRes) (s : State) : (casDeliver q r s).asa.run = s.asa.run := by
  unfold casDeliver setHandle
  dsimp only
  split <;> rfl

theorem casTimeout_run (q : CasReq) (s : State) : (casTimeout q s).asa.run = s.asa.run := by
  have hc : (count Cnt.ASA_RUN_TIMEOUT (countDegraded s)).asa = s.asa :=
    (count_frame _ _).asa.trans (by unfold countDegraded; split; exacts [(count_frame _ _).asa, rfl])
  exact (casDeliver_run _ _ _).trans (congrArg AsaSt.run hc)

/-- The ring that is held down is down (R168). -/
theorem runnerHold_down (s : State) : (runnerHold s).asa.run.state = .down := by
  have hf (l : List CasReq) (s : State) : (l.foldl (fun s q => casTimeout q s) s).asa.run = s.asa.run := by
    induction l generalizing s with
    | nil => rfl
    | cons q l ih => exact (ih _).trans (casTimeout_run q s)
  exact congrArg Runner.state (hf _ _)

theorem moveMode_lockdown_down (cause : Nat) (s : State) : (moveMode .lockdown cause s).asa.run.state = .down := by
  have hm : (changeMode .lockdown cause s).md.mode = .lockdown := by rw [changeMode_md]
  have hr : (changeMode .lockdown cause s).ringAllowed = false := by unfold State.ringAllowed; rw [hm]; rfl
  unfold moveMode
  dsimp only
  split
  · next h => exact h.resolve_left (by rw [hr]; decide)
  · exact runnerHold_down _

theorem enterLockdown_down {s : State} (h : s.md.mode ≠ .lockdown) : (enterLockdown s).asa.run.state = .down := by
  rw [enterLockdown_eq h, dropInject_only _ .asa (by decide), flashDone_only (fs := [.pins, .load]) _ (by decide) (by decide) .asa (by decide)]
  exact moveMode_lockdown_down 8 _

/-! ### Guard and Scorch (R470) -/

theorem guardResponse_only (s : State) : s.changesOnly (guardResponse s) (.sec :: Fld.lockdown) :=
  ((enterLockdown_only s).mono (by decide)).trans (sec_only _ _)

theorem guardResponse_zeroStart (s : State) : (guardResponse s).sec.zeroStart = some s.now :=
  congrArg (fun t : Tbe => some t.st) (enterLockdown_only s .tbe (by decide))

/-- t is s after a source of grade Guard or Scorch was answered: Lockdown, the secret closed, the overwrite under way, the ring down. -/
structure Guarded (src : Nat) (s t : State) : Prop where
  mode : t.md.mode = .lockdown
  closed : t.sec.secretClosed = true
  zeroStart : t.sec.zeroStart = some s.now
  latch : t.isl.latch = s.isl.latch ||| ((1 : BitVec 17) <<< src)
  down : s.md.mode ≠ .lockdown → t.asa.run.state = .down
  only : s.changesOnly t (.sec :: Fld.lockdown)

/-- The device with the source latched and recorded. -/
def alarmNoted (src grade : Nat) (s : State) : State :=
  raiseAlarm src grade (s.noting s.pins.sources (s.isl.latch ||| ((1 : BitVec 17) <<< src))
    { s.sec with status := s.sec.status ||| ((1 : BitVec 17) <<< src), answered := s.sec.answered.set src grade })

theorem alarmNoted_only (src grade : Nat) (s : State) : s.changesOnly (alarmNoted src grade s) (Fld.events ++ [.pins, .sec]) :=
  (noting_only s _ _ _).trans (raiseAlarm_only _ _ _)

theorem guarded_of_noted (src grade : Nat) (s : State) : Guarded src s (guardResponse (alarmNoted src grade s)) := by
  have ho := alarmNoted_only src grade s
  have hl : (alarmNoted src grade s).isl.latch = s.isl.latch ||| ((1 : BitVec 17) <<< src) := raiseAlarm_latch _ _ _
  have hm : (alarmNoted src grade s).md = s.md := ho .md (by decide)
  have hn : (alarmNoted src grade s).now = s.now := congrArg Tbe.st (ho .tbe (by decide))
  exact {
    mode := enterLockdown_mode _
    closed := rfl
    zeroStart := by rw [guardResponse_zeroStart, hn]
    latch := (enterLockdown_latch _).trans hl
    down := fun h => enterLockdown_down (by rw [hm]; exact h)
    only := (ho.mono (by decide)).trans (guardResponse_only _) }

theorem answerAlarm_guard {src : Nat} (s : State) : answerAlarm src 1 s = guardResponse (alarmNoted src 1 s) := rfl

/-- Scorch besides marks the burn of KILL (R470). -/
theorem answerAlarm_scorch {src : Nat} (s : State) :
    answerAlarm src 2 s = { guardResponse (alarmNoted src 2 s) with
      isl := { (guardResponse (alarmNoted src 2 s)).isl with scorchPending := true },
      sec := { (guardResponse (alarmNoted src 2 s)).sec with burning := true } } := rfl

/-- Scorch pending and the burn under way do not touch what Guard leaves. -/
theorem Guarded.scorched {src : Nat} {s t : State} (h : Guarded src s t) :
    Guarded src s { t with isl := { t.isl with scorchPending := true }, sec := { t.sec with burning := true } } :=
  { mode := h.mode, closed := h.closed, zeroStart := h.zeroStart, latch := h.latch, down := h.down,
    only := h.only.trans (isl_sec_only t _ _) }

theorem answerAlarm_guarded {src grade : Nat} (hg : grade = 1 ∨ grade = 2) (s : State) :
    Guarded src s (answerAlarm src grade s) ∧
      (grade = 2 → (answerAlarm src grade s).isl.scorchPending = true ∧ (answerAlarm src grade s).sec.burning = true) := by
  rcases hg with rfl | rfl
  · rw [answerAlarm_guard]
    exact ⟨guarded_of_noted src 1 s, fun h => by cases h⟩
  · rw [answerAlarm_scorch]
    exact ⟨(guarded_of_noted src 2 s).scorched, fun _ => ⟨rfl, rfl⟩⟩

/-- A source that becomes active in a running device is answered at its grade (R468, R470). -/
theorem doAlarm_answered {src : Nat} {s : State} (hs : src < 11) (hc : s.coreHeld = false) (hb : bit s.sec.status.toNat src = false) :
    doAlarm src s = answerAlarm src (s.grade src) (holdSource src s) := by
  unfold doAlarm
  rw [if_neg (by omega)]
  refine (if_neg (by show ¬ s.isl.aonDown = true; rw [aonDown_of_not_held hc]; decide)).trans
    ((if_neg (by show ¬ s.coreHeld = true; rw [hc]; decide)).trans ?_)
  rw [if_neg (show ¬ src = 11 by omega)]
  exact if_neg (by show ¬ bit s.sec.status.toNat src = true; rw [hb]; decide)

theorem exec_alarm_guarded {src grade : Nat} {s : State} (hs : src < 11) (hc : s.coreHeld = false)
    (hb : bit s.sec.status.toNat src = false) (hg : s.grade src = grade) (h2 : grade = 1 ∨ grade = 2) :
    ∃ t, exec (.alarm src) s = .next t ∧ Guarded src (holdSource src s.fresh) t ∧
      (grade = 2 → t.isl.scorchPending = true ∧ t.sec.burning = true) := by
  obtain ⟨h, h3⟩ := answerAlarm_guarded (src := src) h2 (holdSource src s.fresh)
  have e := doAlarm_answered (s := s.fresh) hs hc hb
  rw [show s.fresh.grade src = grade from hg] at e
  exact ⟨_, islandCmd_quiet e (quiet_of_mode h.mode) (h.only .pending (by decide)), h, h3⟩

/-! ### A source that becomes inactive (R468, R471) -/

/-- A running device with a source neither held nor active. -/
def sourceGone (src : Nat) (s : State) : State :=
  { s with pins := { s.pins with sources := s.pins.sources &&& ~~~((1 : BitVec 17) <<< src) },
           sec := { s.sec with status := s.sec.status &&& ~~~((1 : BitVec 17) <<< src), answered := s.sec.answered.set src 0 } }

theorem sourceGone_only (src : Nat) (s : State) : s.changesOnly (sourceGone src s) [.pins, .sec] := pins_sec_only s _ _

theorem doSourceInactive_running {src : Nat} {s : State} (hs : src < 12) (hc : s.coreHeld = false) :
    doSourceInactive src s = if src = 11 ∧ s.sec.refill = true then trngRefill (sourceGone src s) else sourceGone src s := by
  unfold doSourceInactive
  rw [if_neg (by omega)]
  exact if_neg (by show ¬ s.coreHeld = true; rw [hc]; decide)

theorem exec_sourceInactive_running {src : Nat} {s : State} (hs : src < 12) (h : s.running) (hr : src = 11 → s.sec.refill = false) :
    exec (.sourceInactive src) s = .next
      { s.fresh with
        pins := { s.pins with sources := s.pins.sources &&& ~~~((1 : BitVec 17) <<< src) },
        sec := { s.sec with status := s.sec.status &&& ~~~((1 : BitVec 17) <<< src), answered := s.sec.answered.set src 0 } } := by
  refine islandCmd_only h.2 ?_ (sourceGone_only src s.fresh)
  rw [doSourceInactive_running (s := s.fresh) hs (coreHeld_of_live h.1)]
  exact if_neg fun k => Bool.noConfusion ((hr k.1).symm.trans k.2)

theorem exec_sourceInactive_held {src : Nat} {s : State} (hs : src < 12) (hc : s.coreHeld = true) :
    exec (.sourceInactive src) s = .next
      { s.fresh with pins := { s.pins with sources := s.pins.sources &&& ~~~((1 : BitVec 17) <<< src) } } := by
  refine islandCmd_not_live ?_ (live_of_coreHeld hc) rfl
  unfold doSourceInactive
  rw [if_neg (by omega)]
  exact if_pos hc

/-! ### The overwrite (R471) -/

theorem setReg_only (a v : Nat) (s : State) {fs : List Fld} (h : Fld.regs ∈ fs := by decide) : s.changesOnly (setReg a v s) fs :=
  fun f hf => by cases f with | regs => exact absurd h hf | _ => rfl

theorem free_only (s : State) (n : Nat) {fs : List Fld} (h : Fld.free ∈ fs := by decide) : s.changesOnly { s with free := n } fs :=
  fun f hf => by cases f with | free => exact absurd h hf | _ => rfl

/-- The root stage, word after word. -/
def stageRoot (v : Nat → Nat) (k : Nat) (s : State) : State :=
  (List.range k).foldl (fun s n => setReg (Reg.SEC_ROOT_STAGE n) (v (8 + n)) s) s

theorem stageRoot_only (v : Nat → Nat) (k : Nat) (s : State) : s.changesOnly (stageRoot v k s) [.regs] :=
  foldl_only (fun t _ => setReg_only _ _ t) _ s

theorem stageRoot_regs (v : Nat → Nat) (s : State) {k n : Nat} (h : n < k) :
    (stageRoot v k s).regs.get (Reg.SEC_ROOT_STAGE n) = BitVec.ofNat 32 (v (8 + n)) := by
  induction k with
  | zero => omega
  | succ k ih =>
    have e : stageRoot v (k + 1) s = setReg (Reg.SEC_ROOT_STAGE k) (v (8 + k)) (stageRoot v k s) := by
      unfold stageRoot; rw [List.range_succ, List.foldl_append]; rfl
    rw [e, setReg_regs]
    by_cases hn : n = k
    · subst hn; exact SMap.get_set_self _ _ _
    · rw [SMap.get_set_ne _ _ (by unfold Reg.SEC_ROOT_STAGE; omega), ih (by omega)]

/-- The security state with what the overwrite leaves in it. -/
def overwritten (v : Nat → Nat) (c : Sec) : Sec :=
  { c with keys := freshKeys v, seed := v 16, tree := v 17, topSig := v 18,
           attest := ⟨(List.range 9).map (fun p => (p, { resp := leBytes 5492 (v (19 + p)) }))⟩, trng := v 28 }

theorem overwrite_eq (v : Nat → Nat) (s : State) :
    overwrite v s = { stageRoot v 8 s with sec := overwritten v (stageRoot v 8 s).sec } := rfl

theorem overwrite_only (v : Nat → Nat) (s : State) : s.changesOnly (overwrite v s) [.regs, .sec] := by
  rw [overwrite_eq]
  exact ((stageRoot_only v 8 s).mono (by decide)).trans (sec_only _ _)

theorem overwrite_sec (v : Nat → Nat) (s : State) : (overwrite v s).sec = overwritten v s.sec := by
  rw [overwrite_eq]
  exact congrArg (overwritten v) (stageRoot_only v 8 s .sec (by decide))

theorem overwrite_stage (v : Nat → Nat) (s : State) {n : Nat} (h : n < 8) :
    (overwrite v s).regs.get (Reg.SEC_ROOT_STAGE n) = BitVec.ofNat 32 (v (8 + n)) := by
  rw [overwrite_eq]
  exact stageRoot_regs v s h

/-- The TRNG's output of one overwrite. -/
def draws (k n : Nat) : Nat := Config.trng (k + n)

theorem trngRefill_eq (s : State) :
    trngRefill s = { overwrite (draws s.free) { s with free := s.free + 29 } with
      sec := { (overwrite (draws s.free) { s with free := s.free + 29 }).sec with refill := false } } := rfl

theorem trngRefill_only (s : State) : s.changesOnly (trngRefill s) [.regs, .sec, .free] := by
  rw [trngRefill_eq]
  exact (free_only s _).trans (((overwrite_only _ _).mono (by decide)).trans (sec_only _ _))

theorem trngRefill_sec (s : State) : (trngRefill s).sec = { overwritten (draws s.free) s.sec with refill := false } := by
  rw [trngRefill_eq, overwrite_sec]

theorem trngRefill_free (s : State) : (trngRefill s).free = s.free + 29 := by
  rw [trngRefill_eq]
  exact overwrite_only (draws s.free) { s with free := s.free + 29 } .free (by decide)

theorem trngRefill_stage (s : State) {n : Nat} (h : n < 8) :
    (trngRefill s).regs.get (Reg.SEC_ROOT_STAGE n) = BitVec.ofNat 32 (draws s.free (8 + n)) := by
  rw [trngRefill_eq]
  exact overwrite_stage (draws s.free) { s with free := s.free + 29 } h

/-- When the TRNG passes its tests again, its output takes the place of the zeros (R471). -/
theorem exec_sourceInactive_refills {s : State} (h : s.running) (hr : s.sec.refill = true) :
    ∃ t, exec (.sourceInactive 11) s = .next t ∧ t.sec.refill = false ∧ t.sec.keys = freshKeys (draws s.free) ∧
      s.fresh.changesOnly t [.pins, .sec, .regs, .free] := by
  have e := (doSourceInactive_running (src := 11) (s := s.fresh) (by decide) (coreHeld_of_live h.1)).trans (if_pos ⟨rfl, hr⟩)
  have hg := sourceGone_only 11 s.fresh
  have hf : (sourceGone 11 s.fresh).free = s.free := hg .free (by decide)
  generalize sourceGone 11 s.fresh = x at *
  have hsec := trngRefill_sec x
  have ho : s.fresh.changesOnly (trngRefill x) [.pins, .sec, .regs, .free] :=
    (hg.mono (by decide)).trans ((trngRefill_only x).mono (by decide))
  generalize trngRefill x = u at *
  rw [hf] at hsec
  exact ⟨u, islandCmd_only h.2 e ho, congrArg Sec.refill hsec, congrArg Sec.keys hsec, ho⟩

/-- The security state as zeroisation empties it. -/
def zeroisedSec (c : Sec) : Sec :=
  { c with zeroStart := none, ident := .none, leaf := none, topRoot := false, idKey := [], queue := [], refill := true }

/-- The device as zeroisation empties it, before anything is overwritten. -/
def zeroising (s : State) : State := { s with sec := zeroisedSec s.sec }

/-- The device with what zeroisation leaves: TRNG output, or zeros while the TRNG fails its tests. -/
def wiped (ok : Bool) (s : State) : State :=
  if ok then trngRefill (zeroising s) else overwrite (fun _ => 0) (zeroising s)

theorem wiped_true (s : State) : wiped true s = trngRefill (zeroising s) := rfl
theorem wiped_false (s : State) : wiped false s = overwrite (fun _ => 0) (zeroising s) := rfl

theorem doZeroised_raises {ok : Bool} {s : State} {t : Nat} (h : s.sec.zeroStart = some t) :
    doZeroised ok s = raise 1 5 noUnit (sat32 ((wiped ok s).now - t)) (wiped ok s) := by
  unfold doZeroised; rw [h]; rfl

/-- The end of an overwrite: ZEROISED tells how long it took. -/
theorem exec_zeroised {ok : Bool} {s x : State} {t : Nat} {fs : List Fld} (hc : s.coreHeld = false) (hz : s.sec.zeroStart = some t)
    (hq : s.quiet) (hx : wiped ok s.fresh = x) (ho : s.fresh.changesOnly x fs) (hf : ∀ f ∈ .tbe :: .isl :: Fld.settled, f ∉ fs) :
    ∃ u, exec (.zeroised ok) s = .next u ∧ eventFrame x u ∧
      u.isl.log.get (s.isl.total.toNat % 1024) = recordOf s 1 5 noUnit (sat32 (s.now - t)) ∧ s.fresh.changesOnly u (Fld.events ++ fs) := by
  have htbe : x.tbe = s.tbe := ho .tbe (hf _ (by decide))
  have hisl : x.isl = s.isl := ho .isl (hf _ (by decide))
  have hn : x.now = s.now := congrArg Tbe.st htbe
  have e : doZeroised ok s.fresh = raise 1 5 noUnit (sat32 (s.now - t)) x := by
    rw [doZeroised_raises (s := s.fresh) hz, hx, hn]
  obtain ⟨hr, hlog⟩ := raise_raised 1 5 noUnit (sat32 (s.now - t)) x
  rw [hisl, recordOf_congr htbe] at hlog
  have hou : s.fresh.changesOnly (raise 1 5 noUnit (sat32 (s.now - t)) x) (Fld.events ++ fs) :=
    (ho.mono (List.subset_append_right _ _)).trans (hr.only (List.subset_append_left _ _))
  have hset : ∀ f ∈ Fld.settled, f ∉ Fld.events ++ fs := fun f h1 h2 =>
    (List.mem_append.mp h2).elim ((show ∀ f ∈ Fld.settled, f ∉ Fld.events by decide) f h1)
      (hf f (List.mem_cons_of_mem _ (List.mem_cons_of_mem _ h1)))
  refine ⟨_, ?_, hr, hlog, hou⟩
  show execZeroised ok s = _
  unfold execZeroised
  exact islandCmd_only hq ((if_neg (by show ¬ s.coreHeld = true; rw [hc]; decide)).trans e) hou hset

/-! ### The thermal trip and the burn of KILL (R470, R472) -/

theorem doThermalTrip_running {s : State} (hc : s.coreHeld = false) (ht : s.pins.thermTrip = false) :
    doThermalTrip s = { answerAlarm 16 1 s with
      sec := { (answerAlarm 16 1 s).sec with gated := true }, pins := { (answerAlarm 16 1 s).pins with thermTrip := true } } := by
  unfold doThermalTrip
  rw [if_neg (by rw [ht, aonDown_of_not_held hc]; decide), if_neg (by rw [hc]; decide)]

theorem exec_thermalTrip_running {s : State} (hl : s.live = true) (ht : s.pins.thermTrip = false) :
    ∃ t, exec .thermalTrip s = .next t ∧ t.md.mode = .lockdown ∧ t.sec.gated = true ∧ t.pins.thermTrip = true ∧ t.live = false ∧
      t.sec.secretClosed = true ∧ t.sec.zeroStart = some s.now ∧ (s.md.mode ≠ .lockdown → t.asa.run.state = .down) ∧
      s.fresh.changesOnly t (.sec :: Fld.lockdown) := by
  obtain ⟨h, _⟩ := answerAlarm_guarded (src := 16) (grade := 1) (.inl rfl) s.fresh
  have e := doThermalTrip_running (s := s.fresh) (coreHeld_of_live hl) ht
  generalize answerAlarm 16 1 s.fresh = x at *
  have ho : s.fresh.changesOnly { x with sec := { x.sec with gated := true }, pins := { x.pins with thermTrip := true } }
      (.sec :: Fld.lockdown) := h.only.trans (pins_sec_only x _ _)
  exact ⟨_, islandCmd_quiet e (quiet_of_mode (m := .lockdown) h.mode) (ho .pending (by decide)), h.mode, rfl, rfl, Bool.and_false _, h.closed,
    h.zeroStart, h.down, ho⟩

/-- THERM_TRIP_N is driven low. -/
def tripping (s : State) : State := { s with pins := { s.pins with thermTrip := true } }

theorem exec_thermalTrip_held {s : State} (hc : s.coreHeld = true) (ha : s.isl.aonDown = false) (ht : s.pins.thermTrip = false) :
    ∃ t, exec .thermalTrip s = .next t ∧ t.pins = { s.pins with thermTrip := true } ∧
      t.isl.latch = s.isl.latch ||| ((1 : BitVec 17) <<< 16) ∧ s.fresh.changesOnly t [.isl, .lim, .pins] := by
  obtain ⟨hn, hh, hlt⟩ := raiseAlarm_latching (src := 16) (grade := 1) (s := s.fresh) hc
  have e : doThermalTrip s.fresh = tripping (raiseAlarm 16 1 (latching 16 s.fresh)) := by
    unfold doThermalTrip
    rw [if_neg (by show ¬ (s.pins.thermTrip || s.isl.aonDown) = true; rw [ht, ha]; decide)]
    exact if_pos hc
  generalize raiseAlarm 16 1 (latching 16 s.fresh) = x at *
  have hxp : x.pins = s.pins := hn .pins (by decide)
  have ho : s.fresh.changesOnly (tripping x) [.isl, .lim, .pins] := (hn.mono (by decide)).trans (pins_only x _)
  exact ⟨_, islandCmd_not_live e (live_of_coreHeld hh) (ho .pending (by decide)), by rw [← hxp]; rfl, hlt, ho⟩

theorem exec_killBurned_lockdown {s : State} (hc : s.coreHeld = false) (hb : s.sec.burning = true) (hm : s.md.mode = .lockdown) :
    exec (.killBurned true) s = .next (raise 1 6 noUnit 0
      { s.fresh with
        otp := { s.otp with kill := true },
        isl := { s.isl with scorchPending := false },
        sec := { s.sec with burning := false } }) := by
  have hf := raise_frame 1 6 noUnit 0
    { s.fresh with otp := { s.otp with kill := true }, isl := { s.isl with scorchPending := false }, sec := { s.sec with burning := false } }
  show execKillBurned true s = _
  unfold execKillBurned
  refine islandCmd_quiet ((if_neg (by show ¬ s.coreHeld = true; rw [hc]; decide)).trans ?_)
    (quiet_of_mode (m := .lockdown) ((congrArg ModeSt.mode hf.md).trans hm)) hf.pending
  unfold doKillBurned
  refine (if_neg (by show ¬ s.sec.burning = false; rw [hb]; decide)).trans (if_neg fun k => ?_)
  exact absurd ((congrArg ModeSt.mode hf.md).symm.trans k.1) (by show ¬ s.md.mode = _; rw [hm]; decide)

/-- Settles O16: a source that becomes active by its grade, and inactive, the thermal trip, the burn and the overwrite. -/
theorem alarms : Obligations.Alarms := by
  refine ⟨?log, ?guard, fun src s hs ha hc hp => exec_alarm_held hs ha hc hp, fun src s hs h hr => exec_sourceInactive_running hs h hr,
    fun src s hs hc => exec_sourceInactive_held hs hc, fun s h hr => exec_sourceInactive_refills h hr, ?trip,
    fun s hc hb hm => exec_killBurned_lockdown hc hb hm, fun s hc ha ht => exec_thermalTrip_held hc ha ht, ?fills, ?zeros⟩
  case log =>
    intro src s hs _ hc hb hg hq
    exact islandCmd_only hq (doAlarm_logged (s := s.fresh) hs hc hb hg)
      ((noting_only s.fresh _ _ _).trans (raiseAlarm_only _ _ _ (fs := Fld.events ++ [.pins, .sec])))
  case guard =>
    intro src grade s hs _ hc hb hg h2
    obtain ⟨t, e, h, h3⟩ := exec_alarm_guarded hs hc hb hg h2
    exact ⟨t, e, h.mode, h.closed, h.zeroStart, h.latch, h3, h.down, (pins_only s.fresh _).trans (h.only.mono (by decide))⟩
  case trip =>
    intro s hl ht
    obtain ⟨t, e, hm, hg, hp, hlt, hcl, hz, hd, ho⟩ := exec_thermalTrip_running hl ht
    exact ⟨t, e, hm, hg, hp, hlt, hcl, hz, hd, ho.mono (by decide)⟩
  case fills =>
    intro s t hc hz hq
    have hf := trngRefill_free (zeroising s.fresh)
    have hsec := trngRefill_sec (zeroising s.fresh)
    have hst := fun n (h : n < 8) => trngRefill_stage (zeroising s.fresh) h
    have ho : s.fresh.changesOnly (trngRefill (zeroising s.fresh)) [.sec, .regs, .free] :=
      (sec_only s.fresh _).trans ((trngRefill_only _).mono (by decide))
    obtain ⟨u, e, hu, hlog, hou⟩ := exec_zeroised hc hz hq (wiped_true _) ho (by decide)
    generalize trngRefill (zeroising s.fresh) = x at *
    exact ⟨u, e, hu.free.trans hf, hu.sec.trans hsec, fun n h => by rw [hu.regs]; exact hst n h, hlog, hou⟩
  case zeros =>
    intro s t hc hz hq
    have hsec := overwrite_sec (fun _ => 0) (zeroising s.fresh)
    have hst := fun n (h : n < 8) => overwrite_stage (fun _ => 0) (zeroising s.fresh) h
    have hfr : (overwrite (fun _ => 0) (zeroising s.fresh)).free = s.free := overwrite_only _ _ .free (by decide)
    have ho : s.fresh.changesOnly (overwrite (fun _ => 0) (zeroising s.fresh)) [.sec, .regs] :=
      (sec_only s.fresh _).trans ((overwrite_only _ _).mono (by decide))
    obtain ⟨u, e, hu, hlog, hou⟩ := exec_zeroised hc hz hq (wiped_false _) ho (by decide)
    generalize overwrite (fun _ => 0) (zeroising s.fresh) = x at *
    rw [← hu.sec] at hsec
    exact ⟨u, e, hu.free.trans hfr, congrArg Sec.zeroStart hsec, congrArg Sec.refill hsec, congrArg Sec.seed hsec, congrArg Sec.keys hsec,
      fun n h => by rw [hu.regs]; exact hst n h, hlog, hou⟩

end Sys2Proof.Machine

namespace Sys2Proof.Machine

/-! ## Side-band commands that act (R503 to R506) -/

/-! ### A request that is admitted -/

/-- A request of its length, with its PEC right, in a mode that admits it, runs. -/
theorem sbRequest_runs {seq : Byte} {n : Nat} {f : State → State} {s : State} (ha : s.isl.aonDown = false) (hb : s.isl.busy = none) :
    sbRequest seq n n true true f s = f s := by
  unfold sbRequest
  rw [ha, hb]
  simp

theorem sbIn_of_mode {s : State} {m : Mode} {ms : List Mode} (hc : s.coreHeld = false) (hm : s.md.mode = m)
    (h : ms.contains m = true) : s.sbIn ms = true := by
  unfold State.sbIn State.coreOn
  rw [hc, hm, h]; rfl

/-- The device with OK as its response. -/
def answered (seq : Byte) (s : State) : State := { s with isl := { s.isl with resp := { seq := seq, status := 0, data := [] } } }

theorem eventFrame.resp {s t : State} (h : eventFrame s t) : t.isl.resp = s.isl.resp := by
  obtain ⟨_, _, _, _, _, _, _, _, _, rfl⟩ := h; rfl

theorem eventFrame.busy {s t : State} (h : eventFrame s t) : t.isl.busy = s.isl.busy := by
  obtain ⟨_, _, _, _, _, _, _, _, _, rfl⟩ := h; rfl

/-! ### WRITE_REG (R473, R504, R505) -/

theorem exec_sbWriteReg_core_off {seq : Byte} {a : Nat} {v : Word32} {s : State} (ha : s.isl.aonDown = false) (hb : s.isl.busy = none)
    (hc : s.coreHeld = true) (h4 : a % 4 = 0) (hl : a ≠ Reg.SEC_ALARM_LATCH) :
    exec (.sbWriteReg seq 9 true a v) s = .next { s.fresh with isl := { s.isl with resp := { seq := seq, status := 6, data := [] } } } := by
  have ho : s.fresh.coreOn = false := by show (!s.coreHeld) = false; rw [hc]; rfl
  have hn : ¬ (a = Reg.SEC_ALARM_LATCH ∨ (s.fresh.sbIn [.maintenance] = true ∧ a % 4 = 0 ∧ sbReaches a = true)) := by
    unfold State.sbIn
    simp [hl, ho]
  refine islandCmd_not_live ((sbRequest_runs (s := s.fresh) ha hb).trans ?_) (live_of_coreHeld hc) rfl
  exact (if_neg hn).trans (if_pos ⟨h4, ho⟩)

/-- Registers whose fields no range names (R119, R419, R544). -/
theorem inRange_of_unlisted {a : Nat} {fs : List RField} (s : State) (v : Nat) (hr : ranges.all (fun r => !r.holds a) = true)
    (hp : (decide (Reg.PRS_PORT_START 0 ≤ a) && decide (a < Reg.PRS_PORT_START 8)) = false)
    (hs : arrIdx a (Reg.FWD_STEP_HI 0 0) 8 64 = none) : s.inRange fs a v = true := by
  have ho (f : Nat → Nat → Bool) : rangesOk a v f = true := by
    refine List.all_eq_true.mpr fun r hm => ?_
    have hn := List.all_eq_true.mp hr r hm
    simp only [Bool.not_eq_true'] at hn
    rw [hn]; rfl
  simp [State.inRange, ho, hp, hs]

def latchFields : List RField := [{ hi := 31, lo := 17, acc := .res }, { hi := 16, lo := 16, acc := .w1c }, { hi := 15, lo := 0, acc := .w1c }]

theorem regAt_latch : regAt Reg.SEC_ALARM_LATCH = some { base := Reg.SEC_ALARM_LATCH, fields := latchFields } := rfl

/-- The side-band master clears bits of SEC_ALARM_LATCH in every mode (R473). -/
theorem writeReg_latch (v : Nat) (s : State) :
    writeReg 1 none Reg.SEC_ALARM_LATCH v s = { s with isl := { s.isl with latch := s.isl.latch &&& ~~~(BitVec.ofNat 17 v) } } := by
  have hm : s.admits 1 Reg.SEC_ALARM_LATCH v = true := if_pos ⟨rfl, .inr rfl⟩
  rw [writeReg_taken rfl (by decide) regAt_latch hm rfl rfl (inRange_of_unlisted s v (by decide) (by decide) rfl)]
  rfl

theorem exec_sbWriteReg_latch {seq : Byte} {v : Word32} {s : State} (ha : s.isl.aonDown = false) (hb : s.isl.busy = none) (hq : s.quiet) :
    exec (.sbWriteReg seq 9 true Reg.SEC_ALARM_LATCH v) s = .next
      { s.fresh with
        isl := { s.isl with latch := s.isl.latch &&& ~~~(BitVec.ofNat 17 v.toNat), resp := { seq := seq, status := 0, data := [] } } } := by
  refine islandCmd_quiet ((sbRequest_runs (s := s.fresh) ha hb).trans ((if_pos (.inl rfl)).trans ?_)) hq rfl
  rw [writeReg_latch]
  rfl

theorem sbReaches_scratch : sbReaches Reg.MGT_SCRATCH = true := by
  unfold sbReaches; rw [regAt_scratch]; rfl

/-- In Maintenance the side-band master writes as the host does (R504). -/
theorem writeReg_scratch_sideband {v : Nat} {s : State} (hm : s.md.mode = .maintenance) (hf : s.md.loadFailed = false) (hv : v < 2 ^ 32) :
    writeReg 1 none Reg.MGT_SCRATCH v s = setReg Reg.MGT_SCRATCH v s := by
  have ha : s.admits 1 Reg.MGT_SCRATCH v = true := by
    simp [State.admits, State.hostMayWrite, hm, hf, Reg.MGT_SCRATCH, Reg.SEC_ALARM_LATCH, Reg.LPC_PORT_ADMIN]
  rw [writeReg_taken rfl (by decide) regAt_scratch ha rfl rfl (inRange_scratch s v), takeWrite_scratch s hv]

theorem exec_sbWriteReg_scratch {seq : Byte} {v : Word32} {s : State} (hl : s.live = true) (hb : s.isl.busy = none)
    (hm : s.md.mode = .maintenance) (hf : s.md.loadFailed = false) :
    exec (.sbWriteReg seq 9 true Reg.MGT_SCRATCH v) s = .next
      { s.fresh with
        regs := s.regs.set Reg.MGT_SCRATCH v,
        isl := { s.isl with resp := { seq := seq, status := 0, data := [] } } } := by
  have hc := coreHeld_of_live hl
  have hi : s.fresh.sbIn [.maintenance] = true := sbIn_of_mode (s := s.fresh) hc hm rfl
  refine islandCmd_quiet ((sbRequest_runs (s := s.fresh) (aonDown_of_not_held hc) hb).trans
    ((if_pos (.inr ⟨hi, rfl, sbReaches_scratch⟩)).trans ?_)) (quiet_of_mode (m := .maintenance) hm) rfl
  rw [writeReg_scratch_sideband (s := s.fresh) hm hf v.isLt, setReg, BitVec.ofNat_toNat, BitVec.setWidth_eq]
  rfl

/-! ### Mode commands (R80, R84, R88, R89) -/

theorem doSbDrain_starts {target : Nat} (seq : Byte) (s : State) (ht : target ≤ 2) :
    doSbDrain seq target s = startDrain target 5 (answered seq s) := if_neg (Nat.not_lt.mpr ht)

section modes
variable {seq : Byte} {s : State} (hc : s.coreHeld = false) (hb : s.isl.busy = none)
include hc hb

theorem exec_sbHeadless (hm : s.md.mode = .service) :
    exec (.sbHeadless seq 1 true) s = .next (changeMode .headless 5 (answered seq s.fresh)) := by
  have hf := (changeMode_raised .headless 5 (answered seq s.fresh)).frame
  refine islandCmd_quiet ?_ (quiet_of_mode (m := .headless) (by rw [hf.md])) hf.pending
  show sbRequest seq 1 1 true (s.fresh.sbIn [.service]) _ _ = _
  rw [sbIn_of_mode (s := s.fresh) hc hm rfl]
  exact sbRequest_runs (s := s.fresh) (aonDown_of_not_held hc) hb

variable (hm : s.md.mode = .headless)
include hm

omit hc hb in
theorem startDrain_headless (target : Nat) : Raised 0 1 noUnit 0x050203
      { s.fresh with
        isl := { s.isl with resp := { seq := seq, status := 0, data := [] } },
        md := { s.md with mode := .drain, cause := 5, target := target, drainStart := s.now, drained := false } }
      (startDrain target 5 (answered seq s.fresh)) := by
  have h := startDrain_raised target 5 (s := answered seq s.fresh) (by show s.md.mode ≠ _; rw [hm]; decide)
  rw [show (answered seq s.fresh).md.mode = .headless from hm] at h
  exact h

theorem sbDrain_runs {target : Nat} (ht : target ≤ 2) {n : Nat} :
    sbRequest seq n n true (s.fresh.sbIn [.headless, .drain]) (doSbDrain seq target) s.fresh = startDrain target 5 (answered seq s.fresh) := by
  rw [sbIn_of_mode (s := s.fresh) hc hm rfl, sbRequest_runs (s := s.fresh) (aonDown_of_not_held hc) hb, doSbDrain_starts seq s.fresh ht]

theorem exec_sbDrain_holding {target : Nat} (hp : s.holdsPackets = true) (ht : target ≤ 2) :
    exec (.sbDrain seq 2 true target) s = .next (startDrain target 5 (answered seq s.fresh)) := by
  have hf := (startDrain_headless (seq := seq) hm target).frame
  exact islandCmd_quiet (sbDrain_runs hc hb hm ht) (fun _ => .inr (hf.packets.trans hp)) hf.pending

theorem exec_sbRestart_holding (hp : s.holdsPackets = true) :
    exec (.sbRestart seq 1 true) s = .next (startDrain 2 5 (answered seq s.fresh)) := by
  have hf := (startDrain_headless (seq := seq) hm 2).frame
  exact islandCmd_quiet (sbDrain_runs hc hb hm (le_refl 2)) (fun _ => .inr (hf.packets.trans hp)) hf.pending

end modes

/-- A device that enters Drain without packets moves on at once (R87, R88). -/
theorem exec_sbDrain_empty {seq : Byte} {s : State} (hl : s.live = true) (hb : s.isl.busy = none) (hm : s.md.mode = .headless)
    (hp : s.holdsPackets = false) :
    ∃ t, exec (.sbDrain seq 2 true 1) s = .next t ∧
      t.md = { s.md with mode := .maintenance, cause := 6, target := 1, drainStart := s.now, drained := false } ∧
      t.isl.resp = { seq := seq, status := 0, data := [] } := by
  have hf := (startDrain_headless (seq := seq) hm 1).frame
  have e := sbDrain_runs (seq := seq) (n := 2) (coreHeld_of_live hl) hb hm (target := 1) (by decide)
  generalize startDrain 1 5 (answered seq s.fresh) = x at *
  have hxm := hf.md
  have hx : x.md.mode = .drain ∧ x.md.drained = false ∧ x.holdsPackets = false ∧ x.live = true :=
    ⟨by rw [hxm], by rw [hxm], hf.packets.trans hp, hf.live.trans hl⟩
  have hd := drainDone_frame x
  have hdm := drainDone_md x
  have hs : settle x = moveMode .maintenance 6 (drainDone x) :=
    (settle_drains hx).trans (drainTarget_maintenance (by rw [hdm]; exact hx.1) (by rw [hdm]) (by rw [hdm, hxm]))
  generalize drainDone x = y at *
  have hr : (moveMode .maintenance 6 y).isl.resp = { seq := seq, status := 0, data := [] } :=
    (congrArg Island.resp (moveMode_isl _ _ _)).trans
      ((changeMode_raised .maintenance 6 y).frame.resp.trans (hd.resp.trans hf.resp))
  refine ⟨_, (congrArg (finish s) e).trans (finish_of_settled hs ((moveMode_pending _ _ _).trans (hd.pending.trans hf.pending))), ?_, hr⟩
  rw [moveMode_maintenance_md (by rw [hdm]; exact hx.1), hdm, hxm]

/-- A warm reload with no request in execution leaves the response standing. -/
theorem warmReload_resp {cause : Nat} {s : State} (hr : s.otp.rootHash ≠ 0) (hs : s.isl.scorchPending = false) (hb : s.isl.busy = none) :
    (warmReload cause s).isl.resp = s.isl.resp := by
  have hf := (changeMode_raised .load cause s).frame
  have hi : (sbStop (resetBlocks (changeMode .load cause s))) = resetBlocks (changeMode .load cause s) := sbStop_idle (hf.busy.trans hb)
  have e : (reloaded cause s).isl = (changeMode .load cause s).isl :=
    (show (reloaded cause s).isl = (sbStop (resetBlocks (changeMode .load cause s))).isl from rfl).trans
      ((congrArg State.isl hi).trans rfl)
  rw [warmReload_waits_only hr hs .isl (by decide)]
  exact (congrArg Island.resp e).trans hf.resp

theorem exec_sbReload {seq : Byte} {s : State} (hc : s.coreHeld = false) (hb : s.isl.busy = none) (hm : s.md.mode = .maintenance)
    (hr : s.otp.rootHash ≠ 0) (hs : s.isl.scorchPending = false) :
    exec (.sbReload seq 1 true) s = .next (warmReload 5 (answered seq s.fresh)) := by
  refine islandCmd_quiet ?_ (quiet_of_mode (m := .load) (congrArg ModeSt.mode (warmReload_md (s := answered seq s.fresh) hr hs)))
    (warmReload_pending (s := answered seq s.fresh) hr hs)
  show sbRequest seq 1 1 true (s.fresh.sbIn [.maintenance]) _ _ = _
  rw [sbIn_of_mode (s := s.fresh) hc hm rfl]
  exact sbRequest_runs (s := s.fresh) (aonDown_of_not_held hc) hb

end Sys2Proof.Machine

namespace Sys2Proof.Machine

/-! ## ECP requests of the side-band port (R481, R485, R503, R504) -/

theorem updEcp_only (n : Nat) (f : EcpPort → EcpPort) (s : State) {fs : List Fld} (h : Fld.ecp ∈ fs := by decide) :
    s.changesOnly (updEcp n f s) fs := ecp_only s _ h

theorem updEcp_get (n : Nat) (f : EcpPort → EcpPort) (s : State) : (updEcp n f s).ecp.get n = f (s.ecp.get n) :=
  SMap.get_upd_self _ _ _

theorem updEcp_get_ne {n k : Nat} (f : EcpPort → EcpPort) (s : State) (h : k ≠ n) : (updEcp n f s).ecp.get k = s.ecp.get k :=
  SMap.get_upd_ne _ _ h

/-! ### A single-entry operation that commits at once -/

/-- Port 8 waits for none where no host port's commit waits (R485). -/
theorem waitingBefore_none {s : State} (h : ∀ k < 8, (s.ecp.get k).waitNo = 0) : s.waitingBefore 8 = [] := by
  unfold State.waitingBefore
  dsimp only
  rw [List.filter_eq_nil_iff.mpr ?_]
  · rfl
  intro k hk
  have hk := List.mem_range.mp hk
  by_cases h8 : k = 8
  · subst h8; simp
  · simp [h k (by omega)]

theorem ecpAdvance_alone {n places : Nat} {s : State} (h : s.waitingBefore n = []) : ecpAdvance n places s = ecpGo n places s := by
  unfold ecpAdvance; rw [h]; rfl

theorem ecpGo_commits {n places : Nat} {s : State} (hj : ecpJudge n (s.ecp.get n) s = (none, s))
    (ho : (s.ecp.get n).lop ≠ some .flushByMask) (hs : (s.ecp.get n).sent = false) : ecpGo n places s = ecpSingle n s := by
  unfold ecpGo
  dsimp only
  rw [hj]
  dsimp only
  rw [if_neg ho, hs]
  rfl

theorem ecpSingle_done {n : Nat} {s t : State} {r : EcpRes}
    (h : tableOp ((s.ecp.get n).latched n) (updEcp n (fun p => { p with sent := true }) s) = (.done r, t)) :
    ecpSingle n s = updEcp n (fun p => { p with sent := false, outcome := some r, waitNo := 0 }) t := by
  unfold ecpSingle
  rw [h]

/-! ### A READ of an L2 station -/

/-- Port 8 reads in Service (R488). -/
theorem ecpJudge_l2_read {p : EcpPort} {s : State} (hm : s.md.mode = .service) (ho : p.lop = some .read) (ht : p.ltbl = 0x12) :
    ecpJudge 8 p s = (none, s) := by
  have hr : s.ecpRights 8 p.lop p.ltbl = true := by
    unfold State.ecpRights
    rw [if_pos rfl, hm, ho]; rfl
  have h2 : tblOf 0x12 = some .l2 := rfl
  unfold ecpJudge
  rw [if_neg (by rintro ⟨h, _⟩; omega), hr, ho, ht, h2]
  rfl

theorem tableOp_l2_read {q : TOp} {s : State} (ht : q.tbl = 0x12) (ho : q.op = .read) (hi : q.idx < 2097152) :
    tableOp q s = (.done { result := 0, idx := q.idx, cnt := 1, dat := l2Dat (s.fwd.l2.get q.idx) }, s) := by
  have h2 : tblOf 0x12 = some .l2 := rfl
  unfold tableOp
  rw [ht, h2]
  show l2Op q s = _
  unfold l2Op
  rw [ho]
  exact if_neg (Nat.not_le.mpr hi)

/-- The outcome of a READ of L2 entry idx. -/
def l2Outcome (idx : Nat) (s : State) : EcpRes := { result := 0, idx := idx, cnt := 1, dat := l2Dat (s.fwd.l2.get idx) }

/-- Port 8 stands at the beginning of a READ of L2 entry idx. -/
structure L2Read (idx : Nat) (p : EcpPort) : Prop where
  lop : p.lop = some .read
  ltbl : p.ltbl = 0x12
  lidx : p.lidx = idx
  sent : p.sent = false
  busy : p.busy = true

theorem ecpAdvance_l2_read {idx places : Nat} {s : State} (hm : s.md.mode = .service) (hi : idx < 2097152)
    (hw : ∀ k < 8, (s.ecp.get k).waitNo = 0) (hp : L2Read idx (s.ecp.get 8)) :
    ∃ t, ecpAdvance 8 places s = t ∧ s.changesOnly t [.ecp] ∧ (t.ecp.get 8).busy = true ∧
      (t.ecp.get 8).outcome = some (l2Outcome idx s) := by
  have hj : ecpJudge 8 (s.ecp.get 8) s = (none, s) := ecpJudge_l2_read hm hp.lop hp.ltbl
  have hq : ∀ u, tableOp ((s.ecp.get 8).latched 8) u = (.done (l2Outcome idx u), u) := fun u => by
    rw [tableOp_l2_read (q := (s.ecp.get 8).latched 8) hp.ltbl (by rw [EcpPort.latched, hp.lop]; rfl) (by rw [EcpPort.latched, hp.lidx]; exact hi),
      show ((s.ecp.get 8).latched 8).idx = idx from hp.lidx]
    rfl
  have e := (ecpAdvance_alone (places := places) (waitingBefore_none hw)).trans
    ((ecpGo_commits hj (by rw [hp.lop]; decide) hp.sent).trans (ecpSingle_done (hq _)))
  refine ⟨_, e, (updEcp_only 8 _ s).trans (updEcp_only 8 _ _), ?_, ?_⟩
  · rw [updEcp_get, updEcp_get]; exact hp.busy
  · rw [updEcp_get]; rfl

/-- The registers of port 8 as a side-band request for a READ of L2 entry idx sets them. -/
def l2Asked (idx : Nat) (p : EcpPort) : EcpPort :=
  { p with tbl := 0x12, idx := idx % 2 ^ 32, dat := BitVec.ofNat 1024 ((0 : Dat).toNat % 2 ^ (8 * 0)) }

/-- The port as it latches that START (R482). -/
def l2Started (x : TableSide) (p : EcpPort) : EcpPort :=
  { p with op := 1, busy := true, done := false, aborted := false, lop := some .read, ltbl := p.tbl, lidx := p.idx, ldat := p.dat,
           lwin := .bar0, side := x, outcome := Option.none, abort := false, walkPos := 0, walkCnt := 0, sent := false, waitNo := 0 }

/-- The device with the request in execution and the START latched. -/
def l2Taken (seq : Byte) (idx : Nat) (x : TableSide) (s : State) : State :=
  { updEcp 8 (l2Started x) (updEcp 8 (l2Asked idx) { s with isl := { s.isl with busy := some seq } }) with free := s.free + 1 }

theorem doSbEcp_l2_read (seq : Byte) (idx : Nat) (x : TableSide) (s : State) :
    doSbEcp seq 0x12 1 idx 0 0 x s = ecpAdvance 8 (Config.pick s.free) (l2Taken seq idx x s) := by
  unfold doSbEcp
  exact if_neg (by decide)

theorem l2Taken_only (seq : Byte) (idx : Nat) (x : TableSide) (s : State) : s.changesOnly (l2Taken seq idx x s) [.isl, .ecp, .free] :=
  (isl_only s _).trans ((updEcp_only 8 _ _).trans ((updEcp_only 8 _ _).trans (free_only _ _)))

theorem l2Taken_get (seq : Byte) (idx : Nat) (x : TableSide) (s : State) :
    (l2Taken seq idx x s).ecp.get 8 = l2Started x (l2Asked idx (s.ecp.get 8)) := by
  show (updEcp 8 _ (updEcp 8 _ _)).ecp.get 8 = _
  rw [updEcp_get, updEcp_get]

theorem l2Taken_get_ne {k : Nat} (seq : Byte) (idx : Nat) (x : TableSide) (s : State) (h : k < 8) :
    (l2Taken seq idx x s).ecp.get k = s.ecp.get k := by
  show (updEcp 8 _ (updEcp 8 _ _)).ecp.get k = _
  rw [updEcp_get_ne _ _ (by omega), updEcp_get_ne _ _ (by omega)]

theorem exec_sbEcp_l2_read {seq : Byte} {idx : Nat} {x : TableSide} {s : State} (hc : s.coreHeld = false) (hb : s.isl.busy = none)
    (hm : s.md.mode = .service) (hi : idx < 2097152) (hw : ∀ k < 8, (s.ecp.get k).waitNo = 0) :
    ∃ t, exec (.sbEcp seq 8 true 0x12 1 idx 0 0 x) s = .next t ∧ t.isl.busy = some seq ∧ (t.ecp.get 8).busy = true ∧
      (t.ecp.get 8).outcome = some (l2Outcome idx s) ∧ s.fresh.changesOnly t [.isl, .ecp, .free] := by
  have ho := l2Taken_only seq idx x s.fresh
  have hp : L2Read idx ((l2Taken seq idx x s.fresh).ecp.get 8) := by
    rw [l2Taken_get]
    exact { lop := rfl, ltbl := rfl, lidx := Nat.mod_eq_of_lt (by omega), sent := rfl, busy := rfl }
  have hw' : ∀ k < 8, ((l2Taken seq idx x s.fresh).ecp.get k).waitNo = 0 := fun k hk => by
    rw [l2Taken_get_ne seq idx x s.fresh hk]; exact hw k hk
  have e := doSbEcp_l2_read seq idx x s.fresh
  have hbusy : (l2Taken seq idx x s.fresh).isl.busy = some seq := rfl
  have hfwd : (l2Taken seq idx x s.fresh).fwd = s.fwd := ho .fwd (by decide)
  have hmd : (l2Taken seq idx x s.fresh).md = s.md := ho .md (by decide)
  generalize l2Taken seq idx x s.fresh = u at *
  obtain ⟨t, et, hto, htb, hout⟩ := ecpAdvance_l2_read (places := Config.pick s.free) (by rw [hmd]; exact hm) hi hw' hp
  have hall : s.fresh.changesOnly t [.isl, .ecp, .free] := ho.trans (hto.mono (by decide))
  have hmt : t.md = s.md := hall .md (by decide)
  refine ⟨t, islandCmd_quiet ?_ (quiet_of_mode (m := .service) (by rw [hmt]; exact hm)) (hall .pending (by decide)), ?_, htb, ?_, hall⟩
  · show sbRequest seq 8 (8 + 0) true (s.fresh.sbIn [.service, .headless, .drain, .maintenance]) _ _ = _
    rw [sbIn_of_mode (s := s.fresh) hc hm rfl]
    exact (sbRequest_runs (s := s.fresh) (aonDown_of_not_held hc) hb).trans (e.trans et)
  · rw [hto .isl (by decide)]; exact hbusy
  · rw [hout]
    unfold l2Outcome
    rw [hfwd]

/-- ECP_ABORT asks the port in execution to stop (R487). -/
theorem exec_sbEcpAbort_executing {seq q : Byte} {s : State} (ha : s.isl.aonDown = false) (hb : s.isl.busy = some q) (hq : s.quiet)
    (hp : (s.ecp.get 8).busy = true) :
    exec (.sbEcpAbort seq 1 true) s = .next { s.fresh with ecp := s.ecp.upd 8 (fun p => { p with abort := true }) } := by
  refine islandCmd_quiet ?_ hq rfl
  unfold doSbEcpAbort
  rw [show s.fresh.isl.aonDown = false from ha, show s.fresh.isl.busy = some q from hb]
  exact if_pos hp

end Sys2Proof.Machine

namespace Sys2Proof.Machine

/-! ## PORT_ADMIN (R84, R95, R504, R553) -/

/-! ### Bits of a port mask -/

theorem bits_self (v i : Nat) : bits v i i = v / 2 ^ i % 2 := by
  rw [bits, Nat.shiftRight_eq_div_pow, Nat.add_sub_cancel_left, Nat.pow_one]

/-- Replacing a bit leaves the part above it and the part below it. -/
theorem setBit_eq (v i : Nat) (b : Bool) : setBit v i b = 2 ^ i * (2 * (v / 2 ^ (i + 1)) + b.toNat) + v % 2 ^ i := by
  have hb : (if b then 1 else 0 : Nat) % 2 ^ (i + 1 - i) = b.toNat := by
    rw [Nat.add_sub_cancel_left]; cases b <;> rfl
  have hd : v = 2 ^ i * (v / 2 ^ i) + v % 2 ^ i := (Nat.div_add_mod v _).symm
  have hq : v / 2 ^ i = 2 * (v / 2 ^ (i + 1)) + v / 2 ^ i % 2 := by
    rw [Nat.pow_succ, ← Nat.div_div_eq_div_mul]; omega
  unfold setBit setBits
  rw [hb, bits_self, Nat.shiftLeft_eq, Nat.shiftLeft_eq]
  generalize v / 2 ^ (i + 1) = q at *
  generalize v % 2 ^ i = r at *
  generalize v / 2 ^ i % 2 = c at *
  rw [hq] at hd
  have hx : v = 2 ^ i * (2 * q) + c * 2 ^ i + r := by rw [hd]; ring
  have hy : 2 ^ i * (2 * q + b.toNat) + r = 2 ^ i * (2 * q) + b.toNat * 2 ^ i + r := by ring
  rw [hx, hy]
  omega

theorem testBit_setBit (v i j : Nat) (b : Bool) : (setBit v i b).testBit j = if j = i then b else v.testBit j := by
  have hr : v % 2 ^ i < 2 ^ i := Nat.mod_lt _ (Nat.two_pow_pos i)
  have hd : v = 2 ^ i * (v / 2 ^ i) + v % 2 ^ i := (Nat.div_add_mod v _).symm
  rw [setBit_eq, Nat.testBit_two_pow_mul_add _ hr]
  rcases Nat.lt_trichotomy j i with h | h | h
  · rw [if_pos h, if_neg (by omega), Nat.testBit_mod_two_pow]
    simp [h]
  · subst h
    rw [if_neg (Nat.lt_irrefl _), if_pos rfl, Nat.sub_self, Nat.testBit_zero]
    cases b <;> simp
  · obtain ⟨k, rfl⟩ := Nat.exists_eq_add_of_lt h
    rw [if_neg (by omega), if_neg (by omega), show i + k + 1 - i = k + 1 by omega, Nat.testBit_succ,
      show (2 * (v / 2 ^ (i + 1)) + b.toNat) / 2 = v / 2 ^ (i + 1) by have := b.toNat_le; omega, Nat.testBit_div_two_pow]
    congr 1; omega

/-- The ports that c names take their bits from b. -/
def portBits (c b : Nat → Bool) (old : Nat) : Nat :=
  (List.range 32).foldl (fun v p => if c p then setBit v p (b p) else v) old

theorem testBit_foldl_setBit (c b : Nat → Bool) (old n j : Nat) :
    ((List.range n).foldl (fun v p => if c p then setBit v p (b p) else v) old).testBit j =
      if j < n ∧ c j = true then b j else old.testBit j := by
  induction n with
  | zero => simp
  | succ n ih =>
    rw [List.range_succ, List.foldl_append, List.foldl_cons, List.foldl_nil]
    by_cases hc : c n = true
    · rw [if_pos hc, testBit_setBit]
      by_cases hj : j = n
      · subst hj; simp [hc]
      · rw [if_neg hj, ih]
        simp only [show j < n + 1 ↔ j < n by omega]
    · rw [if_neg hc, ih]
      by_cases hj : j = n
      · subst hj; simp [hc]
      · simp only [show j < n + 1 ↔ j < n by omega]

theorem testBit_portBits (c b : Nat → Bool) (old j : Nat) :
    (portBits c b old).testBit j = if j < 32 ∧ c j = true then b j else old.testBit j := testBit_foldl_setBit c b old 32 j

theorem maskOf_succ (n : Nat) (f : Nat → Bool) : maskOf (n + 1) f = 2 ^ n * b2n (f n) + maskOf n f := by
  unfold maskOf
  rw [List.range_succ, List.map_append, List.sum_append]
  simp [Nat.add_comm]

theorem maskOf_lt (n : Nat) (f : Nat → Bool) : maskOf n f < 2 ^ n := by
  induction n with
  | zero => simp [maskOf]
  | succ n ih =>
    have hb : b2n (f n) ≤ 1 := by cases f n <;> decide
    have : 2 ^ n * b2n (f n) ≤ 2 ^ n * 1 := Nat.mul_le_mul_left _ hb
    rw [maskOf_succ, Nat.pow_succ]
    omega

theorem testBit_maskOf (n : Nat) (f : Nat → Bool) (j : Nat) : (maskOf n f).testBit j = (decide (j < n) && f j) := by
  induction n with
  | zero => simp [maskOf]
  | succ n ih =>
    rw [maskOf_succ, Nat.testBit_two_pow_mul_add _ (maskOf_lt n f)]
    by_cases h : j < n
    · rw [if_pos h, ih]
      simp [h, Nat.lt_succ_of_lt h]
    · rw [if_neg h]
      by_cases hj : j = n
      · subst hj
        rw [Nat.sub_self]
        cases f j <;> simp [b2n]
      · obtain ⟨k, rfl⟩ := Nat.exists_eq_add_of_lt (show n < j by omega)
        rw [show n + k + 1 - n = k + 1 by omega, Nat.testBit_succ]
        have : ¬ n + k + 1 < n + 1 := by omega
        cases f n <;> simp [b2n, this]

/-- The bits that the register takes: those of the ports that exist, from the request's value where the mask selects them. -/
theorem portBits_masked (s : State) (mask value old : Nat) :
    portBits s.portExists (bit (portBits (bit (mask &&& s.portMask)) (bit value) old)) old =
      portBits (fun p => s.portExists p && bit mask p) (bit value) old := by
  refine Nat.eq_of_testBit_eq fun j => ?_
  simp only [testBit_portBits, bit_eq_testBit, Nat.testBit_and, State.portMask, testBit_maskOf]
  by_cases hj : j < 32 <;> cases s.portExists j <;> cases mask.testBit j <;> simp [hj]

/-! ### What a change of LPC_PORT_ADMIN touches (R100, R101, R553) -/

/-- What the change of a port's administrative state may touch. -/
def Fld.portDown : List Fld := Fld.discard ++ [.port, .svc, .fwd]

theorem updPort_only (p : Nat) (f : PortSt → PortSt) (s : State) {fs : List Fld} (h : Fld.port ∈ fs := by decide) :
    s.changesOnly (updPort p f s) fs :=
  fun x hx => by cases x with | port => exact absurd h hx | _ => rfl

theorem dropTails_only {α : Type} (g : α → Option Nat) (l : List α) (s : State) :
    s.changesOnly (l.foldl (fun s k => dropTail (g k) s) s) Fld.portDown :=
  foldl_only (fun t k => (dropTail_stages t (g k)).mono (by decide)) l s

theorem flushPort_only (p code : Nat) (s : State) : s.changesOnly (flushPort p code s) Fld.portDown :=
  (foldl_only (fun t q => (flushQueue_only t true q).mono (by decide)) (s.portQueues p) s).trans
    (((flushStaged_only true _ _).mono (by decide)).trans ((dropTails_only _ _ _).trans
      ((updPod_only _ _).trans ((countA_only _ _ _ _).trans (raise_only _ _ _ _ _)))))

theorem abortFrame_only (p : Nat) (s : State) : s.changesOnly (abortFrame p s) Fld.portDown :=
  (dropTails_only _ _ s).trans ((countA_only _ _ _ _).trans (updTms_only _ _))

theorem l2FlushStart_only (p : Nat) (s : State) : s.changesOnly (l2FlushStart p s) [.fwd] :=
  ite_only (updFwd_only s _) (.refl s _)

/-- A port's flush of its stations starts only where it was up (R197). -/
theorem stations_only (was : Bool) (p : Nat) (s : State) : s.changesOnly (if was then l2FlushStart p s else s) Fld.portDown :=
  ite_only ((l2FlushStart_only p s).mono (by decide)) (.refl s _)

theorem declareDown_only (p : Nat) (admin : Bool) (s : State) : s.changesOnly (declareDown p admin s) Fld.portDown :=
  (updPort_only p (fun x => { x with up := false, holding := false }) s).trans ((abortFrame_only p _).trans ((raise_only _ _ _ _ _).trans
    ((svc_only _ _).trans ((stations_only _ p _).trans (ite_only (updPort_only p _ _) (flushPort_only p 5 _))))))

theorem showFault_only (p : Nat) (s : State) : s.changesOnly (showFault p s) Fld.portDown := ite_only (emit_only _ s) (.refl s _)

theorem adminChange_only (old new p : Nat) (s : State) : s.changesOnly (adminChange old new p s) Fld.portDown :=
  ite_only ((showFault_only p s).trans (declareDown_only p true _))
    (ite_only ((showFault_only p s).trans (updPort_only p _ _)) (.refl s _))

theorem writeAdmin_only (value : Nat) (s : State) :
    (setReg Reg.LPC_PORT_ADMIN (portBits s.portExists (bit value) (s.reg Reg.LPC_PORT_ADMIN)) s).changesOnly (writeAdmin value s)
      Fld.portDown :=
  foldl_only (fun t p => adminChange_only _ _ p t) _ _

/-! ### The request -/

/-- The new content of LPC_PORT_ADMIN. -/
def adminNew (mask value : Nat) (s : State) : Nat :=
  portBits (fun p => s.portExists p && bit mask p) (bit value) (s.reg Reg.LPC_PORT_ADMIN)

theorem exec_sbPortAdmin {seq : Byte} {mask value : Word32} {s : State} (hc : s.coreHeld = false) (hb : s.isl.busy = none)
    (hm : s.md.mode = .headless) :
    ∃ t, exec (.sbPortAdmin seq 9 true mask value) s = .next t ∧
      t.regs = s.regs.set Reg.LPC_PORT_ADMIN (BitVec.ofNat 32 (adminNew mask.toNat value.toNat s)) ∧
      t.isl.resp = { seq := seq, status := 0, data := leBytes 4 (t.reg Reg.LPC_PORT_ADMIN) } ∧
      s.fresh.changesOnly t (Fld.portDown ++ [.regs]) := by
  let new := portBits (bit (mask.toNat &&& s.portMask)) (bit value.toNat) (s.reg Reg.LPC_PORT_ADMIN)
  have hw := writeAdmin_only new s.fresh
  have hnew : portBits s.fresh.portExists (bit new) (s.fresh.reg Reg.LPC_PORT_ADMIN) = adminNew mask.toNat value.toNat s :=
    portBits_masked s mask.toNat value.toNat (s.reg Reg.LPC_PORT_ADMIN)
  rw [hnew] at hw
  have e : doSbPortAdmin seq mask.toNat value.toNat s.fresh =
      sbRespond seq .ok (leBytes 4 ((writeAdmin new s.fresh).reg Reg.LPC_PORT_ADMIN)) (writeAdmin new s.fresh) := rfl
  generalize writeAdmin new s.fresh = x at *
  have hx : s.fresh.changesOnly x (Fld.portDown ++ [.regs]) := (setReg_only _ _ _).trans (hw.mono (by decide))
  have ho : s.fresh.changesOnly (sbRespond seq .ok (leBytes 4 (x.reg Reg.LPC_PORT_ADMIN)) x) (Fld.portDown ++ [.regs]) :=
    hx.trans (isl_only x _)
  have hxm : x.md = s.md := hx .md (by decide)
  have hxr : x.regs = s.regs.set Reg.LPC_PORT_ADMIN (BitVec.ofNat 32 (adminNew mask.toNat value.toNat s)) := hw .regs (by decide)
  refine ⟨_, islandCmd_quiet ?_ (quiet_of_mode (m := .headless) (by show x.md.mode = _; rw [hxm]; exact hm)) (ho .pending (by decide)), hxr, rfl, ho⟩
  show sbRequest seq 9 9 true (s.fresh.sbIn [.headless]) _ _ = _
  rw [sbIn_of_mode (s := s.fresh) hc hm rfl]
  exact (sbRequest_runs (s := s.fresh) (aonDown_of_not_held hc) hb).trans e

/-- Settles O31: WRITE_REG, ECP and ECP_ABORT, the mode commands and PORT_ADMIN. -/
theorem sidebandWrites : Obligations.SidebandWrites := by
  refine ⟨fun seq a v s ha hb hc h4 hl => exec_sbWriteReg_core_off ha hb hc h4 hl, fun seq v s ha hb hq => exec_sbWriteReg_latch ha hb hq,
    fun seq v s hl hb hm hf => exec_sbWriteReg_scratch hl hb hm hf, ?ecp, fun seq q s ha hb hq hp => exec_sbEcpAbort_executing ha hb hq hp,
    fun seq s hc hb hm => exec_sbHeadless hc hb hm,
    fun seq target s hc hb hm hp ht => ⟨_, exec_sbDrain_holding hc hb hm hp ht, startDrain_headless hm target⟩,
    fun seq s hl hb hm hp => exec_sbDrain_empty hl hb hm hp,
    fun seq s hc hb hm hp => ⟨_, exec_sbRestart_holding hc hb hm hp, startDrain_headless hm 2⟩, ?reload, ?admin⟩
  case ecp =>
    intro seq idx x s hc hb hm hi hw
    obtain ⟨t, e, hbusy, hb8, hout, ho⟩ := exec_sbEcp_l2_read (seq := seq) (x := x) hc hb hm hi hw
    exact ⟨t, e, hbusy, hb8, hout, ho.mono (by decide)⟩
  case reload =>
    intro seq s hc hb hm hr hs
    have ho := warmReload_only (cause := 5) (s := answered seq s.fresh) hr hs
    exact ⟨_, exec_sbReload hc hb hm hr hs, warmReload_md (s := answered seq s.fresh) hr hs, warmReload_load (s := answered seq s.fresh) hr hs,
      ho .tbl (by decide), warmReload_tbe (s := answered seq s.fresh) hr hs, warmReload_resp (s := answered seq s.fresh) hr hs hb⟩
  case admin =>
    intro seq mask value s hc hb hm
    obtain ⟨t, e, hr, hresp, ho⟩ := exec_sbPortAdmin (seq := seq) (mask := mask) (value := value) hc hb hm
    exact ⟨t, e, hr, hresp, ho.mono (by decide)⟩

end Sys2Proof.Machine

namespace Sys2Proof.Machine

/-! ## Packets that leave a cluster, and the egress entry (R104, R208, R290, R301, R303) -/

/-! ### Frames -/

theorem reapTail_only (p : Pkt) (s : State) : s.changesOnly (reapTail p s) Fld.pass := by
  unfold reapTail
  split
  · exact .refl s _
  · exact ite_only (.refl s _) (dropTail_only _ s)

theorem tmsEnqueue_only (pipe : Nat) (p : Pkt) (s : State) : s.changesOnly (tmsEnqueue pipe p s) Fld.pass := by
  unfold tmsEnqueue
  extract_lets c
  split
  · exact (countC_only s _ _).trans (raiseLim_only _ _ _ _ _ _ _)
  · exact (countC_only s _ _).trans (raiseLim_only _ _ _ _ _ _ _)
  · exact ite_only (countC_only s _ _) (ite_only (countC_only s _ _)
      (ite_only ((countC_only s _ _).trans (tblSet_only _ _ _ _)) (enterQueue_only _ _ _ _ s)))

/-- With no tail to come nothing is left to discard. -/
theorem reapTail_none {p : Pkt} (h : p.tail = none) (s : State) : reapTail p s = s := by
  unfold reapTail; rw [h]

/-! ### What an exit does by its direction (R301, R303) -/

/-- s after a change of the engines alone. -/
def withEng (v : EngSt) (s : State) : State := { s.fresh with eng := v }

/-- The thread of a run that left is free. -/
abbrev exited (th : Nat) (s : State) : State := withEng { s.eng with th := s.eng.th.set th {} } s

theorem exited_only (th : Nat) (s : State) {fs : List Fld} (h : Fld.eng ∈ fs := by decide) : s.fresh.changesOnly (exited th s) fs :=
  eng_only s.fresh _ h

section exit
variable {th : Nat} {s : State} (hm : s.moves = true) (hw : (s.th th).wait = .ended) (he : s.mayExit th = true)
include hm hw he

/-- A run that may leave, whose packet is no punt with its tail to come, leaves by its verdict at ingress or at egress. -/
theorem doClusterExit_leaves (ht : (s.th th).verdict ≠ 2 ∨ (s.th th).pkt.tail = none) :
    doClusterExit th s.fresh =
      if (s.th th).egress then reapTail (s.th th).pkt (exitEgress (thCluster th) (s.th th) (exited th s))
      else exitIngress (thCluster th) (s.th th) (exited th s) := by
  have hp : ¬ ((s.th th).verdict = 2 ∧ s.tailOpen (s.th th).pkt = true) := fun k =>
    ht.elim (absurd k.1) fun n => absurd k.2 (by rw [tailOpen_of_no_tail n]; decide)
  refine if_neg ?_
  rintro (k | k | k | k)
  · exact Bool.noConfusion (hm.symm.trans k)
  · exact k hw
  · exact Bool.noConfusion (he.symm.trans k)
  · exact hp k

theorem doClusterExit_ingress (hd : (s.th th).egress = false) (ht : (s.th th).verdict ≠ 2 ∨ (s.th th).pkt.tail = none) :
    doClusterExit th s.fresh = exitIngress (thCluster th) (s.th th) (exited th s) := by
  rw [doClusterExit_leaves hm hw he ht, if_neg (by rw [hd]; decide)]

theorem doClusterExit_egress (hd : (s.th th).egress = true) (hv : (s.th th).verdict ≠ 2) :
    doClusterExit th s.fresh = reapTail (s.th th).pkt (exitEgress (thCluster th) (s.th th) (exited th s)) := by
  rw [doClusterExit_leaves hm hw he (.inl hv), if_pos hd]

/-- A whole packet that leaves an egress run leaves no tail to discard. -/
theorem doClusterExit_egress_whole (hd : (s.th th).egress = true) (hv : (s.th th).verdict ≠ 2) (ht : (s.th th).pkt.tail = none) :
    doClusterExit th s.fresh = exitEgress (thCluster th) (s.th th) (exited th s) := by
  rw [doClusterExit_egress hm hw he hd hv, reapTail_none ht]

end exit

/-! ### Verdicts (R301) -/

theorem exitIngress_drop {i : Nat} {h : Thread} (hv : h.verdict = 1) (s : State) : exitIngress i h s = s := by
  simp only [exitIngress, hv]

theorem exitEgress_drop {j : Nat} {h : Thread} (hv : h.verdict = 1) (s : State) : exitEgress j h s = s := by
  simp only [exitEgress, hv]

theorem exitEgress_recirculate {j : Nat} {h : Thread} (hv : h.verdict = 3) (s : State) :
    exitEgress j h s = countC h.pkt.cls (Cnt.ENG_EGR_RECIRC j) s := by
  simp only [exitEgress, hv]

/-- A sound packet that a program punted joins the punts of its pipeline (R347). -/
theorem exitIngress_punt {i : Nat} {h : Thread} (hv : h.verdict = 2) (hs : h.started = true) (hb : h.pkt.bad = false) (s : State) :
    exitIngress i h s = puntIngress i h.varg 4 h.pkt s := by
  unfold exitIngress ingressPunt
  rw [hv, hs, hb]
  rfl

/-- A program that held no clove translated nothing (R246). -/
theorem translates_none {i fmt : Nat} {h : Thread} {s : State} (hc : h.clove = none) : s.translates i h fmt = false := by
  unfold State.translates; rw [hc]

/-- A packet that no program translated goes on as it is. -/
theorem exitIngress_forward {i : Nat} {h : Thread} (hv : h.verdict = 0) (hc : h.clove = none) (hn : h.pkt.nat64 = false) (s : State) :
    exitIngress i h s = ingressForward i (if h.keyed && datU h.key 0 1 == 1 then some h.key else s.fiveTuple h.pkt) h.pkt s := by
  have hp : { h.pkt with nat64 := s.translates i h 2 } = h.pkt := by rw [translates_none hc, ← hn]
  unfold exitIngress
  rw [hv]
  show ingressForward i _ { h.pkt with nat64 := s.translates i h 2 } s = _
  rw [hp]

theorem exitEgress_forward {j : Nat} {h : Thread} (hv : h.verdict = 0) (hc : h.clove = none) (hn : h.pkt.nat64 = false) (s : State) :
    exitEgress j h s = egressForward j h.pkt s := by
  have hp : { h.pkt with nat64 := h.pkt.nat64 || s.translates j h 0x12 } = h.pkt := by rw [translates_none hc, hn, Bool.or_false, ← hn]
  unfold exitEgress
  rw [hv]
  show egressForward j { h.pkt with nat64 := h.pkt.nat64 || s.translates j h 0x12 } s = _
  rw [hp]

/-! ### FORWARD at egress (R104, R257) -/

section forward
variable {j : Nat} {p : Pkt} {s : State} (hn : p.nat64 = false)
include hn

/-- A packet that was not translated meets no limit of its port's frame. -/
theorem tooBig_of_untranslated : s.tooBig p = false := by rw [State.tooBig, hn]; rfl

theorem egressForward_enqueues (hd : s.meetsDownPort p = false) : egressForward j p s = tmsEnqueue j p s := by
  unfold egressForward
  rw [tooBig_of_untranslated hn, hd]
  rfl

theorem egressForward_down (hd : s.meetsDownPort p = true) :
    egressForward j p s = countC p.cls (Cnt.LPC_TX_DOWN_DROP p.port) s := by
  unfold egressForward
  rw [tooBig_of_untranslated hn, hd]
  rfl

end forward

theorem meetsDownPort_of_up {p : Pkt} {s : State} (h : (s.port.get p.port).up = true) : s.meetsDownPort p = false := by
  rw [State.meetsDownPort, h]; exact Bool.and_false _

theorem meetsDownPort_of_down {p : Pkt} {s : State} (ho : p.natOwner = false) (he : s.portExists p.port = true)
    (h : (s.port.get p.port).up = false) : s.meetsDownPort p = true := by
  rw [State.meetsDownPort, h, ho, he]; rfl

/-! ### A whole packet comes under reception (R325, R352, R380, R381) -/

/-- A packet under reception for a queue. -/
def stagedFrame (leaf : Bool) (q inp : Nat) (p : Pkt) : Staged :=
  { pkt := { p with inp := inp, cut := false }, leaf := leaf, queue := q, inp := inp, cls := p.cls % 8, cells := pktCells p }

/-- A sound whole packet that does not go cut-through comes under reception where there is room for its cells. -/
theorem enterQueue_stages {leaf : Bool} {q inp : Nat} {p : Pkt} {s : State} (ht : p.tail = none) (hb : p.bad = false)
    (hc : s.wantsCut leaf q inp (p.cls % 8) = false) (hr : s.stageRoom inp (pktCells p) = true) :
    (enterQueue leaf q inp p s).buf.staged = s.buf.staged ++ [stagedFrame leaf q inp p] ∧
      s.changesOnly (enterQueue leaf q inp p s) [.buf] := by
  rw [enterQueue_whole ht hb hc, stagePkt_stages (p := { p with inp := inp, cut := false }) ht hr]
  exact ⟨rfl, (buf_only s _).trans (updBuf_only _ _)⟩

/-- A next hop that names a device and a port sends the packet to its virtual output queue (R182, R184, R352). -/
theorem ingressForward_enters {i : Nat} {key : Option (BitVec 384)} {p : Pkt} {s : State}
    (hk : datU (s.nextHop p.nexthop) 0 1 = 1 ∨ datU (s.nextHop p.nexthop) 0 1 = 3) (hd : (s.hopped p).dev = s.devId)
    (hs : s.devId < s.systemDevices) :
    ingressForward i key p s = enterQueue false (s.voqKey (s.hopped p)) i (s.hopped p) s := by
  have ht : takeNextHop i p.nexthop p s = (.dest (s.hopped p), s) := if_neg (by omega)
  have hv : voqEnter i (s.hopped p) s = enterQueue false (s.voqKey (s.hopped p)) i (s.hopped p) s := by
    have hu : (s.hopped p).dev = (enterQueue false (s.voqKey (s.hopped p)) i (s.hopped p) s).devId := by
      rw [State.devId, (enterQueue_only _ _ _ _ s .load (by decide) : State.load _ = _)]; exact hd
    unfold voqEnter
    rw [if_neg (by rw [hd]; omega), if_neg (fun k => k.1 hd)]
    exact if_pos hu
  unfold ingressForward
  rw [ht]
  exact (if_pos (show datU (s.nextHop p.nexthop) 0 1 ≠ 2 by omega)).trans hv

/-! ### What a packet meets beside the engines -/

section withEng
variable (v : EngSt) (s : State)

theorem withEng_nextHop (k : Nat) : (withEng v s).nextHop k = s.nextHop k := rfl
theorem withEng_devId : (withEng v s).devId = s.devId := rfl
theorem withEng_systemDevices : (withEng v s).systemDevices = s.systemDevices := rfl
theorem withEng_hopped (p : Pkt) : (withEng v s).hopped p = s.hopped p := rfl
theorem withEng_voqKey (p : Pkt) : (withEng v s).voqKey p = s.voqKey p := rfl
theorem withEng_wantsCut (leaf : Bool) (q i c : Nat) : (withEng v s).wantsCut leaf q i c = s.wantsCut leaf q i c := rfl
theorem withEng_stageRoom (i n : Nat) : (withEng v s).stageRoom i n = s.stageRoom i n := rfl
theorem withEng_resolveLeaf (j : Nat) (p : Pkt) : (withEng v s).resolveLeaf j p = s.resolveLeaf j p := rfl
theorem withEng_tmQueue (q : Nat) : (withEng v s).tmQueue q = s.tmQueue q := rfl
theorem withEng_tblGet (t i : Nat) : (withEng v s).tblGet t i = s.tblGet t i := rfl
theorem withEng_pqueue (leaf : Bool) (q : Nat) : (withEng v s).pqueue leaf q = s.pqueue leaf q := rfl
theorem withEng_pktLen (p : Pkt) : (withEng v s).pktLen p = s.pktLen p := rfl
theorem withEng_depthBytes (q : PQueue) : (withEng v s).depthBytes q = s.depthBytes q := rfl
theorem withEng_meetsDownPort (p : Pkt) : (withEng v s).meetsDownPort p = s.meetsDownPort p := rfl
theorem withEng_eng : (withEng v s).eng = v := rfl
theorem withEng_staged : (withEng v s).buf.staged = s.buf.staged := rfl

end withEng

/-! ### CLUSTER_EXIT -/

section commands
variable {th : Nat} {s : State} (hm : s.moves = true) (hw : (s.th th).wait = .ended) (he : s.mayExit th = true)
include hm hw he

theorem exec_clusterExit_drop (h : s.running) (hv : (s.th th).verdict = 1)
    (ht : (s.th th).egress = false ∨ (s.th th).pkt.tail = none) : exec (.clusterExit th) s = .next (exited th s) := by
  have hv2 : (s.th th).verdict ≠ 2 := by omega
  have e : doClusterExit th s.fresh = exited th s := by
    cases hd : (s.th th).egress with
    | false => rw [doClusterExit_ingress hm hw he hd (.inl hv2), exitIngress_drop hv]
    | true =>
      rw [doClusterExit_egress_whole hm hw he hd hv2 (ht.resolve_left (by rw [hd]; decide)), exitEgress_drop hv]
  exact coreCmd_running_answers h e (exited_only th s (fs := [.eng]))

theorem exec_clusterExit_drop_tail (h : s.steady) (hv : (s.th th).verdict = 1) (hd : (s.th th).egress = true) :
    exec (.clusterExit th) s = .next (reapTail (s.th th).pkt (exited th s)) := by
  have e : doClusterExit th s.fresh = reapTail (s.th th).pkt (exited th s) := by
    rw [doClusterExit_egress hm hw he hd (by omega), exitEgress_drop hv]
  exact coreCmd_steady_answers (fs := .eng :: Fld.pass) h e ((exited_only th s).trans ((reapTail_only _ _).mono (by decide)))

theorem exec_clusterExit_recirculate (h : s.running) (hv : (s.th th).verdict = 3) (hd : (s.th th).egress = true)
    (ht : (s.th th).pkt.tail = none) :
    exec (.clusterExit th) s = .next (countC (s.th th).pkt.cls (Cnt.ENG_EGR_RECIRC (thCluster th)) (exited th s)) := by
  have e : doClusterExit th s.fresh = countC (s.th th).pkt.cls (Cnt.ENG_EGR_RECIRC (thCluster th)) (exited th s) := by
    rw [doClusterExit_egress_whole hm hw he hd (by omega) ht, exitEgress_recirculate hv]
  exact coreCmd_running_answers (fs := [.eng, .cnt]) h e ((exited_only th s).trans (countC_cnt_only _ _ _))

theorem exec_clusterExit_punt (h : s.steady) (hv : (s.th th).verdict = 2) (hd : (s.th th).egress = false)
    (hs : (s.th th).started = true) (ht : (s.th th).pkt.tail = none) (hb : (s.th th).pkt.bad = false) :
    exec (.clusterExit th) s = .next (puntIngress (thCluster th) (s.th th).varg 4 (s.th th).pkt (exited th s)) := by
  have e : doClusterExit th s.fresh = puntIngress (thCluster th) (s.th th).varg 4 (s.th th).pkt (exited th s) := by
    rw [doClusterExit_ingress hm hw he hd (.inr ht), exitIngress_punt hv hs hb]
  exact coreCmd_steady_answers (fs := [.eng, .swc]) h e ((exited_only th s).trans (swc_only _ _))

/-- At ingress the packet comes under reception for its virtual output queue (R301, R352). -/
theorem exec_clusterExit_forward_ingress {q : Pkt} (h : s.steady) (hv : (s.th th).verdict = 0) (hd : (s.th th).egress = false)
    (hc : (s.th th).clove = none) (hn : (s.th th).pkt.nat64 = false) (ht : (s.th th).pkt.tail = none)
    (hb : (s.th th).pkt.bad = false) (hq : q = s.hopped (s.th th).pkt)
    (hk : datU (s.nextHop q.nexthop) 0 1 = 1 ∨ datU (s.nextHop q.nexthop) 0 1 = 3) (hdev : q.dev = s.devId)
    (hsys : s.devId < s.systemDevices) (hcut : s.wantsCut false (s.voqKey q) (thCluster th) (q.cls % 8) = false)
    (hroom : s.stageRoom (thCluster th) (pktCells q) = true) :
    ∃ t, exec (.clusterExit th) s = .next t ∧ t.eng.th = s.eng.th.set th {} ∧
      t.buf.staged = s.buf.staged ++ [stagedFrame false (s.voqKey q) (thCluster th) q] ∧ s.fresh.changesOnly t [.eng, .buf] := by
  subst hq
  have e : doClusterExit th s.fresh =
      enterQueue false (s.voqKey (s.hopped (s.th th).pkt)) (thCluster th) (s.hopped (s.th th).pkt) (exited th s) := by
    rw [doClusterExit_ingress hm hw he hd (.inr ht), exitIngress_forward hv hc hn]
    rw [ingressForward_enters (by rw [withEng_nextHop]; exact hk) (by rw [withEng_hopped, withEng_devId]; exact hdev)
      (by rw [withEng_devId, withEng_systemDevices]; exact hsys), withEng_hopped, withEng_voqKey]
  obtain ⟨hst, hf⟩ := enterQueue_stages (p := s.hopped (s.th th).pkt) (s := exited th s) ht hb
    ((withEng_wantsCut _ _ _ _ _ _).trans hcut) ((withEng_stageRoom _ _ _ _).trans hroom)
  have hall : s.fresh.changesOnly (enterQueue false (s.voqKey (s.hopped (s.th th).pkt)) (thCluster th) (s.hopped (s.th th).pkt)
      (exited th s)) [.eng, .buf] := (exited_only th s).trans (hf.mono (by decide))
  exact ⟨_, coreCmd_steady_answers h e hall, by rw [(hf .eng (by decide) : State.eng _ = _), withEng_eng],
    by rw [hst, withEng_staged], hall⟩

/-- At egress the frame comes under reception for the leaf queue of its port and subscriber (R301, R380, R381). -/
theorem exec_clusterExit_forward_egress {sub q port : Nat} {p : Pkt} (hp : (s.th th).pkt = p) (h : s.steady)
    (hv : (s.th th).verdict = 0) (hd : (s.th th).egress = true) (hc : (s.th th).clove = none) (ho : p.natOwner = false)
    (hn : p.nat64 = false) (ht : p.tail = none) (hb : p.bad = false) (hup : (s.port.get p.port).up = true)
    (hr : s.resolveLeaf (thCluster th) p = (sub, port, 0)) (hq : q = 8 * sub + p.queue % 8) (hon : datB (s.tmQueue q) 2 0 1 = 1)
    (hdep : s.depthBytes (s.pqueue true q) + (p.bytes.length + 4) ≤ dropLimit (s.tblGet 0x45 (datB (s.tmQueue q) 0 4 4)) p.colour)
    (hlen : (s.pqueue true q).items.length < datU (s.tblGet 0x45 (datB (s.tmQueue q) 0 4 4)) 12 4)
    (hcut : s.wantsCut true q p.inp (p.cls % 8) = false) (hroom : s.stageRoom p.inp (pktCells p) = true) :
    ∃ t, exec (.clusterExit th) s = .next t ∧ t.eng.th = s.eng.th.set th {} ∧
      t.buf.staged = s.buf.staged ++ [stagedFrame true q p.inp { p with port := port, natOwner := false }] ∧
      s.fresh.changesOnly t [.eng, .buf] := by
  have hpkt : s.pktLen p = p.bytes.length := by rw [State.pktLen, ht]; rfl
  have hd1 : (exited th s).meetsDownPort p = false := (withEng_meetsDownPort _ _ _).trans (meetsDownPort_of_up hup)
  have htms : tmsEnqueue (thCluster th) p (exited th s) =
      enterQueue true q p.inp { p with port := port, natOwner := false } (exited th s) := by
    refine tmsEnqueue_takes (by rw [withEng_resolveLeaf]; exact hr) hq ho ?_ ?_ ?_
    · rw [withEng_tmQueue, hon]; decide
    · rw [withEng_depthBytes, withEng_pqueue, withEng_tblGet, withEng_tmQueue, withEng_pktLen, hpkt]; exact hdep
    · rw [withEng_pqueue, withEng_tblGet, withEng_tmQueue]; exact hlen
  have e : doClusterExit th s.fresh = enterQueue true q p.inp { p with port := port, natOwner := false } (exited th s) := by
    rw [doClusterExit_egress_whole hm hw he hd (by omega) (by rw [hp]; exact ht), exitEgress_forward hv hc (by rw [hp]; exact hn), hp,
      egressForward_enqueues hn hd1, htms]
  obtain ⟨hst, hf⟩ := enterQueue_stages (p := { p with port := port, natOwner := false }) (s := exited th s) ht hb
    ((withEng_wantsCut _ _ _ _ _ _).trans hcut) ((withEng_stageRoom _ _ _ _).trans hroom)
  have hall : s.fresh.changesOnly (enterQueue true q p.inp { p with port := port, natOwner := false } (exited th s)) [.eng, .buf] :=
    (exited_only th s).trans (hf.mono (by decide))
  exact ⟨_, coreCmd_steady_answers h e hall, by rw [(hf .eng (by decide) : State.eng _ = _), withEng_eng],
    by rw [hst, withEng_staged], hall⟩

theorem exec_clusterExit_down (h : s.running) (hv : (s.th th).verdict = 0) (hd : (s.th th).egress = true)
    (hc : (s.th th).clove = none) (ho : (s.th th).pkt.natOwner = false) (hn : (s.th th).pkt.nat64 = false)
    (ht : (s.th th).pkt.tail = none) (hx : s.portExists (s.th th).pkt.port = true)
    (hdn : (s.port.get (s.th th).pkt.port).up = false) :
    exec (.clusterExit th) s =
      .next (countC (s.th th).pkt.cls (Cnt.LPC_TX_DOWN_DROP (s.th th).pkt.port) (exited th s)) := by
  have hd1 : (exited th s).meetsDownPort (s.th th).pkt = true :=
    (withEng_meetsDownPort _ _ _).trans (meetsDownPort_of_down ho hx hdn)
  have e : doClusterExit th s.fresh =
      countC (s.th th).pkt.cls (Cnt.LPC_TX_DOWN_DROP (s.th th).pkt.port) (exited th s) := by
    rw [doClusterExit_egress_whole hm hw he hd (by omega) ht, exitEgress_forward hv hc hn, egressForward_down hn hd1]
  exact coreCmd_running_answers (fs := [.eng, .cnt]) h e ((exited_only th s).trans (countC_cnt_only _ _ _))

end commands

/-! ### The egress entry (R104, R193, R208, R290) -/

/-- The packet at the head of an egress queue is taken. -/
def egressTaken (j : Nat) (rest : List Pkt) (s : State) : State := updSwc (fun w => { w with egq := w.egq.set j rest }) s

theorem egressTaken_only (j : Nat) (rest : List Pkt) (s : State) {fs : List Fld} (h : Fld.swc ∈ fs := by decide) :
    s.changesOnly (egressTaken j rest s) fs := swc_only s _ h

/-- Only a bridged frame of another device teaches its source (R193). -/
theorem egressLearn_none {p : Pkt} (h : p.fabric = false ∨ p.bridged = false) (j : Nat) (s : State) : egressLearn j p s = s := by
  refine if_neg ?_
  rcases h with h | h <;> simp [h]

/-- A packet of this device's own ingress brings its parse result. -/
theorem egressParse_brought {p : Pkt} (hf : p.fabric = false) (hi : p.inp ≠ 10) (j : Nat) (s : State) :
    s.egressParse j p = p.parse := if_neg (by simp [hf, hi])

/-- A whole frame of another device is parsed from the start node of its egress port. -/
theorem egressParse_fabric {p : Pkt} (hf : p.fabric = true) (ho : p.natOwner = false) (ht : p.tail = none) (j : Nat) (s : State) :
    s.egressParse j p = parseFrame s.graph (s.startNode (p.port % 32)) p.bytes := by
  have hb : s.parseBytes p = p.bytes := by
    unfold State.parseBytes
    rw [tailOpen_of_no_tail ht, joined_of_no_tail ht]
    rfl
  unfold State.egressParse
  rw [hf, ho, hb]
  rfl

/-- Where a parsed packet goes from the entry: on to the flow engine, past it to the traffic manager, or nowhere with its port down. -/
def egressGoes (j : Nat) (p : Pkt) (s : State) : State :=
  if s.meetsDownPort p then dropTail p.tail (countC p.cls (Cnt.LPC_TX_DOWN_DROP p.port) s)
  else if p.skipEgr then reapTail p (egressForward j p s)
  else { s with fseq := s.fseq.upd (2 * j + 1) (fun l => l ++ [p]) }

section entry
variable {j : Nat} {p : Pkt} {rest : List Pkt} {s : State} (hm : s.moves = true) (hq : s.swc.egq.get j = p :: rest)
include hm hq

/-- The packet at the head of the queue that teaches nothing goes on with its parse result. -/
theorem doEgressEntry_goes (hl : p.fabric = false ∨ p.bridged = false) :
    doEgressEntry j s = egressGoes j { p with parse := s.egressParse j p } (egressTaken j rest s) := by
  unfold doEgressEntry
  rw [if_neg (by rw [hm]; decide), hq]
  show egressGoes j { p with parse := (egressLearn j p (egressTaken j rest s)).egressParse j p }
    (egressLearn j p (egressTaken j rest s)) = _
  rw [egressLearn_none hl]
  rfl

/-- One of this device's own ingress goes on as it is. -/
theorem doEgressEntry_own (hf : p.fabric = false) (hi : p.inp ≠ 10) : doEgressEntry j s = egressGoes j p (egressTaken j rest s) := by
  rw [doEgressEntry_goes hm hq (.inl hf), egressParse_brought hf hi]

theorem exec_egressEntry_fabric (h : s.steady) (hf : p.fabric = true) (hb : p.bridged = false) (ho : p.natOwner = false)
    (ht : p.tail = none) (hk : p.skipEgr = false) (hd : s.meetsDownPort p = false) :
    exec (.egressEntry j) s = .next
      { s.fresh with
        swc := { s.swc with egq := s.swc.egq.set j rest },
        fseq := s.fseq.upd (2 * j + 1)
          (fun l => l ++ [{ p with parse := parseFrame s.graph (s.startNode (p.port % 32)) p.bytes }]) } := by
  have e := doEgressEntry_goes (s := s.fresh) hm hq (.inr hb)
  rw [egressParse_fabric (s := s.fresh) hf ho ht] at e
  have g : ∀ r : ParseRes, egressGoes j { p with parse := r } (egressTaken j rest s.fresh) =
      { egressTaken j rest s.fresh with fseq := s.fseq.upd (2 * j + 1) (fun l => l ++ [{ p with parse := r }]) } := fun r =>
    (if_neg (Bool.eq_false_iff.mp hd)).trans (if_neg (Bool.eq_false_iff.mp hk))
  exact coreCmd_steady_answers (fs := [.swc, .fseq]) h (e.trans (g _))
    ((egressTaken_only j rest s.fresh).trans (fseq_only (egressTaken j rest s.fresh) _))

theorem exec_egressEntry_skips (h : s.steady) (hf : p.fabric = false) (hi : p.inp ≠ 10) (hk : p.skipEgr = true)
    (hn : p.nat64 = false) (ht : p.tail = none) (hd : s.meetsDownPort p = false) :
    exec (.egressEntry j) s = .next (tmsEnqueue j p { s.fresh with swc := { s.swc with egq := s.swc.egq.set j rest } }) := by
  have g : egressGoes j p (egressTaken j rest s.fresh) = tmsEnqueue j p (egressTaken j rest s.fresh) :=
    (if_neg (Bool.eq_false_iff.mp hd)).trans ((if_pos hk).trans ((reapTail_none ht _).trans
      (egressForward_enqueues (s := egressTaken j rest s.fresh) hn hd)))
  exact coreCmd_steady_answers h ((doEgressEntry_own (s := s.fresh) hm hq hf hi).trans g)
    ((egressTaken_only j rest s.fresh).trans (tmsEnqueue_only _ _ _))

theorem exec_egressEntry_runs (h : s.steady) (hf : p.fabric = false) (hi : p.inp ≠ 10) (hk : p.skipEgr = false)
    (hd : s.meetsDownPort p = false) :
    exec (.egressEntry j) s = .next
      { s.fresh with
        swc := { s.swc with egq := s.swc.egq.set j rest },
        fseq := s.fseq.upd (2 * j + 1) (fun l => l ++ [p]) } := by
  have g : egressGoes j p (egressTaken j rest s.fresh) =
      { egressTaken j rest s.fresh with fseq := s.fseq.upd (2 * j + 1) (fun l => l ++ [p]) } :=
    (if_neg (Bool.eq_false_iff.mp hd)).trans (if_neg (Bool.eq_false_iff.mp hk))
  exact coreCmd_steady_answers (fs := [.swc, .fseq]) h ((doEgressEntry_own (s := s.fresh) hm hq hf hi).trans g)
    ((egressTaken_only j rest s.fresh).trans (fseq_only (egressTaken j rest s.fresh) _))

theorem exec_egressEntry_down (h : s.steady) (hf : p.fabric = false) (hi : p.inp ≠ 10) (ht : p.tail = none)
    (hd : s.meetsDownPort p = true) :
    exec (.egressEntry j) s = .next (countC p.cls (Cnt.LPC_TX_DOWN_DROP p.port)
      { s.fresh with swc := { s.swc with egq := s.swc.egq.set j rest } }) := by
  have g : egressGoes j p (egressTaken j rest s.fresh) =
      countC p.cls (Cnt.LPC_TX_DOWN_DROP p.port) (egressTaken j rest s.fresh) :=
    (if_pos hd).trans (by rw [ht]; rfl)
  exact coreCmd_steady_answers (fs := [.swc, .cnt]) h ((doEgressEntry_own (s := s.fresh) hm hq hf hi).trans g)
    ((egressTaken_only j rest s.fresh).trans (countC_cnt_only _ _ _))

end entry

/-- Settles O39: each exit by its verdict and direction, and each packet at the egress entry by where it goes. -/
theorem clusterExitsAndEgress : Obligations.ClusterExitsAndEgress := by
  refine ⟨fun th s h hm hw he hv ht => exec_clusterExit_drop hm hw he h hv ht,
    fun th s h hm hw he hv hd => exec_clusterExit_drop_tail hm hw he h hv hd,
    fun th s h hm hw he hv hd ht => exec_clusterExit_recirculate hm hw he h hv hd ht, ?ingress,
    fun th s h hm hw he hv hd hs ht hb => exec_clusterExit_punt hm hw he h hv hd hs ht hb, ?egress,
    fun th s h hm hw he hv hd hc ho hn ht hx hdn => exec_clusterExit_down hm hw he h hv hd hc ho hn ht hx hdn,
    fun j p rest s h hm hq hf hb ho ht hk hd => exec_egressEntry_fabric hm hq h hf hb ho ht hk hd,
    fun j p rest s h hm hq hf hi hk hn ht hd => exec_egressEntry_skips hm hq h hf hi hk hn ht hd,
    fun j p rest s h hm hq hf hi hk hd => exec_egressEntry_runs hm hq h hf hi hk hd,
    fun j p rest s h hm hq hf hi ht hd => exec_egressEntry_down hm hq h hf hi ht hd⟩
  case ingress =>
    rintro th i q s rfl h hm hw he hv hd hc hn ht hb hq hk hdev hsys hcut hroom
    exact exec_clusterExit_forward_ingress hm hw he h hv hd hc hn ht hb hq hk hdev hsys hcut hroom
  case egress =>
    rintro th j sub port p s rfl hp h hm hw he hv hd hc ho hn ht hb hup hr hon hdep hlen hcut hroom
    obtain ⟨t, e, hth, hst, hf⟩ :=
      exec_clusterExit_forward_egress hm hw he hp.symm h hv hd hc ho hn ht hb hup hr rfl hon hdep hlen hcut hroom
    refine ⟨t, e, hth, hst.trans ?_, hf⟩
    have hp1 : { p with port := port, natOwner := false } = { p with port := port } := by rw [← ho]
    rw [hp1]
    rfl

end Sys2Proof.Machine

namespace Sys2Proof.Machine

/-! ## What a discard leaves of the leaf queues and the Pod (R336, R338, R341) -/

/-! ### Buffers that are freed (R336) -/

/-- Records, counts and the buffers may change, and no leaf queue. -/
def freesOnly (s t : State) : Prop := s.changesOnly t (Fld.events ++ [.buf]) ∧ t.buf.leaf = s.buf.leaf

theorem freesOnly.trans {s t u : State} (h : freesOnly s t) (g : freesOnly t u) : freesOnly s u :=
  ⟨h.1.trans g.1, g.2.trans h.2⟩

theorem freesOnly_of_events {s t : State} (h : s.changesOnly t Fld.events) : freesOnly s t :=
  ⟨h.mono (by decide), congrArg BufSt.leaf (h .buf (by decide))⟩

theorem updBuf_freesOnly (f : BufSt → BufSt) (s : State) (h : (f s.buf).leaf = s.buf.leaf) : freesOnly s (updBuf f s) :=
  ⟨updBuf_only s f, h⟩

theorem ite_freesOnly {c : Prop} [Decidable c] {s t u : State} (ht : freesOnly s t) (hu : freesOnly s u) :
    freesOnly s (if c then t else u) := by split <;> assumption

theorem rejectFree_freesOnly (c a r n p i : Nat) (s : State) : freesOnly s (rejectFree c a r n p i s) :=
  (updBuf_freesOnly (fun b => { b with
      lastReject := BitVec.ofNat 32 (c % 16 + 32 * r + 128 * i),
      lastRejLo := BitVec.ofNat 32 a, lastRejHi := BitVec.ofNat 32 (a / 2 ^ 32 % 16 + 16 * p) }) s rfl).trans
    (freesOnly_of_events ((count_only _ _).trans (raiseLim_only _ _ _ _ _ _ _)))

theorem clearBuf_freesOnly (k i : Nat) (s : State) : freesOnly s (clearBuf k i s) := by
  have hc (a : Nat) (s : State) : freesOnly s (count a s) := freesOnly_of_events (count_only s a)
  unfold clearBuf
  extract_lets s1 s2
  have h1 : freesOnly s s1 := updBuf_freesOnly _ s rfl
  have h2 : freesOnly s s2 := h1.trans (hc _ s1)
  refine ite_freesOnly (h2.trans (hc _ s2)) (ite_freesOnly (h2.trans (freesOnly.trans ?_ (hc _ _))) (h2.trans (updBuf_freesOnly _ s2 rfl)))
  exact (updBuf_freesOnly _ s2 rfl).trans (updBuf_freesOnly _ _ rfl)

theorem bpmFree_freesOnly (c a : Nat) (s : State) : freesOnly s (bpmFree c a s).2 := by
  unfold bpmFree
  split
  · exact rejectFree_freesOnly _ _ _ _ _ _ s
  · dsimp only
    split_ifs
    · exact rejectFree_freesOnly _ _ _ _ _ _ s
    · exact rejectFree_freesOnly _ _ _ _ _ _ s
    · exact rejectFree_freesOnly _ _ _ _ _ _ s
    · exact clearBuf_freesOnly _ _ s

/-! ### The flush of one leaf queue (R338) -/

/-- What the flush of leaf queues may touch. -/
def Fld.flush : List Fld := Fld.events ++ [.buf, .swc, .tms]

/-- The flush of leaf queue q: the other leaf queues keep what they hold. -/
def flushesOnly (q : Nat) (s t : State) : Prop :=
  s.changesOnly t Fld.flush ∧ ∀ k, k ≠ q → t.buf.leaf.get k = s.buf.leaf.get k

theorem flushesOnly.refl (q : Nat) (s : State) : flushesOnly q s s := ⟨.refl s _, fun _ _ => rfl⟩

theorem flushesOnly.trans {q : Nat} {s t u : State} (h : flushesOnly q s t) (g : flushesOnly q t u) : flushesOnly q s u :=
  ⟨h.1.trans g.1, fun k hk => (g.2 k hk).trans (h.2 k hk)⟩

theorem flushesOnly_of_leaf {q : Nat} {s t : State} (h : s.changesOnly t Fld.flush) (hl : t.buf.leaf = s.buf.leaf) : flushesOnly q s t :=
  ⟨h, fun k _ => congrArg (fun m : SMap PQueue => m.get k) hl⟩

theorem flushesOnly_of_events {q : Nat} {s t : State} (h : s.changesOnly t Fld.events) : flushesOnly q s t :=
  flushesOnly_of_leaf (h.mono (by decide)) (congrArg BufSt.leaf (h .buf (by decide)))

theorem stagesOnly.leaf {s t : State} (h : stagesOnly s t) : t.buf.leaf = s.buf.leaf := by
  obtain ⟨_, _, _, rfl⟩ := h; rfl

theorem dropTail_flushesOnly (q : Nat) (t : Option Nat) (s : State) : flushesOnly q s (dropTail t s) :=
  flushesOnly_of_leaf ((dropTail_stages s t).mono (by decide)) (dropTail_stagesOnly t s).leaf

theorem bpmFree_flushesOnly (q c a : Nat) (s : State) : flushesOnly q s (bpmFree c a s).2 :=
  flushesOnly_of_leaf ((bpmFree_freesOnly c a s).1.mono (by decide)) (bpmFree_freesOnly c a s).2

theorem updBuf_flushesOnly (q : Nat) (f : BufSt → BufSt) (s : State) (h : (f s.buf).leaf = s.buf.leaf) : flushesOnly q s (updBuf f s) :=
  flushesOnly_of_leaf (updBuf_only s f) h

theorem updQueue_flushesOnly (q : Nat) (f : PQueue → PQueue) (s : State) : flushesOnly q s (updQueue true q f s) :=
  ⟨updBuf_only s _, fun _ hk => SMap.get_upd_ne _ f hk⟩

theorem emptiedQueue_flushesOnly (q : Nat) (s : State) : flushesOnly q s (emptiedQueue true q s) :=
  have h := emptiedQueue_only true q s
  flushesOnly_of_leaf (h.mono (by decide)) (congrArg BufSt.leaf (h .buf (by decide)))

theorem breakChain_flushesOnly (q : Nat) (s : State) : flushesOnly q s (breakChain true q s) := by
  have he (n d : Nat) (s : State) :
      s.changesOnly (raise 0xB 1 noUnit d (countA {} Cnt.PBF_CHAIN_LOST n (count Cnt.PBF_CHAIN_BREAK s))) Fld.events :=
    (count_only _ _).trans ((countA_only _ _ _ _).trans (raise_only _ _ _ _ _))
  unfold breakChain
  dsimp only
  refine flushesOnly.trans ?_ (updBuf_flushesOnly q _ _ rfl)
  refine flushesOnly.trans ?_ (flushesOnly_of_events (he _ _ _))
  refine flushesOnly.trans ?_ (emptiedQueue_flushesOnly q _)
  exact updQueue_flushesOnly q _ s

theorem leaveQueue_flushesOnly (q : Nat) (it : QItem) (s : State) : flushesOnly q s (leaveQueue true q it s) := by
  rw [leaveQueue_eq]
  set u := updQueue true q (fun k => { k with items := k.items.erase it }) s
  have hu : flushesOnly q s u := updQueue_flushesOnly q _ s
  have hf : flushesOnly q u (freedTier it u) := flushesOnly_of_leaf ((freedTier_only it u).mono (by decide)) (freedTier_leaf it u)
  exact hu.trans (hf.trans (emptiedQueue_flushesOnly q _))

theorem flushItems_flushesOnly (q n : Nat) (s : State) : flushesOnly q s (flushItems true q n s) := by
  induction n generalizing s with
  | zero => exact .refl q s
  | succ n ih =>
    unfold flushItems
    split
    · exact .refl q s
    · next it _ =>
      have h : flushesOnly q s (dropTail it.pkt.tail (leaveQueue true q it s)) :=
        (leaveQueue_flushesOnly q it s).trans (dropTail_flushesOnly q _ _)
      split
      · exact (breakChain_flushesOnly q s).trans (ih _)
      · refine flushesOnly.trans ?_ (ih _)
        split
        · exact h.trans (bpmFree_flushesOnly q _ _ _)
        · exact h

theorem flushQueue_flushesOnly (q : Nat) (s : State) : flushesOnly q s (flushQueue true q s) := flushItems_flushesOnly q _ s

/-- The packets of a leaf queue all lie on chip. -/
def State.onChip (s : State) (q : Nat) : Prop := ∀ it ∈ (s.buf.leaf.get q).items, it.tier = .chip

/-- Packets on chip have no buffer's header to read, so that each leaves in its turn. -/
theorem flushItems_empties {q n : Nat} {s : State} (hn : (s.buf.leaf.get q).items.length = n) (h : s.onChip q) :
    ((flushItems true q n s).buf.leaf.get q).items = [] := by
  induction n generalizing s with
  | zero => exact List.length_eq_zero_iff.mp hn
  | succ n ih =>
    obtain ⟨it, rest, hi⟩ := List.exists_cons_of_length_eq_add_one hn
    have hc : it.tier = .chip := h it (by rw [hi]; exact List.mem_cons_self)
    have hp : s.headerPoisoned it = false := by rw [State.headerPoisoned, hc]
    set u := dropTail it.pkt.tail (leaveQueue true q it s)
    have hu : u.buf.leaf.get q = { s.buf.leaf.get q with items := rest } := by
      rw [(dropTail_stagesOnly it.pkt.tail (leaveQueue true q it s)).leaf, (leaveQueue_head (s := s) hi).1]
      exact SMap.get_upd_self _ _ _
    have e : flushItems true q (n + 1) s = flushItems true q n u := by
      have hh : (s.pqueue true q).items.head? = some it := by show (s.buf.leaf.get q).items.head? = _; rw [hi]; rfl
      rw [flushItems, hh]
      dsimp only
      rw [hp, if_neg Bool.false_ne_true, hc]
    rw [e]
    refine ih ?_ ?_
    · rw [hu]; rw [hi] at hn; exact Nat.succ.inj hn
    · intro x hx
      rw [hu] at hx
      exact h x (by rw [hi]; exact List.mem_cons_of_mem it hx)

theorem flushQueue_empties {q : Nat} {s : State} (h : s.onChip q) : ((flushQueue true q s).buf.leaf.get q).items = [] :=
  flushItems_empties rfl h

theorem onChip_of_empty {q : Nat} {s : State} (h : (s.buf.leaf.get q).items = []) : s.onChip q := fun it hi => by
  rw [h] at hi; cases hi

/-- Of the queues that are flushed, one whose packets lie on chip ends empty. -/
theorem foldl_flushQueue_empties {q : Nat} {l : List Nat} {s : State} (h : s.onChip q)
    (hq : q ∈ l ∨ (s.buf.leaf.get q).items = []) :
    ((l.foldl (fun s q => flushQueue true q s) s).buf.leaf.get q).items = [] := by
  induction l generalizing s with
  | nil => exact hq.resolve_left List.not_mem_nil
  | cons x l ih =>
    by_cases hx : q = x
    · subst hx
      have he := flushQueue_empties h
      exact ih (onChip_of_empty he) (.inr he)
    · have hk : (flushQueue true x s).buf.leaf.get q = s.buf.leaf.get q := (flushQueue_flushesOnly x s).2 q hx
      refine ih (s := flushQueue true x s) (fun it hi => h it (by rw [← hk]; exact hi)) ?_
      rw [hk]
      exact hq.imp_left fun hm => (List.mem_cons.mp hm).resolve_left hx

/-! ## Port states (R99 to R103, R266, R338, R553) -/

/-! ### Counters beside records (R449, R508) -/

theorem countA_cnt_ne (x : Attr) {a b : Nat} (n : Nat) (s : State) (h : b ≠ a) : (countA x a n s).cnt.get b = s.cnt.get b := by
  unfold countA; split
  · exact SMap.get_upd_ne _ _ h
  · rfl

/-- An event without attributes passes every filter profile (R510). -/
theorem countA_cnt_self (a n : Nat) (s : State) : (countA {} a n s).cnt.get a = s.cnt.get a + BitVec.ofNat 64 n := by
  have hp : profilePass s (s.binding a) {} = true := by simp [profilePass, passes]
  unfold countA
  rw [if_pos hp]
  exact SMap.get_upd_self _ _ _

theorem msixRaise_cnt (v : Nat) (s : State) : (msixRaise v s).cnt = s.cnt := by
  unfold msixRaise; split
  · split <;> rfl
  · rfl

section counters
variable {a : Nat} (he : a ≠ Cnt.MGT_EVENTS) (hd : a ≠ Cnt.MGT_CDT_DROP 40)
include hd

theorem cdtPush_cnt_ne (x : Attr) (bs : List Byte) (s : State) : (cdtPush 40 x bs s).cnt.get a = s.cnt.get a := by
  unfold cdtPush
  rw [cdtOffer_eq]
  split_ifs
  · rfl
  · exact countA_cnt_ne x 1 s hd

include he

/-- A record counts in MGT_EVENTS, and in MGT_CDT_DROP of the event conduit where that has no credit; no other counter moves. -/
theorem recPut_cnt_ne (r : EventRec) (s : State) : (recPut r s).cnt.get a = s.cnt.get a := by
  have ha (s : State) : (alertFor r s).cnt = s.cnt := by
    show (ite _ _ _ : State).cnt = _
    split <;> rfl
  have hn (s : State) : (announce r s).cnt.get a = s.cnt.get a := by
    have hc : (cdtPush 40 {} r.bytes (count Cnt.MGT_EVENTS s)).cnt.get a = s.cnt.get a :=
      (cdtPush_cnt_ne hd {} r.bytes _).trans (countA_cnt_ne {} 1 s he)
    unfold announce
    split
    · rfl
    · split
      · rw [msixRaise_cnt]; exact hc
      · exact hc
  rw [recPut_eq, hn, ha]
  rfl

theorem raise_cnt_ne (b c u d : Nat) (s : State) : (raise b c u d s).cnt.get a = s.cnt.get a := by
  unfold raise recWrite
  dsimp only
  split
  · exact (recPut_cnt_ne he hd _ _).trans (recPut_cnt_ne he hd _ s)
  · exact recPut_cnt_ne he hd _ s

end counters

/-- In a log that has wrapped, or has a free slot, an event writes its one record (R451). -/
theorem raise_total {s : State} (h : s.isl.wrapped = true ∨ s.isl.held < 1024) (b c u d : Nat) :
    (raise b c u d s).isl.total = s.isl.total + 1 := by
  have hf : ¬ (s.isl.held == 1024 && !s.isl.wrapped) = true := by
    rcases h with h | h
    · simp [h]
    · simp [Nat.ne_of_lt h]
  unfold raise recWrite
  dsimp only
  rw [if_neg hf]
  exact (recPut_log _ s).2

theorem raise_logged {s : State} {T : Word32} {r : EventRec} {n : Nat} (h : s.logged T r n) (hn : n + 1 < 1024) (b c u d : Nat) :
    (raise b c u d s).logged T r (n + 2) := recWrite_logged h hn _

/-! ### Frames queued for a port (R102, R103) -/

theorem moves_of_service {s : State} (h : s.md.mode = .service) : s.moves = true := by rw [State.moves, h]; rfl

theorem portDetail_zero (p : Nat) : portDetail p 0 = p := by simp [portDetail]

theorem subPort_congr {s t : State} (ht : t.tbl = s.tbl) (k : Nat) : t.subPort k = s.subPort k := by
  simp only [State.subPort, State.subService, State.tmSub, State.tmService, State.tblGet, ht]

theorem portQueues_congr {s t : State} (hl : t.buf.leaf = s.buf.leaf) (ht : t.tbl = s.tbl) (p : Nat) : t.portQueues p = s.portQueues p := by
  simp only [State.portQueues, subPort_congr ht, hl]

theorem portFrames_congr {s t : State} (hb : t.buf = s.buf) (hp : t.pod = s.pod) (ht : t.tbl = s.tbl) (p : Nat) :
    t.portFrames p = s.portFrames p := by
  simp only [State.portFrames, portQueues_congr (congrArg BufSt.leaf hb) ht, State.pqueue, subPort_congr ht, hb, hp]

/-- A port without leaf queues, with nothing under reception, holds its express frames alone. -/
theorem portFrames_express {p : Nat} {s : State} (hq : s.portQueues p = []) (hs : s.buf.staged = []) (hp : s.buf.pools = {}) :
    s.portFrames p = (s.pod.exq.get p).length := by
  unfold State.portFrames
  rw [hq, hs, hp]
  exact Nat.zero_add _

/-! ### The flush of a port (R102, R103, R338) -/

/-- The leaf queues of a port are empty, and nothing is under reception for them. -/
def queuesFlushed (p : Nat) (s : State) : State :=
  flushStaged true (fun q => s.subPort (q / 8) == p) ((s.portQueues p).foldl (fun s q => flushQueue true q s) s)

/-- Its express queue is empty too, and no tail of its frames is wanted. -/
def portFlushed (p : Nat) (s : State) : State :=
  updPod (fun x => { x with exq := x.exq.set p [] })
    (((queuesFlushed p s).pod.exq.get p).foldl (fun s f => dropTail f.tail s) (queuesFlushed p s))

theorem flushPort_eq (p code : Nat) (s : State) :
    flushPort p code s = raise 3 code p (portDetail p (s.portFrames p))
      (countA {} (Cnt.LPC_TX_FLUSH p) (s.portFrames p) (portFlushed p s)) := rfl

theorem queuesFlushed_only (p : Nat) (s : State) : s.changesOnly (queuesFlushed p s) Fld.flush :=
  (foldl_only (fun t q => (flushQueue_flushesOnly q t).1) (s.portQueues p) s).trans ((flushStaged_only true _ _).mono (by decide))

/-- With no leaf queue to flush no record and no count is made. -/
theorem queuesFlushed_only_of_none {p : Nat} {s : State} (hq : s.portQueues p = []) : s.changesOnly (queuesFlushed p s) [.buf, .swc] := by
  unfold queuesFlushed
  rw [hq]
  exact flushStaged_only true _ s

theorem queuesFlushed_empties {p q : Nat} {s : State} (hq : q ∈ s.portQueues p) (hc : s.onChip q) :
    ((queuesFlushed p s).buf.leaf.get q).items = [] := by
  obtain ⟨-, hl, -, -⟩ := waits_iff.mp (flushStaged_waits true (fun q => s.subPort (q / 8) == p)
    ((s.portQueues p).foldl (fun s q => flushQueue true q s) s))
  unfold queuesFlushed
  rw [hl]
  exact foldl_flushQueue_empties hc (.inl hq)

/-- The express frames of a port leave after its queues. -/
theorem portFlushed_eq (p : Nat) (s : State) :
    ∃ v, stagesOnly (queuesFlushed p s) v ∧ portFlushed p s = updPod (fun x => { x with exq := x.exq.set p [] }) v :=
  ⟨_, foldl_stages (fun s (f : ExpFrame) => dropTail_stagesOnly f.tail s) _ _, rfl⟩

theorem portFlushed_only_of_queues (p : Nat) (s : State) : (queuesFlushed p s).changesOnly (portFlushed p s) [.buf, .swc, .pod] := by
  obtain ⟨v, hv, e⟩ := portFlushed_eq p s
  rw [e]
  exact (hv.only.mono (by decide)).trans (updPod_only v _)

theorem portFlushed_only (p : Nat) (s : State) : s.changesOnly (portFlushed p s) (Fld.flush ++ [.pod]) :=
  ((queuesFlushed_only p s).mono (by decide)).trans ((portFlushed_only_of_queues p s).mono (by decide))

theorem portFlushed_only_of_none {p : Nat} {s : State} (hq : s.portQueues p = []) : s.changesOnly (portFlushed p s) [.buf, .swc, .pod] :=
  ((queuesFlushed_only_of_none hq).mono (by decide)).trans (portFlushed_only_of_queues p s)

theorem portFlushed_pod (p : Nat) (s : State) : (portFlushed p s).pod = { s.pod with exq := s.pod.exq.set p [] } := by
  obtain ⟨v, hv, e⟩ := portFlushed_eq p s
  have hp : v.pod = s.pod := (hv.only .pod (by decide)).trans (queuesFlushed_only p s .pod (by decide))
  rw [e, ← hp]
  rfl

theorem portFlushed_empties {p q : Nat} {s : State} (hq : q ∈ s.portQueues p) (hc : s.onChip q) :
    ((portFlushed p s).buf.leaf.get q).items = [] := by
  obtain ⟨v, hv, e⟩ := portFlushed_eq p s
  rw [e]
  show (v.buf.leaf.get q).items = []
  rw [hv.leaf]
  exact queuesFlushed_empties hq hc

theorem flushPort_only_of_flushed (p code : Nat) (s : State) : (portFlushed p s).changesOnly (flushPort p code s) Fld.events :=
  (countA_only _ _ _ _).trans (raise_only _ _ _ _ _)

theorem flushPort_exq (p code : Nat) (s : State) : (flushPort p code s).pod.exq = s.pod.exq.set p [] := by
  rw [(flushPort_only_of_flushed p code s .pod (by decide) : State.pod _ = _), portFlushed_pod]

theorem flushPort_port (p code : Nat) (s : State) : (flushPort p code s).port = s.port :=
  (flushPort_only_of_flushed p code s .port (by decide)).trans (portFlushed_only p s .port (by decide))

section express
variable {p : Nat} {s : State} (hq : s.portQueues p = []) (hs : s.buf.staged = []) (hp : s.buf.pools = {})
include hq hs hp

/-- A port without leaf queues is flushed of its express frames: its event tells their number. -/
theorem flushPort_logs (code : Nat) :
    (flushPort p code s).isl.log.get (s.isl.total.toNat % 1024) =
      recordOf (flushPort p code s) 3 code p (portDetail p (s.pod.exq.get p).length) := by
  have hf := portFlushed_only_of_none hq
  have hi : (countA {} (Cnt.LPC_TX_FLUSH p) (s.portFrames p) (portFlushed p s)).isl = s.isl :=
    (countA_isl _ _ _ _).trans (hf .isl (by decide))
  have ht : (flushPort p code s).tbe = (countA {} (Cnt.LPC_TX_FLUSH p) (s.portFrames p) (portFlushed p s)).tbe := raise_tbe _ _ _ _ _
  rw [recordOf_congr ht, ← portFrames_express hq hs hp, flushPort_eq, ← hi]
  exact (raise_raised _ _ _ _ _).2

theorem flushPort_counts (code : Nat) :
    (flushPort p code s).cnt.get (Cnt.LPC_TX_FLUSH p) = s.cnt.get (Cnt.LPC_TX_FLUSH p) + BitVec.ofNat 64 (s.pod.exq.get p).length := by
  have he : Cnt.LPC_TX_FLUSH p ≠ Cnt.MGT_EVENTS := by simp only [Cnt.LPC_TX_FLUSH, Cnt.MGT_EVENTS]; omega
  have hd : Cnt.LPC_TX_FLUSH p ≠ Cnt.MGT_CDT_DROP 40 := by simp only [Cnt.LPC_TX_FLUSH, Cnt.MGT_CDT_DROP]; omega
  have hf : (portFlushed p s).cnt = s.cnt := portFlushed_only_of_none hq .cnt (by decide)
  rw [flushPort_eq, raise_cnt_ne he hd, countA_cnt_self, hf, portFrames_express hq hs hp]

end express

/-! ### A port is declared down (R101, R197, R266) -/

/-- What waits in the queues of PBF and BPM: the leaf queues and the virtual output queues, the packets under reception, and the
pools with their buffers. -/
def State.queued (s : State) : SMap PQueue × SMap PQueue × List Staged × SMap Pool × SMap BufHdr :=
  (s.buf.leaf, s.buf.voq, s.buf.staged, s.buf.pools, s.buf.bufs)

theorem stagesOnly.queued {s t : State} (h : stagesOnly s t) : t.queued = s.queued := by
  obtain ⟨_, _, _, rfl⟩ := h; rfl

theorem State.changesOnly.queued {s t : State} {fs : List Fld} (h : s.changesOnly t fs) (hb : Fld.buf ∉ fs := by decide) :
    t.queued = s.queued := by
  have e : t.buf = s.buf := h .buf hb
  unfold State.queued; rw [e]

/-- No tail of the frames in a port's transmit FIFO is wanted. -/
def fifoDropped (p : Nat) (s : State) : State := (s.tms.fifo.get p).foldl (fun s k => dropTail k.tail s) s

theorem fifoDropped_stagesOnly (p : Nat) (s : State) : stagesOnly s (fifoDropped p s) :=
  foldl_stages (fun s (k : Pkt) => dropTail_stagesOnly k.tail s) _ s

theorem abortFrame_eq (p : Nat) (s : State) :
    abortFrame p s = updTms (fun t => { t with fifo := t.fifo.set p [] })
      (countA {} (Cnt.LPC_TX_ABORT p) (s.tms.fifo.get p).length (fifoDropped p s)) := rfl

theorem countA_cnt_only (x : Attr) (a n : Nat) (s : State) : s.changesOnly (countA x a n s) [.cnt] := ite_only (cnt_only s _) (.refl s _)

theorem abortFrame_stages (p : Nat) (s : State) : s.changesOnly (abortFrame p s) [.buf, .swc, .tms, .cnt] := by
  rw [abortFrame_eq]
  exact ((fifoDropped_stagesOnly p s).only.mono (by decide)).trans (((countA_cnt_only _ _ _ _).mono (by decide)).trans (updTms_only _ _))

theorem abortFrame_queued (p : Nat) (s : State) : (abortFrame p s).queued = s.queued := by
  rw [abortFrame_eq]
  exact (updTms_only (fs := [.tms]) _ _).queued.trans ((countA_cnt_only _ _ _ _).queued.trans (fifoDropped_stagesOnly p s).queued)

theorem abortFrame_fifo (p : Nat) (s : State) : (abortFrame p s).tms.fifo = s.tms.fifo.set p [] := by
  have ht : (countA {} (Cnt.LPC_TX_ABORT p) (s.tms.fifo.get p).length (fifoDropped p s)).tms = s.tms :=
    (countA_cnt_only _ _ _ _ .tms (by decide)).trans ((fifoDropped_stagesOnly p s).only .tms (by decide))
  rw [abortFrame_eq]
  exact congrArg (fun t : TmsSt => t.fifo.set p []) ht

theorem abortFrame_cnt_ne {p a : Nat} (h : a ≠ Cnt.LPC_TX_ABORT p) (s : State) : (abortFrame p s).cnt.get a = s.cnt.get a := by
  have hc : (fifoDropped p s).cnt = s.cnt := (fifoDropped_stagesOnly p s).only .cnt (by decide)
  rw [abortFrame_eq, ← hc]
  exact countA_cnt_ne {} _ _ h

/-- A port that is down, its frame aborted. -/
def portCut (p : Nat) (s : State) : State := abortFrame p (updPort p (fun x => { x with up := false, holding := false }) s)

theorem portCut_only (p : Nat) (s : State) : s.changesOnly (portCut p s) [.port, .buf, .swc, .tms, .cnt] :=
  (updPort_only p _ s).trans ((abortFrame_stages p _).mono (by decide))

/-- PORT_DOWN has been raised for it. -/
def downRaised (p : Nat) (admin : Bool) (s : State) : State := raise 3 1 p (portDetail p (b2n admin)) (portCut p s)

/-- The port is latched as one that went down (R266). -/
def portLatched (p : Nat) (admin : Bool) (s : State) : State :=
  { downRaised p admin s with
    svc := { (downRaised p admin s).svc with latch := (downRaised p admin s).svc.latch ||| ((1 : Word32) <<< p) } }

/-- A port has been declared down, before the policy for the frames queued for it takes effect. -/
def portLost (p : Nat) (admin : Bool) (s : State) : State :=
  if (s.port.get p).up then l2FlushStart p (portLatched p admin s) else portLatched p admin s

theorem declareDown_eq (p : Nat) (admin : Bool) (s : State) :
    declareDown p admin s =
      if !admin && (portLost p admin s).regF (Reg.LPC_PORT_CFG p) 30 30 == 1 then
        updPort p (fun x => { x with holding := true, holdSince := (portLost p admin s).now }) (portLost p admin s)
      else flushPort p 5 (portLost p admin s) := rfl

/-- The fields that the declaration of a port as down may change, before its policy. -/
def Fld.lost : List Fld := Fld.events ++ [.port, .svc, .buf, .tms, .fwd, .swc]

section lost
variable (p : Nat) (admin : Bool) (s : State)

theorem portLost_only_of_cut : (portCut p s).changesOnly (portLost p admin s) (Fld.events ++ [.svc, .fwd]) := by
  have hl : (portCut p s).changesOnly (portLatched p admin s) (Fld.events ++ [.svc, .fwd]) := (raise_only _ _ _ _ _).trans (svc_only _ _)
  exact ite_only (hl.trans ((l2FlushStart_only p _).mono (by decide))) hl

theorem portLost_only_of_latched : (portLatched p admin s).changesOnly (portLost p admin s) [.fwd] :=
  ite_only (l2FlushStart_only p _) (.refl _ _)

theorem portLost_only : s.changesOnly (portLost p admin s) Fld.lost :=
  ((portCut_only p s).mono (by decide)).trans ((portLost_only_of_cut p admin s).mono (by decide))

theorem portLost_port : (portLost p admin s).port = s.port.upd p (fun x => { x with up := false, holding := false }) :=
  (portLost_only_of_cut p admin s .port (by decide)).trans (abortFrame_stages p _ .port (by decide))

theorem portLost_fifo : (portLost p admin s).tms.fifo = s.tms.fifo.set p [] :=
  (congrArg TmsSt.fifo (portLost_only_of_cut p admin s .tms (by decide))).trans (abortFrame_fifo p _)

theorem portLost_queued : (portLost p admin s).queued = s.queued :=
  (portLost_only_of_cut p admin s).queued.trans (abortFrame_queued p _)

theorem portLost_latch : (portLost p admin s).svc.latch = s.svc.latch ||| ((1 : Word32) <<< p) := by
  have hs : (downRaised p admin s).svc = s.svc :=
    (raise_only (fs := Fld.events) _ _ _ _ _ (by decide) .svc (by decide)).trans (portCut_only p s .svc (by decide))
  rw [(portLost_only_of_latched p admin s .svc (by decide) : State.svc _ = _), ← hs]
  rfl

theorem portLost_isl : (portLost p admin s).isl = (downRaised p admin s).isl :=
  portLost_only_of_latched p admin s .isl (by decide)

theorem portCut_isl : (portCut p s).isl = s.isl := portCut_only p s .isl (by decide)

/-- The record of PORT_DOWN stands in the log slot that came next. -/
theorem portLost_logged : (portLost p admin s).logged s.isl.total (recordOf s 3 1 p (portDetail p (b2n admin))) 2 := by
  have h := raise_new 3 1 p (portDetail p (b2n admin)) (portCut p s)
  rw [portCut_isl, recordOf_congr (portCut_only p s .tbe (by decide))] at h
  exact logged_of_log h (congrArg Island.log (portLost_isl p admin s)) (congrArg Island.total (portLost_isl p admin s))

theorem portLost_total (h : s.isl.wrapped = true ∨ s.isl.held < 1024) : (portLost p admin s).isl.total = s.isl.total + 1 := by
  rw [portLost_isl, downRaised, raise_total (by rw [portCut_isl]; exact h), portCut_isl]

theorem portLost_cnt_flush : (portLost p admin s).cnt.get (Cnt.LPC_TX_FLUSH p) = s.cnt.get (Cnt.LPC_TX_FLUSH p) := by
  have he : Cnt.LPC_TX_FLUSH p ≠ Cnt.MGT_EVENTS := by simp only [Cnt.LPC_TX_FLUSH, Cnt.MGT_EVENTS]; omega
  have hd : Cnt.LPC_TX_FLUSH p ≠ Cnt.MGT_CDT_DROP 40 := by simp only [Cnt.LPC_TX_FLUSH, Cnt.MGT_CDT_DROP]; omega
  have ha : Cnt.LPC_TX_FLUSH p ≠ Cnt.LPC_TX_ABORT p := by simp only [Cnt.LPC_TX_FLUSH, Cnt.LPC_TX_ABORT]; omega
  rw [(portLost_only_of_latched p admin s .cnt (by decide) : State.cnt _ = _)]
  exact (raise_cnt_ne he hd _ _ _ _ _).trans (abortFrame_cnt_ne ha _)

end lost

/-- The event of a flush goes to a slot of its own. -/
theorem flushPort_logged {p code n : Nat} {T : Word32} {r : EventRec} {s : State} (hq : s.portQueues p = []) (h : s.logged T r n)
    (hn : n + 1 < 1024) : (flushPort p code s).logged T r (n + 2) := by
  have hi : (countA {} (Cnt.LPC_TX_FLUSH p) (s.portFrames p) (portFlushed p s)).isl = s.isl :=
    (countA_isl _ _ _ _).trans (portFlushed_only_of_none hq .isl (by decide))
  rw [flushPort_eq]
  exact raise_logged (logged_of_log h (congrArg Island.log hi) (congrArg Island.total hi)) hn _ _ _ _

/-! ### LINK_RAW_CHANGE (R99) -/

theorem exec_linkRawChange {p : Nat} {up : Bool} {s : State} (h : s.running) (hm : s.md.mode ≠ .load) (hp : s.portExists p = true)
    (hr : (s.port.get p).raw ≠ up) (ho : s.portOff p = false) :
    exec (.linkRawChange p up) s = .next
      { s.fresh with port := s.port.upd p (fun x => { x with raw := up, rawSince := s.now }) } := by
  have hn : ¬ (s.md.mode = .load ∨ s.portExists p = false ∨ (s.port.get p).raw = up ∨ (up = true ∧ s.portOff p = true)) := by
    simp [hm, hp, hr, ho]
  have e : doLinkRawChange p up s.fresh = updPort p (fun x => { x with raw := up, rawSince := s.now }) s.fresh := if_neg hn
  exact coreCmd_running_answers (fs := [.port]) h e (updPort_only p _ s.fresh)

/-! ### PORT_UP (R99, R103) -/

/-- The instant at which the up debounce of a port ends. -/
def State.upAt (s : State) (p : Nat) : Nat := (s.port.get p).rawSince + s.regF Reg.LPC_DEBOUNCE 31 16 * 1000000

/-- The port is up, at the end of its debounce. -/
def portRisen (p : Nat) (s : State) : State :=
  { s with tbe := { s.tbe with st := max s.tbe.st (s.upAt p) }, port := s.port.upd p (fun x => { x with up := true, holding := false }) }

theorem portRisen_only (p : Nat) (s : State) {fs : List Fld} (ht : Fld.tbe ∈ fs := by decide) (hp : Fld.port ∈ fs := by decide) :
    s.changesOnly (portRisen p s) fs := (runTo_only (s.upAt p) s ht).trans (updPort_only p _ _ hp)

/-- A hold that ends no later than the debounce has expired first. -/
def holdPassed (p : Nat) (s : State) : State :=
  if (s.port.get p).holding && decide (s.holdEnd p ≤ max s.now (s.upAt p)) then expireHold p (runTo (s.holdEnd p) s) else s

/-- PORT_UP is raised as the port comes up at an instant. -/
def comesUp (p at_ : Nat) (s : State) : State :=
  raise 3 2 p (portDetail p 0) (updPort p (fun x => { x with up := true, holding := false }) (runTo at_ s))

/-- HOLD_RESUMED is raised for a port that held. -/
def resumed (p : Nat) (held : Bool) (s : State) : State := if held then raise 3 3 p (portDetail p (s.portFrames p)) s else s

theorem doPortUp_eq {p : Nat} {s : State}
    (h : ¬ (s.moves = false ∨ s.portExists p = false ∨ (s.port.get p).up = true ∨ (s.port.get p).raw = false ∨
      s.adminUp p = false)) :
    doPortUp p s = resumed p ((holdPassed p s).port.get p).holding (comesUp p (max s.now (s.upAt p)) (holdPassed p s)) := if_neg h

theorem holdPassed_before {p : Nat} {s : State} (h : (s.port.get p).holding = true → max s.tbe.st (s.upAt p) < s.holdEnd p) :
    holdPassed p s = s := by
  refine if_neg fun k => ?_
  obtain ⟨hh, hx⟩ := Bool.and_eq_true_iff.mp k
  exact absurd (of_decide_eq_true hx) (Nat.not_le.mpr (h hh))

theorem comesUp_upAt (p : Nat) (s : State) : comesUp p (max s.now (s.upAt p)) s = raise 3 2 p p (portRisen p s) := by
  have ht : max s.tbe.st (max s.tbe.st (s.upAt p)) = max s.tbe.st (s.upAt p) := by rw [← max_assoc, max_self]
  have hu : updPort p (fun x => { x with up := true, holding := false }) (runTo (max s.now (s.upAt p)) s) = portRisen p s :=
    congrArg (fun n => { s with tbe := { s.tbe with st := n }, port := s.port.upd p (fun x => { x with up := true, holding := false }) }) ht
  rw [comesUp, hu, portDetail_zero]

theorem comesUp_portFrames (p : Nat) (s : State) : (raise 3 2 p p (portRisen p s)).portFrames p = s.portFrames p := by
  have hc : s.changesOnly (raise 3 2 p p (portRisen p s)) (Fld.events ++ [.tbe, .port]) :=
    (portRisen_only p s).trans (raise_only _ _ _ _ _)
  exact portFrames_congr (hc .buf (by decide)) (hc .pod (by decide)) (hc .tbl (by decide)) p

/-- Service's commands answer what they make of a running device. -/
theorem coreCmd_service {f : State → State} {s t : State} {fs : List Fld} (hl : s.live = true) (hm : s.md.mode = .service)
    (e : f s.fresh = t) (hf : s.fresh.changesOnly t fs) (hd : Fld.md ∉ fs := by decide) (hp : Fld.pending ∉ fs := by decide) :
    coreCmd f s = .next t :=
  coreCmd_live hl e (quiet_of_service ((congrArg ModeSt.mode (hf .md hd)).trans hm)) (hf .pending hp)

section up
variable {p : Nat} {s : State} (hm : s.md.mode = .service) (hp : s.portExists p = true) (hu : (s.port.get p).up = false)
  (hr : (s.port.get p).raw = true) (ha : s.adminUp p = true)
include hm hp hu hr ha

/-- A port that is not held, or comes up within its hold, raises PORT_UP, and then HOLD_RESUMED if it was held. -/
theorem doPortUp_rises (hh : (s.port.get p).holding = true → max s.tbe.st (s.upAt p) < s.holdEnd p) :
    doPortUp p s =
      if (s.port.get p).holding then raise 3 3 p (portDetail p (s.portFrames p)) (raise 3 2 p p (portRisen p s))
      else raise 3 2 p p (portRisen p s) := by
  rw [doPortUp_eq (by simp [moves_of_service hm, hp, hu, hr, ha]), holdPassed_before hh, comesUp_upAt, resumed, comesUp_portFrames]

theorem exec_portUp (hl : s.live = true) (hh : (s.port.get p).holding = false) :
    exec (.portUp p) s = .next (raise 3 2 p p (portRisen p s.fresh)) := by
  have e := doPortUp_rises (s := s.fresh) hm hp hu hr ha fun k => Bool.noConfusion (hh.symm.trans k)
  exact coreCmd_service (fs := Fld.events ++ [.tbe, .port]) hl hm (e.trans (if_neg (Bool.eq_false_iff.mp hh)))
    ((portRisen_only p _).trans (raise_only _ _ _ _ _))

/-- Within its hold a port keeps what is queued for it (R103). -/
theorem exec_portUp_resumes (hl : s.live = true) (hh : (s.port.get p).holding = true) (hx : max s.tbe.st (s.upAt p) < s.holdEnd p) :
    exec (.portUp p) s = .next (raise 3 3 p (portDetail p (s.portFrames p)) (raise 3 2 p p (portRisen p s.fresh))) := by
  have e := doPortUp_rises (s := s.fresh) hm hp hu hr ha fun _ => hx
  exact coreCmd_service (fs := Fld.events ++ [.tbe, .port]) hl hm (e.trans (if_pos hh))
    ((portRisen_only p _).trans ((raise_only _ _ _ _ _).trans (raise_only _ _ _ _ _)))

end up

/-! ### PORT_DOWN (R101, R102, R338) -/

/-- The instant at which the down debounce of a port ends. -/
def State.downAt (s : State) (p : Nat) : Nat := (s.port.get p).rawSince + s.regF Reg.LPC_DEBOUNCE 15 0 * 1000

/-- The port has been declared down at the end of its debounce, before its policy. -/
def portFallen (p : Nat) (s : State) : State := portLost p false (runTo (s.downAt p) s.fresh)

theorem portFallen_only (p : Nat) (s : State) : s.fresh.changesOnly (portFallen p s) (Fld.lost ++ [.tbe]) :=
  (runTo_only _ s.fresh).trans ((portLost_only p false _).mono (by decide))

theorem portFallen_tbe (p : Nat) (s : State) : (portFallen p s).tbe = { s.tbe with st := max s.tbe.st (s.downAt p) } :=
  portLost_only p false _ .tbe (by decide)

theorem portFallen_port (p : Nat) (s : State) :
    (portFallen p s).port = s.port.upd p (fun x => { x with up := false, holding := false }) := portLost_port p false _

theorem portFallen_fifo (p : Nat) (s : State) : (portFallen p s).tms.fifo = s.tms.fifo.set p [] := portLost_fifo p false _

theorem portFallen_queued (p : Nat) (s : State) : (portFallen p s).queued = s.queued := portLost_queued p false (runTo (s.downAt p) s.fresh)

theorem portFallen_leaf (p : Nat) (s : State) : (portFallen p s).buf.leaf = s.buf.leaf := congrArg Prod.fst (portFallen_queued p s)

theorem portFallen_portQueues (p : Nat) (s : State) : (portFallen p s).portQueues p = s.portQueues p :=
  portQueues_congr (portFallen_leaf p s) (portFallen_only p s .tbl (by decide)) p

/-- The record of PORT_DOWN, at the instant of the declaration. -/
theorem portFallen_logged (p : Nat) (s : State) : (portFallen p s).logged s.isl.total (recordOf (portFallen p s) 3 1 p p) 2 := by
  have h := portLost_logged p false (runTo (s.downAt p) s.fresh)
  rw [show b2n false = 0 from rfl, portDetail_zero] at h
  have ht : (portFallen p s).tbe = (runTo (s.downAt p) s.fresh).tbe := portLost_only p false _ .tbe (by decide)
  rw [recordOf_congr ht]
  exact h

section down
variable {p : Nat} {s : State} (hl : s.live = true) (hm : s.md.mode = .service) (hp : s.portExists p = true)
  (hu : (s.port.get p).up = true) (hr : (s.port.get p).raw = false)
include hm hp hu hr

theorem doPortDown_declares : doPortDown p s.fresh = declareDown p false (runTo (s.downAt p) s.fresh) := by
  have hg : ¬ (s.moves = false ∨ s.portExists p = false ∨ (s.port.get p).up = false ∨ (s.port.get p).raw = true) := by
    simp [moves_of_service hm, hp, hu, hr]
  exact if_neg hg

theorem doPortDown_policy : doPortDown p s.fresh =
    if s.regF (Reg.LPC_PORT_CFG p) 30 30 = 1 then
      updPort p (fun x => { x with holding := true, holdSince := (portFallen p s).now }) (portFallen p s)
    else flushPort p 5 (portFallen p s) := by
  have hc : (portFallen p s).regF (Reg.LPC_PORT_CFG p) 30 30 = s.regF (Reg.LPC_PORT_CFG p) 30 30 := by
    have hg : (portFallen p s).regs = s.regs := portFallen_only p s .regs (by decide)
    simp only [State.regF, State.reg, hg]
  rw [doPortDown_declares hm hp hu hr, declareDown_eq]
  show (if (!false && (portFallen p s).regF (Reg.LPC_PORT_CFG p) 30 30 == 1) = true then _ else _) = _
  rw [hc]
  simp only [Bool.not_false, Bool.true_and, beq_iff_eq]
  rfl

include hl

/-- Under HOLD the port holds from the declaration on, with all that is queued for it (R103). -/
theorem exec_portDown_holds (hh : s.regF (Reg.LPC_PORT_CFG p) 30 30 = 1) :
    exec (.portDown p) s =
      .next (updPort p (fun x => { x with holding := true, holdSince := (portFallen p s).now }) (portFallen p s)) := by
  have e := doPortDown_policy hm hp hu hr
  rw [if_pos hh] at e
  exact coreCmd_service (fs := Fld.lost ++ [.tbe]) hl hm e ((portFallen_only p s).trans (updPort_only p _ _))

/-- Under FLUSH what is queued for the port is discarded (R102, R338). -/
theorem exec_portDown_flushes (hh : s.regF (Reg.LPC_PORT_CFG p) 30 30 = 0) :
    exec (.portDown p) s = .next (flushPort p 5 (portFallen p s)) ∧
      s.fresh.changesOnly (flushPort p 5 (portFallen p s)) (Fld.portDown ++ [.tbe]) := by
  have e := doPortDown_policy hm hp hu hr
  rw [if_neg (by omega)] at e
  have hf : s.fresh.changesOnly (flushPort p 5 (portFallen p s)) (Fld.portDown ++ [.tbe]) :=
    ((portFallen_only p s).mono (by decide)).trans ((flushPort_only p 5 _).mono (by decide))
  exact ⟨coreCmd_service hl hm e hf, hf⟩

end down

/-! ### HOLD_EXPIRED (R103) -/

/-- The hold of a port has ended, before what is queued for it is discarded. -/
def holdEnded (p : Nat) (s : State) : State := updPort p (fun x => { x with holding := false }) (runTo (s.holdEnd p) s.fresh)

theorem holdEnded_only (p : Nat) (s : State) : s.fresh.changesOnly (holdEnded p s) [.tbe, .port] :=
  (runTo_only _ s.fresh).trans (updPort_only p _ _)

theorem exec_holdExpired {p : Nat} {s : State} (hl : s.live = true) (hm : s.md.mode = .service) (hh : (s.port.get p).holding = true) :
    exec (.holdExpired p) s = .next (flushPort p 4 (holdEnded p s)) ∧
      s.fresh.changesOnly (flushPort p 4 (holdEnded p s)) (Fld.portDown ++ [.tbe]) := by
  have hg : ¬ (s.moves = false ∨ (s.port.get p).holding = false) := by simp [moves_of_service hm, hh]
  have e : doHoldExpired p s.fresh = flushPort p 4 (holdEnded p s) := if_neg hg
  have hf : s.fresh.changesOnly (flushPort p 4 (holdEnded p s)) (Fld.portDown ++ [.tbe]) :=
    ((holdEnded_only p s).mono (by decide)).trans ((flushPort_only p 4 _).mono (by decide))
  exact ⟨coreCmd_service hl hm e hf, hf⟩

/-! ### LPC_PORT_ADMIN (R95, R100, R553) -/

theorem exec_lpcPortAdmin {v : Word32} {s : State} (h : s.hostWrites 3) (hm : s.md.mode ≠ .drain) :
    exec (.lpcPortAdmin v) s = .next (writeAdmin v.toNat s.fresh) ∧
      s.fresh.changesOnly (writeAdmin v.toNat s.fresh) (Fld.portDown ++ [.regs]) := by
  have hf : s.fresh.changesOnly (writeAdmin v.toNat s.fresh) (Fld.portDown ++ [.regs]) :=
    (setReg_only _ _ s.fresh).trans ((writeAdmin_only v.toNat s.fresh).mono (by decide))
  have e : doLpcPortAdmin v s.fresh = writeAdmin v.toNat s.fresh := if_neg hm
  have hmd : (writeAdmin v.toNat s.fresh).md = s.md := hf .md (by decide)
  refine ⟨(hostCmd_writes h ?_ ?_).trans (congrArg _ e), hf⟩
  · rw [e, State.calm, hmd]; exact h.2.2
  · rw [e]; exact hf .pending (by decide)

/-- Settles O37: the raw link, the declarations up and down by the port's policy, the end of a hold, and the write of the register. -/
theorem portStates : Obligations.PortStates := by
  refine ⟨fun p up s h hm hp hr ho => exec_linkRawChange h hm hp hr ho,
    fun p s hl hm hp hu hr ha hh => exec_portUp hm hp hu hr ha hl hh, ?hold, ?flush, ?leaf,
    fun p s hl hm hp hu hr ha hh hx => exec_portUp_resumes hm hp hu hr ha hl hh hx, ?expired, ?admin⟩
  case hold =>
    intro p s hl hm hp hu hr hh
    obtain ⟨hleaf, hvoq, hst, hpool, hbufs⟩ : _ ∧ _ ∧ _ ∧ _ ∧ _ := by
      simpa only [State.queued, Prod.mk.injEq] using portFallen_queued p s
    refine ⟨_, exec_portDown_holds hl hm hp hu hr hh, congrArg Tbe.st (portFallen_tbe p s), ?_, portFallen_fifo p s, ?_,
      (portFallen_logged p s).1, hleaf, hvoq, hst, hpool, hbufs,
      ((portFallen_only p s).trans (updPort_only p _ _)).mono (by decide)⟩
    · exact portLost_latch p false (runTo (s.downAt p) s.fresh)
    · exact congrArg (fun m : SMap PortSt => m.upd p fun x => { x with holding := true, holdSince := (portFallen p s).now })
        (portFallen_port p s)
  case flush =>
    intro p s hl hm hp hu hr hh hlog hq hs hpl
    obtain ⟨e, hf⟩ := exec_portDown_flushes hl hm hp hu hr hh
    obtain ⟨-, -, hst, hpool, -⟩ : _ ∧ _ ∧ _ ∧ _ ∧ _ := by
      simpa only [State.queued, Prod.mk.injEq] using portFallen_queued p s
    have hq' : (portFallen p s).portQueues p = [] := (portFallen_portQueues p s).trans hq
    have hpod : (portFallen p s).pod = s.pod := portFallen_only p s .pod (by decide)
    have htot : (portFallen p s).isl.total = s.isl.total + 1 :=
      portLost_total p false (runTo (s.downAt p) s.fresh) (hlog.imp_right fun k => Nat.lt_succ_of_lt k)
    have hcnt : (portFallen p s).cnt.get (Cnt.LPC_TX_FLUSH p) = s.cnt.get (Cnt.LPC_TX_FLUSH p) :=
      portLost_cnt_flush p false (runTo (s.downAt p) s.fresh)
    have htbe : (flushPort p 5 (portFallen p s)).tbe = (portFallen p s).tbe := flushPort_only p 5 _ .tbe (by decide)
    have hc := flushPort_counts hq' (hst.trans hs) (hpool.trans hpl) 5
    have hlg := flushPort_logs hq' (hst.trans hs) (hpool.trans hpl) 5
    have hfirst := (flushPort_logged (code := 5) hq' (portFallen_logged p s) (by decide)).1
    rw [← recordOf_congr htbe] at hfirst
    rw [hcnt, hpod] at hc
    rw [htot, hpod] at hlg
    refine ⟨_, e, (flushPort_port _ _ _).trans (portFallen_port p s), ?_, ?_, hc, hfirst, hlg, hf.mono (by decide)⟩
    · rw [(flushPort_only_of_flushed p 5 _ .tms (by decide) : State.tms _ = _),
        (portFlushed_only_of_none hq' .tms (by decide) : State.tms _ = _), portFallen_fifo]
    · rw [flushPort_exq, hpod]
  case leaf =>
    intro p q s hl hm hp hu hr hh hq hc
    refine ⟨_, (exec_portDown_flushes hl hm hp hu hr hh).1, ?_⟩
    rw [(flushPort_only_of_flushed p 5 _ .buf (by decide) : State.buf _ = _)]
    refine portFlushed_empties ((portFallen_portQueues p s).symm ▸ hq) fun it hi => hc it ?_
    rw [← portFallen_leaf p s]
    exact hi
  case expired =>
    intro p s hl hm hh
    obtain ⟨e, hf⟩ := exec_holdExpired hl hm hh
    have htbe : (flushPort p 4 (holdEnded p s)).tbe = (holdEnded p s).tbe := flushPort_only p 4 _ .tbe (by decide)
    refine ⟨_, e, congrArg Tbe.st htbe, flushPort_exq p 4 _, flushPort_port p 4 _, fun hq hs hpl => ?_, hf.mono (by decide)⟩
    exact flushPort_logs (s := holdEnded p s) ((portQueues_congr rfl rfl p).trans hq) hs hpl 4
  case admin =>
    intro v s h hm
    obtain ⟨e, hf⟩ := exec_lpcPortAdmin (v := v) h hm
    exact ⟨_, e, writeAdmin_only v.toNat s.fresh .regs (by decide), hf.mono (by decide)⟩

end Sys2Proof.Machine

namespace Sys2Proof

/-! ## Rule sets: arming, disarming, copying and releasing (R121, R136 to R143) -/

/-! ### Ranges of a sparse table -/

section ranges
variable {α : Type}

theorem SMap.mem_pairsIn {m : SMap α} {lo hi : Nat} {c : Nat × α} : c ∈ m.pairsIn lo hi ↔ c ∈ m.cells ∧ lo ≤ c.1 ∧ c.1 < hi := by
  simp [SMap.pairsIn]

variable [Inhabited α]

/-- Only the keys that a test lets through are read of the pairs that it keeps. -/
theorem smapGet_filter (l : List (Nat × α)) (p : Nat → Bool) (k : Nat) :
    smapGet (l.filter fun c => p c.1) k = if p k then smapGet l k else default := by
  induction l with
  | nil => simp [smapGet]
  | cons c r ih =>
    obtain ⟨j, v⟩ := c
    by_cases hk : j = k
    · subst hk
      cases hp : p j <;> simp [smapGet, hp, ih]
    · cases hp : p j <;> simp [smapGet, hp, hk, ih]

/-- Pairs whose keys move down by b, none of them below b, are read b lower. -/
theorem smapGet_map_sub {l : List (Nat × α)} {b : Nat} (h : ∀ c ∈ l, b ≤ c.1) (i : Nat) :
    smapGet (l.map fun c => (c.1 - b, c.2)) i = smapGet l (b + i) := by
  induction l with
  | nil => rfl
  | cons c r ih =>
    obtain ⟨hc, hr⟩ := List.forall_mem_cons.mp h
    have hk : c.1 - b = i ↔ c.1 = b + i := by omega
    simp only [List.map_cons, smapGet, hk, ih hr]

theorem SMap.get_clearIn_outside (m : SMap α) {lo hi k : Nat} (h : k < lo ∨ hi ≤ k) : (m.clearIn lo hi).get k = m.get k :=
  (smapGet_filter m.cells (fun k => !(lo ≤ k && k < hi)) k).trans (if_pos (by simp; omega))

theorem SMap.get_clearIn_inside (m : SMap α) {lo hi k : Nat} (hl : lo ≤ k) (hh : k < hi) : (m.clearIn lo hi).get k = default :=
  (smapGet_filter m.cells (fun k => !(lo ≤ k && k < hi)) k).trans (if_neg (by simp [hl, hh]))

theorem SMap.smapGet_pairsIn (m : SMap α) {lo hi k : Nat} (hl : lo ≤ k) (hh : k < hi) : smapGet (m.pairsIn lo hi) k = m.get k :=
  (smapGet_filter m.cells (fun k => lo ≤ k && k < hi) k).trans (if_pos (by simp [hl, hh]))

variable [DecidableEq α]

/-- Pairs written b higher leave a key alone that none of them reaches. -/
theorem SMap.get_foldr_set_of_ne {l : List (Nat × α)} {b k : Nat} (m : SMap α) (h : ∀ c ∈ l, k ≠ c.1 + b) :
    (l.foldr (fun x m => m.set (x.1 + b) x.2) m).get k = m.get k := by
  induction l with
  | nil => rfl
  | cons c r ih =>
    obtain ⟨hc, hr⟩ := List.forall_mem_cons.mp h
    rw [List.foldr_cons, SMap.get_set_ne _ _ hc, ih hr]

/-- Pairs written b higher, where the table held nothing, are read there. -/
theorem SMap.get_foldr_set {m : SMap α} {b i : Nat} (h : m.get (i + b) = default) (l : List (Nat × α)) :
    (l.foldr (fun x m => m.set (x.1 + b) x.2) m).get (i + b) = smapGet l i := by
  induction l with
  | nil => exact h
  | cons c r ih =>
    rw [List.foldr_cons, smapGet]
    split
    · next hc => rw [hc, SMap.get_set_self]
    · next hc => rw [SMap.get_set_ne _ _ (by omega), ih]

end ranges

end Sys2Proof

namespace Sys2Proof.Machine

/-! ### The image of a slot (R121) -/

theorem slotImg_get (s : State) (k : Nat) {i : Nat} (h : i < 65536) : (s.slotImg k).get i = s.cls.img.get (65536 * k + i) := by
  have hb : ∀ c ∈ s.cls.img.pairsIn (k * 65536) (k * 65536 + 65536), k * 65536 ≤ c.1 := fun _ hc =>
    (SMap.mem_pairsIn.mp hc).2.1
  calc (s.slotImg k).get i
      = smapGet (s.cls.img.pairsIn (k * 65536) (k * 65536 + 65536)) (k * 65536 + i) := smapGet_map_sub hb i
    _ = s.cls.img.get (k * 65536 + i) := SMap.smapGet_pairsIn _ (by omega) (by omega)
    _ = s.cls.img.get (65536 * k + i) := by rw [Nat.mul_comm]

/-- The keys of a slot's image are the numbers of its blocks. -/
theorem slotImg_key_lt {s : State} {k : Nat} {c : Nat × Dat} (h : c ∈ (s.slotImg k).cells) : c.1 < 65536 := by
  obtain ⟨d, hd, rfl⟩ := List.mem_map.mp h
  obtain ⟨-, hl, hh⟩ := SMap.mem_pairsIn.mp hd
  show d.1 - k * 65536 < 65536
  omega

/-! ### The end of a copy (R137) -/

/-- The store of set images when a copy has ended: the shadow holds the blocks of the active image. -/
def State.copiedImg (s : State) : SMap Dat :=
  (s.slotImg s.cls.active).cells.foldr (fun x m => m.set (x.1 + s.shadowSlot * 65536) x.2)
    (s.cls.img.clearIn (s.shadowSlot * 65536) (s.shadowSlot * 65536 + 65536))

theorem copiedImg_shadow (s : State) {i : Nat} (h : i < 65536) :
    s.copiedImg.get (65536 * s.shadowSlot + i) = s.cls.img.get (65536 * s.cls.active + i) := by
  have hz : (s.cls.img.clearIn (s.shadowSlot * 65536) (s.shadowSlot * 65536 + 65536)).get (i + s.shadowSlot * 65536) = default :=
    SMap.get_clearIn_inside _ (by omega) (by omega)
  rw [← slotImg_get s _ h, show 65536 * s.shadowSlot + i = i + s.shadowSlot * 65536 by omega]
  exact SMap.get_foldr_set hz _

/-- A copy writes no block outside the shadow. -/
theorem copiedImg_outside (s : State) {a : Nat} (h : a / 65536 ≠ s.shadowSlot) : s.copiedImg.get a = s.cls.img.get a := by
  have hn : ∀ c ∈ (s.slotImg s.cls.active).cells, a ≠ c.1 + s.shadowSlot * 65536 := fun c hc => by
    have := slotImg_key_lt hc
    omega
  exact (SMap.get_foldr_set_of_ne _ hn).trans (SMap.get_clearIn_outside _ (by omega))

theorem doCopyDone_busy {s : State} (h : s.cls.copyBusy = true) :
    doCopyDone s = { s with cls := { s.cls with copyBusy := false, img := s.copiedImg } } := if_pos h

/-! ### The host's commands (R137, R138, R141) -/

/-- A host write that its mode allows, which moves no packet and leaves the modes alone, answers its effect. -/
theorem hostCmd_sets_answers {f : State → State} {s t : State} {win : Nat} {fs : List Fld} (h : s.hostSets win)
    (e : f s.fresh = t) (hf : s.fresh.changesOnly t fs) (hs : ∀ x ∈ Fld.settled, x ∉ fs := by decide) :
    hostCmd win f s = .next t := by
  subst e
  exact hostCmd_sets h (quiet_of_eq h.2.2 (hf .md (hs _ (by decide))) (holdsPackets_of_only (s := s.fresh) hf hs))
    (hf .pending (hs _ (by decide)))

/-- An arm that passes every check of R138 arms the swap. -/
theorem doArm_sound {s : State} (hd : s.cls.draining = false) (hc : s.cls.copyBusy = false) (ha : s.cls.armed = none)
    (h0 : (s.reg Reg.CLS_SWAP_EPOCH + 2 ^ 32 - s.epoch) % 2 ^ 32 ≠ 0)
    (hp : (s.reg Reg.CLS_SWAP_EPOCH + 2 ^ 32 - s.epoch) % 2 ^ 32 < 2 ^ 31) (hk : s.setOk s.shadowSlot = true) :
    doArm s = raise 5 1 noUnit (s.reg Reg.CLS_SWAP_EPOCH)
      { s with cls := { s.cls with lastArm := 0, armed := some (s.reg Reg.CLS_SWAP_EPOCH), fired := false } } := by
  have hn : ¬ ((s.reg Reg.CLS_SWAP_EPOCH + 2 ^ 32 - s.epoch) % 2 ^ 32 = 0 ∨
      2 ^ 31 ≤ (s.reg Reg.CLS_SWAP_EPOCH + 2 ^ 32 - s.epoch) % 2 ^ 32) := by omega
  have hr : ¬ s.setOk s.shadowSlot = false := by rw [hk]; decide
  rw [doArm]
  simp only [hd, hc, ha, Bool.or_self, Option.isSome_none, Bool.false_eq_true, if_false, if_neg hn, if_neg hr, if_true, updCls]

theorem doArm_armed {s : State} (hd : s.cls.draining = false) (hc : s.cls.copyBusy = false) (ha : s.cls.armed.isSome = true) :
    doArm s = { s with cls := { s.cls with lastArm := 4 } } := by
  rw [doArm]
  simp [hd, hc, ha, updCls]

theorem doDisarm_armed {s : State} {e : Nat} (h : s.cls.armed = some e) :
    doDisarm s = raise 5 4 noUnit e { s with cls := { s.cls with armed := none, lastDisarm := 1 } } := by
  rw [doDisarm, h]; rfl

theorem doCopy_starts {s : State} (h : s.shadowBusy = false) :
    doCopy s = { s with cls := { s.cls with copyRefused := false, copyBusy := true, copyStart := s.now } } :=
  if_neg (Bool.eq_false_iff.mp h)

theorem doCopy_refused {s : State} (h : s.shadowBusy = true) :
    doCopy s = { s with cls := { s.cls with copyRefused := true } } := if_pos h

/-! ### The end of the drain window (R140, R143) -/

theorem releaseSet_draining {s : State} (hd : s.cls.draining = true) (hm : s.swapMode = true) :
    releaseSet s = raise 5 3 noUnit (1 - s.cls.active) { s with cls := { s.cls with draining := false } } := if_pos ⟨hd, hm⟩

theorem doSetReleased_draining {s : State} (hd : s.cls.draining = true) (hm : s.swapMode = true) :
    doSetReleased s = raise 5 3 noUnit (1 - s.cls.active)
      { s with
        tbe := { s.tbe with st := max s.tbe.st (s.cls.drainSt + s.regF Reg.CLS_DRAIN_WIN 13 0 * 1000) },
        cls := { s.cls with draining := false } } :=
  (if_pos ⟨hd, hm⟩).trans
    (releaseSet_draining (s := runTo (s.cls.drainSt + s.regF Reg.CLS_DRAIN_WIN 13 0 * 1000) s) hd hm)

/-- The fields of the classifier and of records. -/
def Fld.classifier : List Fld := Fld.events ++ [.cls]

/-- Settles O32: each command by the branch that takes it, and the copied image by the slot that a block lies in. -/
theorem ruleSetSwaps : Obligations.RuleSetSwaps := by
  refine ⟨?arm, ?armedAlready, ?disarm, ?copy, ?copyRefused, ?copyDone, ?released⟩
  case arm =>
    intro s h hd hc ha h0 hp hk
    exact hostCmd_sets_answers h (doArm_sound (s := s.fresh) hd hc ha h0 hp hk)
      ((cls_only (fs := Fld.classifier) s.fresh _).trans (raise_only _ _ _ _ _))
  case armedAlready =>
    intro s h hd hc ha
    exact hostCmd_sets_answers h (doArm_armed (s := s.fresh) hd hc ha) (cls_only (fs := Fld.classifier) s.fresh _)
  case disarm =>
    intro e s h ha
    exact hostCmd_sets_answers h (doDisarm_armed (s := s.fresh) ha)
      ((cls_only (fs := Fld.classifier) s.fresh _).trans (raise_only _ _ _ _ _))
  case copy =>
    intro s h hb
    exact hostCmd_sets_answers h (doCopy_starts (s := s.fresh) hb) (cls_only (fs := Fld.classifier) s.fresh _)
  case copyRefused =>
    intro s h hb
    exact hostCmd_sets_answers h (doCopy_refused (s := s.fresh) hb) (cls_only (fs := Fld.classifier) s.fresh _)
  case copyDone =>
    intro s h hb
    exact ⟨s.copiedImg,
      coreCmd_running_answers h (doCopyDone_busy (s := s.fresh) hb) (cls_only (fs := Fld.classifier) s.fresh _),
      fun _ hi => copiedImg_shadow s hi, fun _ ha => copiedImg_outside s ha⟩
  case released =>
    intro s h hd hm
    exact coreCmd_running_answers h (doSetReleased_draining (s := s.fresh) hd hm)
      ((tbe_only (fs := Fld.classifier ++ [.tbe]) s.fresh _).trans ((cls_only _ _).trans (raise_only _ _ _ _ _)))

end Sys2Proof.Machine

namespace Sys2Proof.Machine

/-! ## Upkeep of the associative array: the scrub and the march test (R169, R171, R446) -/

/-! ### What the scrub and a parity error may change -/

/-- The fields that a parity error of the array may change. -/
def Fld.parity : List Fld := Fld.events ++ [.asa, .flt]

/-- The entry that holds row n loses VALID (R169). -/
def rowLost (n : Nat) (s : State) : State :=
  { s with asa := { s.asa with
      ents := s.asa.ents.upd (s.asaHead n) (fun e => { e with attr := BitVec.ofNat 64 (setBit e.attr.toNat 48 false) }) } }

/-- Row n has lost its entry, and the error is counted and reported (R169, R173). -/
def rowReported (n : Nat) (s : State) : State :=
  raiseLim 1000 0 6 2 noUnit (s.asaHead n) (count Cnt.ASA_PARITY (rowLost n s))

theorem asaParityError_eq (n : Nat) (s : State) :
    asaParityError n s =
      if (enterError 6 (n / 2048) 1 (rowReported n s)).1 then
        retireBank (n / 2048) (enterError 6 (n / 2048) 1 (rowReported n s)).2
      else (enterError 6 (n / 2048) 1 (rowReported n s)).2 := rfl

theorem rowReported_only_of_lost (n : Nat) (s : State) : (rowLost n s).changesOnly (rowReported n s) Fld.events :=
  (count_only _ _).trans (raiseLim_only _ _ _ _ _ _ _)

theorem rowReported_only (n : Nat) (s : State) : s.changesOnly (rowReported n s) Fld.parity :=
  (asa_only s _).trans ((rowReported_only_of_lost n s).mono (by decide))

/-- An error that enters a count changes the count, and may count a crossing (R439, R440). -/
theorem enterError_flt_only (c u w : Nat) (s : State) :
    s.changesOnly (enterError c u w s).2 (Fld.events ++ [.flt]) := by
  unfold enterError
  extract_lets f n crossed t
  have ht : s.changesOnly t (Fld.events ++ [.flt]) := flt_only s _
  split
  · exact .refl s _
  · exact ht.trans (ite_only (count_only t _) (.refl t _))

theorem retireBank_parity_only (b : Nat) (s : State) : s.changesOnly (retireBank b s) Fld.parity :=
  (asa_only s _).trans ((flt_only _ _).trans (raise_only _ _ _ _ _))

theorem asaParityError_parity_only (n : Nat) (s : State) : s.changesOnly (asaParityError n s) Fld.parity := by
  have h : s.changesOnly (enterError 6 (n / 2048) 1 (rowReported n s)).2 Fld.parity :=
    (rowReported_only n s).trans ((enterError_flt_only _ _ _ _).mono (by decide))
  rw [asaParityError_eq]
  exact ite_only (h.trans (retireBank_parity_only _ _)) h

/-- An error below the threshold of a unit in service enters its count and does no more (R439, R440). -/
theorem enterError_counts {c u : Nat} {s : State} (hr : (s.flt.get (fltKey c u)).retired = false)
    (hc : (s.flt.get (fltKey c u)).count < 65535) (ht : s.thresh c ≠ (s.flt.get (fltKey c u)).count + 1) :
    ∃ f : FltCount, f.count = (s.flt.get (fltKey c u)).count + 1 ∧
      enterError c u 1 s = (false, { s with flt := s.flt.set (fltKey c u) f }) := by
  have hn : min 65535 ((s.flt.get (fltKey c u)).count + 1) = (s.flt.get (fltKey c u)).count + 1 := by omega
  have hx : (decide ((s.flt.get (fltKey c u)).count < s.thresh c) &&
      decide (s.thresh c ≤ (s.flt.get (fltKey c u)).count + 1)) = false := by
    simp only [Bool.and_eq_false_iff, decide_eq_false_iff_not]; omega
  refine ⟨{ s.flt.get (fltKey c u) with
    count := (s.flt.get (fltKey c u)).count + 1,
    peak := max (s.flt.get (fltKey c u)).peak ((s.flt.get (fltKey c u)).count + 1) }, rfl, ?_⟩
  unfold enterError
  simp only [hr, hn, hx, Bool.false_and, Bool.false_eq_true, if_false]

theorem thresh_of_regs {s t : State} (h : t.regs = s.regs) (c : Nat) : t.thresh c = s.thresh c := by
  simp only [State.thresh, State.regF, State.reg, h]

/-- A parity error below the threshold of its bank loses the entry and enters the count of the bank (R169). -/
theorem asaParityError_counts {n : Nat} {s : State} (hr : (s.flt.get (fltKey 6 (n / 2048))).retired = false)
    (hc : (s.flt.get (fltKey 6 (n / 2048))).count < 65535) (ht : s.thresh 6 ≠ (s.flt.get (fltKey 6 (n / 2048))).count + 1) :
    (asaParityError n s).asa = (rowLost n s).asa ∧
      ((asaParityError n s).flt.get (fltKey 6 (n / 2048))).count = (s.flt.get (fltKey 6 (n / 2048))).count + 1 := by
  have hf := rowReported_only_of_lost n s
  have hflt : (rowReported n s).flt = s.flt := hf .flt (by decide)
  have hth : (rowReported n s).thresh 6 = s.thresh 6 := thresh_of_regs (hf .regs (by decide)) 6
  rw [← hflt] at hr hc ht ⊢
  obtain ⟨f, hn, he⟩ := enterError_counts hr hc (hth.symm ▸ ht)
  rw [asaParityError_eq, he]
  exact ⟨hf .asa (by decide), (congrArg FltCount.count (SMap.get_set_self _ _ _)).trans hn⟩

/-! ### The scrub -/

/-- The scrubber has moved on from its row (R169). -/
def scrubbed (s : State) : State :=
  { s.fresh with
    tbe := { s.tbe with st := max s.tbe.st (paceDue 10000000 65536 s.asa.scrub s.asa.scrubAt) },
    asa := { s.asa with scrub := (s.asa.scrub + 1) % 65536, scrubAt := paceDue 10000000 65536 s.asa.scrub s.asa.scrubAt } }

theorem scrubbed_only (s : State) {fs : List Fld} (ht : Fld.tbe ∈ fs := by decide) (ha : Fld.asa ∈ fs := by decide) :
    s.fresh.changesOnly (scrubbed s) fs := (runTo_only _ s.fresh ht).trans (asa_only _ _ ha)

theorem doAsaScrub_sound (s : State) : doAsaScrub false s.fresh = scrubbed s := by
  unfold doAsaScrub
  exact if_neg fun k => Bool.noConfusion k.1

theorem doAsaScrub_bad {s : State} (h : bit s.asaUsable (s.asa.scrub / 2048) = true) :
    doAsaScrub true s.fresh = asaParityError s.asa.scrub (scrubbed s) := if_pos ⟨rfl, h⟩

theorem exec_asaScrub_bad {s : State} (h : s.running) (hu : bit s.asaUsable (s.asa.scrub / 2048) = true)
    (hr : (s.flt.get (fltKey 6 (s.asa.scrub / 2048))).retired = false)
    (hc : (s.flt.get (fltKey 6 (s.asa.scrub / 2048))).count < 65535)
    (ht : s.thresh 6 ≠ (s.flt.get (fltKey 6 (s.asa.scrub / 2048))).count + 1) :
    ∃ t, exec (.asaScrub true) s = .next t ∧ t.asa.scrub = (s.asa.scrub + 1) % 65536 ∧ t.asa.retired = s.asa.retired ∧
      t.asa.ents = s.asa.ents.upd (s.asaHead s.asa.scrub)
        (fun e => { e with attr := BitVec.ofNat 64 (setBit e.attr.toNat 48 false) }) ∧
      (t.flt.get (fltKey 6 (s.asa.scrub / 2048))).count = (s.flt.get (fltKey 6 (s.asa.scrub / 2048))).count + 1 ∧
      s.fresh.changesOnly t (Fld.events ++ [.tbe, .asa, .flt]) := by
  obtain ⟨ha, hn⟩ := asaParityError_counts (n := s.asa.scrub) (s := scrubbed s) hr hc ht
  have hall : s.fresh.changesOnly (asaParityError s.asa.scrub (scrubbed s)) (Fld.events ++ [.tbe, .asa, .flt]) :=
    (scrubbed_only s).trans ((asaParityError_parity_only _ _).mono (by decide))
  exact ⟨_, coreCmd_running_answers h (doAsaScrub_bad hu) hall, by rw [ha]; rfl, by rw [ha]; rfl, by rw [ha]; rfl, hn, hall⟩

/-! ### Writes to a self-test register (R446) -/

section testWrite
variable {addr unit : Nat} {start ok busy : Bool} {accept reject : State → State} {s : State}

theorem testWrite_sets (hs : start = false) : testWrite addr unit start ok busy accept reject s = setReg addr unit s := by
  subst hs; rfl

theorem testWrite_rejects (hs : start = true) (ho : ok = false) :
    testWrite addr unit start ok busy accept reject s = reject s := by subst hs ho; rfl

theorem testWrite_starts (hs : start = true) (ho : ok = true) (hb : busy = false) :
    testWrite addr unit start ok busy accept reject s = accept (setReg addr unit s) := by subst hs ho hb; rfl

end testWrite

/-! ### The march test of a bank (R171) -/

theorem doAsaTest_sets {v : Word32} {s : State} (hv : bit v.toNat 8 = false) :
    doAsaTest v s = setReg Reg.ASA_TEST (v.toNat % 32) s := by
  unfold doAsaTest
  exact testWrite_sets hv

theorem doAsaTest_rejects {v : Word32} {s : State} (hv : bit v.toNat 8 = true) (hm : s.md.mode ≠ .maintenance)
    (hr : bit s.asa.retired (v.toNat % 32) = false) :
    doAsaTest v s = { s with asa := { s.asa with testResult := 3 } } := by
  unfold doAsaTest
  exact testWrite_rejects hv (by simp [hm, hr])

/-- Maintenance lets any bank be tested (R446). -/
theorem doAsaTest_starts {v : Word32} {s : State} (hv : bit v.toNat 8 = true) (hb : s.asa.testBusy = false)
    (hm : s.md.mode = .maintenance) :
    doAsaTest v s =
      { setReg Reg.ASA_TEST (v.toNat % 32) s with
        asa := { s.asa with testBusy := true, testBank := v.toNat % 32, testResult := 0 } } := by
  unfold doAsaTest
  exact testWrite_starts hv (by rw [hm]; rfl) hb

theorem doAsaTestDone_busy {pass : Bool} {s : State} (h : s.asa.testBusy = true) :
    doAsaTestDone pass s = raise 6 8 s.asa.testBank (s.asa.testBank + 256 * (if pass then 1 else 2))
      { s with asa := { s.asa with testBusy := false, testResult := if pass then 1 else 2 } } := if_pos h

/-- Settles O33: the scrub by the parity of its row, and the writes of ASA_TEST by the branch of `testWrite` that takes them. -/
theorem asaMaintenance : Obligations.AsaMaintenance := by
  refine ⟨?scrub, ?lost, ?starts, ?sets, ?inService, ?done⟩
  case scrub => exact fun s h => coreCmd_running_answers h (doAsaScrub_sound s) (scrubbed_only (fs := [.tbe, .asa]) s)
  case lost => exact fun s h _ hu hr hc ht => exec_asaScrub_bad h hu hr hc ht
  case starts =>
    intro v s h hv hb hm
    exact hostCmd_sets_answers h (doAsaTest_starts (s := s.fresh) hv hb hm)
      ((setReg_only (fs := [.regs, .asa]) _ _ s.fresh).trans (asa_only _ _))
  case sets =>
    intro v s h hv
    exact hostCmd_sets_answers h (doAsaTest_sets (s := s.fresh) hv) (setReg_only (fs := [.regs]) _ _ s.fresh)
  case inService =>
    intro v s h hv hm hr
    exact hostCmd_sets_answers h (doAsaTest_rejects (s := s.fresh) hv hm hr) (asa_only (fs := [.asa]) s.fresh _)
  case done =>
    intro pass s h hb
    exact coreCmd_running_answers h (doAsaTestDone_busy (s := s.fresh) hb)
      ((asa_only (fs := Fld.parity) s.fresh _).trans (raise_only _ _ _ _ _))

end Sys2Proof.Machine

namespace Sys2Proof.Machine

/-! ## Searches over the cascade ring (R155 to R167, R438) -/

/-! ### Parity errors leave the Runner alone (R169) -/

/-- Parity errors of the array may have come between s and t, and no more: the Runner is as it was. -/
def parityOnly (s t : State) : Prop := s.changesOnly t Fld.parity ∧ t.asa.run = s.asa.run

theorem parityOnly.refl (s : State) : parityOnly s s := ⟨.refl s _, rfl⟩

theorem parityOnly.trans {s t u : State} (h : parityOnly s t) (g : parityOnly t u) : parityOnly s u :=
  ⟨h.1.trans g.1, g.2.trans h.2⟩

theorem retireBank_run (b : Nat) (s : State) : (retireBank b s).asa.run = s.asa.run := by
  unfold retireBank
  rw [(raise_frame _ _ _ _ _).asa]
  rfl

theorem asaParityError_run (n : Nat) (s : State) : (asaParityError n s).asa.run = s.asa.run := by
  have hr : (rowReported n s).asa = (rowLost n s).asa := rowReported_only_of_lost n s .asa (by decide)
  have he : (enterError 6 (n / 2048) 1 (rowReported n s)).2.asa = (rowReported n s).asa :=
    enterError_flt_only _ _ _ _ .asa (by decide)
  have h : (enterError 6 (n / 2048) 1 (rowReported n s)).2.asa.run = s.asa.run := by
    rw [he, hr]
    rfl
  rw [asaParityError_eq]
  split
  · exact (retireBank_run _ _).trans h
  · exact h

theorem asaParity_parityOnly (banks : Nat) (bad : List Nat) (s : State) : parityOnly s (asaParity banks bad s) :=
  List.foldlRecOn _ _ (.refl s) fun _ ht _ _ => ht.trans <|
    List.foldlRecOn _ _ (.refl _) fun _ hu n _ => hu.trans ⟨asaParityError_parity_only n _, asaParityError_run n _⟩

theorem asaParity_nil (banks : Nat) (s : State) : asaParity banks [] s = s := by simp [asaParity]

/-! ### A member's own match (R159, R162, R163) -/

/-- What the member at `pos` finds for a key, or for a STEP from its resume point (R163). -/
def State.ownResult (s : State) (pos key : Nat) : Option (Nat × Nat × Nat) → AsaRes
  | none => asaSearch s.asa.ents s.casScope key none
  | some (p, entry, prio) =>
    if pos < p then {} else asaSearch s.asa.ents s.casScope key (if pos = p then some (prio, entry) else none)

/-- A STEP from a later position finds nothing at a member (R163). -/
theorem State.ownResult_step_hit (s : State) (own key pos entry prio : Nat) :
    (s.ownResult own key (some (pos, entry, prio))).hit =
      (decide (pos ≤ own) && (asaSearch s.asa.ents s.casScope key (if own = pos then some (prio, entry) else none)).hit) := by
  show (ite _ _ _ : AsaRes).hit = _
  split
  · next hp => rw [decide_eq_false (by omega)]; rfl
  · next hp => rw [decide_eq_true (by omega), Bool.true_and]

/-- A member's match for a slot, which its result gives. -/
def matchOf (issuer slot : Nat) (r : AsaRes) : CasMatch :=
  { slot := slot % 2048, issuer, hit := r.hit, multi := r.multi, entry := r.entry, prio := r.prio, action := r.action }

/-- The match takes the place of an older one of its slot. -/
def withMatch (m : CasMatch) (u : Runner) : Runner :=
  { u with matched := (u.matched.filter (fun x => x.slot != m.slot)) ++ [m] }

theorem casSearchOwn_eq (issuer slot key : Nat) (resume : Option (Nat × Nat × Nat)) (lost : List Nat) (s : State) :
    casSearchOwn issuer slot key resume lost s =
      updRun (withMatch
        (matchOf issuer slot ((asaParity s.casScope.banks lost s).ownResult s.runnerPos key resume)))
        (asaParity s.casScope.banks lost s) := by cases resume <;> rfl

/-- A search that meets no parity error adds the member's match and does no more. -/
theorem casSearchOwn_sound (issuer slot key : Nat) (resume : Option (Nat × Nat × Nat)) (s : State) :
    casSearchOwn issuer slot key resume [] s =
      updRun (withMatch (matchOf issuer slot (s.ownResult s.runnerPos key resume))) s := by
  rw [casSearchOwn_eq, asaParity_nil]

theorem mem_withMatch (m : CasMatch) (u : Runner) : m ∈ (withMatch m u).matched :=
  List.mem_append_right _ (List.mem_singleton_self m)

theorem casSearchOwn_only (issuer slot key : Nat) (resume : Option (Nat × Nat × Nat)) (lost : List Nat) (s : State) :
    s.changesOnly (casSearchOwn issuer slot key resume lost s) Fld.parity := by
  rw [casSearchOwn_eq]
  exact (asaParity_parityOnly _ _ s).1.trans (updRun_only _ _)

/-- The member's search of a slot leaves the requests of its own searches alone. -/
theorem casSearchOwn_requests (issuer slot key : Nat) (resume : Option (Nat × Nat × Nat)) (lost : List Nat) (s : State) :
    (casSearchOwn issuer slot key resume lost s).asa.run.waiting = s.asa.run.waiting ∧
      (casSearchOwn issuer slot key resume lost s).asa.run.flight = s.asa.run.flight := by
  have h : (asaParity s.casScope.banks lost s).asa.run = s.asa.run := (asaParity_parityOnly _ _ s).2
  rw [casSearchOwn_eq, ← h]
  exact ⟨rfl, rfl⟩

/-! ### Launches (R161) -/

/-- The oldest waiting request has left for its slot (R161). -/
def launchRunner (wide : Bool) (slot now : Nat) (q : CasReq) (rest : List CasReq) (r : Runner) : Runner :=
  { r with waiting := rest, flight := r.flight ++ [{ q with slot := some (slot % 2048), at_ := now }],
           wideAt := if wide then some (slot % 2048, now) else none }

/-- The launch is counted, and its frame is on the ring (R161, R173). -/
def launched (slot : Nat) (q : CasReq) (rest : List CasReq) (s : State) : State :=
  ringOut (keyBytes s.ringWide s.runnerPos slot q.key q.resume)
    (count Cnt.ASA_RUN_SEARCH (updRun (launchRunner s.ringWide slot s.now q rest) s))

theorem launched_only (slot : Nat) (q : CasReq) (rest : List CasReq) (s : State) :
    s.changesOnly (launched slot q rest s) [.asa, .cnt, .out] :=
  (updRun_only _ s).trans ((count_cnt_only _ _).trans (ringOut_only _ _))

theorem launched_run (slot : Nat) (q : CasReq) (rest : List CasReq) (s : State) :
    (launched slot q rest s).asa.run = launchRunner s.ringWide slot s.now q rest s.asa.run :=
  congrArg AsaSt.run (count_frame _ _).asa

theorem launched_out (slot : Nat) (q : CasReq) (rest : List CasReq) (s : State) :
    (launched slot q rest s.fresh).out = [.ring (keyBytes s.ringWide s.runnerPos slot q.key q.resume)] :=
  congrArg (· ++ [Out.ring (keyBytes s.ringWide s.runnerPos slot q.key q.resume)])
    ((count_cnt_only _ (updRun _ s.fresh) : State.changesOnly _ _ [.cnt]) .out (by decide))

section launch
variable {slot : Nat} {lost : List Nat} {s : State} (hr : s.asa.run.state = .running) (hn : s.asa.run.retired = false)
  (h0 : s.runnerCount ≠ 0) (ht : slot % s.runnerCount = s.runnerPos % s.runnerCount)
include hr hn h0 ht

theorem doCascadeLaunch_taken (hw : s.slotTaken slot = true) :
    doCascadeLaunch slot lost s = updRun (fun r => { r with wideAt := none }) s := by
  unfold doCascadeLaunch
  rw [if_neg (by simp [hr, hn, h0, ht]), if_pos hw]

theorem doCascadeLaunch_launches {q : CasReq} {rest : List CasReq} (hw : s.slotTaken slot = false)
    (hq : s.asa.run.waiting = q :: rest) :
    doCascadeLaunch slot lost s = casSearchOwn s.runnerPos slot q.key q.resume lost (launched slot q rest s) := by
  unfold doCascadeLaunch
  rw [if_neg (by simp [hr, hn, h0, ht]), if_neg (by simp [hw]), hq]
  rfl

theorem exec_cascadeLaunch_launches {q : CasReq} {rest : List CasReq} (h : s.running) (hw : s.slotTaken slot = false)
    (hq : s.asa.run.waiting = q :: rest) :
    ∃ t, exec (.cascadeLaunch slot lost) s = .next t ∧ t.asa.run.waiting = rest ∧
      t.asa.run.flight = s.asa.run.flight ++ [{ q with slot := some (slot % 2048), at_ := s.now }] ∧
      (lost = [] →
        t.out = [.ring (keyBytes s.ringWide s.runnerPos slot q.key q.resume)] ∧ s.fresh.changesOnly t [.asa, .cnt, .out]) ∧
      s.fresh.changesOnly t (Fld.events ++ [.asa, .flt]) := by
  obtain ⟨hwait, hflight⟩ := casSearchOwn_requests s.runnerPos slot q.key q.resume lost (launched slot q rest s.fresh)
  rw [launched_run] at hwait hflight
  have hl := launched_only slot q rest s.fresh
  have hall := (hl.mono (by decide)).trans (casSearchOwn_only s.runnerPos slot q.key q.resume lost (launched slot q rest s.fresh))
  refine ⟨_, coreCmd_running_answers h (doCascadeLaunch_launches (s := s.fresh) hr hn h0 ht hw hq) hall, hwait, hflight, ?_, hall⟩
  rintro rfl
  show (casSearchOwn s.runnerPos slot q.key q.resume [] (launched slot q rest s.fresh)).out = _ ∧
    s.fresh.changesOnly (casSearchOwn s.runnerPos slot q.key q.resume [] (launched slot q rest s.fresh)) _
  rw [casSearchOwn_sound]
  exact ⟨launched_out slot q rest s, hl.trans (updRun_only _ _)⟩

end launch

/-! ### KEY and STEP frames of other members (R160, R162, R163, R166) -/

section keyFrame
variable {issuer slot key : Nat} {resume : Option (Nat × Nat × Nat)} {wide bad : Bool} {lost : List Nat} {s : State}

theorem doKeyFrame_searches (hr : s.asa.run.state = .running) (hi : issuer ≠ s.runnerPos)
    (hn : (s.runnerPos + 1) % max 1 s.runnerCount ≠ issuer) :
    doKeyFrame issuer slot key resume s.ringWide false [] s =
      ringOut (keyBytes s.ringWide issuer slot key resume)
        (updRun (withMatch (matchOf issuer slot (s.ownResult s.runnerPos key resume))) (lapHeard s)) := by
  have hw : ¬ (false || s.ringWide != (lapHeard s).ringWide) = true := by
    rw [show (lapHeard s).ringWide = s.ringWide from rfl]; simp
  unfold doKeyFrame
  rw [hr]
  dsimp only
  rw [if_neg hw, casSearchOwn_sound]
  exact (if_neg hi).trans (if_neg hn)

theorem doKeyFrame_faulty (hr : s.asa.run.state = .running) (hf : bad = true ∨ wide ≠ s.ringWide) :
    doKeyFrame issuer slot key resume wide bad lost s = ringError (lapHeard s) := by
  unfold doKeyFrame
  rw [hr]
  have hf : bad = true ∨ wide ≠ (lapHeard s).ringWide := hf
  exact if_pos (by simpa using hf)

theorem doKeyFrame_bypass (hr : s.asa.run.state = .bypass) (hn : (s.runnerPos + 1) % max 1 s.runnerCount ≠ issuer) :
    doKeyFrame issuer slot key resume wide bad lost s =
      ringOut (keyBytes wide issuer slot key resume) (lapHeard s) := by
  unfold doKeyFrame
  rw [hr]
  exact if_neg hn

/-- A KEY or STEP frame of another member is searched here, and goes on (R162, R163). -/
theorem keyFrame_answers (h : s.running) (hr : s.asa.run.state = .running) (hi : issuer ≠ s.runnerPos)
    (hn : (s.runnerPos + 1) % max 1 s.runnerCount ≠ issuer) :
    ∃ t, coreCmd (doKeyFrame issuer slot key resume s.ringWide false []) s = .next t ∧
      t.out = [.ring (keyBytes s.ringWide issuer slot key resume)] ∧
      matchOf issuer slot (s.ownResult s.runnerPos key resume) ∈ t.asa.run.matched ∧ s.fresh.changesOnly t [.asa, .out] := by
  have hall : s.fresh.changesOnly (ringOut (keyBytes s.ringWide issuer slot key resume)
      (updRun (withMatch (matchOf issuer slot (s.ownResult s.runnerPos key resume))) (lapHeard s.fresh))) [.asa, .out] :=
    (updRun_only _ _).trans ((updRun_only _ _).trans (ringOut_only _ _))
  exact ⟨_, coreCmd_running_answers h (doKeyFrame_searches (s := s.fresh) hr hi hn) hall, rfl, mem_withMatch _ _, hall⟩

end keyFrame

theorem exec_keyFrame_faulty {issuer slot key : Nat} {wide bad : Bool} {lost : List Nat} {s : State} (h : s.running)
    (hr : s.asa.run.state = .running) (hf : bad = true ∨ wide ≠ s.ringWide) (hn : (s.flt.get (fltKey 1 0)).retired = false)
    (hc : (s.flt.get (fltKey 1 0)).count < 65535) (ht : s.thresh 1 ≠ (s.flt.get (fltKey 1 0)).count + 1) :
    ∃ t, exec (.keyFrame issuer slot key wide bad lost) s = .next t ∧ t.out = [] ∧
      t.asa = { s.asa with run := { s.asa.run with lapAt := s.now } } ∧
      (t.flt.get (fltKey 1 0)).count = (s.flt.get (fltKey 1 0)).count + 1 ∧ s.fresh.changesOnly t [.asa, .flt] := by
  obtain ⟨c, hcount, he⟩ := ringError_counts (s := lapHeard s.fresh) hn hc ht
  have hall : s.fresh.changesOnly { lapHeard s.fresh with flt := s.flt.set (fltKey 1 0) c } [.asa, .flt] :=
    (updRun_only _ _).trans (flt_only _ _)
  exact ⟨_, coreCmd_running_answers h ((doKeyFrame_faulty (s := s.fresh) hr hf).trans he) hall, rfl, rfl,
    (congrArg FltCount.count (SMap.get_set_self _ _ _)).trans hcount, hall⟩

/-! ### The match flag of a slot (R162) -/

/-- The match of a slot that has not been driven yet. -/
def State.undriven (s : State) (slot : Nat) : Option CasMatch := (s.casMatch? slot).filter (fun m => !m.driven)

/-- CAS_MIN and CAS_MOUT with these levels. -/
def casFlags (mini mout : Bool) (s : State) : State := { s with pins := { s.pins with casMin := mini, casMout := mout } }

/-- The match of the slot counts as driven. -/
def markDriven (slot : Nat) (s : State) : State :=
  updRun (fun u => { u with matched := u.matched.map (fun x =>
    if x.slot == slot % 2048 then { x with driven := true } else x) }) s

/-- The RESULT of the member's match m for a slot, or that of no match from the last member (R162). -/
def State.ownFrame (s : State) (slot : Nat) (m : CasMatch) : ResultFrame :=
  if m.hit then
    { issuer := m.issuer, slot := slot % 2048, position := s.runnerPos, hit := true, multi := m.multi,
      fin := s.runnerPos == runnerLast s.asa.run.members, entry := m.entry, prio := m.prio, action := m.action }
  else { issuer := m.issuer, slot := slot % 2048, fin := true }

theorem dropMatch_only (slot : Nat) (s : State) {fs : List Fld} (h : Fld.asa ∈ fs := by decide) :
    s.changesOnly (dropMatch slot s) fs := updRun_only _ s h

theorem casMatch?_dropMatch (slot : Nat) (s : State) : (dropMatch slot s).casMatch? slot = none := by
  simp [State.casMatch?, dropMatch, updRun]

section mout
variable {slot : Nat} {mini : Bool} {s : State} (hr : s.asa.run.state = .running)
include hr

theorem doCasMoutDrive_none (hm : s.undriven slot = none) : doCasMoutDrive slot mini s = casFlags mini mini s := by
  have hu : (({ s with pins := { s.pins with casMin := mini } } : State).casMatch? slot).filter (fun m => !m.driven) = none := hm
  unfold doCasMoutDrive
  dsimp only
  rw [hr]
  dsimp only
  rw [hu]
  rfl

theorem doCasMoutDrive_some {m : CasMatch} (hm : s.undriven slot = some m) :
    doCasMoutDrive slot mini s =
      if mini || s.asa.run.retired || !(m.hit || s.runnerPos == runnerLast s.asa.run.members) then
        markDriven slot (casFlags mini (mini || m.hit) s)
      else dropMatch slot (resultOut (s.ownFrame slot m) (markDriven slot (casFlags mini (mini || m.hit) s))) := by
  have hu : (({ s with pins := { s.pins with casMin := mini } } : State).casMatch? slot).filter (fun m => !m.driven) = some m := hm
  unfold doCasMoutDrive
  dsimp only
  rw [hr]
  dsimp only
  rw [hu]
  rfl

/-- The flag is driven once, over that of the members before. -/
theorem doCasMoutDrive_pins : (doCasMoutDrive slot mini s).pins =
    { s.pins with casMin := mini, casMout := mini || ((s.undriven slot).map CasMatch.hit).getD false } := by
  cases hm : s.undriven slot with
  | none => rw [doCasMoutDrive_none hr hm]; simp [casFlags]
  | some m => rw [doCasMoutDrive_some hr hm]; split <;> rfl

theorem doCasMoutDrive_only : s.changesOnly (doCasMoutDrive slot mini s) [.pins, .asa, .out] := by
  cases hm : s.undriven slot with
  | none => rw [doCasMoutDrive_none hr hm]; exact pins_only s _
  | some m =>
    have h : s.changesOnly (markDriven slot (casFlags mini (mini || m.hit) s)) [.pins, .asa, .out] :=
      (pins_only s _).trans (updRun_only _ _)
    rw [doCasMoutDrive_some hr hm]
    exact ite_only h (h.trans ((ringOut_only _ _).trans (dropMatch_only _ _)))

/-- The first member to match sends the RESULT. -/
theorem doCasMoutDrive_wins {m : CasMatch} (hn : s.asa.run.retired = false) (hm : s.undriven slot = some m) (hh : m.hit = true) :
    doCasMoutDrive slot false s =
      dropMatch slot (resultOut (s.ownFrame slot m) (markDriven slot (casFlags false true s))) := by
  rw [doCasMoutDrive_some hr hm, if_neg (by simp [hn, hh]), hh]
  rfl

end mout

theorem exec_casMoutDrive_wins {slot : Nat} {m : CasMatch} {s : State} (h : s.running) (hr : s.asa.run.state = .running)
    (hn : s.asa.run.retired = false) (hm : s.casMatch? slot = some m) (hd : m.driven = false) (hh : m.hit = true) :
    ∃ t, exec (.casMoutDrive slot false) s = .next t ∧ t.casMatch? slot = none ∧
      t.out = [.ring (resultBytes
        { issuer := m.issuer, slot := slot % 2048, position := s.runnerPos, hit := true, multi := m.multi,
          fin := s.runnerPos == runnerLast s.asa.run.members, entry := m.entry, prio := m.prio, action := m.action })] ∧
      s.fresh.changesOnly t [.pins, .asa, .out] := by
  have hu : s.undriven slot = some m := by simp [State.undriven, hm, hd]
  have hf : s.ownFrame slot m =
      { issuer := m.issuer, slot := slot % 2048, position := s.runnerPos, hit := true, multi := m.multi,
        fin := s.runnerPos == runnerLast s.asa.run.members, entry := m.entry, prio := m.prio, action := m.action } := if_pos hh
  have he := doCasMoutDrive_wins (s := s.fresh) hr hn hu hh
  have hall : s.fresh.changesOnly (doCasMoutDrive slot false s.fresh) [.pins, .asa, .out] := doCasMoutDrive_only (s := s.fresh) hr
  rw [he] at hall
  exact ⟨_, coreCmd_running_answers h he hall, casMatch?_dropMatch _ _, congrArg (fun f => [Out.ring (resultBytes f)]) hf, hall⟩

/-! ### RESULT frames (R162) -/

/-- The frame that a member after the winner sends on: its own match in MULTI, and END at the last member. -/
def State.marked (s : State) (f : ResultFrame) : ResultFrame :=
  { f with
    multi := f.multi || ((s.casMatch? f.slot).map CasMatch.hit).getD false,
    fin := s.runnerPos == runnerLast s.asa.run.members }

theorem passMark_after {f : ResultFrame} {s : State} (hh : f.hit = true) (he : f.fin = false) (hp : f.position < s.runnerPos) :
    passMark f s = (s.marked f, dropMatch f.slot s) := by simp [passMark, State.marked, hh, he, hp]

/-- A frame of no match passes a member as it is. -/
theorem passMark_noHit {f : ResultFrame} (hh : f.hit = false) (s : State) : passMark f s = (f, dropMatch f.slot s) := by
  cases f
  simp_all [passMark]

theorem lapHeard_not_bypass {s : State} (hr : s.asa.run.state = .running) : ¬ (lapHeard s).asa.run.state = .bypass := by
  rw [show (lapHeard s).asa.run.state = .running from hr]; decide

theorem doResultFrame_passes {f : ResultFrame} {s : State} (hr : s.asa.run.state = .running) (hi : f.issuer ≠ s.runnerPos)
    (hh : f.hit = true) (he : f.fin = false) (hp : f.position < s.runnerPos) :
    doResultFrame f false s = resultOut (s.marked f) (dropMatch f.slot (lapHeard s)) := by
  unfold doResultFrame passResult
  rw [if_neg (fun k => k.1 hr), if_neg hi, if_neg (lapHeard_not_bypass hr), if_neg Bool.false_ne_true,
    passMark_after (s := lapHeard s) hh he hp]
  rfl

theorem exec_resultFrame_passes {f : ResultFrame} {s : State} (h : s.running) (hr : s.asa.run.state = .running)
    (hi : f.issuer ≠ s.runnerPos) (hh : f.hit = true) (he : f.fin = false) (hp : f.position < s.runnerPos) :
    ∃ t, exec (.resultFrame f false) s = .next t ∧ t.casMatch? f.slot = none ∧ t.out = [.ring (resultBytes (s.marked f))] ∧
      s.fresh.changesOnly t [.asa, .out] := by
  have hall : s.fresh.changesOnly (resultOut (s.marked f) (dropMatch f.slot (lapHeard s.fresh))) [.asa, .out] :=
    (updRun_only _ _).trans ((dropMatch_only _ _).trans (ringOut_only _ _))
  exact ⟨_, coreCmd_running_answers h (doResultFrame_passes (s := s.fresh) hr hi hh he hp) hall,
    casMatch?_dropMatch _ (lapHeard s.fresh), rfl, hall⟩

/-! ### The end of a search at its issuer (R156, R162, R167) -/

/-- The request of a slot is no longer in flight. -/
def landed (slot : Nat) (s : State) : State :=
  updRun (fun r => { r with flight := r.flight.filter (fun x => x.slot != some (slot % 2048)) }) s

theorem takeFlight_found {slot : Nat} {q : CasReq} {s : State}
    (h : s.asa.run.flight.find? (fun q => q.slot == some (slot % 2048)) = some q) : takeFlight slot s = some (q, landed slot s) := by
  unfold takeFlight
  rw [h]
  rfl

/-- The fields that the end of a cascaded search may change. -/
def Fld.answer : List Fld := [.asa, .ecp, .eng, .cnt]

theorem casDeliver_answer_only (q : CasReq) (r : AsaRes) (s : State) : s.changesOnly (casDeliver q r s) Fld.answer := by
  have h : s.changesOnly (setHandle q.owner (r.handle q.key q.profile 0) s) Fld.answer := asa_only s _
  unfold casDeliver
  dsimp only
  split
  · exact h.trans (ecp_only _ _)
  · exact h.trans (eng_only _ _)

theorem countDegraded_only (s : State) {fs : List Fld} (h : Fld.cnt ∈ fs := by decide) : s.changesOnly (countDegraded s) fs :=
  ite_only (count_cnt_only _ s h) (.refl s fs)

theorem casTimeout_answer_only (q : CasReq) (s : State) : s.changesOnly (casTimeout q s) Fld.answer :=
  (countDegraded_only s).trans ((count_cnt_only _ _).trans (casDeliver_answer_only _ _ _))

/-- The result of a search that no member matched. -/
def State.noMatch (s : State) : AsaRes := { cascaded := true, degraded := s.runnerDegraded }

theorem casComplete_noMatch (q : CasReq) (s : State) :
    casComplete q { cascaded := true } s = casDeliver q s.noMatch (countDegraded s) := rfl

/-- An answer reaches the port that waits for it (R482). -/
theorem casDeliver_port {q : CasReq} {t : Nat} (r : AsaRes) {s : State} (hq : q.owner = .port t) (ht : (s.ecp.get t).sent = true) :
    (casDeliver q r s).ecp = s.ecp.upd t (fun p =>
      { p with outcome := some { result := 0, idx := p.lidx, cnt := 1, dat := BitVec.ofNat 1024 r.bytes } }) := by
  unfold casDeliver
  rw [hq]
  exact congrArg (s.ecp.set t) (if_pos ht)

theorem consumeResult_noMatch {f : ResultFrame} {q : CasReq} {s : State} (hh : f.hit = false)
    (hq : s.asa.run.flight.find? (fun q => q.slot == some (f.slot % 2048)) = some q) :
    consumeResult f s = casDeliver q (landed f.slot s).noMatch (countDegraded (landed f.slot s)) := by
  unfold consumeResult
  rw [takeFlight_found hq, hh]
  exact casComplete_noMatch _ _

/-- A search that no member matched ends at its issuer with that result for the port that asked (R156, R482). -/
theorem consumeResult_answers {f : ResultFrame} {q : CasReq} {t : Nat} {s : State} (hh : f.hit = false)
    (hq : s.asa.run.flight.find? (fun q => q.slot == some (f.slot % 2048)) = some q) (ho : q.owner = .port t)
    (hs : (s.ecp.get t).sent = true) :
    (consumeResult f s).asa.run.flight = s.asa.run.flight.filter (fun x => x.slot != some (f.slot % 2048)) ∧
      (consumeResult f s).ecp = s.ecp.upd t (fun p =>
        { p with outcome := some { result := 0, idx := p.lidx, cnt := 1, dat := BitVec.ofNat 1024 s.noMatch.bytes } }) ∧
      s.changesOnly (consumeResult f s) Fld.answer := by
  have hc : (landed f.slot s).changesOnly (countDegraded (landed f.slot s)) [.cnt] := countDegraded_only _
  have hecp : (countDegraded (landed f.slot s)).ecp = s.ecp := hc .ecp (by decide)
  have hasa : (countDegraded (landed f.slot s)).asa = (landed f.slot s).asa := hc .asa (by decide)
  have hn : (landed f.slot s).noMatch = s.noMatch := rfl
  rw [consumeResult_noMatch hh hq, hn]
  refine ⟨?_, ?_, (updRun_only _ s).trans ((hc.mono (by decide)).trans (casDeliver_answer_only _ _ _))⟩
  · rw [casDeliver_run, hasa]; rfl
  · rw [casDeliver_port _ ho (by rw [hecp]; exact hs), hecp]

theorem doResultFrame_noMatch {f : ResultFrame} {s : State} (hr : s.asa.run.state = .running) (hi : f.issuer = s.runnerPos)
    (hh : f.hit = false) (he : f.fin = true) :
    doResultFrame f false s = consumeResult f (dropMatch f.slot (lapHeard s)) := by
  unfold doResultFrame issuerResult
  rw [if_neg (fun k => k.1 hr), if_pos hi, if_neg Bool.false_ne_true, if_neg (by simp [hh]), if_neg (lapHeard_not_bypass hr),
    passMark_noHit hh]
  exact if_pos he

theorem exec_resultFrame_noMatch {f : ResultFrame} {q : CasReq} {t : Nat} {s : State} (h : s.running)
    (hr : s.asa.run.state = .running) (hi : f.issuer = s.runnerPos) (hh : f.hit = false) (he : f.fin = true)
    (hq : s.asa.run.flight.find? (fun q => q.slot == some (f.slot % 2048)) = some q) (ho : q.owner = .port t)
    (hs : (s.ecp.get t).sent = true) :
    ∃ u, exec (.resultFrame f false) s = .next u ∧
      u.asa.run.flight = s.asa.run.flight.filter (fun x => x.slot != some (f.slot % 2048)) ∧
      u.ecp = s.ecp.upd t (fun p =>
        { p with outcome := some { result := 0, idx := p.lidx, cnt := 1, dat := BitVec.ofNat 1024 s.noMatch.bytes } }) ∧
      s.fresh.changesOnly u [.asa, .ecp, .eng, .cnt, .out, .tbe] := by
  obtain ⟨hflight, hecp, hf⟩ := consumeResult_answers (s := dropMatch f.slot (lapHeard s.fresh)) hh hq ho hs
  have hall : s.fresh.changesOnly (consumeResult f (dropMatch f.slot (lapHeard s.fresh))) [.asa, .ecp, .eng, .cnt, .out, .tbe] :=
    (updRun_only _ _).trans ((dropMatch_only _ _).trans (hf.mono (by decide)))
  exact ⟨_, coreCmd_running_answers h (doResultFrame_noMatch (s := s.fresh) hr hi hh he) hall, hflight, hecp, hall⟩

theorem exec_cascadeTimeout {slot : Nat} {q : CasReq} {s : State} (h : s.running)
    (hq : s.asa.run.flight.find? (fun q => q.slot == some (slot % 2048)) = some q) :
    ∃ u, exec (.cascadeTimeout slot) s = .next u ∧ u.tbe.st = max s.tbe.st (q.at_ + 5462) ∧
      u.asa.run.flight = s.asa.run.flight.filter (fun x => x.slot != some (slot % 2048)) ∧
      s.fresh.changesOnly u [.asa, .ecp, .eng, .cnt, .out, .tbe] := by
  set w := runTo (q.at_ + 5462) (landed slot s.fresh)
  have hd : w.changesOnly (casTimeout q w) Fld.answer := casTimeout_answer_only q w
  have htbe : (casTimeout q w).tbe = w.tbe := hd .tbe (by decide)
  have e : doCascadeTimeout slot s.fresh = casTimeout q w := by
    unfold doCascadeTimeout
    rw [takeFlight_found (s := s.fresh) hq]
  have hall : s.fresh.changesOnly (casTimeout q w) [.asa, .ecp, .eng, .cnt, .out, .tbe] :=
    (updRun_only _ _).trans ((runTo_only _ _).trans (hd.mono (by decide)))
  refine ⟨_, coreCmd_running_answers h e hall, ?_, ?_, hall⟩
  · rw [htbe]; rfl
  · rw [casTimeout_run]; rfl

/-- Settles O34: each command of a cascaded search by the branch that takes it. -/
theorem cascadedSearches : Obligations.CascadedSearches := by
  refine ⟨?launch, ?taken, ?key, ?step, ?faulty, ?bypass, ?flag, ?wins, ?passes, ?noMatch, ?timeout⟩
  case launch => exact fun slot q rest lost s h hr hn h0 ht hw hq => exec_cascadeLaunch_launches hr hn h0 ht h hw hq
  case taken =>
    intro slot lost s h hr hn h0 ht hw
    exact coreCmd_running_answers h (doCascadeLaunch_taken (s := s.fresh) hr hn h0 ht hw) (asa_only (fs := [.asa]) s.fresh _)
  case key =>
    intro issuer slot key s h hr hi hn
    obtain ⟨t, e, hout, hm, hf⟩ := keyFrame_answers (slot := slot) (key := key) (resume := none) h hr hi hn
    exact ⟨t, e, hout, ⟨_, hm, rfl, rfl, rfl, rfl, rfl⟩, hf⟩
  case step =>
    intro issuer slot key pos entry prio s h hr hi hn
    obtain ⟨t, e, hout, hm, hf⟩ := keyFrame_answers (slot := slot) (key := key) (resume := some (pos, entry, prio)) h hr hi hn
    exact ⟨t, e, hout, ⟨_, hm, rfl, rfl, s.ownResult_step_hit _ _ _ _ _⟩, hf⟩
  case faulty => exact fun issuer slot key wide bad lost s h hr hf hn hc ht => exec_keyFrame_faulty h hr hf hn hc ht
  case bypass =>
    intro issuer slot key wide bad lost s h hr hn
    exact coreCmd_running_answers h (doKeyFrame_bypass (s := s.fresh) hr hn)
      ((asa_only (fs := [.asa, .out]) s.fresh _).trans (emit_only _ _))
  case flag =>
    intro slot mini s h hr
    have hp : (doCasMoutDrive slot mini s.fresh).pins = _ := doCasMoutDrive_pins (s := s.fresh) hr
    have hall := doCasMoutDrive_only (slot := slot) (mini := mini) (s := s.fresh) hr
    exact ⟨_, coreCmd_only h hall, congrArg Pins.casMin hp, congrArg Pins.casMout hp, hall⟩
  case wins => exact fun slot m s h hr hn hm hd hh => exec_casMoutDrive_wins h hr hn hm hd hh
  case passes => exact fun f s h hr hi hh he hp => exec_resultFrame_passes h hr hi hh he hp
  case noMatch => exact fun f q t s h hr hi hh he hq ho hs => exec_resultFrame_noMatch h hr hi hh he hq ho hs
  case timeout => exact fun slot q s h hq => exec_cascadeTimeout h hq

end Sys2Proof.Machine

namespace Sys2Proof.Machine

/-! ## Stations: source checks, the ageing scanner and flushes (R191 to R197, R430, R550) -/

/-! ### Slots of the L2 table -/

theorem l2Set_only (k : Nat) (e : Ent16) (s : State) {fs : List Fld} (h : Fld.fwd ∈ fs := by decide) : s.changesOnly (l2Set k e s) fs :=
  updFwd_only s _ h

section set
variable (k : Nat) (e : Ent16) (s : State)

@[simp] theorem l2Set_l2 : (l2Set k e s).fwd.l2 = s.fwd.l2.set k e := rfl
@[simp] theorem l2Set_checks : (l2Set k e s).fwd.checks = s.fwd.checks := rfl
@[simp] theorem l2Set_scan : (l2Set k e s).fwd.scan = s.fwd.scan := rfl
@[simp] theorem l2Set_scanAt : (l2Set k e s).fwd.scanAt = s.fwd.scanAt := rfl
@[simp] theorem l2Set_flushes : (l2Set k e s).fwd.flushes = s.fwd.flushes := rfl

end set

/-- A count touches no table of the forwarding blocks. -/
theorem countA_fwd (x : Attr) (a n : Nat) (s : State) : (countA x a n s).fwd = s.fwd :=
  countA_cnt_only x a n s .fwd (by decide)

theorem foldl_l2Clear_flushes (ks : List Nat) (s : State) : (ks.foldl (fun s k => l2Clear k s) s).fwd.flushes = s.fwd.flushes := by
  induction ks generalizing s with
  | nil => rfl
  | cons k ks ih => rw [List.foldl_cons, ih, l2Clear, l2Set_flushes]

theorem foldl_l2Clear_only (ks : List Nat) (s : State) : s.changesOnly (ks.foldl (fun s k => l2Clear k s) s) [.fwd] :=
  foldl_only (fun s k => l2Set_only k _ s) ks s

/-! ### Source checks (R194, R195, R430) -/

/-- The oldest check of pipeline i is taken from its queue. -/
def checkTaken (i : Nat) (rest : List SrcCheck) (s : State) : State :=
  updFwd (fun f => { f with checks := f.checks.set i rest }) s

theorem checkTaken_only (i : Nat) (rest : List SrcCheck) (s : State) {fs : List Fld} (h : Fld.fwd ∈ fs := by decide) :
    s.changesOnly (checkTaken i rest s) fs := updFwd_only s _ h

/-- The check is taken and its source stands in the recent-source filter (R193). -/
def checkRead (i : Nat) (c : SrcCheck) (rest : List SrcCheck) (s : State) : State :=
  updFwd (fun f => { f with recent := f.recent.upd i (fun l =>
    ((c.bd, c.mac, s.ageStamp) :: l.filter (fun r => !(r.1 == c.bd && r.2.1 == c.mac))).take 1024) }) (checkTaken i rest s)

theorem checkRead_only (i : Nat) (c : SrcCheck) (rest : List SrcCheck) (s : State) {fs : List Fld} (h : Fld.fwd ∈ fs := by decide) :
    s.changesOnly (checkRead i c rest s) fs := (checkTaken_only i rest s h).trans (updFwd_only _ _ h)

/-- The bucket that a check reads lies in a poisoned burst (R429). -/
def State.checkBad (s : State) (c : SrcCheck) : Bool := s.hbmBad (s.fwdAddr 2 (64 * s.l2Bucket c.bd c.mac)) 64

section check
variable {i : Nat} {c : SrcCheck} {rest : List SrcCheck} {s : State}

theorem doSourceCheck_poisoned (hq : s.fwd.checks.get i = c :: rest) : doSourceCheck i true s = checkTaken i rest s := by
  unfold doSourceCheck
  rw [hq]
  rfl

theorem doSourceCheck_bad (hq : s.fwd.checks.get i = c :: rest) (hb : s.checkBad c = true) :
    doSourceCheck i false s = checkTaken i rest s := by
  unfold doSourceCheck
  rw [hq]
  exact if_pos hb

theorem doSourceCheck_sound (hq : s.fwd.checks.get i = c :: rest) (hb : s.checkBad c = false) :
    doSourceCheck i false s = sourceCheckRun i c (checkRead i c rest s) := by
  unfold doSourceCheck
  rw [hq]
  exact if_neg (fun h => Bool.noConfusion (hb.symm.trans h))

/-- The count of stations that a pipeline has learned in this millisecond (R195). -/
def State.learned (s : State) (i : Nat) : Nat := if (s.fwd.learnWin.get i).1 = s.now / 1000000 then (s.fwd.learnWin.get i).2 else 0

/-- A pipeline has learned one station more in this millisecond (R195). -/
def learnCounted (i : Nat) (s : State) : State :=
  updFwd (fun f => { f with learnWin := f.learnWin.set i (s.now / 1000000, s.learned i + 1) }) s

theorem l2Admit_within (hr : s.learned i < s.regF Reg.FWD_L2_RATE 15 0) : l2Admit i s = some (learnCounted i s) := if_pos hr

/-- A new station takes the lowest free slot of its bucket. -/
theorem l2Place_free {bd mac k : Nat} (hf : (l2Slots (s.l2Bucket bd mac)).find? (fun k => !l2Valid (s.fwd.l2.get k)) = some k) :
    l2Place bd mac s = (some (k, false), s) := by
  unfold l2Place
  dsimp only
  rw [hf]

section known
variable {k : Nat} (hk : l2Find s c.bd c.mac = some k)
include hk

theorem sourceCheckRun_home (hn : l2Nh (s.fwd.l2.get k) = c.nexthop) :
    sourceCheckRun i c s = l2Set k (datPut (s.fwd.l2.get k) 12 2 s.ageStamp) s := by
  unfold sourceCheckRun
  rw [hk]
  exact if_pos hn

variable (hn : l2Nh (s.fwd.l2.get k) ≠ c.nexthop)
include hn

theorem sourceCheckRun_away_drain (hm : s.md.mode = .drain) : sourceCheckRun i c s = s := by
  unfold sourceCheckRun
  rw [hk]
  exact (if_neg hn).trans (if_pos hm)

variable (hm : s.md.mode ≠ .drain)
include hm

theorem sourceCheckRun_moves (hs : l2Static (s.fwd.l2.get k) = false) :
    sourceCheckRun i c s = countA (l2Attr k) Cnt.FWD_L2_MOVE 1
      (l2Set k (datPut (datPut (s.fwd.l2.get k) 8 4 c.nexthop) 12 2 s.ageStamp) s) := by
  unfold sourceCheckRun
  rw [hk]
  exact (if_neg hn).trans ((if_neg hm).trans (if_neg (by simp [hs])))

theorem sourceCheckRun_static (hs : l2Static (s.fwd.l2.get k) = true) :
    sourceCheckRun i c s = countA (l2Attr k) Cnt.FWD_L2_MOVE_REFUSED 1 s := by
  unfold sourceCheckRun
  rw [hk]
  exact (if_neg hn).trans ((if_neg hm).trans (if_pos hs))

end known

section unknown
variable (hk : l2Find s c.bd c.mac = none)
include hk

theorem sourceCheckRun_new_drain (hm : s.md.mode = .drain) : sourceCheckRun i c s = s := by
  unfold sourceCheckRun
  rw [hk]
  exact if_pos hm

theorem sourceCheckRun_learns {k : Nat} (hm : s.md.mode ≠ .drain)
    (hf : (l2Slots (s.l2Bucket c.bd c.mac)).find? (fun k => !l2Valid (s.fwd.l2.get k)) = some k)
    (hr : s.learned i < s.regF Reg.FWD_L2_RATE 15 0) :
    sourceCheckRun i c s = countA (l2Attr k) Cnt.FWD_L2_LEARN 1
      (l2Set k (l2Entry c.mac c.bd c.nexthop s.ageStamp 5 ((l2Gen (s.fwd.l2.get k) + 1) % 256)) (learnCounted i s)) := by
  unfold sourceCheckRun
  rw [hk, l2Place_free hf]
  dsimp only
  rw [if_neg hm, l2Admit_within hr]
  rfl

end unknown

/-- In Drain a check of a station that is not at its next hop leaves the table of stations alone, whatever its read returns (R86). -/
theorem doSourceCheck_drain (hm : s.md.mode = .drain) (hq : s.fwd.checks.get i = c :: rest)
    (hn : ∀ k, l2Find s c.bd c.mac = some k → l2Nh (s.fwd.l2.get k) ≠ c.nexthop) :
    doSourceCheck i false s = checkTaken i rest s ∨ doSourceCheck i false s = checkRead i c rest s := by
  cases hb : s.checkBad c with
  | true => exact .inl (doSourceCheck_bad hq hb)
  | false =>
    refine .inr ((doSourceCheck_sound hq hb).trans ?_)
    cases hk : l2Find s c.bd c.mac with
    | none => exact sourceCheckRun_new_drain (s := checkRead i c rest s) hk hm
    | some k => exact sourceCheckRun_away_drain (s := checkRead i c rest s) hk (hn k hk) hm

end check

/-! ### SOURCE_CHECK -/

section exec
variable {i : Nat} {c : SrcCheck} {rest : List SrcCheck} {s : State} (h : s.running) (hi : i < 4)
  (hq : s.fwd.checks.get i = c :: rest)
include h hi hq

theorem exec_sourceCheck_poisoned : exec (.sourceCheck i true) s = .next (checkTaken i rest s.fresh) :=
  coreCmd_running_answers h ((if_pos hi).trans (doSourceCheck_poisoned (s := s.fresh) hq)) (checkTaken_only (fs := [.fwd]) i rest _)

theorem exec_sourceCheck_drain (hm : s.md.mode = .drain)
    (hn : ∀ k, l2Find s c.bd c.mac = some k → l2Nh (s.fwd.l2.get k) ≠ c.nexthop) :
    ∃ t, exec (.sourceCheck i false) s = .next t ∧ t.fwd.l2 = s.fwd.l2 ∧ s.fresh.changesOnly t [.fwd] := by
  have ht : s.fresh.changesOnly (checkTaken i rest s.fresh) [.fwd] := checkTaken_only i rest s.fresh
  have hr : s.fresh.changesOnly (checkRead i c rest s.fresh) [.fwd] := checkRead_only i c rest s.fresh
  rcases doSourceCheck_drain (s := s.fresh) hm hq hn with e | e
  · exact ⟨_, coreCmd_running_answers h ((if_pos hi).trans e) ht, rfl, ht⟩
  · exact ⟨_, coreCmd_running_answers h ((if_pos hi).trans e) hr, rfl, hr⟩

variable (hb : s.checkBad c = false)
include hb

/-- SOURCE_CHECK of a sound read answers what its check makes of the station. -/
theorem exec_sourceCheck {t : State} {fs : List Fld} (e : sourceCheckRun i c (checkRead i c rest s.fresh) = t)
    (hf : s.fresh.changesOnly t fs) (hs : ∀ x ∈ Fld.settled, x ∉ fs := by decide) : exec (.sourceCheck i false) s = .next t :=
  coreCmd_running_answers h ((if_pos hi).trans ((doSourceCheck_sound (s := s.fresh) hq hb).trans e)) hf hs

theorem exec_sourceCheck_home {k : Nat} (hk : l2Find s c.bd c.mac = some k) (hn : l2Nh (s.fwd.l2.get k) = c.nexthop) :
    ∃ t, exec (.sourceCheck i false) s = .next t ∧ t.fwd.checks = s.fwd.checks.set i rest ∧
      t.fwd.l2 = s.fwd.l2.set k (datPut (s.fwd.l2.get k) 12 2 s.ageStamp) ∧ t.cnt = s.cnt ∧ t.isl = s.isl ∧
      s.fresh.changesOnly t [.fwd] := by
  have hall : s.fresh.changesOnly (l2Set k (datPut (s.fwd.l2.get k) 12 2 s.ageStamp) (checkRead i c rest s.fresh)) [.fwd] :=
    (checkRead_only i c rest _).trans (l2Set_only _ _ _)
  exact ⟨_, exec_sourceCheck h hi hq hb (sourceCheckRun_home (s := checkRead i c rest s.fresh) hk hn) hall,
    l2Set_checks _ _ _, l2Set_l2 _ _ _, hall .cnt (by decide), hall .isl (by decide), hall⟩

section away
variable {k : Nat} (hk : l2Find s c.bd c.mac = some k) (hn : l2Nh (s.fwd.l2.get k) ≠ c.nexthop) (hm : s.md.mode ≠ .drain)
include hk hn hm

theorem exec_sourceCheck_moves (hs : l2Static (s.fwd.l2.get k) = false) :
    ∃ t, exec (.sourceCheck i false) s = .next t ∧ t.fwd.checks = s.fwd.checks.set i rest ∧
      t.fwd.l2 = s.fwd.l2.set k (datPut (datPut (s.fwd.l2.get k) 8 4 c.nexthop) 12 2 s.ageStamp) ∧
      s.fresh.changesOnly t (Fld.events ++ [.fwd]) := by
  have e := sourceCheckRun_moves (s := checkRead i c rest s.fresh) (i := i) hk hn hm hs
  have hall : s.fresh.changesOnly (sourceCheckRun i c (checkRead i c rest s.fresh)) (Fld.events ++ [.fwd]) := by
    rw [e]; exact (checkRead_only i c rest _).trans ((l2Set_only _ _ _).trans (countA_only _ _ _ _))
  refine ⟨_, exec_sourceCheck h hi hq hb rfl hall, ?_, ?_, hall⟩
  · rw [e, countA_fwd, l2Set_checks]; rfl
  · rw [e, countA_fwd, l2Set_l2]; rfl

theorem exec_sourceCheck_static (hs : l2Static (s.fwd.l2.get k) = true) :
    ∃ t, exec (.sourceCheck i false) s = .next t ∧ t.fwd.checks = s.fwd.checks.set i rest ∧ t.fwd.l2 = s.fwd.l2 ∧
      s.fresh.changesOnly t [.fwd, .cnt] := by
  have e := sourceCheckRun_static (s := checkRead i c rest s.fresh) (i := i) hk hn hm hs
  have hall : s.fresh.changesOnly (sourceCheckRun i c (checkRead i c rest s.fresh)) [.fwd, .cnt] := by
    rw [e]; exact (checkRead_only i c rest _).trans ((countA_cnt_only _ _ _ _).mono (by decide))
  refine ⟨_, exec_sourceCheck h hi hq hb rfl hall, ?_, ?_, hall⟩
  · rw [e, countA_fwd]; rfl
  · rw [e, countA_fwd]; rfl

end away

theorem exec_sourceCheck_learns {k : Nat} (hk : l2Find s c.bd c.mac = none) (hm : s.md.mode ≠ .drain)
    (hf : (l2Slots (s.l2Bucket c.bd c.mac)).find? (fun k => !l2Valid (s.fwd.l2.get k)) = some k)
    (hr : s.learned i < s.regF Reg.FWD_L2_RATE 15 0) :
    ∃ t, exec (.sourceCheck i false) s = .next t ∧ t.fwd.checks = s.fwd.checks.set i rest ∧
      t.fwd.l2 = s.fwd.l2.set k (l2Entry c.mac c.bd c.nexthop s.ageStamp 5 ((l2Gen (s.fwd.l2.get k) + 1) % 256)) ∧
      s.fresh.changesOnly t [.fwd, .cnt] := by
  have e := sourceCheckRun_learns (s := checkRead i c rest s.fresh) (i := i) hk hm hf hr
  have hall : s.fresh.changesOnly (sourceCheckRun i c (checkRead i c rest s.fresh)) [.fwd, .cnt] := by
    rw [e]
    exact (checkRead_only i c rest _).trans ((updFwd_only _ _).trans ((l2Set_only _ _ _).trans
      ((countA_cnt_only _ _ _ _).mono (by decide))))
  refine ⟨_, exec_sourceCheck h hi hq hb rfl hall, ?_, ?_, hall⟩
  · rw [e, countA_fwd, l2Set_checks]; rfl
  · rw [e, countA_fwd, l2Set_l2]; rfl

end exec

/-! ### The ageing scanner (R196, R550) -/

/-- The ST at which the scanner's next visit is due (R196). -/
def State.scanDue (s : State) : Nat := paceDue (s.regF Reg.FWD_L2_AGE 31 16 * 1000000000) 2097152 s.fwd.scan s.fwd.scanAt

/-- The scanner stands at the slot after the one it visits at an instant. -/
def scanned (due : Nat) (s : State) : State :=
  updFwd (fun f => { f with scan := (s.fwd.scan + 1) % 2097152, scanAt := due }) (runTo due s)

theorem scanned_only (due : Nat) (s : State) {fs : List Fld} (h : Fld.fwd ∈ fs := by decide) :
    (runTo due s).changesOnly (scanned due s) fs := updFwd_only _ _ h

/-- How far the stamp of the slot in the scan lies behind the current one, in serial-number arithmetic (R550). -/
def State.scanLag (s : State) (due : Nat) : Nat :=
  ((runTo due s).ageStamp + 65536 - l2Age (s.fwd.l2.get s.fwd.scan)) % 65536

section scan
variable {raced : Bool} {s : State} (hm : s.moves = true)
include hm

theorem scans_of_moves : ¬ (s.md.mode = .load ∨ s.md.mode = .lockdown) := by
  simpa [State.moves, not_or] using hm

/-- A slot without a station, or with a static one, or with one that is not older than L2_AGE, is passed. -/
theorem doL2AgeVisit_passes (ho : s.scanLag s.scanDue ≤ s.regF Reg.FWD_L2_AGE 15 0) (ha : s.scanLag s.scanDue < 32768) :
    doL2AgeVisit raced s = scanned s.scanDue s := by
  unfold doL2AgeVisit
  rw [if_neg (scans_of_moves hm)]
  by_cases hv : l2Valid (s.fwd.l2.get s.fwd.scan) = false ∨ l2Static (s.fwd.l2.get s.fwd.scan) = true
  · exact if_pos hv
  · exact (if_neg hv).trans ((if_neg (Nat.not_le.mpr ha)).trans (if_neg (Nat.not_lt.mpr ho)))

variable (hv : l2Valid (s.fwd.l2.get s.fwd.scan) = true) (hs : l2Static (s.fwd.l2.get s.fwd.scan) = false)
include hv hs

theorem doL2AgeVisit_frees (ho : s.regF Reg.FWD_L2_AGE 15 0 < s.scanLag s.scanDue) (ha : s.scanLag s.scanDue < 32768) :
    doL2AgeVisit false s = countA { master := some 4, tbl := some 0x12, idx := some s.fwd.scan } Cnt.FWD_L2_AGED 1
      (l2Clear s.fwd.scan (scanned s.scanDue s)) := by
  unfold doL2AgeVisit
  rw [if_neg (scans_of_moves hm)]
  exact (if_neg (by simp [hv, hs])).trans ((if_neg (Nat.not_le.mpr ha)).trans ((if_pos ho).trans (if_neg Bool.false_ne_true)))

theorem doL2AgeVisit_ahead_raced (ha : 32768 ≤ s.scanLag s.scanDue) : doL2AgeVisit true s = scanned s.scanDue s := by
  unfold doL2AgeVisit
  rw [if_neg (scans_of_moves hm)]
  exact (if_neg (by simp [hv, hs])).trans (if_pos ha)

theorem doL2AgeVisit_ahead (ha : 32768 ≤ s.scanLag s.scanDue) :
    doL2AgeVisit false s =
      l2Set s.fwd.scan (datPut (s.fwd.l2.get s.fwd.scan) 12 2 (runTo s.scanDue s).ageStamp) (scanned s.scanDue s) := by
  unfold doL2AgeVisit
  rw [if_neg (scans_of_moves hm)]
  exact (if_neg (by simp [hv, hs])).trans (if_pos ha)

end scan

/-! ### L2_AGE_VISIT -/

section visit
variable {raced : Bool} {s : State} (h : s.running)
include h

/-- L2_AGE_VISIT answers what its visit makes of the slot, in the frame of the state that has run up to its instant. -/
theorem exec_l2AgeVisit {t : State} {fs : List Fld} (due : Nat) (e : doL2AgeVisit raced s.fresh = t)
    (hf : (runTo due s.fresh).changesOnly t fs) (hs : ∀ x ∈ Fld.settled, x ∉ Fld.tbe :: fs := by decide) :
    exec (.l2AgeVisit raced) s = .next t :=
  coreCmd_running_answers h e ((runTo_only due s.fresh (by simp)).trans (hf.mono (List.subset_cons_self _ _))) hs

variable (hm : s.moves = true)
include hm

theorem exec_l2AgeVisit_passes (ho : s.scanLag s.scanDue ≤ s.regF Reg.FWD_L2_AGE 15 0) (ha : s.scanLag s.scanDue < 32768) :
    exec (.l2AgeVisit raced) s = .next (scanned s.scanDue s.fresh) :=
  exec_l2AgeVisit h s.scanDue (doL2AgeVisit_passes (s := s.fresh) hm ho ha) (scanned_only (fs := [.fwd]) _ _)

variable (hv : l2Valid (s.fwd.l2.get s.fwd.scan) = true) (hs : l2Static (s.fwd.l2.get s.fwd.scan) = false)
include hv hs

theorem exec_l2AgeVisit_frees (ho : s.regF Reg.FWD_L2_AGE 15 0 < s.scanLag s.scanDue) (ha : s.scanLag s.scanDue < 32768) :
    ∃ t, exec (.l2AgeVisit false) s = .next t ∧ t.fwd.scan = (s.fwd.scan + 1) % 2097152 ∧ t.fwd.scanAt = s.scanDue ∧
      t.fwd.l2 = s.fwd.l2.set s.fwd.scan (l2Entry 0 0 0 0 0 (l2Gen (s.fwd.l2.get s.fwd.scan))) ∧
      (runTo s.scanDue s.fresh).changesOnly t [.fwd, .cnt] := by
  have e := doL2AgeVisit_frees (s := s.fresh) hm hv hs ho ha
  have hall : (runTo s.scanDue s.fresh).changesOnly (doL2AgeVisit false s.fresh) [.fwd, .cnt] := by
    rw [e]; exact (scanned_only _ _).trans ((l2Set_only _ _ _).trans ((countA_cnt_only _ _ _ _).mono (by decide)))
  refine ⟨_, exec_l2AgeVisit h s.scanDue rfl hall, ?_, ?_, ?_, hall⟩
  · rw [e, countA_fwd, l2Clear, l2Set_scan]; rfl
  · rw [e, countA_fwd, l2Clear, l2Set_scanAt]; rfl
  · rw [e, countA_fwd, l2Clear, l2Set_l2]; rfl

theorem exec_l2AgeVisit_ahead (ha : 32768 ≤ s.scanLag s.scanDue) :
    ∃ t, exec (.l2AgeVisit raced) s = .next t ∧ t.fwd.scan = (s.fwd.scan + 1) % 2097152 ∧ t.fwd.scanAt = s.scanDue ∧
      t.fwd.l2 = (if raced then s.fwd.l2 else
        s.fwd.l2.set s.fwd.scan (datPut (s.fwd.l2.get s.fwd.scan) 12 2 (runTo s.scanDue s.fresh).ageStamp)) ∧
      (runTo s.scanDue s.fresh).changesOnly t [.fwd] := by
  have hr : (runTo s.scanDue s.fresh).changesOnly (scanned s.scanDue s.fresh) [.fwd] := scanned_only _ _
  cases raced with
  | true => exact ⟨_, exec_l2AgeVisit h s.scanDue (doL2AgeVisit_ahead_raced (s := s.fresh) hm hv hs ha) hr, rfl, rfl, rfl, hr⟩
  | false =>
    have e := doL2AgeVisit_ahead (s := s.fresh) hm hv hs ha
    have hall : (runTo s.scanDue s.fresh).changesOnly (doL2AgeVisit false s.fresh) [.fwd] := by
      rw [e]; exact hr.trans (l2Set_only _ _ _)
    refine ⟨_, exec_l2AgeVisit h s.scanDue rfl hall, ?_, ?_, ?_, hall⟩
    · rw [e, l2Set_scan]; rfl
    · rw [e, l2Set_scanAt]; rfl
    · rw [e, l2Set_l2, if_neg Bool.false_ne_true]; rfl

end visit

/-! ### Flushes (R197) -/

/-- The slots that the flush of a port frees. -/
def State.flushSlots (s : State) (port : Nat) : List Nat :=
  (s.fwd.l2.cells.filter (fun c => l2Valid c.2 && l2Learned c.2 && !l2Static c.2 && l2Nh c.2 == 32 * s.devId + port)).map Prod.fst

/-- The oldest flush has left its queue and freed its stations. -/
def flushDone (fl : L2Flush) (rest : List L2Flush) (s : State) : State :=
  (s.flushSlots fl.port).foldl (fun s k => l2Clear k s) (updFwd (fun f => { f with flushes := rest }) s)

theorem flushDone_only (fl : L2Flush) (rest : List L2Flush) (s : State) : s.changesOnly (flushDone fl rest s) [.fwd] :=
  (updFwd_only s _).trans (foldl_l2Clear_only _ _)

theorem doL2Flushed_frees {fl : L2Flush} {rest : List L2Flush} {s : State} (hq : s.fwd.flushes = fl :: rest) :
    doL2Flushed s = raise 7 2 fl.port (fl.port + 256 * min (s.flushSlots fl.port).length 0xFFFFFF) (flushDone fl rest s) := by
  unfold doL2Flushed
  rw [hq]
  rfl

theorem exec_l2Flushed {fl : L2Flush} {rest : List L2Flush} {s : State} (h : s.running) (hq : s.fwd.flushes = fl :: rest) :
    ∃ t, exec .l2Flushed s = .next t ∧ t.fwd.flushes = rest ∧
      t.isl.log.get (s.isl.total.toNat % 1024) =
        recordOf s 7 2 fl.port (fl.port + 256 * min (s.flushSlots fl.port).length 0xFFFFFF) ∧
      s.fresh.changesOnly t (Fld.events ++ [.fwd]) := by
  set n := fl.port + 256 * min (s.flushSlots fl.port).length 0xFFFFFF
  have hd := flushDone_only fl rest s.fresh
  have hall : s.fresh.changesOnly (raise 7 2 fl.port n (flushDone fl rest s.fresh)) (Fld.events ++ [.fwd]) :=
    (hd.mono (by decide)).trans (raise_only _ _ _ _ _)
  refine ⟨_, coreCmd_running_answers h (doL2Flushed_frees (s := s.fresh) hq) hall, ?_, ?_, hall⟩
  · have hr : (raise 7 2 fl.port n (flushDone fl rest s.fresh)).fwd = (flushDone fl rest s.fresh).fwd :=
      raise_only _ 7 2 fl.port n (List.Subset.refl Fld.events) .fwd (by decide)
    exact (congrArg FwdSt.flushes hr).trans (foldl_l2Clear_flushes _ _)
  · have hi : (flushDone fl rest s.fresh).isl = s.isl := hd .isl (by decide)
    rw [← hi]
    exact (raise_raised 7 2 fl.port n _).2.trans (recordOf_congr (s := s) (hd .tbe (by decide)) 7 2 fl.port n)

/-! ### The obligation -/

/-- Settles O40: each check by what stands in the station's bucket, each visit by the age of the slot, and the flush by its slots. -/
theorem stationTable : Obligations.StationTable := by
  refine ⟨?poisoned, ?home, ?moves, ?static, ?learns, ?drain, ?aged, ?passed, ?ahead, ?flushed⟩
  case poisoned => exact fun i c rest s h hi hq => exec_sourceCheck_poisoned h hi hq
  case home => exact fun i k c rest s h hi hq hb hk hn => exec_sourceCheck_home h hi hq hb hk hn
  case moves => exact fun i k c rest s h hm hi hq hb hk hn hs => exec_sourceCheck_moves h hi hq hb hk hn hm hs
  case static => exact fun i k c rest s h hm hi hq hb hk hn hs => exec_sourceCheck_static h hi hq hb hk hn hm hs
  case learns => exact fun i k c rest s h hm hi hq hb hk hf hr => exec_sourceCheck_learns h hi hq hb hk hm hf hr
  case drain => exact fun i c rest s h hm hi hq hn => exec_sourceCheck_drain h hi hq hm hn
  case aged =>
    rintro due u s h hm rfl rfl hv hs ho ha
    exact exec_l2AgeVisit_frees h hm hv hs ho ha
  case passed =>
    rintro due raced u s h hm rfl rfl ho ha
    exact exec_l2AgeVisit_passes h hm ho ha
  case ahead =>
    rintro due raced u s h hm rfl rfl hv hs ha
    exact exec_l2AgeVisit_ahead h hm hv hs ha
  case flushed =>
    intro fl rest s h hq
    have hl (s : State) (p : Nat) : (s.flushSlots p).length = _ := List.length_map _
    simpa only [hl] using exec_l2Flushed h hq

end Sys2Proof.Machine

namespace Sys2Proof.Machine

/-! ## Operations of a host's entry command port (R477 to R488) -/

/-! ### The START of a host port (R480, R482, R485, R488) -/

/-- A host port in Service that can take a START, with no operation of another port waiting. -/
structure HostIdle (n : Nat) (s : State) : Prop where
  port : n < 8
  live : s.live = true
  perst : s.pins.perstN = true
  mode : s.md.mode = .service
  idle : (s.ecp.get n).busy = false
  alone : ∀ k < 9, k ≠ n → (s.ecp.get k).waitNo = 0

theorem HostIdle.fresh {n : Nat} {s : State} (h : HostIdle n s) : HostIdle n s.fresh :=
  ⟨h.port, h.live, h.perst, h.mode, h.idle, h.alone⟩

/-- The registers of a port as it latches a START from BAR0 (R482). -/
def hostStarted (op : EcpOp) (x : TableSide) (p : EcpPort) : EcpPort :=
  { p with op := op.code, busy := true, done := false, aborted := false, lop := some op, ltbl := p.tbl, lidx := p.idx, ldat := p.dat,
           lwin := .bar0, side := x, outcome := Option.none, abort := false, walkPos := 0, walkCnt := 0, sent := false, waitNo := 0 }

/-- The device with the START latched, and the free value drawn that says how far a bulk walk comes at once. -/
def begun (op : EcpOp) (n : Nat) (x : TableSide) (s : State) : State :=
  { updEcp n (hostStarted op x) s with free := s.free + 1 }

theorem begun_only (op : EcpOp) (n : Nat) (x : TableSide) (s : State) : s.changesOnly (begun op n x s) [.ecp, .free] :=
  (updEcp_only n _ s).trans (free_only _ _)

theorem begun_get (op : EcpOp) (n : Nat) (x : TableSide) (s : State) : (begun op n x s).ecp.get n = hostStarted op x (s.ecp.get n) :=
  updEcp_get n _ s

theorem begun_get_ne {n k : Nat} (op : EcpOp) (x : TableSide) (s : State) (h : k ≠ n) : (begun op n x s).ecp.get k = s.ecp.get k :=
  updEcp_get_ne _ s h

theorem ecpOpOf_code (op : EcpOp) : ecpOpOf (op.code % 16) = some op ∧ op.code % 16 = op.code := by
  cases op <;> decide

theorem ecpStart_begins {op : EcpOp} {n : Nat} {x : TableSide} {s : State} (h : HostIdle n s) :
    ecpStart op n .bar0 x s = ecpAdvance n (Config.pick s.free) (begun op n x s) := by
  have hw : (s.hostMayWrite 0 || s.md.mode == .headless) = true := by rw [State.hostMayWrite, h.mode]; rfl
  obtain ⟨ho, hc⟩ := ecpOpOf_code op
  unfold ecpStart
  rw [if_pos h.port, if_neg (by simp [hostUp_of_live h.live h.perst]), if_pos hw]
  unfold doEcpStart ecpLatch
  rw [h.idle, if_neg Bool.false_ne_true, ho, hc]
  rfl

/-- A port waits for none where no other port's commit waits (R485). -/
theorem waitingBefore_alone {n : Nat} {s : State} (h : ∀ k < 9, k ≠ n → (s.ecp.get k).waitNo = 0) : s.waitingBefore n = [] := by
  unfold State.waitingBefore
  dsimp only
  rw [List.filter_eq_nil_iff.mpr ?_]
  · rfl
  intro k hk
  by_cases hn : k = n
  · simp [hn]
  · simp [h k (List.mem_range.mp hk) hn]

/-- In Service a host port has the right to every operation of BAR0 on an assigned table (R488). -/
theorem ecpJudge_host {n : Nat} {p : EcpPort} {op : EcpOp} {t : Tbl} {s : State} (hn : n < 8) (hm : s.md.mode = .service)
    (hw : p.lwin = .bar0) (ho : p.lop = some op) (ht : tblOf p.ltbl = some t) (hx : p.ltbl ≠ 0x59)
    (hf : op = .flushByMask → t.flushes = true) : ecpJudge n p s = (none, s) := by
  have hr : s.ecpRights n p.lop p.ltbl = true := by
    unfold State.ecpRights
    rw [if_neg (by omega), hm]
  have hb : (p.lop == some .flushByMask && !t.flushes) = false := by
    rw [ho]
    cases op with
    | flushByMask => simp [hf rfl]
    | _ => rfl
  unfold ecpJudge
  rw [if_neg (by simp [hw]), hr, if_neg (by decide), if_neg (by simp [ho]), if_neg (fun k => hx k.1), ht]
  dsimp only
  rw [hb]
  rfl

/-! ### An operation on one entry that commits at once (R482, R485) -/

/-- The operation of a host port's START as it reaches its table. -/
def State.startOp (s : State) (op : EcpOp) (n : Nat) (x : TableSide) : TOp :=
  { port := n, op := op, tbl := (s.ecp.get n).tbl, idx := (s.ecp.get n).idx, dat := (s.ecp.get n).dat, win := .bar0, side := x }

/-- The state in which that operation finds its table. -/
def entered (op : EcpOp) (n : Nat) (x : TableSide) (s : State) : State :=
  updEcp n (fun p => { p with sent := true }) (begun op n x s)

theorem entered_only (op : EcpOp) (n : Nat) (x : TableSide) (s : State) : s.changesOnly (entered op n x s) [.ecp, .free] :=
  (begun_only op n x s).trans (updEcp_only n _ _)

theorem ecpStart_single {op : EcpOp} {n : Nat} {x : TableSide} {tt : Tbl} {r : EcpRes} {s t : State} (h : HostIdle n s)
    (ho : op ≠ .flushByMask) (ht : tblOf (s.ecp.get n).tbl = some tt) (hx : (s.ecp.get n).tbl ≠ 0x59)
    (ha : tableOp (s.startOp op n x) (entered op n x s) = (.done r, t)) :
    ecpStart op n .bar0 x s = updEcp n (fun p => { p with sent := false, outcome := some r, waitNo := 0 }) t := by
  have hp := begun_get op n x s
  have hw : (begun op n x s).waitingBefore n = [] := waitingBefore_alone fun k hk hn => by
    rw [begun_get_ne op x s hn]; exact h.alone k hk hn
  have hj : ecpJudge n ((begun op n x s).ecp.get n) (begun op n x s) = (none, begun op n x s) :=
    ecpJudge_host (op := op) h.port h.mode (by rw [hp]; rfl) (by rw [hp]; rfl) (by rw [hp]; exact ht) (by rw [hp]; exact hx)
      (fun k => absurd k ho)
  have hq : ((begun op n x s).ecp.get n).latched n = s.startOp op n x := by rw [hp]; rfl
  rw [ecpStart_begins h, ecpAdvance_alone hw, ecpGo_commits hj (by rw [hp]; exact fun k => ho (Option.some.inj k)) (by rw [hp]; rfl)]
  exact ecpSingle_done (by rw [hq]; exact ha)

/-- A state in which an operation may find its table: it differs in the ports and in the number of free values drawn alone. -/
abbrev State.reaches (s w : State) : Prop := s.fresh.changesOnly w [.ecp, .free]

section reached
variable {s w : State} (hw : s.reaches w)
include hw

theorem reached_fwd : w.fwd = s.fwd := hw .fwd (by decide)

theorem reached_regF (a hi lo : Nat) : w.regF a hi lo = s.regF a hi lo := by
  have hr : w.regs = s.regs := hw .regs (by decide)
  rw [State.regF, State.regF, State.reg, State.reg, hr]

theorem reached_tblGet (t i : Nat) : w.tblGet t i = s.tblGet t i := by
  have ht : w.tbl = s.tbl := hw .tbl (by decide)
  rw [State.tblGet, State.tblGet, ht]

theorem reached_l2Bucket (bd mac : Nat) : w.l2Bucket bd mac = s.l2Bucket bd mac := by
  have hc : w.sec = s.sec := hw .sec (by decide)
  rw [State.l2Bucket, State.l2Bucket, hc]

theorem reached_hostStation (d : Dat) : w.hostStation d = s.hostStation d := by
  have ht : w.tbe = s.tbe := hw .tbe (by decide)
  simp only [State.hostStation, State.ageStamp, State.now, State.agePeriod, ht, reached_regF hw]

end reached

section answers
variable {op : EcpOp} {n : Nat} {x : TableSide} {tt : Tbl} {r : EcpRes} {s : State} (h : HostIdle n s) (ho : op ≠ .flushByMask)
  (ht : tblOf (s.ecp.get n).tbl = some tt) (hx : (s.ecp.get n).tbl ≠ 0x59)
include h ho ht hx

/-- An operation of a host port that its table answers holds that outcome, with BUSY set. -/
theorem hostOp_answers {f : State → State} {fs : List Fld}
    (ha : ∀ w, s.reaches w → tableOp (s.startOp op n x) w = (.done r, f w)) (hf : ∀ w, State.changesOnly w (f w) fs)
    (hs : Fld.ecp ∉ fs ∧ Fld.md ∉ fs ∧ Fld.pending ∉ fs := by decide) :
    ∃ w u, s.reaches w ∧ coreCmd (ecpStart op n .bar0 x) s = .next u ∧ (u.ecp.get n).busy = true ∧
      (u.ecp.get n).outcome = some r ∧ (f w).changesOnly u [.ecp] := by
  obtain ⟨he, hm, hp⟩ := hs
  have hw := entered_only op n x s.fresh
  have hg : ((entered op n x s.fresh).ecp.get n).busy = true := by rw [entered, updEcp_get, begun_get]; rfl
  have e := ecpStart_single (x := x) h.fresh ho ht hx (ha _ hw)
  generalize entered op n x s.fresh = w at *
  have hend := updEcp_only (fs := [.ecp]) n (fun p => { p with sent := false, outcome := some r, waitNo := 0 }) (f w)
  have hall := (hw.mono (List.subset_append_left _ fs)).trans (((hf w).mono (List.subset_append_right _ _)).trans
    (hend.mono (by simp)))
  have hecp : (f w).ecp = w.ecp := hf w .ecp he
  refine ⟨w, _, hw, coreCmd_service h.live h.mode e hall (by simp [hm]) (by simp [hp]), ?_, ?_, hend⟩
  · rw [updEcp_get, hecp]; exact hg
  · rw [updEcp_get]

/-- An operation that changes no entry changes nothing but its port. -/
theorem hostOp_reads (ha : ∀ w, s.reaches w → tableOp (s.startOp op n x) w = (.done r, w)) :
    ∃ u, coreCmd (ecpStart op n .bar0 x) s = .next u ∧ (u.ecp.get n).busy = true ∧ (u.ecp.get n).outcome = some r ∧
      s.fresh.changesOnly u [.ecp, .free] := by
  obtain ⟨w, u, hw, e, hb, hr, hu⟩ := hostOp_answers h ho ht hx (f := id) (fs := []) ha (fun w => .refl w _)
  exact ⟨u, e, hb, hr, hw.trans (hu.mono (by decide))⟩

end answers

/-! ### Direct tables (R183 to R185) -/

theorem tblOf_direct {k : Nat} (h1 : 1 ≤ k) (h8 : k ≤ 8) : tblOf k = some (.direct k) := by
  unfold tblOf; rw [if_pos ⟨h1, h8⟩]

/-- A write of an entry reaches the bits of its fields alone: what the reserved ones held does not matter. -/
theorem mergeBits_and (m : Nat) (old new : Dat) : mergeBits m old new &&& BitVec.ofNat 1024 m = new &&& BitVec.ofNat 1024 m := by
  unfold mergeBits
  ext i hi
  simp only [BitVec.getElem_and, BitVec.getElem_or, BitVec.getElem_not]
  cases (BitVec.ofNat 1024 m)[i] <;> simp

section direct
variable {q : TOp} {s : State} (h1 : 1 ≤ q.tbl) (h8 : q.tbl ≤ 8)
include h1 h8

theorem tableOp_direct : tableOp q s = arrayOp q (.direct q.tbl) s := by
  unfold tableOp; rw [tblOf_direct h1 h8]

variable (hi : q.idx < s.regF (Reg.FWD_DIRECT_CFG (q.tbl - 1)) 20 0)
include hi

theorem tableOp_direct_read (ho : q.op = .read) :
    tableOp q s = (.done { result := 0, idx := q.idx, cnt := 1, dat := s.tblGet q.tbl q.idx }, s) := by
  have hh : s.tblHas (.direct q.tbl) q.idx = true := decide_eq_true hi
  rw [tableOp_direct h1 h8]
  unfold arrayOp
  rw [ho, hh]
  rfl

theorem tableOp_direct_readClear (ho : q.op = .readClear) :
    tableOp q s = (.done { result := 0, idx := q.idx, cnt := 1, dat := s.tblGet q.tbl q.idx }, tblSet q.tbl q.idx 0 s) := by
  have hh : s.tblHas (.direct q.tbl) q.idx = true := decide_eq_true hi
  have hz : (0 : Dat) &&& BitVec.ofNat 1024 (Tbl.bits (.direct q.tbl)) = 0 := BitVec.zero_and
  have hp : tblPut q.port (.direct q.tbl) q.idx 0 s = tblSet q.tbl q.idx (0 &&& BitVec.ofNat 1024 (Tbl.bits (.direct q.tbl))) s := rfl
  rw [hz] at hp
  rw [tableOp_direct h1 h8, ← hp]
  unfold arrayOp
  rw [ho, hh]
  rfl

theorem tableOp_direct_puts (ho : q.op = .write ∨ q.op = .modify) :
    tableOp q s = (.done { result := 0, idx := q.idx, cnt := 1, dat := q.dat },
      tblSet q.tbl q.idx ((Tbl.direct q.tbl).newEntry q.op q.dat (s.tblGet q.tbl q.idx) &&&
        BitVec.ofNat 1024 (Tbl.bits (.direct q.tbl))) s) := by
  have hh : s.tblHas (.direct q.tbl) q.idx = true := decide_eq_true hi
  rw [tableOp_direct h1 h8]
  unfold arrayOp
  rw [hh]
  rcases ho with ho | ho <;> rw [ho] <;> rfl

end direct

theorem newEntry_direct_write (k : Nat) (d old : Dat) :
    (Tbl.direct k).newEntry .write d old = mergeBits (Tbl.bits (.direct k)) old d := rfl

theorem newEntry_direct_modify (k : Nat) (d old : Dat) :
    (Tbl.direct k).newEntry .modify d old = mergeBits (Tbl.bits (.direct k) &&& modMask d) old (modVal d) := rfl

section exec
variable {n : Nat} {x : TableSide} {s : State} (h : HostIdle n s) (h1 : 1 ≤ (s.ecp.get n).tbl) (h8 : (s.ecp.get n).tbl ≤ 8)
include h h1 h8

/-- An operation that writes one entry of a direct table. -/
theorem direct_writes {op : EcpOp} {r : EcpRes} {k i : Nat} {d : Dat} (ho : op ≠ .flushByMask)
    (ha : ∀ w, s.reaches w → tableOp (s.startOp op n x) w = (.done r, tblSet k i d w)) :
    ∃ u, coreCmd (ecpStart op n .bar0 x) s = .next u ∧ (u.ecp.get n).busy = true ∧ u.tbl = s.tbl.set (tblKey k i) d ∧
      (u.ecp.get n).outcome = some r := by
  obtain ⟨w, u, hw, e, hb, hr, hu⟩ := hostOp_answers (fs := [.tbl]) h ho (tblOf_direct h1 h8) (by omega) ha
    (fun w => tblSet_only w _ _ _)
  have hwt : w.tbl = s.tbl := hw .tbl (by decide)
  have hut : u.tbl = (tblSet k i d w).tbl := hu .tbl (by decide)
  exact ⟨u, e, hb, by rw [hut, tblSet_tbl, hwt], hr⟩

variable (hi : (s.ecp.get n).idx < s.regF (Reg.FWD_DIRECT_CFG ((s.ecp.get n).tbl - 1)) 20 0)
include hi

theorem exec_ecpRead_direct :
    ∃ t, exec (.ecpRead n .bar0 x) s = .next t ∧ t.tbl = s.tbl ∧ (t.ecp.get n).busy = true ∧
      (t.ecp.get n).outcome =
        some { result := 0, idx := (s.ecp.get n).idx, cnt := 1, dat := s.tblGet (s.ecp.get n).tbl (s.ecp.get n).idx } := by
  have ha (w : State) (hw : s.reaches w) := tableOp_direct_read (q := s.startOp .read n x) (s := w) h1 h8
    ((reached_regF hw _ _ _).symm ▸ hi) rfl
  obtain ⟨u, e, hb, hr, hu⟩ := hostOp_reads h (op := .read) (by decide) (tblOf_direct h1 h8) (by omega) fun w hw => by
    rw [ha w hw, reached_tblGet hw]
  exact ⟨u, e, hu .tbl (by decide), hb, hr⟩

theorem exec_ecpWrite_direct :
    ∃ t, exec (.ecpWrite n .bar0 x) s = .next t ∧ (t.ecp.get n).busy = true ∧
      t.tbl = s.tbl.set (tblKey (s.ecp.get n).tbl (s.ecp.get n).idx)
        ((s.ecp.get n).dat &&& BitVec.ofNat 1024 (Tbl.bits (.direct (s.ecp.get n).tbl))) ∧
      (t.ecp.get n).outcome = some { result := 0, idx := (s.ecp.get n).idx, cnt := 1, dat := (s.ecp.get n).dat } := by
  refine direct_writes h h1 h8 (op := .write) (by decide) fun w hw => ?_
  rw [tableOp_direct_puts (q := s.startOp .write n x) h1 h8 ((reached_regF hw _ _ _).symm ▸ hi) (.inl rfl), State.startOp,
    newEntry_direct_write, mergeBits_and]

theorem exec_ecpModify_direct :
    ∃ t, exec (.ecpModify n .bar0 x) s = .next t ∧ (t.ecp.get n).busy = true ∧
      t.tbl = s.tbl.set (tblKey (s.ecp.get n).tbl (s.ecp.get n).idx)
        (mergeBits (Tbl.bits (.direct (s.ecp.get n).tbl) &&& modMask (s.ecp.get n).dat)
          (s.tblGet (s.ecp.get n).tbl (s.ecp.get n).idx) (modVal (s.ecp.get n).dat) &&&
          BitVec.ofNat 1024 (Tbl.bits (.direct (s.ecp.get n).tbl))) ∧
      (t.ecp.get n).outcome = some { result := 0, idx := (s.ecp.get n).idx, cnt := 1, dat := (s.ecp.get n).dat } := by
  refine direct_writes h h1 h8 (op := .modify) (by decide) fun w hw => ?_
  rw [tableOp_direct_puts (q := s.startOp .modify n x) h1 h8 ((reached_regF hw _ _ _).symm ▸ hi) (.inr rfl), State.startOp,
    newEntry_direct_modify, reached_tblGet hw]

theorem exec_ecpReadClear_direct :
    ∃ t, exec (.ecpReadClear n .bar0 x) s = .next t ∧ (t.ecp.get n).busy = true ∧
      t.tbl = s.tbl.set (tblKey (s.ecp.get n).tbl (s.ecp.get n).idx) 0 ∧
      (t.ecp.get n).outcome =
        some { result := 0, idx := (s.ecp.get n).idx, cnt := 1, dat := s.tblGet (s.ecp.get n).tbl (s.ecp.get n).idx } := by
  refine direct_writes h h1 h8 (op := .readClear) (by decide) fun w hw => ?_
  rw [tableOp_direct_readClear (q := s.startOp .readClear n x) h1 h8 ((reached_regF hw _ _ _).symm ▸ hi) rfl, State.startOp,
    reached_tblGet hw]

end exec

/-! ### The bucket that DAT names (R191, R198) -/

/-- A change of the bits from `lo` on leaves those below alone. -/
theorem setBits_mod {k lo : Nat} (v hi x : Nat) (h : k ≤ lo) : setBits v hi lo x % 2 ^ k = v % 2 ^ k := by
  obtain ⟨j, rfl⟩ := Nat.exists_eq_add_of_le h
  have hle : bits v hi (k + j) <<< (k + j) ≤ v := by
    rw [bits, Nat.shiftLeft_eq, Nat.shiftRight_eq_div_pow]
    exact (Nat.mul_le_mul_right _ (Nat.mod_le _ _)).trans (Nat.div_mul_le_self _ _)
  have hd (y : Nat) : y <<< (k + j) % 2 ^ k = 0 := by
    rw [Nat.shiftLeft_eq, pow_add, mul_left_comm]
    exact Nat.mul_mod_right _ _
  obtain ⟨w, hw⟩ := Nat.exists_eq_add_of_le hle
  have hv : v % 2 ^ k = w % 2 ^ k := by
    rw [hw, Nat.add_mod, hd, zero_add, Nat.mod_mod]
  unfold setBits
  rw [hv, Nat.sub_eq_of_eq_add (hw.trans (Nat.add_comm _ _)), Nat.add_mod, hd, add_zero, Nat.mod_mod]

theorem toNat_ofNat_setBits_mod {w k lo : Nat} (v hi x : Nat) (h : k ≤ lo) (hw : k ≤ w) :
    (BitVec.ofNat w (setBits v hi lo x)).toNat % 2 ^ k = v % 2 ^ k := by
  rw [BitVec.toNat_ofNat, Nat.mod_mod_of_dvd _ (Nat.pow_dvd_pow 2 hw), setBits_mod v hi x h]

theorem leBytes_congr {n v w : Nat} (h : v % 256 ^ n = w % 256 ^ n) : leBytes n v = leBytes n w := by
  induction n generalizing v w with
  | zero => rfl
  | succ n ih =>
    rw [pow_succ'] at h
    have hb : v % 256 = w % 256 := by
      rw [← Nat.mod_mul_right_mod v 256 (256 ^ n), h, Nat.mod_mul_right_mod]
    have hr : v / 256 % 256 ^ n = w / 256 % 256 ^ n := by
      rw [← Nat.mod_mul_right_div_self, h, Nat.mod_mul_right_div_self]
    simp only [leBytes, ih hr]
    congr 1
    exact BitVec.eq_of_toNat_eq (by simpa using hb)

/-- The station's name stands in the first eight bytes of its entry (R191). -/
theorem l2_name_congr {e f : Ent16} (h : e.toNat % 2 ^ 64 = f.toNat % 2 ^ 64) : l2Bd e = l2Bd f ∧ l2Mac e = l2Mac f := by
  constructor
  · simp only [l2Bd, datU, Nat.shiftRight_eq_div_pow]
    omega
  · have h6 : e.toNat % 256 ^ 6 = f.toNat % 256 ^ 6 := by omega
    rw [l2Mac, l2Mac, bvBytes, bvBytes, leBytes_congr h6]

/-- The host's station goes by the name that DAT gives it: VALID, AGE and GEN stand behind that. -/
theorem hostStation_name (s : State) (d : Dat) :
    l2Bd (s.hostStation d) = l2Bd (l2OfDat d) ∧ l2Mac (s.hostStation d) = l2Mac (l2OfDat d) := by
  have hv : (datPutB (l2OfDat d) 14 0 1 1).toNat % 2 ^ 64 = (l2OfDat d).toNat % 2 ^ 64 :=
    toNat_ofNat_setBits_mod _ _ _ (by decide) (by decide)
  refine l2_name_congr ?_
  unfold State.hostStation
  dsimp only
  split
  · exact (toNat_ofNat_setBits_mod _ _ _ (by decide) (by decide)).trans hv
  · exact hv

/-! ### Operations on the table of stations (R194, R198) -/

/-- The slot that holds the station of DAT. -/
def State.l2Named (s : State) (d : Dat) : Option Nat := l2Find s (l2Bd (l2OfDat d)) (l2Mac (l2OfDat d))

section stations
variable {q : TOp} {s : State}

theorem reached_l2Named {s w : State} (hw : s.reaches w) (d : Dat) : w.l2Named d = s.l2Named d := by
  simp only [State.l2Named, l2Find, reached_l2Bucket hw, reached_fwd hw]

/-- What a slot's change makes of the forwarding blocks depends on them alone. -/
theorem l2Set_fwd_congr {s t : State} (h : t.fwd = s.fwd) (k : Nat) (e : Ent16) : (l2Set k e t).fwd = (l2Set k e s).fwd := by
  simp only [l2Set, updFwd, h]

theorem tableOp_l2 (ht : q.tbl = 0x12) : tableOp q s = l2Op q s := by
  have h : tblOf 0x12 = some .l2 := rfl
  unfold tableOp; rw [ht, h]

theorem l2Op_lookup_found {k : Nat} (ho : q.op = .lookup) (hk : s.l2Named q.dat = some k) :
    l2Op q s = (q.gives k (l2Dat (s.fwd.l2.get k)), s) := by
  unfold l2Op
  rw [ho]
  dsimp only
  rw [show l2Find s (l2Bd (l2OfDat q.dat)) (l2Mac (l2OfDat q.dat)) = some k from hk]

theorem l2Op_lookup_missing (ho : q.op = .lookup) (hk : s.l2Named q.dat = none) : l2Op q s = (q.ends .notFound, s) := by
  unfold l2Op
  rw [ho]
  dsimp only
  rw [show l2Find s (l2Bd (l2OfDat q.dat)) (l2Mac (l2OfDat q.dat)) = none from hk]

theorem l2Op_delete_found {k : Nat} (ho : q.op = .delete) (hk : s.l2Named q.dat = some k) :
    l2Op q s = (q.ends .ok, l2Clear k s) := by
  unfold l2Op
  rw [ho]
  dsimp only
  rw [show l2Find s (l2Bd (l2OfDat q.dat)) (l2Mac (l2OfDat q.dat)) = some k from hk]

theorem l2Op_delete_missing (ho : q.op = .delete) (hk : s.l2Named q.dat = none) : l2Op q s = (q.ends .notFound, s) := by
  unfold l2Op
  rw [ho]
  dsimp only
  rw [show l2Find s (l2Bd (l2OfDat q.dat)) (l2Mac (l2OfDat q.dat)) = none from hk]

theorem l2Op_step_found {k : Nat} {e : Ent16} (ho : q.op = .step)
    (hf : s.fwd.l2.cells.find? (fun c => decide (q.idx ≤ c.1) && l2Valid c.2) = some (k, e)) :
    l2Op q s = (.done { result := 0, idx := k, cnt := 1, dat := l2Dat e }, s) := by
  unfold l2Op
  rw [ho]
  dsimp only
  rw [hf]
  rfl

theorem l2Op_step_missing (ho : q.op = .step)
    (hf : s.fwd.l2.cells.find? (fun c => decide (q.idx ≤ c.1) && l2Valid c.2) = none) : l2Op q s = (q.ends .notFound, s) := by
  unfold l2Op
  rw [ho]
  dsimp only
  rw [hf]

/-- A bucket of static stations has no slot for a new one. -/
theorem l2Place_static {bd mac : Nat}
    (h : ∀ i ∈ l2Slots (s.l2Bucket bd mac), l2Valid (s.fwd.l2.get i) = true ∧ l2Static (s.fwd.l2.get i) = true) :
    l2Place bd mac s = (none, s) := by
  have hf : (l2Slots (s.l2Bucket bd mac)).find? (fun k => !l2Valid (s.fwd.l2.get k)) = none :=
    List.find?_eq_none.mpr fun i hi => by simp [(h i hi).1]
  have hs : (l2Slots (s.l2Bucket bd mac)).filter (fun k => !l2Static (s.fwd.l2.get k)) = [] :=
    List.filter_eq_nil_iff.mpr fun i hi => by simp [(h i hi).2]
  unfold l2Place
  dsimp only
  rw [hf, hs]
  rfl

theorem l2Op_insert (ho : q.op = .insert) : l2Op q s = l2Insert q s := by
  unfold l2Op; rw [ho]

theorem l2Insert_found {k : Nat} (hk : s.l2Named q.dat = some k) :
    l2Insert q s = (q.gives k q.dat, l2Set k (datPut (s.hostStation q.dat) 15 1 (l2Gen (s.fwd.l2.get k))) s) := by
  obtain ⟨hb, hm⟩ := hostStation_name s q.dat
  rw [State.l2Named, ← hb, ← hm] at hk
  unfold l2Insert
  unfold State.hostStation at hk ⊢
  dsimp only at hk ⊢
  rw [hk]

/-- INSERT of a station that is not there takes the slot that its bucket has for it. -/
theorem l2Insert_placed {k : Nat} {evict : Bool} (hk : s.l2Named q.dat = none)
    (hp : l2Place (l2Bd (l2OfDat q.dat)) (l2Mac (l2OfDat q.dat)) s = (some (k, evict), s)) :
    l2Insert q s = (q.gives k q.dat, l2Set k (datPut (s.hostStation q.dat) 15 1 ((l2Gen (s.fwd.l2.get k) + 1) % 256)) s) := by
  obtain ⟨hb, hm⟩ := hostStation_name s q.dat
  rw [State.l2Named, ← hb, ← hm] at hk
  rw [← hb, ← hm] at hp
  unfold l2Insert
  unfold State.hostStation at hk hp ⊢
  dsimp only at hk hp ⊢
  rw [hk, hp]

theorem l2Insert_full (hk : s.l2Named q.dat = none)
    (hp : l2Place (l2Bd (l2OfDat q.dat)) (l2Mac (l2OfDat q.dat)) s = (none, s)) : l2Insert q s = (q.ends .tableFull, s) := by
  obtain ⟨hb, hm⟩ := hostStation_name s q.dat
  rw [State.l2Named, ← hb, ← hm] at hk
  rw [← hb, ← hm] at hp
  unfold l2Insert
  unfold State.hostStation at hk hp
  dsimp only at hk hp ⊢
  rw [hk, hp]

end stations

section exec
variable {n : Nat} {x : TableSide} {s : State} (h : HostIdle n s) (ht : (s.ecp.get n).tbl = 0x12)
include h ht

/-- An operation on the table of stations that changes no entry. -/
theorem station_reads {op : EcpOp} {r : EcpRes} (ho : op ≠ .flushByMask)
    (ha : ∀ w, s.reaches w → l2Op (s.startOp op n x) w = (.done r, w)) :
    ∃ u, coreCmd (ecpStart op n .bar0 x) s = .next u ∧ (u.ecp.get n).busy = true ∧ (u.ecp.get n).outcome = some r ∧
      s.fresh.changesOnly u [.ecp, .free] :=
  hostOp_reads (tt := .l2) h ho (by rw [ht]; rfl) (by rw [ht]; decide) fun w hw => (tableOp_l2 ht).trans (ha w hw)

/-- An operation that writes one slot of the table of stations. -/
theorem station_writes {op : EcpOp} {r : EcpRes} {k : Nat} {e : Ent16} (ho : op ≠ .flushByMask)
    (ha : ∀ w, s.reaches w → l2Op (s.startOp op n x) w = (.done r, l2Set k e w)) :
    ∃ u, coreCmd (ecpStart op n .bar0 x) s = .next u ∧ (u.ecp.get n).busy = true ∧ u.fwd = (l2Set k e s).fwd ∧
      (u.ecp.get n).outcome = some r := by
  obtain ⟨w, u, hw, eu, hb, hr, hu⟩ := hostOp_answers (tt := .l2) (fs := [.fwd]) h ho (by rw [ht]; rfl) (by rw [ht]; decide)
    (fun w hw => (tableOp_l2 ht).trans (ha w hw)) (fun w => l2Set_only k e w)
  have hf : u.fwd = (l2Set k e w).fwd := hu .fwd (by decide)
  exact ⟨u, eu, hb, hf.trans (l2Set_fwd_congr (reached_fwd hw) k e), hr⟩

theorem exec_ecpStep_found {k : Nat} {e : Ent16}
    (hf : s.fwd.l2.cells.find? (fun c => decide ((s.ecp.get n).idx ≤ c.1) && l2Valid c.2) = some (k, e)) :
    ∃ t, exec (.ecpStep n .bar0 x) s = .next t ∧ (t.ecp.get n).busy = true ∧
      (t.ecp.get n).outcome = some { result := 0, idx := k, cnt := 1, dat := l2Dat e } ∧ s.fresh.changesOnly t [.ecp, .free] :=
  station_reads h ht (op := .step) (by decide) fun w hw => l2Op_step_found rfl (by rw [reached_fwd hw]; exact hf)

theorem exec_ecpStep_missing
    (hf : s.fwd.l2.cells.find? (fun c => decide ((s.ecp.get n).idx ≤ c.1) && l2Valid c.2) = none) :
    ∃ t, exec (.ecpStep n .bar0 x) s = .next t ∧ (t.ecp.get n).busy = true ∧
      (t.ecp.get n).outcome = some { result := 3, idx := (s.ecp.get n).idx, cnt := 0, dat := (s.ecp.get n).dat } ∧
      s.fresh.changesOnly t [.ecp, .free] :=
  station_reads h ht (op := .step) (by decide) fun w hw => l2Op_step_missing rfl (by rw [reached_fwd hw]; exact hf)

section found
variable {k : Nat} (hk : s.l2Named (s.ecp.get n).dat = some k)
include hk

theorem exec_ecpLookup_found :
    ∃ t, exec (.ecpLookup n .bar0 x) s = .next t ∧ t.fwd.l2 = s.fwd.l2 ∧ (t.ecp.get n).busy = true ∧
      (t.ecp.get n).outcome = some { result := 0, idx := k, cnt := 1, dat := l2Dat (s.fwd.l2.get k) } := by
  have ha (w : State) (hw : s.reaches w) :
      l2Op (s.startOp .lookup n x) w = ((s.startOp .lookup n x).gives k (l2Dat (s.fwd.l2.get k)), w) := by
    rw [l2Op_lookup_found (q := s.startOp .lookup n x) rfl ((reached_l2Named hw _).trans hk), reached_fwd hw]
  obtain ⟨u, e, hb, hr, hu⟩ := station_reads h ht (by decide) ha
  have hf : u.fwd = s.fwd := hu .fwd (by decide)
  exact ⟨u, e, congrArg FwdSt.l2 hf, hb, hr⟩

theorem exec_ecpDelete_found :
    ∃ t, exec (.ecpDelete n .bar0 x) s = .next t ∧ (t.ecp.get n).busy = true ∧ t.fwd = (l2Clear k s).fwd ∧
      (t.ecp.get n).outcome = some { result := 0, idx := (s.ecp.get n).idx, cnt := 1, dat := (s.ecp.get n).dat } := by
  refine station_writes h ht (op := .delete) (by decide) fun w hw => ?_
  rw [l2Op_delete_found (q := s.startOp .delete n x) rfl ((reached_l2Named hw _).trans hk), l2Clear, reached_fwd hw]
  rfl

theorem exec_ecpInsert_found :
    ∃ t, exec (.ecpInsert n .bar0 x) s = .next t ∧ (t.ecp.get n).busy = true ∧
      t.fwd.l2 = s.fwd.l2.set k (datPut (s.hostStation (s.ecp.get n).dat) 15 1 (l2Gen (s.fwd.l2.get k))) ∧
      (t.ecp.get n).outcome = some { result := 0, idx := k, cnt := 1, dat := (s.ecp.get n).dat } := by
  have ha (w : State) (hw : s.reaches w) : l2Op (s.startOp .insert n x) w = ((s.startOp .insert n x).gives k (s.ecp.get n).dat,
      l2Set k (datPut (s.hostStation (s.ecp.get n).dat) 15 1 (l2Gen (s.fwd.l2.get k))) w) := by
    rw [l2Op_insert rfl, l2Insert_found (q := s.startOp .insert n x) ((reached_l2Named hw _).trans hk), reached_fwd hw,
      reached_hostStation hw]
    rfl
  obtain ⟨u, e, hb, hf, hr⟩ := station_writes h ht (by decide) ha
  exact ⟨u, e, hb, by rw [hf, l2Set_l2], hr⟩

end found

section missing
variable (hk : s.l2Named (s.ecp.get n).dat = none)
include hk

theorem exec_ecpLookup_missing :
    ∃ t, exec (.ecpLookup n .bar0 x) s = .next t ∧ t.fwd = s.fwd ∧ (t.ecp.get n).busy = true ∧
      (t.ecp.get n).outcome = some { result := 3, idx := (s.ecp.get n).idx, cnt := 0, dat := (s.ecp.get n).dat } := by
  obtain ⟨u, e, hb, hr, hu⟩ := station_reads h ht (op := .lookup) (x := x) (by decide) fun w hw =>
    l2Op_lookup_missing (q := s.startOp .lookup n x) rfl ((reached_l2Named hw _).trans hk)
  exact ⟨u, e, hu .fwd (by decide), hb, hr⟩

theorem exec_ecpDelete_missing :
    ∃ t, exec (.ecpDelete n .bar0 x) s = .next t ∧ t.fwd = s.fwd ∧ (t.ecp.get n).busy = true ∧
      (t.ecp.get n).outcome = some { result := 3, idx := (s.ecp.get n).idx, cnt := 0, dat := (s.ecp.get n).dat } := by
  obtain ⟨u, e, hb, hr, hu⟩ := station_reads h ht (op := .delete) (x := x) (by decide) fun w hw =>
    l2Op_delete_missing (q := s.startOp .delete n x) rfl ((reached_l2Named hw _).trans hk)
  exact ⟨u, e, hu .fwd (by decide), hb, hr⟩

theorem exec_ecpInsert_free {k : Nat}
    (hf : (l2Slots (s.l2Bucket (l2Bd (l2OfDat (s.ecp.get n).dat)) (l2Mac (l2OfDat (s.ecp.get n).dat)))).find?
      (fun i => !l2Valid (s.fwd.l2.get i)) = some k) :
    ∃ t, exec (.ecpInsert n .bar0 x) s = .next t ∧ (t.ecp.get n).busy = true ∧
      t.fwd.l2 = s.fwd.l2.set k (datPut (s.hostStation (s.ecp.get n).dat) 15 1 ((l2Gen (s.fwd.l2.get k) + 1) % 256)) ∧
      (t.ecp.get n).outcome = some { result := 0, idx := k, cnt := 1, dat := (s.ecp.get n).dat } := by
  have ha (w : State) (hw : s.reaches w) : l2Op (s.startOp .insert n x) w = ((s.startOp .insert n x).gives k (s.ecp.get n).dat,
      l2Set k (datPut (s.hostStation (s.ecp.get n).dat) 15 1 ((l2Gen (s.fwd.l2.get k) + 1) % 256)) w) := by
    have hp := l2Place_free (s := w) (by rw [reached_l2Bucket hw, reached_fwd hw]; exact hf)
    rw [l2Op_insert rfl, l2Insert_placed (q := s.startOp .insert n x) ((reached_l2Named hw _).trans hk) hp, reached_fwd hw,
      reached_hostStation hw]
    rfl
  obtain ⟨u, e, hb, hf, hr⟩ := station_writes h ht (by decide) ha
  exact ⟨u, e, hb, by rw [hf, l2Set_l2], hr⟩

theorem exec_ecpInsert_full
    (hf : ∀ i ∈ l2Slots (s.l2Bucket (l2Bd (l2OfDat (s.ecp.get n).dat)) (l2Mac (l2OfDat (s.ecp.get n).dat))),
      l2Valid (s.fwd.l2.get i) = true ∧ l2Static (s.fwd.l2.get i) = true) :
    ∃ t, exec (.ecpInsert n .bar0 x) s = .next t ∧ t.fwd = s.fwd ∧ (t.ecp.get n).busy = true ∧
      (t.ecp.get n).outcome = some { result := 5, idx := (s.ecp.get n).idx, cnt := 0, dat := (s.ecp.get n).dat } := by
  have ha (w : State) (hw : s.reaches w) : l2Op (s.startOp .insert n x) w = ((s.startOp .insert n x).ends .tableFull, w) := by
    have hp := l2Place_static (s := w) (by rw [reached_l2Bucket hw, reached_fwd hw]; exact hf)
    rw [l2Op_insert rfl, l2Insert_full (q := s.startOp .insert n x) ((reached_l2Named hw _).trans hk) hp]
  obtain ⟨u, e, hb, hr, hu⟩ := station_reads h ht (by decide) ha
  exact ⟨u, e, hu .fwd (by decide), hb, hr⟩

end missing

end exec

end Sys2Proof.Machine

namespace Sys2Proof.Machine

/-! ## FLUSH_BY_MASK on a direct table, and the end of an operation (R482, R485, R486) -/

/-! ### The walk of a bulk operation (R486) -/

/-- The entry of a direct table without its VALID. -/
def directCleared (k i : Nat) (s : State) : State := tblSet k i (datPutB (s.tblGet k i) 8 0 1 0) s

section walk
variable {k i : Nat} {d : Dat} {lost : List Nat} {s : State} (hk : s.flushKeys (.direct k) 0 = [i])
include hk

/-- A walk that may not visit a place yet has changed nothing. -/
theorem walk_waits : walk (.direct k) d lost 0 {} s = ({}, s) := by
  unfold walk
  rw [show ({} : Walk).pos = 0 from rfl, hk]
  rfl

/-- A walk over one entry that matches clears it and is at its end. -/
theorem walk_clears {places : Nat} (hp : places ≠ 0) (hh : s.flushHit (.direct k) d i = true) :
    walk (.direct k) d lost places {} s = ({ pos := i + 1, cnt := 1, fin := some .ok }, directCleared k i s) := by
  unfold walk
  rw [show ({} : Walk).pos = 0 from rfl, hk]
  unfold walkGo
  rw [if_neg hp]
  dsimp only [walkRead]
  rw [hh]
  rfl

end walk

/-- A host port in a bulk flush of a direct table, from its first place on, with no operation of another port waiting. -/
structure DirectFlush (n k i : Nat) (d : Dat) (s : State) : Prop where
  port : n < 8
  mode : s.md.mode = .service
  alone : ∀ k < 9, k ≠ n → (s.ecp.get k).waitNo = 0
  first : 1 ≤ k
  last : k ≤ 8
  lop : (s.ecp.get n).lop = some .flushByMask
  lwin : (s.ecp.get n).lwin = .bar0
  ltbl : (s.ecp.get n).ltbl = k
  ldat : (s.ecp.get n).ldat = d
  walkPos : (s.ecp.get n).walkPos = 0
  walkCnt : (s.ecp.get n).walkCnt = 0
  keys : s.flushKeys (.direct k) 0 = [i]
  hit : s.flushHit (.direct k) d i = true

/-- The bulk operation has not visited a place yet. -/
def flushWaits (n : Nat) (s : State) : State :=
  updEcp n (fun p => { p with walkPos := 0, walkCnt := 0, outcome := Option.none }) s

/-- The bulk operation has cleared its one entry, and its outcome is there. -/
def flushDelivers (n k i : Nat) (s : State) : State :=
  updEcp n (fun p => { p with walkPos := i + 1, walkCnt := 1, outcome := some (p.none .ok 1) }) (directCleared k i s)

section flush
variable {n k i places : Nat} {d : Dat} {s : State} (h : DirectFlush n k i d s)
include h

theorem ecpAdvance_walks : ecpAdvance n places s = ecpWalk n places s := by
  have ht : tblOf (s.ecp.get n).ltbl = some (.direct k) := by rw [h.ltbl]; exact tblOf_direct h.first h.last
  have hx : (s.ecp.get n).ltbl ≠ 0x59 := by rw [h.ltbl]; have := h.last; omega
  have hj := ecpJudge_host h.port h.mode h.lwin h.lop ht hx (fun _ => rfl)
  rw [ecpAdvance_alone (waitingBefore_alone h.alone)]
  unfold ecpGo
  dsimp only
  rw [hj]
  exact if_pos h.lop

theorem ecpWalk_direct {w : Walk} {t : State} (hw : walk (.direct k) d (s.ecp.get n).side.lost places {} s = (w, t)) :
    ecpWalk n places s = updEcp n (fun p =>
      { p with walkPos := w.pos, walkCnt := w.cnt, outcome := w.fin.map (fun c => p.none c w.cnt) }) t := by
  unfold ecpWalk
  dsimp only
  rw [h.ltbl, tblOf_direct h.first h.last, h.ldat, h.walkPos, h.walkCnt]
  dsimp only
  rw [hw]

theorem ecpAdvance_waits : ecpAdvance n 0 s = flushWaits n s := by
  rw [ecpAdvance_walks h, ecpWalk_direct h (walk_waits h.keys)]
  rfl

theorem ecpAdvance_clears (hp : places ≠ 0) : ecpAdvance n places s = flushDelivers n k i s := by
  rw [ecpAdvance_walks h, ecpWalk_direct h (walk_clears h.keys hp h.hit)]
  rfl

end flush

/-! ### The end of an operation (R482) -/

/-- A port whose registers have taken the result of its operation. -/
def endedPort (r : EcpRes) (p : EcpPort) : EcpPort :=
  { p with busy := false, done := true, aborted := false, result := r.result, idx := r.idx, cnt := r.cnt, dat := r.dat,
           outcome := Option.none, abort := false, walkPos := 0, walkCnt := 0, sent := false, waitNo := 0 }

/-- The port's operation has ended, and nothing of the port waits any longer. -/
def portEnded (n : Nat) (r : EcpRes) (s : State) : State :=
  updRun (fun u => { u with waiting := u.waiting.filter (fun q => q.owner != .port n),
                            flight := u.flight.filter (fun q => q.owner != .port n) })
    (updPod (fun q => { q with writes := q.writes.filter (fun k => k != n) }) (updEcp n (endedPort r) s))

theorem portEnded_only (n : Nat) (r : EcpRes) (s : State) : s.changesOnly (portEnded n r s) [.ecp, .pod, .asa] :=
  (updEcp_only n _ s).trans ((updPod_only _ _).trans (updRun_only _ _))

theorem ecpFinish_host {n : Nat} (hn : n < 8) (r : EcpRes) (s : State) :
    ecpFinish n r false s = msixRaise (41 + n) (portEnded n r s) := by
  unfold ecpFinish
  exact if_pos hn

/-- The fields that the end of a host port's operation may change. -/
def Fld.portEnd : List Fld := Fld.events ++ [.ecp, .pod, .asa]

theorem ecpFinish_host_only {n : Nat} (hn : n < 8) (r : EcpRes) (s : State) : s.changesOnly (ecpFinish n r false s) Fld.portEnd := by
  rw [ecpFinish_host hn]
  exact ((portEnded_only n r s).mono (by decide)).trans ((msixRaise_frame _ _).only)

theorem ecpFinish_host_get {n : Nat} (hn : n < 8) (r : EcpRes) (s : State) :
    (ecpFinish n r false s).ecp.get n = endedPort r (s.ecp.get n) := by
  have he : (msixRaise (41 + n) (portEnded n r s)).ecp = (portEnded n r s).ecp :=
    (msixRaise_frame _ _).only (List.Subset.refl Fld.events) .ecp (by decide)
  rw [ecpFinish_host hn, he]
  exact updEcp_get n _ s

section ends
variable {n : Nat} {r : EcpRes} {s t : State} (hn : n < 8)
include hn

/-- OPERATION_END, where the operation's last step leaves the state t with its outcome. -/
theorem exec_operationEnd {fs : List Fld} (hl : s.live = true) (hm : s.md.mode = .service)
    (e : doOperationEnd n s.fresh = ecpFinish n r false t) (hf : s.fresh.changesOnly t fs)
    (hs : Fld.md ∉ fs ∧ Fld.pending ∉ fs := by decide) :
    ∃ u, exec (.operationEnd n) s = .next u ∧ u.tbl = t.tbl ∧ (u.ecp.get n).busy = false ∧ (u.ecp.get n).done = true ∧
      (u.ecp.get n).result = r.result ∧ (u.ecp.get n).cnt = r.cnt := by
  have ht := ecpFinish_host_only hn r t
  have hg := ecpFinish_host_get hn r t
  have hall : s.fresh.changesOnly (ecpFinish n r false t) (Fld.portEnd ++ fs) :=
    (hf.mono (List.subset_append_right _ _)).trans (ht.mono (List.subset_append_left _ _))
  refine ⟨_, coreCmd_service hl hm e hall (by simp [hs.1]; decide) (by simp [hs.2]; decide), ht .tbl (by decide), ?_⟩
  rw [hg]
  exact ⟨rfl, rfl, rfl, rfl⟩

variable (hb : (s.ecp.get n).busy = true)
include hb

theorem doOperationEnd_delivers (ho : (s.ecp.get n).outcome = some r) : doOperationEnd n s = ecpFinish n r false s := by
  unfold doOperationEnd
  rw [if_neg (by simp [hb]; omega), ho]

/-- OPERATION_END of a bulk operation takes its walk to the end (R486). -/
theorem doOperationEnd_walks (ho : (s.ecp.get n).outcome = none) (ha : (s.ecp.get n).abort = false)
    (hw : s.pod.writes.contains n = false)
    (he : ecpAdvance n ((s.flushKeys ((tblOf (s.ecp.get n).ltbl).getD .l2) (s.ecp.get n).walkPos).length + 1) s = t)
    (hr : (t.ecp.get n).outcome = some r) : doOperationEnd n s = ecpFinish n r false t := by
  unfold doOperationEnd
  rw [if_neg (by simp [hb]; omega), ho]
  dsimp only
  rw [ha, hw, if_neg Bool.false_ne_true, if_neg Bool.false_ne_true, if_neg (by rw [ho, hw]; decide), he, hr]

end ends

/-! ### FLUSH_BY_MASK from its START to its end -/

theorem DirectFlush.fresh {n k i : Nat} {d : Dat} {s : State} (h : DirectFlush n k i d s) : DirectFlush n k i d s.fresh :=
  ⟨h.port, h.mode, h.alone, h.first, h.last, h.lop, h.lwin, h.ltbl, h.ldat, h.walkPos, h.walkCnt, h.keys, h.hit⟩

theorem flushWaits_only (n : Nat) (s : State) {fs : List Fld} (h : Fld.ecp ∈ fs := by decide) : s.changesOnly (flushWaits n s) fs :=
  updEcp_only n _ s h

theorem flushWaits_get (n : Nat) (s : State) :
    (flushWaits n s).ecp.get n = { s.ecp.get n with walkPos := 0, walkCnt := 0, outcome := Option.none } := updEcp_get n _ s

theorem flushDelivers_only (n k i : Nat) (s : State) {fs : List Fld} (he : Fld.ecp ∈ fs := by decide) (ht : Fld.tbl ∈ fs := by decide) :
    s.changesOnly (flushDelivers n k i s) fs := (tblSet_only s _ _ _ ht).trans (updEcp_only n _ _ he)

theorem flushDelivers_get (n k i : Nat) (s : State) : (flushDelivers n k i s).ecp.get n =
    { s.ecp.get n with walkPos := i + 1, walkCnt := 1, outcome := some ((s.ecp.get n).none .ok 1) } := by
  rw [flushDelivers, updEcp_get, directCleared, tblSet_ecp]

theorem flushDelivers_tbl (n k i : Nat) (s : State) :
    (flushDelivers n k i s).tbl = s.tbl.set (tblKey k i) (datPutB (s.tblGet k i) 8 0 1 0) := by
  have h : (directCleared k i s).changesOnly (flushDelivers n k i s) [.ecp] := updEcp_only n _ _
  have e : (flushDelivers n k i s).tbl = (directCleared k i s).tbl := h .tbl (by decide)
  rw [e, directCleared, tblSet_tbl]

/-- A walk that has not begun can still be taken to its end. -/
theorem DirectFlush.waits {n k i : Nat} {d : Dat} {s : State} (h : DirectFlush n k i d s) : DirectFlush n k i d (flushWaits n s) := by
  have hg := flushWaits_get n s
  exact {
    port := h.port, mode := h.mode, first := h.first, last := h.last, keys := h.keys, hit := h.hit
    alone := fun j hj hn => by rw [flushWaits, updEcp_get_ne _ _ hn]; exact h.alone j hj hn
    lop := by rw [hg]; exact h.lop
    lwin := by rw [hg]; exact h.lwin
    ltbl := by rw [hg]; exact h.ltbl
    ldat := by rw [hg]; exact h.ldat
    walkPos := by rw [hg]
    walkCnt := by rw [hg] }

theorem HostIdle.flush {n k i : Nat} {x : TableSide} {s : State} (h : HostIdle n s) (h1 : 1 ≤ k) (h8 : k ≤ 8)
    (ht : (s.ecp.get n).tbl = k) (hk : s.flushKeys (.direct k) 0 = [i]) (hh : s.flushHit (.direct k) (s.ecp.get n).dat i = true) :
    DirectFlush n k i (s.ecp.get n).dat (begun .flushByMask n x s) := by
  have hg := begun_get .flushByMask n x s
  exact {
    port := h.port, mode := h.mode, first := h1, last := h8, keys := hk, hit := hh
    alone := fun j hj hn => by rw [begun_get_ne _ _ _ hn]; exact h.alone j hj hn
    lop := by rw [hg]; rfl
    lwin := by rw [hg]; rfl
    ltbl := by rw [hg]; exact ht
    ldat := by rw [hg]; rfl
    walkPos := by rw [hg]; rfl
    walkCnt := by rw [hg]; rfl }

theorem live_of_only {s t : State} {fs : List Fld} (h : s.changesOnly t fs)
    (hs : Fld.pins ∉ fs ∧ Fld.isl ∉ fs ∧ Fld.sec ∉ fs := by decide) : t.live = s.live := by
  have hp : t.pins = s.pins := h .pins hs.1
  have hi : t.isl = s.isl := h .isl hs.2.1
  have hc : t.sec = s.sec := h .sec hs.2.2
  simp only [State.live, State.coreHeld, hp, hi, hc]

/-- OPERATION_END takes a walk that has not begun to its end, and delivers what it has done. -/
theorem exec_operationEnd_flush {n k i : Nat} {d : Dat} {s : State} (h : DirectFlush n k i d s) (hl : s.live = true)
    (hb : (s.ecp.get n).busy = true) (ho : (s.ecp.get n).outcome = none) (ha : (s.ecp.get n).abort = false)
    (hw : s.pod.writes.contains n = false) :
    ∃ u, exec (.operationEnd n) s = .next u ∧ u.tbl = s.tbl.set (tblKey k i) (datPutB (s.tblGet k i) 8 0 1 0) ∧
      (u.ecp.get n).busy = false ∧ (u.ecp.get n).done = true ∧ (u.ecp.get n).result = 0 ∧ (u.ecp.get n).cnt = 1 := by
  have hr : ((flushDelivers n k i s.fresh).ecp.get n).outcome = some ((s.ecp.get n).none .ok 1) := by rw [flushDelivers_get]; rfl
  have e := doOperationEnd_walks (s := s.fresh) h.port hb ho ha hw (ecpAdvance_clears h.fresh (Nat.succ_ne_zero _)) hr
  obtain ⟨u, eu, hu, hend⟩ := exec_operationEnd h.port hl h.mode e (flushDelivers_only (fs := [.ecp, .tbl]) n k i s.fresh)
  exact ⟨u, eu, hu.trans (flushDelivers_tbl n k i s.fresh), hend⟩

/-- FLUSH_BY_MASK over one matching entry, from its START to OPERATION_END (R486). -/
theorem exec_ecpFlushByMask_direct {n k i : Nat} {x : TableSide} {s : State} (h : HostIdle n s) (h1 : 1 ≤ k) (h8 : k ≤ 8)
    (ht : (s.ecp.get n).tbl = k) (hk : s.flushKeys (.direct k) 0 = [i]) (hh : s.flushHit (.direct k) (s.ecp.get n).dat i = true) :
    ∃ t, exec (.ecpFlushByMask n .bar0 x) s = .next t ∧ (t.ecp.get n).busy = true ∧
      ((t.tbl = s.tbl ∧ (t.ecp.get n).outcome = none) ∨
       (t.tbl = s.tbl.set (tblKey k i) (datPutB (s.tblGet k i) 8 0 1 0) ∧
        (t.ecp.get n).outcome = some { result := 0, idx := (s.ecp.get n).idx, cnt := 1, dat := (s.ecp.get n).dat })) ∧
      s.fresh.changesOnly t [.ecp, .free, .tbl] ∧
      (s.pod.writes.contains n = false →
        ∃ u, exec (.operationEnd n) t = .next u ∧ u.tbl = s.tbl.set (tblKey k i) (datPutB (s.tblGet k i) 8 0 1 0) ∧
          (u.ecp.get n).busy = false ∧ (u.ecp.get n).done = true ∧ (u.ecp.get n).result = 0 ∧ (u.ecp.get n).cnt = 1) := by
  have hg := begun_get .flushByMask n x s.fresh
  have hb := begun_only .flushByMask n x s.fresh
  have hd : DirectFlush n k i (s.ecp.get n).dat (begun .flushByMask n x s.fresh) := h.fresh.flush h1 h8 ht hk hh
  have e := ecpStart_begins (op := .flushByMask) (x := x) h.fresh
  have hstart {t : State} (e : ecpStart .flushByMask n .bar0 x s.fresh = t) (hf : s.fresh.changesOnly t [.ecp, .free, .tbl]) :
      exec (.ecpFlushByMask n .bar0 x) s = .next t := coreCmd_service h.live h.mode e hf
  generalize begun .flushByMask n x s.fresh = b at *
  have hbt : b.tbl = s.tbl := hb .tbl (by decide)
  by_cases hp : Config.pick s.fresh.free = 0
  case pos =>
    rw [hp, ecpAdvance_waits hd] at e
    have hall := hb.trans (flushWaits_only n b)
    have hgw := flushWaits_get n b
    rw [hg] at hgw
    have htbl : (flushWaits n b).tbl = s.tbl := hall .tbl (by decide)
    have hpod : (flushWaits n b).pod = s.pod := hall .pod (by decide)
    have hbusy : ((flushWaits n b).ecp.get n).busy = true := by rw [hgw]; rfl
    have hout : ((flushWaits n b).ecp.get n).outcome = none := by rw [hgw]
    refine ⟨_, hstart e (hall.mono (by decide)), hbusy, .inl ⟨htbl, hout⟩, hall.mono (by decide), fun hw => ?_⟩
    rw [← htbl, show s.tblGet k i = (flushWaits n b).tblGet k i by rw [State.tblGet, State.tblGet, htbl]]
    exact exec_operationEnd_flush hd.waits ((live_of_only hall).trans h.live) hbusy hout (by rw [hgw]; rfl) (by rw [hpod]; exact hw)
  case neg =>
    rw [ecpAdvance_clears hd hp] at e
    have hall := (hb.mono (by decide)).trans (flushDelivers_only (fs := [.ecp, .free, .tbl]) n k i b)
    have hgd := flushDelivers_get n k i b
    rw [hg] at hgd
    have htbl := flushDelivers_tbl n k i b
    rw [State.tblGet, hbt] at htbl
    have hbusy : ((flushDelivers n k i b).ecp.get n).busy = true := by rw [hgd]; rfl
    have hout : ((flushDelivers n k i b).ecp.get n).outcome =
        some { result := 0, idx := (s.ecp.get n).idx, cnt := 1, dat := (s.ecp.get n).dat } := by rw [hgd]; rfl
    refine ⟨_, hstart e hall, hbusy, .inr ⟨htbl, hout⟩, hall, fun _ => ?_⟩
    obtain ⟨u, eu, hu, hend⟩ := exec_operationEnd (s := flushDelivers n k i b) h.port ((live_of_only hall).trans h.live) hd.mode
      (doOperationEnd_delivers (s := (flushDelivers n k i b).fresh) h.port hbusy hout) (State.changesOnly.refl _ [])
    exact ⟨u, eu, hu.trans ((fresh_tbl _).trans htbl), hend⟩

/-! ### The obligation -/

/-- Settles O25: each operation by its table's answer, and the flush by how far its walk comes at START. -/
theorem entryCommandPorts : Obligations.EntryCommandPorts := by
  refine ⟨?direct, ?found, ?missing, ?step, ?last, ?flush⟩
  case direct =>
    intro n x s hn hl hp hm hb ha h1 h8 hi
    have h : HostIdle n s := ⟨hn, hl, hp, hm, hb, ha⟩
    exact ⟨exec_ecpRead_direct h h1 h8 hi, exec_ecpWrite_direct h h1 h8 hi, exec_ecpModify_direct h h1 h8 hi,
      exec_ecpReadClear_direct h h1 h8 hi⟩
  case found =>
    intro n k x s hn hl hp hm hb ha ht hk
    have h : HostIdle n s := ⟨hn, hl, hp, hm, hb, ha⟩
    exact ⟨exec_ecpLookup_found h ht hk, exec_ecpDelete_found h ht hk, exec_ecpInsert_found h ht hk⟩
  case missing =>
    intro n x s hn hl hp hm hb ha ht hk
    have h : HostIdle n s := ⟨hn, hl, hp, hm, hb, ha⟩
    exact ⟨exec_ecpLookup_missing h ht hk, exec_ecpDelete_missing h ht hk, fun k hf => exec_ecpInsert_free h ht hk hf,
      fun hf => exec_ecpInsert_full h ht hk hf⟩
  case step => exact fun n k e x s hn hl hp hm hb ha ht hf => exec_ecpStep_found ⟨hn, hl, hp, hm, hb, ha⟩ ht hf
  case last => exact fun n x s hn hl hp hm hb ha ht hf => exec_ecpStep_missing ⟨hn, hl, hp, hm, hb, ha⟩ ht hf
  case flush =>
    exact fun n k i x s hn hl hp hm hb ha h1 h8 ht hk hh => exec_ecpFlushByMask_direct ⟨hn, hl, hp, hm, hb, ha⟩ h1 h8 ht hk hh

end Sys2Proof.Machine

namespace Sys2Proof.Machine

/-! ## The stores of the flow engine: partitions, buckets, cloves and lines (R201 to R233) -/

/-! ### Updates of one store -/

theorem clove_only (v : SMap Dat) (s : State) {fs : List Fld} (h : Fld.clove ∈ fs := by decide) :
    s.changesOnly { s with clove := v } fs :=
  fun f hf => by cases f with | clove => exact absurd h hf | _ => rfl

theorem dir_only (v : SMap DirBucket) (s : State) {fs : List Fld} (h : Fld.dir ∈ fs := by decide) :
    s.changesOnly { s with dir := v } fs :=
  fun f hf => by cases f with | dir => exact absurd h hf | _ => rfl

theorem updPart_only (i : Nat) (f : Part → Part) (s : State) {fs : List Fld} (h : Fld.part ∈ fs := by decide) :
    s.changesOnly (updPart i f s) fs := part_only s _ h

theorem updBucket_only (b : Nat) (f : DirBucket → DirBucket) (s : State) {fs : List Fld} (h : Fld.dir ∈ fs := by decide) :
    s.changesOnly (updBucket b f s) fs := dir_only _ s h

theorem updTh_only (t : Nat) (f : Thread → Thread) (s : State) {fs : List Fld} (h : Fld.eng ∈ fs := by decide) :
    s.changesOnly (updTh t f s) fs := eng_only s _ h

@[simp] theorem updPart_get (i : Nat) (f : Part → Part) (s : State) : (updPart i f s).part.get i = f (s.part.get i) :=
  SMap.get_upd_self _ _ _

@[simp] theorem updPart_clove (i : Nat) (f : Part → Part) (s : State) : (updPart i f s).clove = s.clove := rfl

theorem updPart_get_ne {i j : Nat} (f : Part → Part) (s : State) (h : j ≠ i) : (updPart i f s).part.get j = s.part.get j :=
  SMap.get_upd_ne _ _ h

theorem updPart_updPart (i : Nat) (f g : Part → Part) (s : State) : updPart i g (updPart i f s) = updPart i (fun p => g (f p)) s :=
  congrArg (fun m => { s with part := m }) (SMap.upd_upd s.part i f g)

@[simp] theorem updTh_th (t : Nat) (f : Thread → Thread) (s : State) : (updTh t f s).th t = f (s.th t) := SMap.get_upd_self _ _ _

theorem updTh_updTh (t : Nat) (f g : Thread → Thread) (s : State) : updTh t g (updTh t f s) = updTh t (fun h => g (f h)) s :=
  congrArg (fun m => { s with eng := { s.eng with th := m } }) (SMap.upd_upd s.eng.th t f g)

theorem th_of_only {s u : State} {fs : List Fld} (h : s.changesOnly u fs) (hf : Fld.eng ∉ fs := by decide) (t : Nat) : u.th t = s.th t :=
  congrArg (fun e => e.th.get t) (h .eng hf)

/-- What a command of a partition's controller answers. -/
theorem partCmd_answers {i : Nat} {f : State → State} {s t : State} {fs : List Fld} (h : s.running) (hi : i < 4) (e : f s.fresh = t)
    (hf : s.fresh.changesOnly t fs) (hs : ∀ x ∈ Fld.settled, x ∉ fs := by decide) :
    coreCmd (fun s => if i < 4 then f s else s) s = .next t :=
  coreCmd_running_answers (f := fun s => if i < 4 then f s else s) h ((if_pos hi).trans e) hf hs

/-! ### Cached lines (R212, R213) -/

theorem line_congr {s u : State} {i : Nat} (h : (u.part.get i).lines = (s.part.get i).lines) (idx : Nat) : u.line i idx = s.line i idx := by
  unfold State.line; rw [h]

theorem cloveNow_congr {s u : State} {i idx : Nat} (h : (u.part.get i).lines = (s.part.get i).lines)
    (hc : u.clove.get idx = s.clove.get idx) : u.cloveNow i idx = s.cloveNow i idx := by
  unfold State.cloveNow; rw [line_congr h, hc]

theorem inPart_congr {s u : State} (hr : u.regs = s.regs) (i idx : Nat) : u.inPart i idx = s.inPart i idx := by
  have hb : u.cloveBase i = s.cloveBase i := by simp only [State.cloveBase, State.regF, State.reg, hr]
  have hn : u.cloves i = s.cloves i := by simp only [State.cloves, State.regF, State.reg, hr]
  unfold State.inPart
  rw [hb, hn]

theorem cloveIs_congr {s u : State} {i : Nat} (hr : u.regs = s.regs) (h : (u.part.get i).lines = (s.part.get i).lines)
    (hc : u.clove = s.clove) (idx gen : Nat) : u.cloveIs i idx gen = s.cloveIs i idx gen := by
  unfold State.cloveIs
  rw [inPart_congr hr, cloveNow_congr h (congrArg (fun m => m.get idx) hc)]

theorem updLine_only (i idx : Nat) (f : Line → Line) (s : State) {fs : List Fld} (h : Fld.part ∈ fs := by decide) :
    s.changesOnly (updLine i idx f s) fs := updPart_only i _ s h

/-- A change of a line that keeps its index is read back. -/
theorem updLine_line {f : Line → Line} (hf : ∀ l, (f l).idx = l.idx) (i idx : Nat) (s : State) :
    (updLine i idx f s).line i idx = (s.line i idx).map f := by
  unfold State.line updLine
  rw [updPart_get]
  induction (s.part.get i).lines with
  | nil => rfl
  | cons l ls ih =>
    by_cases h : l.idx = idx
    · simp [h, hf]
    · simpa [h] using ih

theorem setClove_only (i idx : Nat) (c : Clove) (s : State) {fs : List Fld} (hp : Fld.part ∈ fs := by decide)
    (hc : Fld.clove ∈ fs := by decide) : s.changesOnly (setClove i idx c s) fs := by
  unfold setClove
  split
  · exact updLine_only _ _ _ s hp
  · exact clove_only _ s hc

theorem updClove_only (i idx : Nat) (f : Clove → Clove) (s : State) {fs : List Fld} (hp : Fld.part ∈ fs := by decide)
    (hc : Fld.clove ∈ fs := by decide) : s.changesOnly (updClove i idx f s) fs := setClove_only i idx _ s hp hc

section unlined
variable {i idx : Nat} {s : State} (h : s.line i idx = none)
include h

theorem cloveNow_unlined : s.cloveNow i idx = s.clove.get idx := by unfold State.cloveNow; rw [h]

theorem locked_unlined : s.locked i idx = false := by unfold State.locked; rw [h]

theorem setClove_unlined (c : Clove) : setClove i idx c s = { s with clove := s.clove.set idx c } := by unfold setClove; rw [h]

theorem updClove_unlined (f : Clove → Clove) : updClove i idx f s = { s with clove := s.clove.set idx (f (s.clove.get idx)) } := by
  unfold updClove; rw [setClove_unlined h, cloveNow_unlined h]

/-- No line of the partition is that of the clove. -/
theorem lines_ne_of_unlined : ∀ l ∈ (s.part.get i).lines, (l.idx != idx) = true := by
  unfold State.line at h
  simpa using h

end unlined

theorem line_of_readFails {i idx : Nat} {ue : Bool} {s : State} (h : s.readFails i idx ue = true) : s.line i idx = none := by
  unfold State.readFails at h
  simpa using (Bool.and_eq_true_iff.mp h).2

/-- A clove that HBM reads whole can be read. -/
theorem readFails_sound {i idx : Nat} {s : State} (h : s.cloveBad i idx = false) : s.readFails i idx false = false := by
  unfold State.readFails; rw [h]; rfl

theorem fresh_hbmBad (s : State) (a n : Nat) : s.fresh.hbmBad a n = s.hbmBad a n := rfl

theorem fresh_cloveBad (s : State) (i idx : Nat) : s.fresh.cloveBad i idx = s.cloveBad i idx := by
  unfold State.cloveBad; rw [fresh_hbmBad, fresh_part]

theorem fresh_bucketBad (s : State) (i b : Nat) : s.fresh.bucketBad i b = s.bucketBad i b := by
  unfold State.bucketBad; rw [fresh_hbmBad, fresh_part]

theorem fresh_readFails (s : State) (i idx : Nat) (ue : Bool) : s.fresh.readFails i idx ue = s.readFails i idx ue := by
  unfold State.readFails; rw [fresh_cloveBad]; rfl

/-! ### The end-record queue and the directory slot of a clove (R227, R231) -/

theorem endRecord_only (i : Nat) (r : EndRec) (s : State) {fs : List Fld} (h : Fld.events ++ [.part] ⊆ fs := by decide) :
    s.changesOnly (endRecord i r s) fs := by
  refine State.changesOnly.mono ?_ h
  unfold endRecord
  exact ite_only (updPart_only i _ s) ((count_only s _).trans (raiseLim_only _ _ _ _ _ _ _))

theorem endRecord_joins {i : Nat} {s : State} (h : (s.part.get i).endq.length < 512) (r : EndRec) :
    endRecord i r s = updPart i (fun p => { p with endq := p.endq ++ [r] }) s := if_pos h

/-- An end record touches nothing of its partition but the queue. -/
theorem endRecord_get (i : Nat) (r : EndRec) (s : State) : ∃ q, (endRecord i r s).part.get i = { s.part.get i with endq := q } := by
  unfold endRecord
  split
  · exact ⟨_, updPart_get _ _ _⟩
  · have h : s.changesOnly (raiseLim 1 i 8 3 i i (count (Cnt.FSE_EXPORT_LOST i) s)) Fld.events :=
      (count_only s _).trans (raiseLim_only _ _ _ _ _ _ _)
    exact ⟨_, congrArg (fun m => m.get i) (h .part (by decide))⟩

theorem clearSlot_only (d idx : Nat) (s : State) {fs : List Fld} (h : Fld.dir ∈ fs := by decide) : s.changesOnly (clearSlot d idx s) fs :=
  ite_only (updBucket_only _ _ s h) (.refl s fs)

theorem clearSlot_names {d idx : Nat} {s : State}
    (h : ((s.dir.get (d / 8)).slots.any (fun x => x.slot == d % 8 && x.idx == idx)) = true) :
    clearSlot d idx s = updBucket (d / 8) (fun b => { b with slots := b.slots.filter (fun x => x.slot != d % 8) }) s := if_pos h

/-! ### A clove that cannot be read is lost (R232) -/

/-- The clove is gone and its index counts as used; the loss is counted and reported. -/
def lossReported (i idx : Nat) (s : State) : State :=
  raiseLim 1000 0 8 4 noUnit idx (count (Cnt.FSE_CLOVE_LOST i) (markUsed i idx { s with clove := s.clove.set idx 0 }))

theorem lossReported_events (i idx : Nat) (s : State) :
    (markUsed i idx { s with clove := s.clove.set idx 0 }).changesOnly (lossReported i idx s) Fld.events :=
  (count_only _ _).trans (raiseLim_only _ _ _ _ _ _ _)

theorem lossReported_only (i idx : Nat) (s : State) : s.changesOnly (lossReported i idx s) (Fld.events ++ [.part, .clove]) :=
  (clove_only _ s).trans ((updPart_only i _ _).trans ((lossReported_events i idx s).mono (by decide)))

theorem lossReported_clove (i idx : Nat) (s : State) : (lossReported i idx s).clove = s.clove.set idx 0 := by
  have h : (lossReported i idx s).clove = (markUsed i idx { s with clove := s.clove.set idx 0 }).clove :=
    lossReported_events i idx s .clove (by decide)
  rw [h, markUsed, updPart_clove]

theorem lossReported_get (i idx : Nat) (s : State) : (lossReported i idx s).part.get i =
    { s.part.get i with freeCache := runsCut (s.part.get i).freeCache idx (idx + 1),
                        freeBits := runsCut (s.part.get i).freeBits idx (idx + 1) } :=
  (congrArg (fun m => m.get i) (lossReported_events i idx s .part (by decide))).trans (updPart_get _ _ _)

theorem loseClove_only (i idx : Nat) (key : Option (BitVec 384)) (s : State) :
    s.changesOnly (loseClove i idx key s) (Fld.events ++ [.part, .clove, .dir]) := by
  unfold loseClove
  extract_lets u
  have h : s.changesOnly u (Fld.events ++ [.part, .clove, .dir]) := (lossReported_only i idx s).mono (by decide)
  split
  · exact h
  · exact h.trans ((clearSlot_only _ _ _).trans ((updPart_only i _ _).trans (endRecord_only i _ _)))

/-- A lost clove reads as zeros. -/
theorem loseClove_clove (i idx : Nat) (key : Option (BitVec 384)) (s : State) : (loseClove i idx key s).clove = s.clove.set idx 0 := by
  unfold loseClove
  extract_lets u
  have h : u.clove = s.clove.set idx 0 := lossReported_clove i idx s
  split
  · exact h
  · next b x _ =>
    extract_lets v
    have hv : u.changesOnly v [.dir, .part] := (clearSlot_only _ idx u).trans (updPart_only i _ _)
    have hd := hv.mono (gs := Fld.events ++ [.part, .dir]) (by decide)
    exact ((hd.trans (endRecord_only i _ v)) .clove (by decide)).trans h

/-- The loss takes the index from the free ones, and touches otherwise only the partition's counts and its queue of end records. -/
theorem loseClove_get (i idx : Nat) (key : Option (BitVec 384)) (s : State) :
    ∃ n k q, (loseClove i idx key s).part.get i =
      { s.part.get i with freeCache := runsCut (s.part.get i).freeCache idx (idx + 1),
                          freeBits := runsCut (s.part.get i).freeBits idx (idx + 1), used := n, pinned := k, endq := q } := by
  unfold loseClove
  extract_lets u
  have h : u.part.get i = _ := lossReported_get i idx s
  split
  · exact ⟨_, _, _, h⟩
  · next b x _ =>
    have hd : (clearSlot (8 * b + x.slot) idx u).part = u.part := clearSlot_only (fs := [.dir]) _ _ _ (by decide) .part (by decide)
    extract_lets v
    obtain ⟨q, e⟩ := endRecord_get i { clove := (key.map cvOfKey).getD 0, idx := idx, reason := 7, bare := key.isNone, at_ := v.now } v
    rw [updPart_get, hd, h] at e
    exact ⟨_, _, _, e⟩

end Sys2Proof.Machine

namespace Sys2Proof.Machine

/-! ### What the end of a clove may change (R228, R231, R253) -/

/-- The fields that the flow engine's operations on cloves may change. -/
def Fld.flow : List Fld := Fld.events ++ [.part, .dir, .clove, .svc, .eng]

theorem updBlock_only (i b : Nat) (f : NatBlock → NatBlock) (s : State) {fs : List Fld} (h : Fld.svc ∈ fs := by decide) :
    s.changesOnly (updBlock i b f s) fs := updSvc_only i _ s h

theorem natLog_only (i : Nat) (r : NatRec) (s : State) {fs : List Fld} (h : Fld.svc ∈ fs := by decide) :
    s.changesOnly (natLog i r s) fs := updSvc_only i _ s h

theorem returnIndex_only (i k : Nat) (s : State) {fs : List Fld} (h : Fld.part ∈ fs := by decide) :
    s.changesOnly (returnIndex i k s) fs := ite_only (.refl s fs) (updPart_only i _ s h)

theorem enterMiss_only (i t : Nat) (s : State) : s.changesOnly (enterMiss i t s) [.part, .eng, .cnt] := by
  unfold enterMiss
  extract_lets h e u b
  have hu : s.changesOnly u [.part, .eng, .cnt] := eng_only s _
  split
  · exact hu.trans ((countC_cnt_only _ _ _).trans (updPart_only i _ _))
  · exact hu.trans (ite_only (updPart_only i _ _) (updPart_only i _ _))

theorem removeClove_only (i idx reason : Nat) (give : Bool) (s : State) : s.changesOnly (removeClove i idx reason give s) Fld.flow := by
  unfold removeClove
  extract_lets c waiting u1 u2 u3 u4
  have h3 : s.changesOnly u3 Fld.flow :=
    (clearSlot_only _ _ s).trans ((updPart_only i _ _).trans ((clove_only _ u1).trans (updPart_only i _ u2)))
  have h4 : s.changesOnly u4 Fld.flow := h3.trans (.trans (ite_only (returnIndex_only i idx u3) (.refl u3 _)) (endRecord_only i _ _))
  exact h4.trans (foldl_only (fun u t => (enterMiss_only i t u).mono (by decide)) waiting u4)

theorem unrefMapping_only (i m g : Nat) (s : State) {fs : List Fld} (hp : Fld.part ∈ fs := by decide)
    (hc : Fld.clove ∈ fs := by decide) : s.changesOnly (unrefMapping i m g s) fs := ite_only (updClove_only i m _ s hp hc) (.refl s fs)

theorem releaseBlock_only (i b sub g : Nat) (s : State) :
    s.changesOnly (releaseBlock i b sub g s) (Fld.events ++ [.part, .clove, .svc]) := by
  unfold releaseBlock
  extract_lets k lo u v
  have hu : s.changesOnly u (Fld.events ++ [.part, .clove, .svc]) := updBlock_only i b _ s
  have hv : u.changesOnly v (Fld.events ++ [.part, .clove, .svc]) := ite_only (updClove_only i sub _ u) (.refl u _)
  exact hu.trans (hv.trans ((count_only v _).trans (natLog_only i _ _)))

theorem mappingEnds_only (i : Nat) (c : Clove) (s : State) : s.changesOnly (mappingEnds i c s) (Fld.events ++ [.part, .clove, .svc]) := by
  unfold mappingEnds
  extract_lets b sub g u v k
  have hv : s.changesOnly v (Fld.events ++ [.part, .clove, .svc]) :=
    (updBlock_only i b _ s).trans (ite_only (updClove_only i sub _ u) (.refl u _))
  split
  · split
    · exact hv.trans ((updSvc_only i _ v).trans ((count_only _ _).trans (raiseLim_only _ _ _ _ _ _ _)))
    · exact hv.trans (releaseBlock_only i b sub g v)
  · exact hv

theorem deleteClove_only (n i idx reason : Nat) (give : Bool) (s : State) :
    s.changesOnly (deleteClove n i idx reason give s) Fld.flow := by
  induction n generalizing idx give s with
  | zero => exact .refl s _
  | succ n ih =>
    unfold deleteClove
    split
    · exact updLine_only i idx _ s
    · extract_lets c u fmt v
      have hu : s.changesOnly u Fld.flow := removeClove_only i idx reason give s
      have hv : s.changesOnly v Fld.flow := hu.trans (ite_only (ih _ true u) (.refl u _))
      have hm := (mappingEnds_only i c v).mono (gs := Fld.flow) (by decide)
      exact ite_only (ite_only (hu.trans (unrefMapping_only i _ _ u)) hu)
        (ite_only (ite_only (hu.trans (ih _ true u)) hu) (ite_only (ite_only hv (hv.trans hm)) hu))

theorem endClove_only (i idx reason : Nat) (s : State) : s.changesOnly (endClove i idx reason s) Fld.flow :=
  ite_only (deleteClove_only 3 i idx reason true s) (.refl s _)

/-! ### The end of a clove that the cache does not hold (R231) -/

/-- The state in which a clove has left its slot, its line, its VALID and the counts of its partition. -/
def cloveLeft (i idx : Nat) (s : State) : State :=
  let c := s.cloveNow i idx
  let u := dropLine i idx (clearSlot (cvDirSlot c) idx s)
  updPart i (fun p => { p with used := p.used - 1, pinned := p.pinned - b2n (cvPinned c) })
    { u with clove := u.clove.set idx (datPutB c 48 0 1 0) }

theorem cloveLeft_only (i idx : Nat) (s : State) : s.changesOnly (cloveLeft i idx s) [.part, .dir, .clove] :=
  (clearSlot_only _ idx s).trans ((updPart_only i _ _).trans ((clove_only _ _).trans (updPart_only i _ _)))

theorem removeClove_eq (i idx reason : Nat) (give : Bool) (s : State) :
    removeClove i idx reason give s =
      (match s.line i idx with | some l => l.fifo.map LockReq.thread | none => []).foldl (fun s t => enterMiss i t s)
        (endRecord i { clove := if reason = 8 then 0 else s.cloveNow i idx, idx := idx, reason := reason, bare := reason == 8,
                       at_ := (cloveLeft i idx s).now }
          (if give then returnIndex i idx (cloveLeft i idx s) else cloveLeft i idx s)) := rfl

section unlined
variable {i idx : Nat} {s : State} (h : s.line i idx = none)
include h

theorem removeClove_unlined (reason : Nat) (give : Bool) :
    removeClove i idx reason give s =
      endRecord i { clove := if reason = 8 then 0 else s.clove.get idx, idx := idx, reason := reason, bare := reason == 8, at_ := s.now }
        (if give then returnIndex i idx (cloveLeft i idx s) else cloveLeft i idx s) := by
  have hn : (cloveLeft i idx s).now = s.now := congrArg Tbe.st (cloveLeft_only i idx s .tbe (by decide))
  rw [removeClove_eq, h, hn, cloveNow_unlined h]
  rfl

theorem cloveLeft_clove : (cloveLeft i idx s).clove = s.clove.set idx (datPutB (s.clove.get idx) 48 0 1 0) := by
  have hd : (clearSlot (cvDirSlot (s.clove.get idx)) idx s).clove = s.clove :=
    clearSlot_only (fs := [.dir]) _ idx s (by decide) .clove (by decide)
  rw [cloveLeft, cloveNow_unlined h, updPart_clove]
  dsimp only
  rw [dropLine, updPart_clove, hd]

/-- Its line was none, so that the partition keeps its lines. -/
theorem cloveLeft_get : (cloveLeft i idx s).part.get i =
    { s.part.get i with used := (s.part.get i).used - 1,
                        pinned := (s.part.get i).pinned - b2n (cvPinned (s.clove.get idx)) } := by
  have hp : (clearSlot (cvDirSlot (s.clove.get idx)) idx s).part = s.part :=
    clearSlot_only (fs := [.dir]) _ idx s (by decide) .part (by decide)
  have e : (s.part.get i).lines.filter (fun l => l.idx != idx) = (s.part.get i).lines :=
    List.filter_eq_self.mpr (lines_ne_of_unlined h)
  have hl : (dropLine i idx (clearSlot (cvDirSlot (s.clove.get idx)) idx s)).part.get i = s.part.get i := by
    rw [dropLine, updPart_get, hp, e]
  rw [cloveLeft, cloveNow_unlined h, updPart_get]
  exact congrArg (fun p : Part => { p with used := p.used - 1, pinned := p.pinned - b2n (cvPinned (s.clove.get idx)) }) hl

theorem cloveLeft_dir : (cloveLeft i idx s).dir = (clearSlot (cvDirSlot (s.clove.get idx)) idx s).dir := by
  rw [cloveLeft, cloveNow_unlined h]
  rfl

/-- What happens after the clove has left touches its partition, and the log and counts alone. -/
theorem removeClove_unlined_rest (reason : Nat) (give : Bool) :
    (cloveLeft i idx s).changesOnly (removeClove i idx reason give s) (Fld.events ++ [.part]) := by
  rw [removeClove_unlined h]
  exact .trans (ite_only (returnIndex_only i idx _) (.refl _ _)) (endRecord_only i _ _)

theorem removeClove_unlined_clove (reason : Nat) (give : Bool) :
    (removeClove i idx reason give s).clove = s.clove.set idx (datPutB (s.clove.get idx) 48 0 1 0) :=
  (removeClove_unlined_rest h reason give .clove (by decide)).trans (cloveLeft_clove h)

theorem removeClove_unlined_dir (reason : Nat) (give : Bool) :
    (removeClove i idx reason give s).dir = (clearSlot (cvDirSlot (s.clove.get idx)) idx s).dir :=
  (removeClove_unlined_rest h reason give .dir (by decide)).trans (cloveLeft_dir h)

/-- A clove of no service that the cache does not hold ends alone (R231, R253). -/
theorem deleteClove_plain (hs : datU (s.clove.get idx) 64 1 = 0) {reason : Nat} (hr : reason ≠ 8) (n : Nat) (give : Bool) :
    deleteClove (n + 1) i idx reason give s = removeClove i idx reason give s := by
  unfold deleteClove
  rw [locked_unlined h, cloveNow_unlined h, if_neg (by decide)]
  extract_lets c u fmt v
  have hc : c = s.clove.get idx := if_neg fun k => hr k.1
  have hf : fmt = 0 := (congrArg (datU · 64 1) hc).trans hs
  rw [if_neg (by omega), if_neg (by omega), if_neg (by omega)]

end unlined

theorem returnIndex_get (i k : Nat) (s : State) :
    ∃ a b, (returnIndex i k s).part.get i = { s.part.get i with freeCache := a, freeBits := b } := by
  unfold returnIndex
  split
  · exact ⟨_, _, rfl⟩
  · rw [updPart_get]
    split
    · exact ⟨_, _, rfl⟩
    · exact ⟨_, _, rfl⟩

section plain
variable {i idx reason : Nat} {s : State} (h : s.line i idx = none) (hr : reason ≠ 8) (hq : (s.part.get i).endq.length < 512)
include h hr hq

/-- Such an end joins the queue of end records, and changes otherwise the partition's counts and its free indices. -/
theorem removeClove_unlined_get (give : Bool) : ∃ a b n k, (removeClove i idx reason give s).part.get i =
    { s.part.get i with freeCache := a, freeBits := b, used := n, pinned := k,
                        endq := (s.part.get i).endq ++ [{ clove := s.clove.get idx, idx := idx, reason := reason, at_ := s.now }] } ∧
      (give = false → a = (s.part.get i).freeCache) := by
  have hl := cloveLeft_get h
  have hb : (reason == 8) = false := by simpa using hr
  rw [removeClove_unlined h, if_neg hr, hb]
  cases give with
  | false =>
    rw [if_neg Bool.false_ne_true, endRecord_joins (by rw [hl]; exact hq), updPart_get, hl]
    exact ⟨_, _, _, _, rfl, fun _ => rfl⟩
  | true =>
    obtain ⟨a, b, e⟩ := returnIndex_get i idx (cloveLeft i idx s)
    rw [hl] at e
    rw [if_pos rfl, endRecord_joins (by rw [e]; exact hq), updPart_get, e]
    exact ⟨_, _, _, _, rfl, fun k => Bool.noConfusion k⟩

end plain

end Sys2Proof.Machine

namespace Sys2Proof.Machine

/-! ## Upkeep of the cloves (R216, R228 to R233, R253, R552) -/

/-! ### Free indices (R552) -/

theorem exec_freeIndexRefill {i : Nat} {s : State} (ue : Bool) (h : s.running) (hm : s.moves = true) (hi : i < 4)
    (hr : runsLen (s.part.get i).freeCache + 512 ≤ 4096) (hn : s.cloves i % 512 = 0)
    (hp : (s.part.get i).refillPos % 512 = 0) (hl : (s.part.get i).refillPos < s.cloves i) :
    exec (.freeIndexRefill i ue) s = .next
      { s.fresh with
        part := s.part.set i { s.part.get i with
          freeBits := runsCut (s.part.get i).freeBits (s.cloveBase i + (s.part.get i).refillPos)
            (s.cloveBase i + (s.part.get i).refillPos + 512),
          refillPos := ((s.part.get i).refillPos + 512) % s.cloves i,
          freeCache := if ue then (s.part.get i).freeCache else (s.part.get i).freeCache ++
            runsIn (s.part.get i).freeBits (s.cloveBase i + (s.part.get i).refillPos)
              (s.cloveBase i + (s.part.get i).refillPos + 512) } } := by
  have hmode : s.md.mode ≠ .load ∧ s.md.mode ≠ .lockdown := by simpa [State.moves] using hm
  have h1 : max 1 (s.cloves i) = s.cloves i := by omega
  have h2 : (s.part.get i).refillPos % s.cloves i = (s.part.get i).refillPos := Nat.mod_eq_of_lt hl
  have h3 : min (s.cloveBase i + (s.part.get i).refillPos + 512) (s.cloveBase i + s.cloves i) =
      s.cloveBase i + (s.part.get i).refillPos + 512 := by omega
  have h4 : s.cloveBase i + (s.part.get i).refillPos + 512 - s.cloveBase i = (s.part.get i).refillPos + 512 := by omega
  have e : doFreeIndexRefill i ue s.fresh = updPart i (fun p =>
      { p with freeBits := runsCut p.freeBits (s.cloveBase i + (s.part.get i).refillPos) (s.cloveBase i + (s.part.get i).refillPos + 512),
               refillPos := ((s.part.get i).refillPos + 512) % s.cloves i,
               freeCache := if ue then p.freeCache else p.freeCache ++ runsIn (s.part.get i).freeBits
                 (s.cloveBase i + (s.part.get i).refillPos) (s.cloveBase i + (s.part.get i).refillPos + 512) }) s.fresh := by
    have hb : s.fresh.cloveBase i = s.cloveBase i := rfl
    have hc : s.fresh.cloves i = s.cloves i := rfl
    unfold doFreeIndexRefill
    rw [hb, hc, fresh_part, if_neg (Nat.not_lt.mpr hr)]
    dsimp only
    rw [h1, h2, h3, h4]
  exact coreCmd_running_answers h ((if_pos ⟨hi, hmode⟩).trans e) (part_only (fs := [.part]) s.fresh _)

/-! ### The ageing scanner (R229, R230, R232, R550) -/

/-- The instant of the scanner's next visit in partition i, the clove at its place, and the state in which it has come there. -/
def State.visitDue (s : State) (i : Nat) : Nat :=
  paceDue (s.regF (Reg.FSE_PART_CFG i) 31 16 * 1000000000) (s.cloves i) (s.part.get i).sweep (s.part.get i).visitAt

def State.visitIdx (s : State) (i : Nat) : Nat := s.cloveBase i + (s.part.get i).sweep

def cloveVisited (i : Nat) (s : State) : State :=
  updPart i (fun p => { p with sweep := ((s.part.get i).sweep + 1) % max 1 (s.cloves i), visitAt := s.visitDue i }) (runTo (s.visitDue i) s)

/-- Quanta of age since a clove's AGE, and ms since CREATED, however a stamp that lies ahead is taken. -/
def State.idleFor (s : State) (c : Clove) : Nat := (s.ageStamp + 65536 - cvAge c) % 65536
def State.livedFor (s : State) (c : Clove) : Nat := (s.ms + 2 ^ 32 - cvCreated c) % 2 ^ 32

theorem cloveVisited_only (i : Nat) (s : State) : (runTo (s.visitDue i) s).changesOnly (cloveVisited i s) [.part] := updPart_only i _ _

theorem cloveVisited_all (i : Nat) (s : State) : s.changesOnly (cloveVisited i s) [.part, .tbe] :=
  (runTo_only _ s).trans ((cloveVisited_only i s).mono (by decide))

theorem cloveVisited_get (i : Nat) (s : State) : (cloveVisited i s).part.get i =
    { s.part.get i with sweep := ((s.part.get i).sweep + 1) % max 1 (s.cloves i), visitAt := s.visitDue i } := updPart_get _ _ _

theorem cloveVisited_line (i : Nat) (s : State) (idx : Nat) : (cloveVisited i s).line i idx = s.line i idx :=
  line_congr (by rw [cloveVisited_get]) idx

theorem cloveVisited_cloveBad (i idx : Nat) (s : State) : (cloveVisited i s).cloveBad i idx = s.cloveBad i idx := by
  have h : (cloveVisited i s).hbmBad = s.hbmBad := rfl
  unfold State.cloveBad
  rw [h, cloveVisited_get]

theorem cloveVisited_readFails (i idx : Nat) (ue : Bool) (s : State) : (cloveVisited i s).readFails i idx ue = s.readFails i idx ue := by
  unfold State.readFails
  rw [cloveVisited_line, cloveVisited_cloveBad]

/-- What the scanner does with the clove at a place that it can read (R229 to R232). -/
def cloveJudged (i idx : Nat) (s : State) : State :=
  let c := s.clove.get idx
  let d := cvDirSlot c
  if !(s.dir.get (d / 8)).slots.any (fun x => x.slot == d % 8 && x.idx == idx) then endClove i idx 7 s
  else
    let prof := s.profile (cvProfile c)
    let cur := s.cloveNow i idx
    let same := cvValid cur && cvGen cur == cvGen c
    let q := s.ageStamp
    let a := (q + 65536 - cvAge c) % 65536
    let l := (s.ms + 2 ^ 32 - cvCreated c) % 2 ^ 32
    let at_ := flowAttr i 4 idx
    let cond := same && cvAge cur == cvAge c
    let s := if 2 ^ 31 ≤ l then
        (if cond && !s.locked i idx then
          countA at_ (Cnt.FSE_AGE_FUTURE i) 1 (updClove i idx (fun c => datPut c 56 4 s.ms) s) else s)
      else s
    if 32768 ≤ a then
      (if cond && !s.locked i idx then
        countA at_ (Cnt.FSE_AGE_FUTURE i) 1 (updClove i idx (fun c => datPut c 54 2 q) s) else s)
    else if datU prof 4 2 ≠ 0 ∧ datU prof 4 2 < a then ageDelete i idx 1 (Cnt.FSE_AGE_IDLE i) cond s
    else if datU prof 6 2 ≠ 0 ∧ datU prof 6 2 * 1000 ≤ l ∧ l < 2 ^ 31 then
      ageDelete i idx 2 (Cnt.FSE_AGE_LIFETIME i) same s
    else s

theorem doFseAgeVisit_eq (i : Nat) (ue : Bool) (s : State) : doFseAgeVisit i ue s =
    if !s.scanRuns then s
    else if (cloveVisited i s).readFails i (s.visitIdx i) ue then loseClove i (s.visitIdx i) none (cloveVisited i s)
    else if ue || (cloveVisited i s).cloveBad i (s.visitIdx i) || !cvValid ((cloveVisited i s).clove.get (s.visitIdx i)) then
      cloveVisited i s
    else cloveJudged i (s.visitIdx i) (cloveVisited i s) := by
  unfold doFseAgeVisit cloveJudged
  rfl

section visit
variable {i idx : Nat} {s : State}

theorem doFseAgeVisit_lost {ue : Bool} (hr : s.scanRuns = true) (hf : s.readFails i (s.visitIdx i) ue = true) :
    doFseAgeVisit i ue s = loseClove i (s.visitIdx i) none (cloveVisited i s) := by
  rw [doFseAgeVisit_eq, hr, cloveVisited_readFails, hf, if_neg (by decide), if_pos rfl]

theorem doFseAgeVisit_empty (hr : s.scanRuns = true) (hf : s.readFails i (s.visitIdx i) false = false)
    (hv : cvValid (s.clove.get (s.visitIdx i)) = false) : doFseAgeVisit i false s = cloveVisited i s := by
  have hc : (cloveVisited i s).clove = s.clove := cloveVisited_all i s .clove (by decide)
  rw [doFseAgeVisit_eq, hr, cloveVisited_readFails, hf, hc, hv, if_neg (by decide), if_neg (by decide), Bool.not_false, Bool.or_true,
    if_pos rfl]

theorem doFseAgeVisit_judges (hr : s.scanRuns = true) (hb : s.cloveBad i (s.visitIdx i) = false)
    (hv : cvValid (s.clove.get (s.visitIdx i)) = true) :
    doFseAgeVisit i false s = cloveJudged i (s.visitIdx i) (cloveVisited i s) := by
  have hc : (cloveVisited i s).clove = s.clove := cloveVisited_all i s .clove (by decide)
  rw [doFseAgeVisit_eq, hr, cloveVisited_readFails, readFails_sound hb, cloveVisited_cloveBad, hb, hc, hv, if_neg (by decide),
    if_neg (by decide), if_neg (by decide)]

/-- The clove at a place that it can be read from stands only in HBM, and its directory slot names it; its CREATED does not lie ahead. -/
structure CloveKept (i idx : Nat) (s : State) : Prop where
  unlined : s.line i idx = none
  valid : cvValid (s.clove.get idx) = true
  named : ((s.dir.get (cvDirSlot (s.clove.get idx) / 8)).slots.any
    (fun x => x.slot == cvDirSlot (s.clove.get idx) % 8 && x.idx == idx)) = true
  created : (s.ms + 2 ^ 32 - cvCreated (s.clove.get idx)) % 2 ^ 32 < 2 ^ 31

/-- Such a clove is judged by its idle time and its life alone. -/
theorem cloveJudged_kept (h : CloveKept i idx s) : cloveJudged i idx s =
    if 32768 ≤ s.idleFor (s.clove.get idx) then
      countA (flowAttr i 4 idx) (Cnt.FSE_AGE_FUTURE i) 1 { s with clove := s.clove.set idx (datPut (s.clove.get idx) 54 2 s.ageStamp) }
    else if datU (s.profile (cvProfile (s.clove.get idx))) 4 2 ≠ 0 ∧
        datU (s.profile (cvProfile (s.clove.get idx))) 4 2 < s.idleFor (s.clove.get idx) then
      ageDelete i idx 1 (Cnt.FSE_AGE_IDLE i) true s
    else if datU (s.profile (cvProfile (s.clove.get idx))) 6 2 ≠ 0 ∧
        datU (s.profile (cvProfile (s.clove.get idx))) 6 2 * 1000 ≤ s.livedFor (s.clove.get idx) then
      ageDelete i idx 2 (Cnt.FSE_AGE_LIFETIME i) true s
    else s := by
  unfold cloveJudged
  extract_lets c d prof cur same q a l at_ cond w
  rw [h.named, if_neg (by decide)]
  have hcur : cur = c := cloveNow_unlined h.unlined
  have hsame : same = true := by simp [same, hcur, c, h.valid]
  have hcond : cond = true := by simp [cond, hsame, hcur]
  have hw : w = s := if_neg (Nat.not_le.mpr h.created)
  have hl : l < 2 ^ 31 := h.created
  clear_value same cond w
  subst hsame hcond hw
  rw [locked_unlined h.unlined, updClove_unlined h.unlined, if_pos (show (true && !false) = true by decide)]
  simp only [hl, and_true]
  rfl

/-- A clove past its idle time ends with reason IDLE, and one within it but past its life with reason LIFETIME. -/
theorem cloveJudged_ends (h : CloveKept i idx s) (ha : s.idleFor (s.clove.get idx) < 32768) {reason : Nat}
    (hw : if datU (s.profile (cvProfile (s.clove.get idx))) 4 2 ≠ 0 ∧
        datU (s.profile (cvProfile (s.clove.get idx))) 4 2 < s.idleFor (s.clove.get idx) then reason = 1
      else datU (s.profile (cvProfile (s.clove.get idx))) 6 2 ≠ 0 ∧
        datU (s.profile (cvProfile (s.clove.get idx))) 6 2 * 1000 ≤ s.livedFor (s.clove.get idx) ∧ reason = 2) :
    ∃ cnt, reason ≠ 8 ∧ cloveJudged i idx s = ageDelete i idx reason cnt true s := by
  rw [cloveJudged_kept h, if_neg (Nat.not_le.mpr ha)]
  split at hw
  · next hi =>
    subst hw
    exact ⟨_, by decide, if_pos hi⟩
  · next hi =>
    obtain ⟨hl, hm, rfl⟩ := hw
    exact ⟨_, by decide, (if_neg hi).trans (if_pos ⟨hl, hm⟩)⟩

/-- The lookups that an ageing delete makes learns of know that it raced with them (R231, R238). -/
def lookupsRaced (ts : List Nat) (s : State) : State := ts.foldl (fun s t => updTh t (fun h => { h with raced := true }) s) s

theorem lookupsRaced_only (ts : List Nat) (s : State) : s.changesOnly (lookupsRaced ts s) [.eng] :=
  foldl_only (fun u t => updTh_only t _ u) ts s

/-- The ageing delete of a clove of no service is admitted, and ends the clove alone (R231, R254). -/
theorem ageDelete_ends (h : CloveKept i idx s) (hs : datU (s.clove.get idx) 64 1 = 0) {reason : Nat} (hr : reason ≠ 8) (cnt : Nat) :
    ageDelete i idx reason cnt true s =
      lookupsRaced (s.agedLookups i idx) (countA (flowAttr i 4 idx) cnt 1 (removeClove i idx reason true s)) := by
  have ha : ageAdmits (s.clove.get idx) = true := by unfold ageAdmits; rw [hs]; rfl
  have he : endClove i idx reason s = removeClove i idx reason true s := by
    unfold endClove
    rw [cloveNow_unlined h.unlined, if_pos h.valid, deleteClove_plain h.unlined hs hr]
  unfold ageDelete
  rw [locked_unlined h.unlined, cloveNow_unlined h.unlined, he]
  dsimp only
  rw [ha]
  rfl

/-- What such a delete leaves of the clove, its slot and the queue of end records. -/
theorem ageDelete_kept (h : CloveKept i idx s) (hs : datU (s.clove.get idx) 64 1 = 0) {reason : Nat} (hr : reason ≠ 8)
    (hq : (s.part.get i).endq.length < 512) (cnt : Nat) :
    (ageDelete i idx reason cnt true s).clove = s.clove.set idx (datPutB (s.clove.get idx) 48 0 1 0) ∧
      ((ageDelete i idx reason cnt true s).part.get i).endq =
        (s.part.get i).endq ++ [{ clove := s.clove.get idx, idx := idx, reason := reason, at_ := s.now }] ∧
      (ageDelete i idx reason cnt true s).dir = s.dir.upd (cvDirSlot (s.clove.get idx) / 8) (fun d =>
        { d with version := (d.version + 1) % 2 ^ 32,
                 slots := d.slots.filter (fun x => x.slot != cvDirSlot (s.clove.get idx) % 8) }) ∧
      s.changesOnly (ageDelete i idx reason cnt true s) Fld.flow := by
  have hrest : (removeClove i idx reason true s).changesOnly (ageDelete i idx reason cnt true s) [.cnt, .eng] := by
    rw [ageDelete_ends h hs hr]
    exact ((countA_cnt_only _ _ _ _).mono (by decide)).trans ((lookupsRaced_only _ _).mono (by decide))
  have hpart := hrest .part (by decide)
  obtain ⟨a, b, n, k, hg, -⟩ := removeClove_unlined_get h.unlined hr hq true
  refine ⟨(hrest .clove (by decide)).trans (removeClove_unlined_clove h.unlined reason true), ?_, ?_,
    (removeClove_only i idx reason true s).trans (hrest.mono (by decide))⟩
  · exact (congrArg (fun m => (m.get i).endq) hpart).trans (by rw [hg])
  · exact ((hrest .dir (by decide)).trans (removeClove_unlined_dir h.unlined reason true)).trans
      (congrArg State.dir (clearSlot_names h.named))

end visit

/-! ### FSE_AGE_VISIT -/

section commands
variable {i : Nat} {s : State} (h : s.running) (hi : i < 4) (hr : s.scanRuns = true)
include h hi hr

theorem exec_fseAgeVisit_empty (hv : cvValid (s.clove.get (s.visitIdx i)) = false) (hf : s.readFails i (s.visitIdx i) false = false) :
    exec (.fseAgeVisit i false) s = .next (cloveVisited i s.fresh) :=
  partCmd_answers h hi (doFseAgeVisit_empty (s := s.fresh) hr ((fresh_readFails _ _ _ _).trans hf) hv) (cloveVisited_all i s.fresh)

theorem exec_fseAgeVisit_lost {ue : Bool} (hf : s.readFails i (s.visitIdx i) ue = true) :
    ∃ t, exec (.fseAgeVisit i ue) s = .next t ∧ t.clove = s.clove.set (s.visitIdx i) 0 ∧
      (t.part.get i).freeCache = runsCut (s.part.get i).freeCache (s.visitIdx i) (s.visitIdx i + 1) ∧
      (runTo (s.visitDue i) s.fresh).changesOnly t (Fld.events ++ [.part, .dir, .clove]) := by
  have hl := loseClove_only i (s.visitIdx i) none (cloveVisited i s.fresh)
  have hv := cloveVisited_only i s.fresh
  obtain ⟨n, k, q, hg⟩ := loseClove_get i (s.visitIdx i) none (cloveVisited i s.fresh)
  have hall : s.fresh.changesOnly (loseClove i (s.visitIdx i) none (cloveVisited i s.fresh)) (Fld.events ++ [.part, .dir, .clove, .tbe]) :=
    .trans ((cloveVisited_all i s.fresh).mono (by decide)) (hl.mono (by decide))
  refine ⟨_, partCmd_answers h hi (doFseAgeVisit_lost (s := s.fresh) hr ((fresh_readFails _ _ _ _).trans hf)) hall,
    loseClove_clove _ _ _ _, ?_, (hv.mono (by decide)).trans (hl.mono (by decide))⟩
  exact (congrArg Part.freeCache hg).trans (by rw [cloveVisited_get]; rfl)

theorem exec_fseAgeVisit_judges (hb : s.cloveBad i (s.visitIdx i) = false) (hv : cvValid (s.clove.get (s.visitIdx i)) = true) {t : State}
    (e : cloveJudged i (s.visitIdx i) (cloveVisited i s.fresh) = t) (ht : (cloveVisited i s.fresh).changesOnly t Fld.flow) :
    exec (.fseAgeVisit i false) s = .next t :=
  partCmd_answers h hi ((doFseAgeVisit_judges (s := s.fresh) hr ((fresh_cloveBad _ _ _).trans hb) hv).trans e)
    (fs := .tbe :: Fld.flow) (((cloveVisited_all i s.fresh).mono (by decide)).trans (ht.mono (by decide)))

/-- A clove whose idle time or life its profile does not allow ends (R230, R231). -/
theorem exec_fseAgeVisit_ends {c : Clove} {u : State} {reason : Nat} (hu : u = runTo (s.visitDue i) s.fresh)
    (hc : c = s.clove.get (s.visitIdx i)) (hb : s.cloveBad i (s.visitIdx i) = false)
    (hk : CloveKept i (s.visitIdx i) (cloveVisited i s.fresh))
    (hs : datU c 64 1 = 0) (ha : u.idleFor c < 32768)
    (hw : if datU (s.profile (cvProfile c)) 4 2 ≠ 0 ∧ datU (s.profile (cvProfile c)) 4 2 < u.idleFor c then reason = 1
      else datU (s.profile (cvProfile c)) 6 2 ≠ 0 ∧ datU (s.profile (cvProfile c)) 6 2 * 1000 ≤ u.livedFor c ∧ reason = 2)
    (hq : (s.part.get i).endq.length < 512) :
    ∃ t, exec (.fseAgeVisit i false) s = .next t ∧ t.clove = s.clove.set (s.visitIdx i) (datPutB c 48 0 1 0) ∧
      (t.part.get i).endq = (s.part.get i).endq ++ [{ clove := c, idx := s.visitIdx i, reason := reason, at_ := u.now }] ∧
      t.dir = s.dir.upd (cvDirSlot c / 8) (fun d =>
        { d with version := (d.version + 1) % 2 ^ 32, slots := d.slots.filter (fun x => x.slot != cvDirSlot c % 8) }) ∧
      u.changesOnly t Fld.flow := by
  subst hu hc
  have hv := cloveVisited_only i s.fresh
  have hg := cloveVisited_get i s.fresh
  obtain ⟨cnt, hr8, e⟩ := cloveJudged_ends hk ha hw
  obtain ⟨d1, d2, d3, d4⟩ := ageDelete_kept hk hs hr8 (by rw [hg]; exact hq) cnt
  rw [hg] at d2
  exact ⟨_, exec_fseAgeVisit_judges h hi hr hb hk.valid e d4, d1, d2, d3, (hv.mono (by decide)).trans d4⟩

/-- A stamp that lies ahead takes the current one, and the clove stays (R550). -/
theorem exec_fseAgeVisit_ahead {c : Clove} {u : State} (hu : u = runTo (s.visitDue i) s.fresh)
    (hc : c = s.clove.get (s.visitIdx i)) (hb : s.cloveBad i (s.visitIdx i) = false)
    (hk : CloveKept i (s.visitIdx i) (cloveVisited i s.fresh))
    (ha : 32768 ≤ u.idleFor c) :
    ∃ t, exec (.fseAgeVisit i false) s = .next t ∧ t.clove = s.clove.set (s.visitIdx i) (datPut c 54 2 u.ageStamp) ∧
      t.part = (cloveVisited i s.fresh).part ∧ u.changesOnly t [.part, .clove, .cnt] := by
  subst hu hc
  have hv := cloveVisited_only i s.fresh
  have e : cloveJudged i (s.visitIdx i) (cloveVisited i s.fresh) =
      countA (flowAttr i 4 (s.visitIdx i)) (Cnt.FSE_AGE_FUTURE i) 1 { cloveVisited i s.fresh with
        clove := s.clove.set (s.visitIdx i) (datPut (s.clove.get (s.visitIdx i)) 54 2 (runTo (s.visitDue i) s.fresh).ageStamp) } :=
    (cloveJudged_kept hk).trans (if_pos ha)
  generalize s.clove.set (s.visitIdx i) (datPut (s.clove.get (s.visitIdx i)) 54 2 (runTo (s.visitDue i) s.fresh).ageStamp) = d at e ⊢
  have hcnt := countA_cnt_only (flowAttr i 4 (s.visitIdx i)) (Cnt.FSE_AGE_FUTURE i) 1 { cloveVisited i s.fresh with clove := d }
  have hall := (clove_only d (cloveVisited i s.fresh)).trans (fs := [.part, .clove, .cnt]) (hcnt.mono (by decide))
  exact ⟨_, exec_fseAgeVisit_judges h hi hr hb hk.valid e (hall.mono (by decide)), hcnt .clove (by decide), hcnt .part (by decide),
    (hv.mono (by decide)).trans hall⟩

end commands

/-! ### Poison marks (R216) -/

section marks
variable {i idx gen : Nat} {rest : List (Nat × Nat)} {s : State} (hm : (s.part.get i).marks = (idx, gen) :: rest)

/-- The mark has been taken and counted. -/
def markTaken (i : Nat) (rest : List (Nat × Nat)) (s : State) : State :=
  count (Cnt.FSE_POISON_MARK i) (updPart i (fun p => { p with marks := rest }) s)

theorem markTaken_cnt (i : Nat) (rest : List (Nat × Nat)) (s : State) :
    (updPart i (fun p => { p with marks := rest }) s).changesOnly (markTaken i rest s) [.cnt] := count_cnt_only _ _

theorem markTaken_only (i : Nat) (rest : List (Nat × Nat)) (s : State) : s.changesOnly (markTaken i rest s) [.part, .cnt] :=
  (updPart_only i _ s).trans ((markTaken_cnt i rest s).mono (by decide))

theorem markTaken_lines (i : Nat) (rest : List (Nat × Nat)) (s : State) : ((markTaken i rest s).part.get i).lines = (s.part.get i).lines :=
  (congrArg (fun m => (m.get i).lines) (markTaken_cnt i rest s .part (by decide))).trans (by rw [updPart_get])

include hm

theorem doPoisonMark_eq : doPoisonMark i s =
    if s.cloveIs i idx gen then
      updClove i idx (fun c => datPut c 124 2 (min 0xFFFF (datU c 124 2 + 1))) (markTaken i rest s)
    else markTaken i rest s := by
  have hc : (markTaken i rest s).cloveIs i idx gen = s.cloveIs i idx gen :=
    cloveIs_congr (markTaken_only i rest s .regs (by decide)) (markTaken_lines i rest s) (markTaken_only i rest s .clove (by decide)) _ _
  unfold doPoisonMark
  rw [hm, ← hc]
  rfl

end marks

theorem exec_poisonMark_adds {i idx gen : Nat} {rest : List (Nat × Nat)} {s : State} (h : s.running) (hi : i < 4)
    (hm : (s.part.get i).marks = (idx, gen) :: rest) (hc : s.cloveIs i idx gen = true) (hl : s.line i idx = none) :
    ∃ t, exec (.poisonMark i) s = .next t ∧
      t.clove = s.clove.set idx (datPut (s.clove.get idx) 124 2 (min 0xFFFF (datU (s.clove.get idx) 124 2 + 1))) ∧
      t.part = s.part.set i { s.part.get i with marks := rest } ∧ s.fresh.changesOnly t (Fld.events ++ [.part, .dir, .clove, .svc]) := by
  have hk := markTaken_only i rest s.fresh
  have hl' : (markTaken i rest s.fresh).line i idx = none := (line_congr (markTaken_lines i rest s.fresh) idx).trans hl
  have hcl : (markTaken i rest s.fresh).clove = s.clove := hk .clove (by decide)
  have e : doPoisonMark i s.fresh = { markTaken i rest s.fresh with
      clove := s.clove.set idx (datPut (s.clove.get idx) 124 2 (min 0xFFFF (datU (s.clove.get idx) 124 2 + 1))) } := by
    rw [doPoisonMark_eq (s := s.fresh) hm, show s.fresh.cloveIs i idx gen = true from hc, if_pos rfl, updClove_unlined hl', hcl]
  generalize s.clove.set idx (datPut (s.clove.get idx) 124 2 (min 0xFFFF (datU (s.clove.get idx) 124 2 + 1))) = d at e ⊢
  have hall := hk.trans (fs := [.part, .cnt]) (.refl _ _) |>.mono (gs := [.part, .cnt, .clove]) (by decide) |>.trans (clove_only d _)
  exact ⟨_, partCmd_answers h hi e hall, rfl, markTaken_cnt i rest s.fresh .part (by decide), hall.mono (by decide)⟩

/-- A mark whose clove is gone is only counted. -/
theorem exec_poisonMark_stale {i idx gen : Nat} {rest : List (Nat × Nat)} {s : State} (h : s.running) (hi : i < 4)
    (hm : (s.part.get i).marks = (idx, gen) :: rest) (hc : s.cloveIs i idx gen = false) :
    exec (.poisonMark i) s = .next (markTaken i rest s.fresh) :=
  partCmd_answers h hi ((doPoisonMark_eq (s := s.fresh) hm).trans (if_neg fun k => Bool.noConfusion (hc.symm.trans k)))
    (markTaken_only i rest s.fresh)

/-! ### Stalled releases of blocks (R253, R280) -/

theorem blockAddr_congr {s u : State} (hr : u.regs = s.regs) (ht : u.topo = s.topo) (i b : Nat) :
    u.blockAddr i b = s.blockAddr i b ∧ u.blockPort i b = s.blockPort i b ∧ u.blockLog i = s.blockLog i := by
  simp only [State.blockAddr, State.blockPort, State.natFirst, State.bpa, State.blockLog, State.regF, State.reg, hr, ht, and_self]

/-- The record of a block's release (R253, R280). -/
def State.releaseRec (s : State) (i b : Nat) : NatRec :=
  { event := 17, v6 := (s.natBlock i b).nat64, zone := (s.natBlock i b).zone, saddr := (s.natBlock i b).saddr, pubAddr := s.blockAddr i b,
    portLo := s.blockPort i b, portHi := s.blockPort i b + 2 ^ s.blockLog i - 1, exporter := (s.natBlock i b).exporter, at_ := s.now }

/-- A block's release changes the block and enters its record, and nothing else of the partition's services. -/
theorem releaseBlock_svc (i b sub g : Nat) (s : State) : ∃ k, (releaseBlock i b sub g s).svc.part.get i =
    { s.svc.part.get i with blocks := k, natq := (s.svc.part.get i).natq ++ [s.releaseRec i b] } := by
  unfold releaseBlock
  extract_lets k lo u v
  have hv : u.changesOnly v [.part, .clove] := ite_only (updClove_only i sub _ u) (.refl u _)
  have hsv : v.svc = u.svc := hv .svc (by decide)
  have hc : (count (Cnt.FSE_NAT_BLOCK_RELEASE i) v).svc = v.svc := count_cnt_only (fs := [.cnt]) _ v (by decide) .svc (by decide)
  obtain ⟨ha, -, hb⟩ := blockAddr_congr (hv .regs (by decide)) (hv .topo (by decide)) i b
  have hn : v.now = u.now := congrArg Tbe.st (hv .tbe (by decide))
  rw [natLog, updSvc_get_self, hc, hsv, ha, hb, hn]
  exact ⟨_, congrArg (fun p : SvcPart => { p with natq := p.natq ++ [s.releaseRec i b] }) (updSvc_get_self i _ s)⟩

theorem exec_blockRelease {i : Nat} {w : RelWait} {rest : List RelWait} {s : State} (h : s.running) (hi : i < 4)
    (hw : (s.svc.part.get i).relWait = w :: rest) (hq : (s.svc.part.get i).natq.length < 1024)
    (ha : (s.natBlock i w.block).allocated = true) (hu : (s.natBlock i w.block).used = 0) :
    ∃ t, exec (.blockRelease i) s = .next t ∧ (t.svc.part.get i).relWait = rest ∧
      (t.svc.part.get i).natq = (s.svc.part.get i).natq ++ [s.releaseRec i w.block] ∧
      s.fresh.changesOnly t (Fld.events ++ [.part, .dir, .clove, .svc]) := by
  set v := updSvc i (fun p => { p with relWait := rest }) s.fresh with hv
  have hg : v.svc.part.get i = { s.svc.part.get i with relWait := rest } := updSvc_get_self _ _ _
  have hk : v.natBlock i w.block = s.natBlock i w.block := congrArg (fun p => p.blocks.get w.block) hg
  have hf : s.fresh.natLogFull i = false := decide_eq_false (Nat.not_le.mpr hq)
  have e : doBlockRelease i s.fresh = releaseBlock i w.block w.sub w.subGen v := by
    unfold doBlockRelease
    rw [show (s.fresh.svc.part.get i).relWait = w :: rest from hw]
    dsimp only
    rw [hf, ← hv, hk, ha, hu, if_neg (by decide), if_pos (by decide)]
  obtain ⟨k, hs⟩ := releaseBlock_svc i w.block w.sub w.subGen v
  have hr : v.releaseRec i w.block = s.releaseRec i w.block := by
    unfold State.releaseRec
    rw [hk]
    rfl
  rw [hg, hr] at hs
  have hall : s.fresh.changesOnly (releaseBlock i w.block w.sub w.subGen v) (Fld.events ++ [.part, .dir, .clove, .svc]) :=
    (updSvc_only i _ s.fresh).trans ((releaseBlock_only _ _ _ _ v).mono (by decide))
  exact ⟨_, partCmd_answers h hi e hall, congrArg SvcPart.relWait hs, congrArg SvcPart.natq hs, hall⟩

/-! ### The withdrawal of a channel that holds no clove (R233, R432) -/

/-- No bucket of the directory names a clove. -/
def State.slotless (s : State) : Prop := ∀ c ∈ s.dir.cells, c.2.slots = []

theorem mem_cells_set {α : Type} [Inhabited α] [DecidableEq α] {m : SMap α} {k : Nat} {v : α} {c : Nat × α}
    (h : c ∈ (m.set k v).cells) : c = (k, v) ∨ c ∈ m.cells := by
  unfold SMap.set at h
  dsimp only at h
  split at h
  · exact .inr (List.mem_of_mem_filter h)
  · exact (mem_smapPut h).imp_right List.mem_of_mem_filter

theorem slotless_updBucket {s : State} (h : s.slotless) (b : Nat) (gone : Bool) :
    (updBucket b (fun d => { d with slots := [], gone := gone }) s).slotless := fun c hc =>
  (mem_cells_set hc).elim (fun e => by rw [e]) (h c)

/-- A partition without cloves only takes the channel out of its free indices, its directory cache and its buckets. -/
theorem withdrawPart_slotless {s : State} (h : s.slotless) (pc i : Nat) :
    (withdrawPart pc i s).1 = 0 ∧ (withdrawPart pc i s).2.slotless ∧ s.changesOnly (withdrawPart pc i s).2 [.part, .dir] ∧
      ∀ j, ((withdrawPart pc i s).2.part.get j).withdrawn =
        if j = i then pc :: (s.part.get i).withdrawn else (s.part.get j).withdrawn := by
  unfold withdrawPart
  extract_lets lo hi ds n u cut spare v bs
  have hd : ∀ d ∈ ds, d.2 = [] := by
    intro d hd
    obtain ⟨c, hc, rfl⟩ := List.mem_map.mp hd
    rw [h c (SMap.mem_pairsIn.mp hc).1]
    rfl
  have hn : n = 0 := List.sum_eq_zero fun k hk => by
    obtain ⟨d, hm, rfl⟩ := List.mem_map.mp hk
    rw [hd d hm]
    rfl
  have hu : u = s := List.foldlRecOn (motive := fun w => w = s) ds _ rfl fun w hw d hm => by rw [hd d hm, hw]; rfl
  have hv : v.slotless ∧ s.changesOnly v [.part] ∧ ∀ j, (v.part.get j).withdrawn =
      if j = i then pc :: (s.part.get i).withdrawn else (s.part.get j).withdrawn := by
    clear_value u
    subst hu
    refine ⟨h, updPart_only i _ u, fun j => ?_⟩
    split
    · next e => rw [e, updPart_get]
    · next e => rw [updPart_get_ne _ _ e]
  obtain ⟨h1, h2, h3⟩ := hv
  have hb := List.foldlRecOn (motive := fun w => w.slotless ∧ v.changesOnly w [.dir]) bs
    (fun s b => updBucket b (fun d => { d with slots := [], gone := !spare }) s) ⟨h1, .refl v _⟩
    fun w hw b _ => ⟨slotless_updBucket hw.1 b _, hw.2.trans (updBucket_only b _ w)⟩
  exact ⟨hn, hb.1, (h2.mono (by decide)).trans (hb.2.mono (by decide)), fun j => by rw [hb.2 .part (by decide)]; exact h3 j⟩

/-- Partitions withdraw the channel one after the other. -/
theorem foldl_withdrawPart {l : List Nat} (hl : l.Nodup) (pc n : Nat) {s : State} (h : s.slotless) :
    (l.foldl (fun r i => let q := withdrawPart pc i r.2; (r.1 + q.1, q.2)) (n, s)).1 = n ∧
      s.changesOnly (l.foldl (fun r i => let q := withdrawPart pc i r.2; (r.1 + q.1, q.2)) (n, s)).2 [.part, .dir] ∧
      ∀ j, ((l.foldl (fun r i => let q := withdrawPart pc i r.2; (r.1 + q.1, q.2)) (n, s)).2.part.get j).withdrawn =
        if j ∈ l then pc :: (s.part.get j).withdrawn else (s.part.get j).withdrawn := by
  induction l generalizing n s with
  | nil => exact ⟨rfl, .refl s _, fun j => rfl⟩
  | cons i l ih =>
    obtain ⟨hi, hl⟩ := List.nodup_cons.mp hl
    obtain ⟨h1, h2, h3, h4⟩ := withdrawPart_slotless h pc i
    obtain ⟨g1, g2, g3⟩ := ih hl (n + (withdrawPart pc i s).1) h2
    refine ⟨g1.trans (by omega), h3.trans g2, fun j => (g3 j).trans ?_⟩
    rw [h4 j]
    by_cases e : j = i
    · subst e; simp [hi]
    · simp [e]

theorem exec_channelWithdrawn {pc : Nat} {s : State} (h : s.running) (hr : s.pcRetired pc = true)
    (hw : (s.part.get 0).withdrawn.contains pc = false) (hd : s.dir = {}) :
    ∃ t, exec (.channelWithdrawn pc) s = .next t ∧
      t.isl.log.get (s.isl.total.toNat % 1024) = recordOf s 8 5 pc pc ∧
      (∀ i < 4, (t.part.get i).withdrawn = pc :: (s.part.get i).withdrawn) ∧
      s.fresh.changesOnly t (Fld.events ++ [.part, .dir, .clove, .svc]) := by
  have hs : s.fresh.slotless := by
    intro c hc
    rw [fresh_dir, hd] at hc
    cases hc
  obtain ⟨h1, h2, h3⟩ := foldl_withdrawPart (List.nodup_range (n := 4)) pc 0 hs
  generalize hq : (List.range 4).foldl (fun r i => let q := withdrawPart pc i r.2; (r.1 + q.1, q.2)) (0, s.fresh) = r at h1 h2 h3
  have e : doChannelWithdrawn pc s.fresh = raise 8 5 pc pc r.2 := by
    unfold doChannelWithdrawn
    rw [show s.fresh.pcRetired pc = true from hr, fresh_part, hw, hq]
    dsimp only
    rw [h1, Nat.zero_min, Nat.mul_zero, Nat.add_zero]
    rfl
  have hR := raise_only r.2 8 5 pc pc (List.Subset.refl Fld.events)
  have hall : s.fresh.changesOnly (raise 8 5 pc pc r.2) (Fld.events ++ [.part, .dir, .clove, .svc]) :=
    (h2.mono (by decide)).trans (hR.mono (by decide))
  refine ⟨_, coreCmd_running_answers (f := doChannelWithdrawn pc) h e hall, ?_, fun i hi => ?_, hall⟩
  · have hi : r.2.isl = s.isl := h2 .isl (by decide)
    rw [← hi]
    exact (raise_raised 8 5 pc pc r.2).2.trans (recordOf_congr (s := s) (h2 .tbe (by decide)) 8 5 pc pc)
  · rw [hR .part (by decide), h3 i, if_pos (List.mem_range.mpr hi)]
    rfl

/-! ### The obligation -/

/-- Settles O42: the refill, the scanner's visit by what it finds at its place, the mark by whether its clove stands, the stalled release,
and the withdrawal from a directory that names no clove. -/
theorem cloveUpkeep : Obligations.CloveUpkeep := by
  refine ⟨?refill, ?empty, ?ends, ?ahead, ?lost, ?marked, ?stale, ?released, ?withdrawn⟩
  case refill => exact fun i ue s h hm hi hr _ hn hp hl => exec_freeIndexRefill ue h hm hi hr hn hp hl
  case empty =>
    rintro i due s h hi hr rfl hv hf
    exact exec_fseAgeVisit_empty h hi hr hv hf
  case ends =>
    rintro i idx due reason u s h hi hr rfl rfl rfl hl hb hv hs hn hc ha hw hq
    exact exec_fseAgeVisit_ends h hi hr rfl rfl hb ⟨(cloveVisited_line i s.fresh _).trans hl, hv, hn, hc⟩ hs ha hw hq
  case ahead =>
    rintro i idx due u s h hi hr rfl rfl rfl hl hb hv hn hc ha
    exact exec_fseAgeVisit_ahead h hi hr rfl rfl hb ⟨(cloveVisited_line i s.fresh _).trans hl, hv, hn, hc⟩ ha
  case lost =>
    rintro i idx due ue u s h hi hr rfl rfl rfl hf
    exact exec_fseAgeVisit_lost h hi hr hf
  case marked => exact fun i idx gen rest s h hi hm hc hl => exec_poisonMark_adds h hi hm hc hl
  case stale => exact fun i idx gen rest s h hi hm hc => exec_poisonMark_stale h hi hm hc
  case released => exact fun i w rest s h hi hw hq ha hu => exec_blockRelease h hi hw hq ha hu
  case withdrawn => exact fun pc s h hr hw hd => exec_channelWithdrawn h hr hw hd

end Sys2Proof.Machine

namespace Sys2Proof.Machine

/-! ## What the flow services may change (R235, R241, R248 to R252, R272) -/

/-! ### Insertion without eviction (R221, R235) -/

theorem takeIndex_only {i idx : Nat} {s t : State} (h : takeIndex i s = some (idx, t)) : s.changesOnly t [.part] := by
  unfold takeIndex at h
  split at h
  · cases h
  · cases h
    exact updPart_only i _ s

theorem nextGen_only (i : Nat) (s : State) {fs : List Fld} (h : Fld.part ∈ fs := by decide) : s.changesOnly (nextGen i s).2 fs :=
  updPart_only i _ s h

/-- The fields that the entry of a clove into a free slot may change. -/
def Fld.placed : List Fld := [.part, .dir, .clove, .svc]

theorem placeClove_only (i b k idx tag gen : Nat) (c : Clove) (s : State) :
    s.changesOnly (placeClove i b k idx tag gen c s) Fld.placed := by
  unfold placeClove
  extract_lets d u
  exact (updBucket_only b _ s).trans ((clove_only _ u).trans ((updSvc_only i _ _).trans (updPart_only i _ _)))

theorem insertClove_only (i : Nat) (c : Clove) (s : State) : s.changesOnly (insertClove i c s).2 Fld.flow := by
  unfold insertClove
  extract_lets key h b
  split
  · exact .refl s _
  · split
    · exact (count_only s _).trans (raiseLim_only _ _ _ _ _ _ _)
    · split
      · next ht =>
        have h1 := takeIndex_only ht
        exact (h1.mono (by decide)).trans ((nextGen_only i _).trans ((placeClove_only _ _ _ _ _ _ _ _).mono (by decide)))
      · exact .refl s _

/-! ### Subscribers and admission (R241, R272) -/

theorem findSubscriber_only (i : Nat) (key : BitVec 384) (sp : Dat) (s : State) : s.changesOnly (findSubscriber i key sp s).2 Fld.flow := by
  unfold findSubscriber
  extract_lets sk svc
  split
  · exact .refl s _
  · have h := insertClove_only i (serviceClove s sk (datU sp 6 1) svc) s
    split <;> next he => rw [he] at h; exact h

theorem admitBucket_only (i sub : Nat) (sp : Dat) (s : State) : s.changesOnly (admitBucket i sub sp s).2 [.part, .clove, .cnt] :=
  (setClove_only i sub _ s).trans (ite_only (.refl _ _) (count_cnt_only _ _))

theorem flowAdmit_only (i : Nat) (key : BitVec 384) (sp : Dat) (s : State) : s.changesOnly (flowAdmit i key sp s).2 Fld.flow := by
  have h := findSubscriber_only i key sp s
  unfold flowAdmit
  split
  · next he => rw [he] at h; exact h
  · next sub u he =>
    rw [he] at h
    split
    · exact h
    · exact h.trans ((admitBucket_only i sub sp u).mono (by decide))

/-! ### MAP (R248 to R252) -/

theorem mapFailRecord_only (i : Nat) (key : BitVec 384) (sp : Dat) (event sub : Nat) (s : State) {fs : List Fld}
    (h : Fld.svc ∈ fs := by decide) : s.changesOnly (mapFailRecord i key sp event sub s) fs := by
  unfold mapFailRecord
  exact ite_only (.refl s _) ((updSvc_only i _ s h).trans (natLog_only i _ _ h))

theorem mapFails_only (i : Nat) (key : BitVec 384) (sp : Dat) (sub r : Nat) (s : State) :
    s.changesOnly (mapFails i key sp sub r s) Fld.flow := by
  unfold mapFails
  split
  · exact (count_only s _).trans (mapFailRecord_only _ _ _ _ _ _)
  · exact (count_only s _).trans ((mapFailRecord_only _ _ _ _ _ _).trans (raiseLim_only _ _ _ _ _ _ _))
  · exact (count_only s _).trans ((mapFailRecord_only _ _ _ _ _ _).trans (raiseLim_only _ _ _ _ _ _ _))
  · exact count_only s _
  · exact count_only s _
  · exact .refl s _

theorem newBlock_only (i sub : Nat) (key : BitVec 384) (sp : Dat) (s : State) : s.changesOnly (newBlock i sub key sp s).2 Fld.flow := by
  unfold newBlock
  extract_lets c hold n start pick zone saddr nat64
  clear_value pick
  split
  · exact .refl s _
  · split
    · exact .refl s _
    · exact (updBlock_only i _ _ s).trans ((setClove_only i sub _ _).trans ((count_only _ _).trans (natLog_only i _ _)))

theorem mapTry_only (i sub b port : Nat) (q : MapReq) (s : State) : s.changesOnly (mapTry i sub b port q s).2 Fld.flow := by
  unfold mapTry
  extract_lets nat64 addr rev
  have h := insertClove_only i (serviceClove s (reverseKey s q addr port) (datU q.sp 5 1) rev) s
  split
  · next he => rw [he] at h; exact h
  · next he => rw [he] at h; exact h
  · next he => rw [he] at h; exact h
  · next r rg u he =>
    rw [he] at h
    extract_lets map
    have g := insertClove_only i (serviceClove u (mappingKey q.key) (datU q.sp 4 1) map) u
    split
    · next m mg v hg =>
      rw [hg] at g
      extract_lets w x y
      have hw : v.changesOnly w Fld.flow := updClove_only i r _ v
      have hx : w.changesOnly x Fld.flow := updBlock_only i b _ w
      have hy : x.changesOnly y Fld.flow := updClove_only i sub _ x
      exact h.trans (g.trans (hw.trans (hx.trans hy)))
    · next v _ hg =>
      rw [hg] at g
      exact h.trans (g.trans (endClove_only i r 4 _))

theorem mapBlock_only (i sub b : Nat) (q : MapReq) (n : Nat) (s : State) : s.changesOnly (mapBlock i sub b q n s).2 Fld.flow := by
  induction n generalizing s with
  | zero => exact .refl s _
  | succ n ih =>
    unfold mapBlock
    extract_lets parity m c u base sport
    have hu : s.changesOnly u Fld.flow := updBlock_only i b _ s
    have h := mapTry_only i sub b (if parity then base + 2 * c + sport % 2 else base + c) q u
    split
    · next he => rw [he] at h; exact hu.trans (h.trans (ih _))
    · exact hu.trans h

theorem mapNewBlocks_only (i sub : Nat) (q : MapReq) (n : Nat) (fresh : Bool) (s : State) :
    s.changesOnly (mapNewBlocks i sub q n fresh s).2 Fld.flow := by
  induction n generalizing fresh s with
  | zero => exact .refl s _
  | succ n ih =>
    unfold mapNewBlocks
    split
    · have h := newBlock_only i sub q.key q.sp s
      split
      · next he => rw [he] at h; exact h
      · next b u he =>
        rw [he] at h
        have g := mapBlock_only i sub b q 16 u
        split
        · next hg => rw [hg] at g; exact h.trans g
        · next hg => rw [hg] at g; exact h.trans (g.trans (ih _ _))
    · exact .refl s _

theorem mapBlocks_only (i sub : Nat) (q : MapReq) (bs : List Nat) (s : State) : s.changesOnly (mapBlocks i sub q bs s).2 Fld.flow := by
  induction bs generalizing s with
  | nil => exact mapNewBlocks_only i sub q 4 false s
  | cons b bs ih =>
    unfold mapBlocks
    have g := mapBlock_only i sub b q 16 s
    split
    · next hg => rw [hg] at g; exact g
    · next hg => rw [hg] at g; exact g.trans (ih _)

theorem mapOp_only (i : Nat) (q : MapReq) (s : State) : s.changesOnly (mapOp i q s).2 Fld.flow := by
  unfold mapOp
  extract_lets rate nat64 a
  split
  · next m _ =>
    extract_lets u c
    have ha : s.changesOnly a.2 Fld.flow := by
      unfold a
      split
      · exact .refl s _
      · exact flowAdmit_only i q.key q.sp s
    split
    · exact ha.trans (mapFails_only _ _ _ _ _ _)
    · have hu : a.2.changesOnly u Fld.flow := updClove_only i m _ _
      exact ha.trans (hu.trans (count_only _ _))
  · have h := findSubscriber_only i q.key q.sp s
    split
    · next he => rw [he] at h; exact h.trans (mapFails_only _ _ _ _ _ _)
    · next sub v he =>
      rw [he] at h
      extract_lets a u
      have ha : v.changesOnly u Fld.flow := by
        unfold u a
        split
        · exact .refl v _
        · exact (admitBucket_only i sub q.sp v).mono (by decide)
      have hu := h.trans ha
      split
      · exact hu
      · split
        · exact hu.trans (mapFails_only _ _ _ _ _ _)
        · have g := mapBlocks_only i sub q (subBlocks (u.cloveNow i sub)) u
          split
          · next hg => rw [hg] at g; exact hu.trans (g.trans (count_only _ _))
          · next hg => rw [hg] at g; exact hu.trans (g.trans (mapFails_only _ _ _ _ _ _))

end Sys2Proof.Machine

namespace Sys2Proof.Machine

/-! ## Fields of a record (R4) -/

/-- A field replaced keeps what is above it and what is below it. -/
theorem setBits_eq (v hi lo x : Nat) : setBits v hi lo x =
    2 ^ lo * (2 ^ (hi + 1 - lo) * (v / 2 ^ lo / 2 ^ (hi + 1 - lo)) + x % 2 ^ (hi + 1 - lo)) + v % 2 ^ lo := by
  have hv := (Nat.div_add_mod v (2 ^ lo)).symm
  have hq := (Nat.div_add_mod (v / 2 ^ lo) (2 ^ (hi + 1 - lo))).symm
  unfold setBits bits
  rw [Nat.shiftLeft_eq, Nat.shiftLeft_eq, Nat.shiftRight_eq_div_pow, Nat.mul_comm _ (2 ^ lo), Nat.mul_comm _ (2 ^ lo)]
  generalize v / 2 ^ lo = q at *
  generalize 2 ^ (hi + 1 - lo) = n at *
  have h1 : 2 ^ lo * q = 2 ^ lo * (n * (q / n)) + 2 ^ lo * (q % n) := by rw [← Nat.mul_add, Nat.div_add_mod]
  rw [Nat.mul_add]
  omega

theorem setBits_field (v hi lo x : Nat) : setBits v hi lo x / 2 ^ lo % 2 ^ (hi + 1 - lo) = x % 2 ^ (hi + 1 - lo) := by
  rw [setBits_eq, Nat.mul_add_div (Nat.two_pow_pos lo), Nat.div_eq_of_lt (Nat.mod_lt _ (Nat.two_pow_pos lo)), Nat.add_zero,
    Nat.mul_add_mod, Nat.mod_mod]

theorem setBits_above {hi lo : Nat} (v x : Nat) (h : lo ≤ hi + 1) : setBits v hi lo x / 2 ^ (hi + 1) = v / 2 ^ (hi + 1) := by
  have e : 2 ^ (hi + 1) = 2 ^ lo * 2 ^ (hi + 1 - lo) := by rw [← pow_add, Nat.add_sub_cancel' h]
  rw [e, ← Nat.div_div_eq_div_mul, ← Nat.div_div_eq_div_mul, setBits_eq, Nat.mul_add_div (Nat.two_pow_pos lo),
    Nat.div_eq_of_lt (Nat.mod_lt v (Nat.two_pow_pos lo)), Nat.add_zero, Nat.mul_add_div (Nat.two_pow_pos _),
    Nat.div_eq_of_lt (Nat.mod_lt x (Nat.two_pow_pos _)), Nat.add_zero]

section fields
variable {w : Nat}

theorem datB_eq (d : BitVec w) (off b n : Nat) : datB d off b n = d.toNat % 2 ^ (8 * off + b + n) / 2 ^ (8 * off + b) := by
  rw [datB, Nat.shiftRight_eq_div_pow, pow_add 2 (8 * off + b) n, Nat.mod_mul_right_div_self]

theorem datPut_below {k off size : Nat} (d : BitVec w) (x : Nat) (h : k ≤ 8 * off) (hw : k ≤ w) :
    (datPut d off size x).toNat % 2 ^ k = d.toNat % 2 ^ k := by
  unfold datPut
  split
  · rfl
  · exact toNat_ofNat_setBits_mod _ _ _ h hw

theorem datPutB_below {k off b n : Nat} (d : BitVec w) (x : Nat) (h : k ≤ 8 * off + b) (hw : k ≤ w) :
    (datPutB d off b n x).toNat % 2 ^ k = d.toNat % 2 ^ k := by
  unfold datPutB
  split
  · rfl
  · exact toNat_ofNat_setBits_mod _ _ _ h hw

/-- A field below the one replaced stays. -/
theorem datB_datPut_below {off size o b n : Nat} (d : BitVec w) (x : Nat) (h : 8 * o + b + n ≤ 8 * off) (hw : 8 * o + b + n ≤ w) :
    datB (datPut d off size x) o b n = datB d o b n := by
  rw [datB_eq, datPut_below d x h hw, ← datB_eq]

theorem datB_datPutB_self {off b n : Nat} (d : BitVec w) (x : Nat) (hn : n ≠ 0) (hw : 8 * off + b + n ≤ w) :
    datB (datPutB d off b n x) off b n = x % 2 ^ n := by
  obtain ⟨m, rfl⟩ := Nat.exists_eq_succ_of_ne_zero hn
  have hm : 8 * off + b + m + 1 - (8 * off + b) = m + 1 := by omega
  have e := setBits_field d.toNat (8 * off + b + m) (8 * off + b) x
  rw [hm] at e
  rw [datB_eq, datPutB, if_neg hn, BitVec.toNat_ofNat, Nat.mod_mod_of_dvd _ (Nat.pow_dvd_pow 2 hw), pow_add,
    Nat.mod_mul_right_div_self]
  exact e

/-- A field above the one replaced stays. -/
theorem datB_datPutB_above {off b n o c m : Nat} (d : BitVec w) (x : Nat) (h : 8 * off + b + n ≤ 8 * o + c) (hw : 8 * o + c + m ≤ w) :
    datB (datPutB d off b n x) o c m = datB d o c m := by
  unfold datPutB
  split
  · rfl
  · next hn =>
    have e : 8 * o + c = 8 * off + b + n - 1 + 1 + (8 * o + c - (8 * off + b + n)) := by omega
    rw [datB_eq, BitVec.toNat_ofNat, Nat.mod_mod_of_dvd _ (Nat.pow_dvd_pow 2 hw), pow_add, Nat.mod_mul_right_div_self, datB,
      Nat.shiftRight_eq_div_pow, e, pow_add 2 (_ + 1), ← Nat.div_div_eq_div_mul, ← Nat.div_div_eq_div_mul,
      setBits_above _ _ (by omega)]

/-- Bits of a field of bytes that was replaced. -/
theorem datB_datPut_within {off size b n : Nat} (d : BitVec w) (x : Nat) (hs : size ≠ 0) (hb : b + n ≤ 8 * size)
    (hw : 8 * off + 8 * size ≤ w) : datB (datPut d off size x) off b n = x / 2 ^ b % 2 ^ n := by
  have hm : 8 * off + 8 * size - 1 + 1 - 8 * off = 8 * size := by omega
  have e := setBits_field d.toNat (8 * off + 8 * size - 1) (8 * off) x
  rw [hm] at e
  have hd : ∀ y, y / 2 ^ b % 2 ^ n = y % 2 ^ (8 * size) / 2 ^ b % 2 ^ n := fun y => by
    rw [← Nat.mod_mul_right_div_self, ← Nat.mod_mul_right_div_self, ← pow_add, Nat.mod_mod_of_dvd _ (Nat.pow_dvd_pow 2 hb)]
  rw [datB_eq, datPut, if_neg hs, BitVec.toNat_ofNat, Nat.mod_mod_of_dvd _ (Nat.pow_dvd_pow 2 (by omega)), pow_add _ (_ + b),
    Nat.mod_mul_right_div_self, pow_add, ← Nat.div_div_eq_div_mul, hd, e, ← hd]

end fields

/-! ### Cloves (R203) -/

theorem ofNat_congr {w a b : Nat} (h : a % 2 ^ w = b % 2 ^ w) : BitVec.ofNat w a = BitVec.ofNat w b :=
  BitVec.eq_of_toNat_eq ((BitVec.toNat_ofNat _ _).trans (h.trans (BitVec.toNat_ofNat _ _).symm))

theorem cvKey_congr {c d : Clove} (h : c.toNat % 2 ^ 384 = d.toNat % 2 ^ 384) : cvKey c = cvKey d := ofNat_congr h

/-- The key is the first 48 bytes. -/
theorem cvKey_datPut {off : Nat} (c : Clove) (size x : Nat) (h : 48 ≤ off) : cvKey (datPut c off size x) = cvKey c :=
  cvKey_congr (datPut_below c x (by omega) (by decide))

theorem cvKey_datPutB {off : Nat} (c : Clove) (b n x : Nat) (h : 48 ≤ off) : cvKey (datPutB c off b n x) = cvKey c :=
  cvKey_congr (datPutB_below c x (by omega) (by decide))

theorem cvPinned_datPut {off : Nat} (c : Clove) (size x : Nat) (h : 49 ≤ off) : cvPinned (datPut c off size x) = cvPinned c := by
  rw [cvPinned, datB_datPut_below c x (by omega) (by decide)]
  rfl

theorem cvValid_datPut {off : Nat} (c : Clove) (size x : Nat) (h : 49 ≤ off) : cvValid (datPut c off size x) = cvValid c := by
  rw [cvValid, datB_datPut_below c x (by omega) (by decide)]
  rfl

/-- The clove that stands in slot k of bucket b with a GEN (R221). -/
def slotted (b k gen : Nat) (c : Clove) : Clove := datPut (datPut (datPutB c 48 0 1 1) 49 1 gen) 60 4 (8 * b + k)

theorem slotted_key (b k gen : Nat) (c : Clove) : cvKey (slotted b k gen c) = cvKey c := by
  rw [slotted, cvKey_datPut _ _ _ (by decide), cvKey_datPut _ _ _ (by decide), cvKey_datPutB _ _ _ _ (by decide)]

theorem slotted_valid (b k gen : Nat) (c : Clove) : cvValid (slotted b k gen c) = true := by
  rw [slotted, cvValid_datPut _ _ _ (by decide), cvValid_datPut _ _ _ (by decide), cvValid,
    datB_datPutB_self c 1 (by decide) (by decide)]
  rfl

theorem slotted_pinned (b k gen : Nat) (c : Clove) : cvPinned (slotted b k gen c) = cvPinned c := by
  rw [slotted, cvPinned_datPut _ _ _ (by decide), cvPinned_datPut _ _ _ (by decide), cvPinned,
    datB_datPutB_above c 1 (by decide) (by decide)]
  rfl

theorem placeClove_clove (i b k idx tag gen : Nat) (c : Clove) (s : State) :
    (placeClove i b k idx tag gen c s).clove = s.clove.set idx (slotted b k gen c) := by
  unfold placeClove
  extract_lets d u
  have hd : d = slotted b k gen c := rfl
  rw [updPart_clove, ← hd]
  clear_value d
  rfl

theorem placeClove_dir (i b k idx tag gen : Nat) (c : Clove) (s : State) :
    (placeClove i b k idx tag gen c s).dir = (updBucket b (fun d => { d with
      slots := d.slots ++ [{ slot := k, idx := idx, tag := tag, pinned := cvPinned c }] }) s).dir := by
  have e : (placeClove i b k idx tag gen c s).dir = (updBucket b (fun d => { d with
      slots := d.slots ++ [{ slot := k, idx := idx, tag := tag, pinned := cvPinned (slotted b k gen c) }] }) s).dir := rfl
  rw [e, slotted_pinned]

end Sys2Proof.Machine

namespace Sys2Proof.Machine

/-! ## O57: results of far operations (R242, R272, R298, R305) -/

/-! ### A far operation that waits for its owner (R309) -/

theorem far_of_waits {t fn : Nat} {o : FarOp} {s : State} (h : s.farWaits t fn = some o) : (s.th t).far = some o := by
  unfold State.farWaits at h
  dsimp only at h
  split at h
  · next hf =>
    split at h
    · exact hf.trans h
    · cases h
  · cases h

theorem farAnswer_only (t c l : Nat) (b : Dat) (s : State) {fs : List Fld} (h : Fld.eng ∈ fs := by decide) :
    s.changesOnly (farAnswer t c l b s) fs := updTh_only t _ s h

theorem farAnswer_far {t : Nat} {o : FarOp} {s : State} (h : (s.th t).far = some o) (c l : Nat) (b : Dat) :
    ((farAnswer t c l b s).th t).far = some { o with answer := some (c, l, b) } := by
  rw [farAnswer, updTh_th, h]
  rfl

section owner
variable {t fn : Nat} {o : FarOp} {s : State} (h : s.farWaits t fn = some o)
include h

/-- The answer to an operation that waits is all that a command leaves which only answers. -/
theorem answered_eq (c l : Nat) (b : Dat) : farAnswer t c l b s.fresh = s.answered t o c l b := by
  have e : s.eng.th.upd t (fun h => { h with far := h.far.map (fun f => { f with answer := some (c, l, b) }) }) =
      s.eng.th.set t { s.th t with far := some { o with answer := some (c, l, b) } } := by
    show s.eng.th.set t { s.th t with far := (s.th t).far.map _ } = _
    rw [far_of_waits h]
    rfl
  exact congrArg (fun m => { s.fresh with eng := { s.eng with th := m } }) e

theorem answered_only (c l : Nat) (b : Dat) {fs : List Fld} (he : Fld.eng ∈ fs := by decide) :
    s.fresh.changesOnly (s.answered t o c l b) fs := by
  rw [← answered_eq h]
  exact farAnswer_only t c l b _ he

/-- The owner finds the operation that waits for it. -/
theorem farOwner_serves (f : FarOp → State → State) :
    (fun s : State => match s.farWaits t fn with | some o => f o s | none => s) s.fresh = f o s.fresh := by
  have hw : s.fresh.farWaits t fn = some o := h
  dsimp only
  rw [hw]

theorem farCmd_answers {f : FarOp → State → State} {u : State} {fs : List Fld} (hr : s.running) (e : f o s.fresh = u)
    (hf : s.fresh.changesOnly u fs) (hs : ∀ x ∈ Fld.settled, x ∉ fs := by decide) : farCmd t fn f s = .next u := by
  exact coreCmd_running_answers hr ((farOwner_serves h f).trans e) hf hs

theorem farCmd_steady_answers {f : FarOp → State → State} {u : State} {fs : List Fld} (hr : s.steady) (e : f o s.fresh = u)
    (hf : s.fresh.changesOnly u fs) (hm : Fld.md ∉ fs := by decide) (hp : Fld.pending ∉ fs := by decide) :
    farCmd t fn f s = .next u := by
  exact coreCmd_steady_answers hr ((farOwner_serves h f).trans e) hf hm hp

/-- An operation that its owner answers at once. -/
theorem farCmd_answered {f : FarOp → State → State} {c l : Nat} {b : Dat} (hr : s.running)
    (e : f o s.fresh = farAnswer t c l b s.fresh) : farCmd t fn f s = .next (s.answered t o c l b) :=
  farCmd_answers h hr (e.trans (answered_eq h c l b)) (answered_only h c l b (fs := [.eng]))

end owner

theorem ownClove_none {t : Nat} {s : State} (h : (s.th t).clove = none) : s.fresh.ownClove t = none := by
  show (s.th t).clove.map _ = none
  rw [h]
  rfl

theorem fresh_ownClove (t : Nat) (s : State) : s.fresh.ownClove t = s.ownClove t := rfl

/-! ### ADMIT (R272) -/

section admission
variable {t : Nat} {o : FarOp} {s : State} (hr : s.running) (h : s.farWaits t 0x01 = some o)
include hr h

theorem exec_farAdmit_stale (hc : (s.th t).clove = none) : exec (.farAdmit t) s = .next (s.answered t o 9 0 0) := by
  refine farCmd_answered h hr (f := fun _ => doFarAdmit t) ?_
  show doFarAdmit t s.fresh = _
  rw [doFarAdmit, ownClove_none hc]

theorem exec_farAdmit {key : BitVec 384} {sp : Dat} (hc : s.ownClove t = some (key, sp)) :
    exec (.farAdmit t) s = .next (farAnswer t (flowAdmit (thCluster t) key sp s.fresh).1 0 0
      (flowAdmit (thCluster t) key sp s.fresh).2) := by
  refine farCmd_answers h hr (f := fun _ => doFarAdmit t) (fs := Fld.flow) ?_
    ((flowAdmit_only _ key sp s.fresh).trans (farAnswer_only t _ _ _ _))
  show doFarAdmit t s.fresh = _
  rw [doFarAdmit, fresh_ownClove, hc]

end admission

/-- A subscriber that stands pays from its bucket (R272). -/
theorem flowAdmit_standing {i sub : Nat} {key : BitVec 384} {sp : Dat} {s : State}
    (hs : findClove s i (subscriberKey key (datU sp 9 1)) = some sub) (hrate : datU sp 16 4 ≠ 0) :
    flowAdmit i key sp s = (if (admitBucket i sub sp s).1 then 0 else 1, (admitBucket i sub sp s).2) := by
  have e : findSubscriber i key sp s = (.inl sub, s) := by
    unfold findSubscriber
    extract_lets sk svc
    rw [show findClove s i sk = some sub from hs]
  unfold flowAdmit
  rw [e]
  exact if_neg hrate

/-- What an admission pays (R272, R550). -/
theorem admitBucket_pays (i sub : Nat) (sp : Dat) (s : State) {tok : Nat}
    (ht : tok = min (datU (s.cloveNow i sub) 84 4 + serialAge 32 s.ms (datU (s.cloveNow i sub) 88 4) * datU sp 16 4)
      (datU sp 20 4 * 1000)) :
    admitBucket i sub sp s = if 1000 ≤ tok then
        (true, setClove i sub (datPut (datPut (s.cloveNow i sub) 84 4 (tok - 1000)) 88 4 s.ms) s)
      else (false, count (Cnt.FSE_ADMIT_REFUSED i) (setClove i sub (datPut (datPut (s.cloveNow i sub) 84 4 tok) 88 4 s.ms) s)) := by
  unfold admitBucket
  dsimp only
  rw [← ht]
  by_cases hk : 1000 ≤ tok
  · simp [hk]
  · simp [hk]

theorem exec_farAdmit_pays {t i sub tok : Nat} {key : BitVec 384} {sp : Dat} {o : FarOp} {s : State} (hi : i = thCluster t)
    (hr : s.running) (h : s.farWaits t 0x01 = some o) (hc : s.ownClove t = some (key, sp))
    (hs : findClove s i (subscriberKey key (datU sp 9 1)) = some sub) (hrate : datU sp 16 4 ≠ 0)
    (ht : tok = min (datU (s.cloveNow i sub) 84 4 + serialAge 32 s.ms (datU (s.cloveNow i sub) 88 4) * datU sp 16 4)
      (datU sp 20 4 * 1000)) :
    exec (.farAdmit t) s = .next (if 1000 ≤ tok then
        farAnswer t 0 0 0 (setClove i sub (datPut (datPut (s.cloveNow i sub) 84 4 (tok - 1000)) 88 4 s.ms) s.fresh)
      else farAnswer t 1 0 0 (count (Cnt.FSE_ADMIT_REFUSED i)
        (setClove i sub (datPut (datPut (s.cloveNow i sub) 84 4 tok) 88 4 s.ms) s.fresh))) := by
  subst hi
  have e := admitBucket_pays (thCluster t) sub sp s.fresh ht
  rw [exec_farAdmit hr h hc, flowAdmit_standing (s := s.fresh) hs hrate, e]
  by_cases hk : 1000 ≤ tok
  · simp only [if_pos hk]
    rfl
  · simp only [if_neg hk]
    rfl

/-! ### MAP (R248) -/

section map
variable {t : Nat} {o : FarOp} {s : State} (h : s.farWaits t 0x02 = some o)
include h

theorem exec_farMap_stale (ue : Bool) (hr : s.running) (hc : (s.th t).clove = none) :
    exec (.farMap t ue) s = .next (s.answered t o 9 0 0) := by
  refine farCmd_answered h hr (f := fun _ => doFarMap t ue) ?_
  show doFarMap t ue s.fresh = _
  rw [doFarMap, ownClove_none hc]

/-- The state in which MAP has answered with a mapping. -/
def mapAnswered (t : Nat) (blk : Dat) (m g : Nat) (u : State) : State :=
  farAnswer t 0 33 blk (updTh t (fun h => { h with maps := h.maps ++ [(m, g)] }) u)

omit h in
theorem mapAnswered_only (t : Nat) (blk : Dat) (m g : Nat) (u : State) : u.changesOnly (mapAnswered t blk m g u) [.eng] :=
  (updTh_only t _ u).trans (farAnswer_only t _ _ _ _)

variable {m g : Nat} {key : BitVec 384} {sp blk : Dat} {u : State} (hc : s.ownClove t = some (key, sp))
  (hm : mapOp (thCluster t) { key := key, sp := sp, inPort := (s.th t).pkt.inPort, aux := (s.th t).pkt.aux } s.fresh =
    ((0, blk, m, g), u))
include hc hm

omit h in
theorem doFarMap_maps : doFarMap t false s.fresh = mapAnswered t blk m g u := by
  have hp : s.fresh.th t = s.th t := rfl
  rw [doFarMap, fresh_ownClove, hc]
  dsimp only
  rw [if_neg Bool.false_ne_true, hp, hm]
  rfl

omit h hc in
theorem mapAnswered_all : s.fresh.changesOnly (mapAnswered t blk m g u) Fld.flow := by
  have hu := mapOp_only (thCluster t) { key := key, sp := sp, inPort := (s.th t).pkt.inPort, aux := (s.th t).pkt.aux } s.fresh
  rw [hm] at hu
  exact hu.trans ((mapAnswered_only t blk m g u).mono (by decide))

theorem exec_farMap_steady (hr : s.steady) : exec (.farMap t false) s = .next (mapAnswered t blk m g u) :=
  farCmd_steady_answers h hr (f := fun _ => doFarMap t false) (doFarMap_maps hc hm) (mapAnswered_all hm)

theorem exec_farMap_running (hr : s.running) : exec (.farMap t false) s = .next (mapAnswered t blk m g u) :=
  farCmd_answers h hr (f := fun _ => doFarMap t false) (doFarMap_maps hc hm) (mapAnswered_all hm)

end map

/-- A mapping that stands serves again where no rate limits the subscriber (R248, R249). -/
theorem mapOp_reuses {i m : Nat} {q : MapReq} {s u : State} (hf : findClove s i (mappingKey q.key) = some m) (hrate : datU q.sp 16 4 = 0)
    (hu : u = setClove i m (datPut (s.cloveNow i m) 66 2 (datU (s.cloveNow i m) 66 2 + 1)) s) :
    mapOp i q s = ((0, mapImage (u.cloveNow i m) m (cvGen (u.cloveNow i m)) (spService q.sp == 2) 0, m, cvGen (u.cloveNow i m)),
      count (Cnt.FSE_NAT_MAP_REUSE i) u) := by
  unfold mapOp
  extract_lets rate nat64 a
  have ha : a = (0, s) := if_pos hrate
  clear_value a
  subst ha
  rw [hf]
  dsimp only
  rw [if_neg (by decide), updClove, ← hu]

theorem exec_farMap_reuses {t i m : Nat} {key : BitVec 384} {sp : Dat} {o : FarOp} {s u : State} (hi : i = thCluster t)
    (hr : s.running) (h : s.farWaits t 0x02 = some o) (hc : s.ownClove t = some (key, sp))
    (hf : findClove s i (mappingKey key) = some m) (hrate : datU sp 16 4 = 0)
    (hu : u = setClove i m (datPut (s.cloveNow i m) 66 2 (datU (s.cloveNow i m) 66 2 + 1)) s.fresh) :
    exec (.farMap t false) s = .next (mapAnswered t (mapImage (u.cloveNow i m) m (cvGen (u.cloveNow i m)) (spService sp == 2) 0) m
      (cvGen (u.cloveNow i m)) (count (Cnt.FSE_NAT_MAP_REUSE i) u)) := by
  subst hi
  have e := mapOp_reuses (i := thCluster t) (s := s.fresh)
    (q := { key := key, sp := sp, inPort := (s.th t).pkt.inPort, aux := (s.th t).pkt.aux }) hf hrate hu
  exact exec_farMap_running h hc e hr

/-! ### LB_SELECT (R267) -/

theorem exec_farLbSelect {t m : Nat} {o : FarOp} {s : State} (hr : s.running) (h : s.farWaits t 0x03 = some o)
    (hm : s.lbChoose (o.a.toNat % 2 ^ 14) o.b.toNat = some (m, false)) :
    exec (.farLbSelect t false) s = .next (s.answered t o 0 32
      (lbImage (o.a.toNat % 2 ^ 14) (o.b.toNat % 256) m (s.lbNextHop (o.a.toNat % 2 ^ 14) m))) := by
  refine farCmd_answered h hr (f := doFarLbSelect t false) ?_
  have hf : s.fresh.lbChoose (o.a.toNat % 2 ^ 14) o.b.toNat = some (m, false) := hm
  unfold doFarLbSelect
  dsimp only
  rw [if_neg Bool.false_ne_true, hf]
  dsimp only
  rw [if_neg Bool.false_ne_true]
  rfl

/-! ### Operations on a clove that they name (R232, R242) -/

theorem namedLoss_read {t idx : Nat} {ue : Bool} {s : State} (h : s.readFails (thCluster t) idx ue = false) :
    namedLoss t idx ue s = s := by
  unfold namedLoss cloveReadLoss
  rw [h]
  simp

theorem namedLoss_lost {t idx : Nat} {ue : Bool} {s : State} (hp : s.inPart (thCluster t) idx = true)
    (h : s.readFails (thCluster t) idx ue = true) : namedLoss t idx ue s = loseClove (thCluster t) idx none s := by
  unfold namedLoss cloveReadLoss
  rw [if_pos hp, if_pos h]

theorem fresh_namedClove (t idx gen : Nat) (s : State) : s.fresh.namedClove t idx gen = s.namedClove t idx gen := rfl

theorem cvValid_zero : cvValid 0 = false := by
  have h : (0 : Clove).toNat = 0 := BitVec.toNat_zero
  rw [cvValid, datB_eq, h, Nat.zero_mod, Nat.zero_div]
  rfl

/-- A clove whose read failed is found to have no VALID (R232). -/
theorem namedClove_lost {t idx : Nat} (gen : Nat) {s : State} (hl : s.line (thCluster t) idx = none) (ht : (s.th t).tm = false) :
    (loseClove (thCluster t) idx none s).namedClove t idx gen = 9 := by
  obtain ⟨n, k, q, hg⟩ := loseClove_get (thCluster t) idx none s
  have hn : (loseClove (thCluster t) idx none s).cloveNow (thCluster t) idx = 0 := by
    have hu : (loseClove (thCluster t) idx none s).line (thCluster t) idx = none := by
      rw [line_congr (s := s) (by rw [hg]), hl]
    rw [cloveNow_unlined hu, loseClove_clove, SMap.get_set_self]
  have hc : (loseClove (thCluster t) idx none s).cloveIs (thCluster t) idx (gen % 256) = false := by
    unfold State.cloveIs
    dsimp only
    rw [hn, cvValid_zero, Bool.false_and, Bool.and_false]
  have hth := th_of_only (loseClove_only (thCluster t) idx none s) (by decide) t
  unfold State.namedClove
  dsimp only
  rw [hth, ht, hc]
  rfl

section peek
variable {t : Nat} {ue : Bool} {o : FarOp} {s : State} (hr : s.running) (h : s.farWaits t 0x04 = some o)
include hr h

theorem exec_farPeek (hn : s.namedClove t (o.a.toNat % 2 ^ 27) o.b.toNat = 0)
    (hf : s.readFails (thCluster t) (o.a.toNat % 2 ^ 27) ue = false) :
    exec (.farPeek t ue) s = .next (s.answered t o 0 80 ((s.cloveNow (thCluster t) (o.a.toNat % 2 ^ 27)) >>> 384)) := by
  refine farCmd_answered h hr (f := doFarPeek t ue) ?_
  unfold doFarPeek
  dsimp only
  rw [namedLoss_read ((fresh_readFails ..).trans hf), fresh_namedClove, hn, if_neg (by decide)]
  rfl

theorem exec_farPeek_refused {r : Nat} (hn : s.namedClove t (o.a.toNat % 2 ^ 27) o.b.toNat = r) (hz : r ≠ 0)
    (hf : s.readFails (thCluster t) (o.a.toNat % 2 ^ 27) ue = false) : exec (.farPeek t ue) s = .next (s.answered t o r 0 0) := by
  refine farCmd_answered h hr (f := doFarPeek t ue) ?_
  unfold doFarPeek
  dsimp only
  rw [namedLoss_read ((fresh_readFails ..).trans hf), fresh_namedClove, hn, if_pos hz]

theorem exec_farPeek_lost {idx : Nat} (hi : idx = o.a.toNat % 2 ^ 27) (hp : s.inPart (thCluster t) idx = true)
    (hf : s.readFails (thCluster t) idx ue = true) (ht : (s.th t).tm = false) :
    ∃ u, exec (.farPeek t ue) s = .next u ∧ u.clove = s.clove.set idx 0 ∧ (u.th t).far = some { o with answer := some (9, 0, 0) } ∧
      s.fresh.changesOnly u (Fld.events ++ [.eng, .part, .clove, .dir]) := by
  have hf' : s.fresh.readFails (thCluster t) idx ue = true := (fresh_readFails ..).trans hf
  have ho := loseClove_only (thCluster t) idx none s.fresh
  have hc := loseClove_clove (thCluster t) idx none s.fresh
  have hn := namedClove_lost (t := t) (s := s.fresh) o.b.toNat (line_of_readFails hf') ht
  have e : doFarPeek t ue o s.fresh = farAnswer t 9 0 0 (loseClove (thCluster t) idx none s.fresh) := by
    unfold doFarPeek
    dsimp only
    rw [← hi, namedLoss_lost (s := s.fresh) hp hf', hn, if_pos (by decide)]
  generalize loseClove (thCluster t) idx none s.fresh = v at ho hc e
  have hfar : (v.th t).far = some o := by
    rw [th_of_only ho (by decide) t]
    exact far_of_waits h
  have hall : s.fresh.changesOnly (farAnswer t 9 0 0 v) (Fld.events ++ [.eng, .part, .clove, .dir]) :=
    (ho.mono (by decide)).trans (farAnswer_only t _ _ _ _)
  exact ⟨_, farCmd_answers h hr (f := doFarPeek t ue) e hall, hc, farAnswer_far hfar 9 0 0, hall⟩

end peek

theorem farAnswer_clove (t c l : Nat) (b : Dat) (v : SMap Dat) (s : State) :
    farAnswer t c l b { s with clove := v } = { farAnswer t c l b s with clove := v } := by rfl

theorem exec_farTouch {t : Nat} {ue : Bool} {o : FarOp} {s : State} (hr : s.running) (h : s.farWaits t 0x05 = some o)
    (hn : s.namedClove t (o.a.toNat % 2 ^ 27) o.b.toNat = 0) (hl : s.line (thCluster t) (o.a.toNat % 2 ^ 27) = none)
    (hf : s.readFails (thCluster t) (o.a.toNat % 2 ^ 27) ue = false) :
    exec (.farTouch t ue) s = .next
      { s.answered t o 0 0 0 with
        clove := s.clove.set (o.a.toNat % 2 ^ 27) (datPut (s.clove.get (o.a.toNat % 2 ^ 27)) 54 2 s.ageStamp) } := by
  refine farCmd_answers h hr (f := doFarTouch t ue) (fs := [.eng, .clove]) ?_ ((answered_only h 0 0 0).trans (clove_only _ _))
  have hl' : s.fresh.line (thCluster t) (o.a.toNat % 2 ^ 27) = none := hl
  unfold doFarTouch
  dsimp only
  rw [namedLoss_read ((fresh_readFails ..).trans hf), fresh_namedClove, hn, if_pos rfl, updClove_unlined hl', ← answered_eq h,
    farAnswer_clove, show s.fresh.clove = s.clove from rfl, show s.fresh.ageStamp = s.ageStamp from rfl]

theorem exec_farDeletePeer {t : Nat} {ue : Bool} {o : FarOp} {s : State} (hr : s.steady) (h : s.farWaits t 0x07 = some o)
    (hn : s.namedClove t (o.a.toNat % 2 ^ 27) o.b.toNat = 0)
    (hf : s.readFails (thCluster t) (o.a.toNat % 2 ^ 27) ue = false) :
    exec (.farDeletePeer t ue) s = .next (farAnswer t 0 0 0
      (endClove (thCluster t) (o.a.toNat % 2 ^ 27) (o.b.toNat / 256 % 16) s.fresh)) := by
  refine farCmd_steady_answers h hr (f := doFarDeletePeer t ue) (fs := Fld.flow) ?_
    ((endClove_only _ _ _ s.fresh).trans (farAnswer_only t _ _ _ _))
  unfold doFarDeletePeer
  dsimp only
  rw [namedLoss_read ((fresh_readFails ..).trans hf), fresh_namedClove, hn, if_pos rfl]

/-! ### SVC_FAIL and TBL_READ (R252, R305) -/

theorem exec_farSvcFail {t : Nat} {key : BitVec 384} {sp : Dat} {o : FarOp} {s : State} (hr : s.running)
    (h : s.farWaits t 0x20 = some o) (hc : s.ownClove t = some (key, sp)) :
    ∃ u, exec (.farSvcFail t) s = .next u ∧
      (u.th t).desc = datPut (datPut (s.th t).desc 120 1 (if datU sp 24 1 = 1 then 2 else 1)) 121 1 (datU sp 25 1 % 16) ∧
      (u.th t).far = some { o with answer := some (0, 0, 0) } ∧ s.fresh.changesOnly u [.eng] := by
  have e : doFarSvcFail t s.fresh = updTh t (fun h => { h with
      desc := datPut (datPut h.desc 120 1 (if datU sp 24 1 = 1 then 2 else 1)) 121 1 (datU sp 25 1 % 16),
      far := h.far.map (fun f => { f with answer := some (0, 0, 0) }) }) s.fresh := by
    rw [doFarSvcFail, fresh_ownClove, hc]
    exact updTh_updTh t _ _ _
  have hu := updTh_only t (fun h => { h with
      desc := datPut (datPut h.desc 120 1 (if datU sp 24 1 = 1 then 2 else 1)) 121 1 (datU sp 25 1 % 16),
      far := h.far.map (fun f => { f with answer := some (0, 0, 0) }) }) s.fresh (fs := [.eng])
  refine ⟨_, farCmd_answers h hr (f := fun _ => doFarSvcFail t) e hu, ?_, ?_, hu⟩
  · rw [updTh_th]
    rfl
  · rw [updTh_th]
    show (s.th t).far.map _ = _
    rw [far_of_waits h]
    rfl

theorem exec_farTblRead {t : Nat} {o : FarOp} {s : State} (hr : s.running) (h : s.farWaits t 0x10 = some o) (h1 : 1 ≤ o.a.toNat)
    (h8 : o.a.toNat ≤ 8) (hi : o.b.toNat < bits (s.reg (Reg.FWD_DIRECT_CFG (o.a.toNat - 1))) 20 0)
    (hv : datB (s.tblGet o.a.toNat o.b.toNat) 8 0 1 = 1) :
    exec (.farTblRead t false) s = .next (s.answered t o 0 16 (s.tblGet o.a.toNat o.b.toNat)) := by
  refine farCmd_answered h hr (f := doFarTblRead t false) ?_
  have ht : s.fresh.tblGet o.a.toNat o.b.toNat = s.tblGet o.a.toNat o.b.toNat := rfl
  have hg : s.fresh.reg (Reg.FWD_DIRECT_CFG (o.a.toNat - 1)) = s.reg (Reg.FWD_DIRECT_CFG (o.a.toNat - 1)) := rfl
  unfold doFarTblRead
  dsimp only
  rw [if_neg (by omega), hg, if_neg (by omega), Bool.false_and, if_neg Bool.false_ne_true, ht, if_neg (by omega)]

theorem exec_farTblRead_noTable {t : Nat} {o : FarOp} {s : State} (ue : Bool) (hr : s.running) (h : s.farWaits t 0x10 = some o)
    (h8 : 8 < o.a.toNat) : exec (.farTblRead t ue) s = .next (s.answered t o 13 0 0) :=
  farCmd_answered h hr (f := doFarTblRead t ue) (if_pos (.inr h8))

/-! ### INSERT_PEER (R221, R235, R242) -/

/-- The clove that an insertion makes of an image: CREATED and FIRST, and AGE where the image gives none (R235). -/
def dated (c : Clove) (s : State) : Clove :=
  let c := datPut (datPut c 56 4 s.ms) 108 6 (s.now / 1000)
  if cvAge c = 0 then datPut c 54 2 s.ageStamp else c

theorem dated_key (c : Clove) (s : State) : cvKey (dated c s) = cvKey c := by
  have h : cvKey (datPut (datPut c 56 4 s.ms) 108 6 (s.now / 1000)) = cvKey c := by
    rw [cvKey_datPut _ _ _ (by decide), cvKey_datPut _ _ _ (by decide)]
  unfold dated
  dsimp only
  split
  · rw [cvKey_datPut _ _ _ (by decide), h]
  · exact h

theorem dated_pinned (c : Clove) (s : State) : cvPinned (dated c s) = cvPinned c := by
  have h : cvPinned (datPut (datPut c 56 4 s.ms) 108 6 (s.now / 1000)) = cvPinned c := by
    rw [cvPinned_datPut _ _ _ (by decide), cvPinned_datPut _ _ _ (by decide)]
  unfold dated
  dsimp only
  split
  · rw [cvPinned_datPut _ _ _ (by decide), h]
  · exact h

/-- The index longest free leaves the cache, and the learn sequence goes on (R222, R552). -/
def indexTaken (i : Nat) (free : List (Nat × Nat)) (s : State) : State :=
  (nextGen i (updPart i (fun p => { p with freeCache := free }) s)).2

theorem indexTaken_only (i : Nat) (free : List (Nat × Nat)) (s : State) : s.changesOnly (indexTaken i free s) [.part] :=
  (updPart_only i _ s).trans (nextGen_only i _)

section insert
variable {i b k idx : Nat} {c : Clove} {free : List (Nat × Nat)} {s : State} (hf : findClove s i (cvKey c) = none)
  (hp : cvPinned c = false)
  (hb : freeBucket s (s.candidates i (s.hashOf i (cvKey c))).1 (s.candidates i (s.hashOf i (cvKey c))).2 = some (b, k))
  (hi : runsPop (s.part.get i).freeCache = some (idx, free))
include hf hp hb hi

/-- An insertion that finds a free slot and a free index succeeds (R221, R235, R552). -/
theorem insertClove_takes : insertClove i c s = (.ok idx (((s.part.get i).learnSeq + 1).toNat % 256),
    placeClove i b k idx (hashTag (s.hashOf i (cvKey c))) (((s.part.get i).learnSeq + 1).toNat % 256)
      (dated c (indexTaken i free s)) (indexTaken i free s)) := by
  have ht : takeIndex i s = some (idx, updPart i (fun p => { p with freeCache := free }) s) := by
    unfold takeIndex
    rw [hi]
  have hg : (nextGen i (updPart i (fun p => { p with freeCache := free }) s)).1 = ((s.part.get i).learnSeq + 1).toNat % 256 := by
    rw [nextGen, updPart_updPart, updPart_get]
  unfold insertClove
  dsimp only
  rw [hf, hp, Bool.false_and, hb, ht]
  dsimp only [Option.isSome_none]
  rw [if_neg Bool.false_ne_true, if_neg Bool.false_ne_true, hg]
  rfl

/-- The clove that stands then has the image's key, and its slot is the one free. -/
theorem insertClove_stands : ∃ u, insertClove i c s = (.ok idx (((s.part.get i).learnSeq + 1).toNat % 256), u) ∧
    cvKey (u.clove.get idx) = cvKey c ∧ cvValid (u.clove.get idx) = true ∧
    u.dir = (updBucket b (fun d => { d with
      slots := d.slots ++ [{ slot := k, idx := idx, tag := hashTag (s.hashOf i (cvKey c)), pinned := false }] }) s).dir ∧
    s.changesOnly u Fld.placed := by
  have e := insertClove_takes hf hp hb hi
  have hq := indexTaken_only i free s
  have hd := dated_pinned c (indexTaken i free s)
  have hk := dated_key c (indexTaken i free s)
  rw [hp] at hd
  generalize indexTaken i free s = v at e hq hd hk
  generalize dated c v = d at e hd hk
  refine ⟨_, e, ?_, ?_, ?_, (hq.mono (by decide)).trans (placeClove_only i b k idx _ _ d v)⟩
  · rw [placeClove_clove, SMap.get_set_self, slotted_key, hk]
  · rw [placeClove_clove, SMap.get_set_self, slotted_valid]
  · rw [placeClove_dir, hd, updBucket, updBucket, hq .dir (by decide)]

end insert

/-- The image that INSERT_PEER inserts: that in scratch with HOST clear (R242). -/
def Thread.peerImage (h : Thread) : Clove :=
  datPut (BitVec.ofNat 1024 h.scratch.toNat) 48 1 (2 * datB (BitVec.ofNat 1024 h.scratch.toNat) 48 1 1)

theorem peerImage_key (h : Thread) : cvKey (Thread.peerImage h) = cvKey (BitVec.ofNat 1024 h.scratch.toNat) :=
  cvKey_datPut _ _ _ (by decide)

theorem peerImage_unpinned {h : Thread} (hp : datB (BitVec.ofNat 1024 h.scratch.toNat) 48 1 1 = 0) :
    cvPinned (Thread.peerImage h) = false := by
  rw [cvPinned, Thread.peerImage, datB_datPut_within _ _ (by decide) (by decide) (by decide), hp]
  rfl

section insertPeer
variable {t idx g : Nat} {o : FarOp} {s u : State} (h : s.farWaits t 0x06 = some o)
  (hk : keyFmtOk (cvFmt (BitVec.ofNat 1024 (s.th t).scratch.toNat)) = true)
  (hi : insertClove (thCluster t) (Thread.peerImage (s.th t)) s.fresh = (.ok idx g, u))
include hk hi

theorem doFarInsertPeer_inserts : doFarInsertPeer t s.fresh = farAnswer t 0 5 (BitVec.ofNat 1024 (idx + g * 2 ^ 32)) u := by
  have hth : s.fresh.th t = s.th t := rfl
  unfold doFarInsertPeer
  dsimp only
  rw [hth, hk, if_neg (by decide), ← Thread.peerImage, hi]

include h

theorem exec_farInsertPeer (hr : s.steady) :
    exec (.farInsertPeer t) s = .next (farAnswer t 0 5 (BitVec.ofNat 1024 (idx + g * 2 ^ 32)) u) := by
  have hu := insertClove_only (thCluster t) (Thread.peerImage (s.th t)) s.fresh
  rw [hi] at hu
  exact farCmd_steady_answers h hr (f := fun _ => doFarInsertPeer t) (doFarInsertPeer_inserts hk hi) (hu.trans (farAnswer_only t _ _ _ _))

end insertPeer

theorem exec_farInsertPeer_takes {t i b k idx : Nat} {free : List (Nat × Nat)} {key : BitVec 384} {o : FarOp} {s : State}
    (hc : i = thCluster t) (hr : s.running) (h : s.farWaits t 0x06 = some o)
    (hk : keyFmtOk (cvFmt (BitVec.ofNat 1024 (s.th t).scratch.toNat)) = true)
    (hp : datB (BitVec.ofNat 1024 (s.th t).scratch.toNat) 48 1 1 = 0) (hkey : key = cvKey (BitVec.ofNat 1024 (s.th t).scratch.toNat))
    (hf : findClove s i key = none)
    (hb : freeBucket s (s.candidates i (s.hashOf i key)).1 (s.candidates i (s.hashOf i key)).2 = some (b, k))
    (hi : runsPop (s.part.get i).freeCache = some (idx, free)) :
    ∃ u, exec (.farInsertPeer t) s = .next u ∧
      (u.th t).far = some { o with answer := some (0, 5, BitVec.ofNat 1024
        (idx + ((s.part.get i).learnSeq + 1).toNat % 256 * 2 ^ 32)) } ∧
      cvKey (u.clove.get idx) = key ∧ cvValid (u.clove.get idx) = true ∧
      u.dir = s.dir.upd b (fun d =>
        { d with
          version := (d.version + 1) % 2 ^ 32,
          slots := d.slots ++ [{ slot := k, idx := idx, tag := hashTag (s.hashOf i key), pinned := false }] }) ∧
      s.fresh.changesOnly u ([.eng, .part, .dir, .clove, .svc]) := by
  rw [← peerImage_key] at hkey
  subst hc hkey
  obtain ⟨u, e, huk, huv, hud, hu⟩ := insertClove_stands (s := s.fresh) hf (peerImage_unpinned hp) hb hi
  have hfar : (u.th t).far = some o := by
    rw [th_of_only hu (by decide) t]
    exact far_of_waits h
  have hall : s.fresh.changesOnly
      (farAnswer t 0 5 (BitVec.ofNat 1024 (idx + ((s.part.get (thCluster t)).learnSeq + 1).toNat % 256 * 2 ^ 32)) u)
      [.eng, .part, .dir, .clove, .svc] := (hu.mono (by decide)).trans (farAnswer_only t _ _ _ _)
  exact ⟨_, farCmd_answers h hr (f := fun _ => doFarInsertPeer t) (doFarInsertPeer_inserts hk e) hall, farAnswer_far hfar _ _ _,
    huk, huv, hud, hall⟩

/-! ### ASA_SEARCH and ASA_STEP (R157, R305) -/

theorem asaLocal_parity (sc : AsaScope) (key : Nat) (after : Option (Nat × Nat)) (bad : List Nat) (s : State) :
    s.changesOnly (asaLocal sc key after bad s).2 (Fld.events ++ [.asa, .flt]) :=
  (asaParity_parityOnly sc.banks bad s).1.trans ((count_only _ _).trans (countHit_only _ _))

theorem setHandle_only (w : AsaOwner) (h : AsaHandle) (s : State) {fs : List Fld} (hs : Fld.asa ∈ fs := by decide) :
    s.changesOnly (setHandle w h s) fs := asa_only s _ hs

/-- A local search or step answers with its result, and the thread's handle stands after it (R157). -/
theorem asaAnswer_far {t : Nat} {o : FarOp} {s : State} (h : (s.th t).far = some o) (r : AsaRes × State) (hd : AsaHandle)
    (hr : s.changesOnly r.2 (Fld.events ++ [.asa, .flt])) {u : State}
    (hu : u = farAnswer t 0 12 (BitVec.ofNat 1024 r.1.bytes) (setHandle (.thread t) hd r.2)) :
    (u.th t).far = some { o with answer := some (0, 12, BitVec.ofNat 1024 r.1.bytes) } ∧
      s.changesOnly u (Fld.events ++ [.eng, .asa, .flt]) := by
  subst hu
  have hs : s.changesOnly (setHandle (.thread t) hd r.2) (Fld.events ++ [.asa, .flt]) := hr.trans (setHandle_only _ _ _)
  have hf : ((setHandle (.thread t) hd r.2).th t).far = some o := by rw [th_of_only hs (by decide) t, h]
  exact ⟨farAnswer_far hf _ _ _, (hs.mono (by decide)).trans (farAnswer_only t _ _ _ _)⟩

theorem exec_farAsaSearch {t : Nat} (bad : List Nat) {o : FarOp} {s : State} (hr : s.running) (h : s.farWaits t 0x18 = some o)
    (hc : s.asaCascade (o.a.toNat % 32) = false) :
    ∃ u, exec (.farAsaSearch t bad) s = .next u ∧
      (u.th t).far = some { o with answer := some (0, 12, BitVec.ofNat 1024
        (asaLocal (s.asaScope (o.a.toNat % 32) s.threadSlot)
          ((s.th t).scratch.toNat % 2 ^ (s.asaScope (o.a.toNat % 32) s.threadSlot).width) none bad s.fresh).1.bytes) } ∧
      s.fresh.changesOnly u (Fld.events ++ [.eng, .asa, .flt]) := by
  obtain ⟨hfar, hall⟩ := asaAnswer_far (s := s.fresh) (far_of_waits h) _
    ((asaLocal (s.asaScope (o.a.toNat % 32) s.threadSlot)
      ((s.th t).scratch.toNat % 2 ^ (s.asaScope (o.a.toNat % 32) s.threadSlot).width) none bad s.fresh).1.handle
        ((s.th t).scratch.toNat % 2 ^ (s.asaScope (o.a.toNat % 32) s.threadSlot).width) (o.a.toNat % 32) s.threadSlot)
    (asaLocal_parity _ _ _ _ _) rfl
  exact ⟨_, farCmd_answers h hr (f := doFarAsaSearch t bad) (if_neg (Bool.not_eq_true _ ▸ hc)) hall, hfar, hall⟩

theorem exec_farAsaSearch_cascades {t : Nat} (bad : List Nat) {o : FarOp} {s : State} (hr : s.running) (h : s.farWaits t 0x18 = some o)
    (hc : s.asaCascade (o.a.toNat % 32) = true) (hrun : s.asa.run.state = .running) (hret : s.asa.run.retired = false) :
    ∃ u, exec (.farAsaSearch t bad) s = .next u ∧
      u.asa.run.waiting = s.asa.run.waiting ++ [
        { owner := .thread t, profile := o.a.toNat % 32,
          key := (s.th t).scratch.toNat % 2 ^ (s.asaScope (o.a.toNat % 32) s.threadSlot).width }] ∧
      s.fresh.changesOnly u [.asa] := by
  have hu := updRun_only (fun r => { r with waiting := r.waiting ++ [
    { owner := .thread t, profile := o.a.toNat % 32,
      key := (s.th t).scratch.toNat % 2 ^ (s.asaScope (o.a.toNat % 32) s.threadSlot).width }] }) s.fresh (fs := [.asa])
  exact ⟨_, farCmd_answers h hr (f := doFarAsaSearch t bad) ((if_pos hc).trans (if_pos ⟨hrun, hret⟩)) hu, rfl, hu⟩

section step
variable {t : Nat} (bad : List Nat) {o : FarOp} {s : State} (hr : s.running) (h : s.farWaits t 0x19 = some o)
include hr h

theorem exec_farAsaStep {hd : AsaHandle} (hh : hd = s.asa.handles.get (AsaOwner.thread t).key) (hl : hd.live = true)
    (hc : s.asaCascade hd.profile = false) :
    ∃ u, exec (.farAsaStep t bad) s = .next u ∧
      (u.th t).far = some { o with answer := some (0, 12, BitVec.ofNat 1024
        (asaLocal (s.asaScope hd.profile hd.slot) hd.key (some (hd.prio, hd.entry)) bad s.fresh).1.bytes) } ∧
      s.fresh.changesOnly u (Fld.events ++ [.eng, .asa, .flt]) := by
  obtain ⟨hfar, hall⟩ := asaAnswer_far (s := s.fresh) (far_of_waits h) _
    ((asaLocal (s.asaScope hd.profile hd.slot) hd.key (some (hd.prio, hd.entry)) bad s.fresh).1.handle hd.key hd.profile hd.slot)
    (asaLocal_parity _ _ _ _ _) rfl
  refine ⟨_, farCmd_answers h hr (f := fun _ => doFarAsaStep t bad) ?_ hall, hfar, hall⟩
  have hg : s.fresh.asa.handles.get (AsaOwner.thread t).key = hd := hh.symm
  have hk : s.fresh.asaCascade hd.profile = false := hc
  unfold doFarAsaStep
  dsimp only
  rw [hg, hl, if_neg (by decide), hk, if_neg Bool.false_ne_true]
  rfl

omit hr h in
theorem count_farAnswer (a c l : Nat) (b : Dat) : farAnswer t c l b (count a s) = count a (farAnswer t c l b s) :=
  apply_ite (farAnswer t c l b) _ _ _

/-- A thread without a step handle meets no further match (R157). -/
theorem exec_farAsaStep_none (hl : (s.asa.handles.get (AsaOwner.thread t).key).live = false) :
    exec (.farAsaStep t bad) s = .next (count Cnt.ASA_STEP (s.answered t o 0 12 0)) := by
  have hg : (s.fresh.asa.handles.get (AsaOwner.thread t).key).live = false := hl
  have hu : s.fresh.changesOnly (count Cnt.ASA_STEP (s.answered t o 0 12 0)) (Fld.events ++ [.eng]) :=
    (answered_only h 0 12 0).trans (count_only _ _)
  refine farCmd_answers h hr (f := fun _ => doFarAsaStep t bad) ?_ hu
  unfold doFarAsaStep
  dsimp only
  rw [hg, ← answered_eq h, if_pos (by decide), count_farAnswer]

end step

/-- Settles O57, operation by operation. -/
theorem farOperations : Obligations.FarOperations :=
  ⟨fun _ _ _ hr h hc => exec_farAdmit_stale hr h hc,
   fun _ _ _ _ _ hr h hc => exec_farAdmit hr h hc,
   fun _ _ _ _ _ _ _ _ hi hr h hc hs hrate ht => exec_farAdmit_pays hi hr h hc hs hrate ht,
   fun _ ue _ _ hr h hc => exec_farMap_stale h ue hr hc,
   fun _ _ _ _ _ _ _ _ _ hr h hc hm => exec_farMap_steady h hc hm hr,
   fun _ _ _ _ _ _ _ _ hi hr h hc hf hrate hu => exec_farMap_reuses hi hr h hc hf hrate hu,
   fun _ _ _ _ hr h hm => exec_farLbSelect hr h hm,
   fun _ _ _ _ hr h hn hf => exec_farPeek hr h hn hf,
   fun _ _ _ _ _ hr h hn hz hf => exec_farPeek_refused hr h hn hz hf,
   fun _ _ _ _ _ hr h hi hp hf ht => exec_farPeek_lost hr h hi hp hf ht,
   fun _ _ _ _ hr h hn hl hf => exec_farTouch hr h hn hl hf,
   fun _ _ _ _ _ _ hr h hk hi => exec_farInsertPeer h hk hi hr,
   fun _ _ _ _ _ _ _ _ _ hc _ hr h hk hp hkey hf hb hi => exec_farInsertPeer_takes hc hr h hk hp hkey hf hb hi,
   fun _ _ _ _ hr h hn hf => exec_farDeletePeer hr h hn hf,
   fun _ _ _ _ _ hr h hc => exec_farSvcFail hr h hc,
   fun _ _ _ hr h h1 h8 hi hv => exec_farTblRead hr h h1 h8 hi hv,
   fun _ ue _ _ hr h h8 => exec_farTblRead_noTable ue hr h h8,
   fun _ bad _ _ hr h hc => exec_farAsaSearch bad hr h hc,
   fun _ bad _ _ hr h hc hrun hret => exec_farAsaSearch_cascades bad hr h hc hrun hret,
   fun _ bad _ _ _ hr h hh hl hc => exec_farAsaStep bad hr h hh hl hc,
   fun _ bad _ _ hr h hl => exec_farAsaStep_none bad hr h hl⟩

end Sys2Proof.Machine

namespace Sys2Proof.Machine

/-! ## Lookups of the flow engine (R213, R214, R217, R221) -/

/-! ### Requests for a line (R214) -/

/-- A line with one more request behind those that wait. -/
def Line.asked (r : LockReq) (l : Line) : Line := { l with fifo := l.fifo ++ [r] }

/-- The lookup of thread t waits for the line, before a wait is counted. -/
def lockAsked (i idx t : Nat) (shared : Bool) (s : State) : State :=
  updTh t (fun h => { h with wait := .lock, shared := shared }) (updLine i idx (Line.asked { thread := t, shared := shared }) s)

section lock
variable (i idx t : Nat) (shared : Bool) (s : State)

theorem lockRequest_counted : (lockAsked i idx t shared s).changesOnly (lockRequest i idx t shared s) [.cnt] :=
  ite_only (countC_cnt_only _ _ _) (.refl _ _)

theorem lockRequest_only : s.changesOnly (lockRequest i idx t shared s) [.part, .eng, .cnt] :=
  (updLine_only i idx _ s).trans ((updTh_only t _ _).trans ((lockRequest_counted i idx t shared s).mono (by decide)))

theorem lockRequest_get : (lockRequest i idx t shared s).part.get i = { s.part.get i with
    lines := (s.part.get i).lines.map (fun l => if l.idx == idx then Line.asked { thread := t, shared := shared } l else l) } :=
  (congrArg (fun m => m.get i) (lockRequest_counted i idx t shared s .part (by decide))).trans (updPart_get _ _ _)

theorem lockRequest_th : (lockRequest i idx t shared s).th t = { s.th t with wait := .lock, shared := shared } :=
  (congrArg (fun e => e.th.get t) (lockRequest_counted i idx t shared s .eng (by decide))).trans (updTh_th _ _ _)

theorem lockRequest_line (j : Nat) : (lockRequest i idx t shared s).line i j =
    (s.line i j).map (fun l => if l.idx == idx then Line.asked { thread := t, shared := shared } l else l) := by
  unfold State.line
  rw [lockRequest_get]
  dsimp only
  rw [List.find?_map]
  congr 2
  funext l
  dsimp only [Function.comp]
  split <;> rfl

end lock

/-- Lookups have asked for lines of partition i: a line may hold more requests, and nothing else of the partition has changed. -/
structure LocksAsked (i : Nat) (s u : State) : Prop where
  only : s.changesOnly u [.part, .eng, .cnt]
  part : ∃ ls, u.part.get i = { s.part.get i with lines := ls }
  line : ∀ j l, s.line i j = some l → ∃ f, u.line i j = some { l with fifo := f }

namespace LocksAsked

theorem trans {i : Nat} {s u v : State} (h : LocksAsked i s u) (g : LocksAsked i u v) : LocksAsked i s v where
  only := h.only.trans g.only
  part := by
    obtain ⟨_, hp⟩ := h.part
    obtain ⟨ls, gp⟩ := g.part
    exact ⟨ls, by rw [gp, hp]⟩
  line j l hl := by
    obtain ⟨_, hu⟩ := h.line j l hl
    obtain ⟨f, hv⟩ := g.line j _ hu
    exact ⟨f, hv⟩

theorem of_eng {i : Nat} {s u : State} (h : s.changesOnly u [.eng]) : LocksAsked i s u where
  only := h.mono (by decide)
  part := ⟨_, congrArg (fun m => m.get i) (h .part (by decide))⟩
  line j l hl := ⟨l.fifo, (line_congr (congrArg (fun m => (m.get i).lines) (h .part (by decide))) j).trans hl⟩

theorem refl (i : Nat) (s : State) : LocksAsked i s s := of_eng (.refl s _)

theorem request (i idx t : Nat) (shared : Bool) (s : State) : LocksAsked i s (lockRequest i idx t shared s) where
  only := lockRequest_only i idx t shared s
  part := ⟨_, lockRequest_get i idx t shared s⟩
  line j l hl := by
    rw [lockRequest_line, hl, Option.map_some]
    split
    · exact ⟨_, rfl⟩
    · exact ⟨_, rfl⟩

theorem grants (i idx : Nat) (m : Miss) (learned : Bool) (s : State) : LocksAsked i s (missGrants i idx m learned s) := by
  unfold missGrants
  induction m.threads.zipIdx generalizing s with
  | nil => exact refl i s
  | cons x xs ih =>
    refine .trans ?_ (ih _)
    dsimp only
    split
    · exact (of_eng (updTh_only x.1 _ s)).trans (request i idx x.1 _ _)
    · exact request i idx x.1 _ s

end LocksAsked

/-! ### A clove enters the cache (R213, R217, R218) -/

/-- No lookup waits for a place in the queue of misses. -/
theorem dropMiss_unheld {i : Nat} {s : State} (h : (s.part.get i).held = []) (k : Nat) :
    dropMiss i k s = updPart i (fun p => { p with misses := p.misses.eraseIdx k }) s := by
  unfold dropMiss admitHeld
  rw [updPart_get]
  dsimp only
  rw [h]

/-- The line is installed where its set has room, and the miss is gone. -/
def lineInstalled (i k : Nat) (l : Line) (s : State) : State :=
  updPart i (fun p => { p with lines := l :: p.lines, misses := p.misses.eraseIdx k }) s

section install
variable {i k idx : Nat} {m : Miss} {c : Clove} {s : State} (hl : s.line i idx = none)
  (hw : ((s.part.get i).lines.filter (fun x => x.set == hashSet m.hash)).length < 16) (hh : (s.part.get i).held = [])
include hl hw hh

theorem missInstall_installs (dirty learned : Bool) : missInstall i k m idx c dirty learned s =
    missGrants i idx m learned (lineInstalled i k { idx := idx, set := hashSet m.hash, clove := c, dirty := dirty } s) := by
  have hi : installLine i { idx := idx, set := hashSet m.hash, clove := c, dirty := dirty } s =
      some (updPart i (fun p => { p with lines := { idx := idx, set := hashSet m.hash, clove := c, dirty := dirty } :: p.lines }) s) :=
    if_pos hw
  have hd := dropMiss_unheld (i := i)
    (s := updPart i (fun p => { p with lines := { idx := idx, set := hashSet m.hash, clove := c, dirty := dirty } :: p.lines }) s)
    (by rw [updPart_get]; exact hh) k
  unfold missInstall
  rw [hl, hi]
  dsimp only [Option.isSome_none]
  rw [if_neg Bool.false_ne_true]
  dsimp only
  rw [hd, updPart_updPart]
  rfl

/-- What the install of a clove that a miss found leaves. -/
theorem missInstall_line (dirty learned : Bool) : ∃ f, (missInstall i k m idx c dirty learned s).line i idx =
    some { idx := idx, set := hashSet m.hash, clove := c, dirty := dirty, fifo := f } := by
  rw [missInstall_installs hl hw hh]
  refine (LocksAsked.grants i idx m learned _).line idx { idx := idx, set := hashSet m.hash, clove := c, dirty := dirty } ?_
  unfold State.line lineInstalled
  rw [updPart_get]
  exact List.find?_cons_of_pos (beq_self_eq_true idx)

theorem missInstall_get (dirty learned : Bool) : ∃ ls, (missInstall i k m idx c dirty learned s).part.get i =
    { s.part.get i with lines := ls, misses := (s.part.get i).misses.eraseIdx k } := by
  rw [missInstall_installs hl hw hh]
  obtain ⟨ls, h⟩ := (LocksAsked.grants i idx m learned
    (lineInstalled i k { idx := idx, set := hashSet m.hash, clove := c, dirty := dirty } s)).part
  rw [lineInstalled, updPart_get] at h
  exact ⟨ls, h⟩

theorem missInstall_only (dirty learned : Bool) : s.changesOnly (missInstall i k m idx c dirty learned s) [.part, .eng, .cnt] := by
  rw [missInstall_installs hl hw hh]
  exact (updPart_only i _ s).trans (LocksAsked.grants i idx m learned _).only

/-- The lookup that learned a clove waits for it exclusively, ahead of all others (R217). -/
theorem missInstall_learner {th : Nat} (ht : m.threads = [th]) (dirty : Bool) :
    (missInstall i k m idx c dirty true s).line i idx =
      some { idx := idx, set := hashSet m.hash, clove := c, dirty := dirty, fifo := [{ thread := th, shared := false }] } ∧
    ((missInstall i k m idx c dirty true s).th th).wait = .lock ∧ ((missInstall i k m idx c dirty true s).th th).learned = true := by
  have e : missInstall i k m idx c dirty true s = lockRequest i idx th false (updTh th (fun h => { h with learned := true })
      (lineInstalled i k { idx := idx, set := hashSet m.hash, clove := c, dirty := dirty } s)) := by
    rw [missInstall_installs hl hw hh, missGrants, ht]
    rfl
  have hn : (updTh th (fun h => { h with learned := true })
      (lineInstalled i k { idx := idx, set := hashSet m.hash, clove := c, dirty := dirty } s)).line i idx =
      some { idx := idx, set := hashSet m.hash, clove := c, dirty := dirty } := by
    show ((updPart i _ s).part.get i).lines.find? _ = _
    rw [updPart_get]
    exact List.find?_cons_of_pos (beq_self_eq_true idx)
  rw [e, lockRequest_th, lockRequest_line, hn]
  refine ⟨?_, rfl, ?_⟩
  · rw [Option.map_some, if_pos (beq_self_eq_true idx)]
    rfl
  · rw [updTh_th]

end install

end Sys2Proof.Machine

namespace Sys2Proof.Machine

/-! ## O41: lookups of the flow engine (R209 to R224, R232, R286) -/

theorem tblGet_congr {s u : State} (h : u.tbl = s.tbl) (t i : Nat) : u.tblGet t i = s.tblGet t i := by
  unfold State.tblGet; rw [h]

theorem profile_congr {s u : State} (h : u.tbl = s.tbl) (k : Nat) : u.profile k = s.profile k := by
  unfold State.profile; rw [tblGet_congr h]

theorem candidates_congr {s u : State} (h : u.regs = s.regs) (i k : Nat) : u.candidates i k = s.candidates i k := by
  have hc : u.bucketCount = s.bucketCount := by
    funext j
    simp only [State.bucketCount, State.cloves, State.regF, State.reg, h]
  unfold State.candidates State.bucketBase
  rw [hc]

/-! ### A packet's lookup begins (R217, R284) -/

/-- The thread that begins the lookup of an ingress packet with a key. -/
def State.lookupThread (s : State) (i : Nat) (p : Pkt) (key : BitVec 384) : Thread :=
  { wait := .miss, egress := false, order := s.eng.nextOrder, pkt := { p with stEntry := s.now % 2 ^ 32 }, key := key, keyed := true,
    profile := p.flowProfile, prof := s.profile p.flowProfile, hash := s.hashOf i key }

/-- The packet has left its queue for thread t, and the lookup is counted. -/
def lookupBegun (i t : Nat) (p : Pkt) (rest : List Pkt) (key : BitVec 384) (s : State) : State :=
  countC p.cls (Cnt.FSE_LOOKUP i)
    (updEng (fun e => { e with th := e.th.set t (s.lookupThread i p key), nextOrder := e.nextOrder + 1 })
      { s with fseq := s.fseq.set (2 * i) rest })

section begun
variable (i t : Nat) (p : Pkt) (rest : List Pkt) (key : BitVec 384) (s : State)

theorem lookupBegun_only : s.changesOnly (lookupBegun i t p rest key s) [.fseq, .eng, .cnt] :=
  (fseq_only s _).trans ((eng_only _ _).trans (countC_cnt_only _ _ _))

theorem lookupBegun_fseq : (lookupBegun i t p rest key s).fseq = s.fseq.set (2 * i) rest :=
  (countC_cnt_only (fs := [.cnt]) _ _ _ (by decide)) .fseq (by decide)

theorem lookupBegun_eng : (lookupBegun i t p rest key s).eng =
    { s.eng with th := s.eng.th.set t (s.lookupThread i p key), nextOrder := s.eng.nextOrder + 1 } :=
  (countC_cnt_only (fs := [.cnt]) _ _ _ (by decide)) .eng (by decide)

theorem lookupBegun_th : (lookupBegun i t p rest key s).th t = s.lookupThread i p key := by
  unfold State.th
  rw [lookupBegun_eng]
  exact SMap.get_set_self _ _ _

/-- Whether the request shares the lock is what the profile of the clove says (R207, R214). -/
theorem lookupBegun_shared (idx : Nat) : (lookupBegun i t p rest key s).cloveShared (s.lookupThread i p key) i idx =
    profShared (s.profile (cvProfile (s.cloveNow i idx))) := by
  have hb := lookupBegun_only i t p rest key s
  have hc : (lookupBegun i t p rest key s).cloveNow i idx = s.cloveNow i idx :=
    cloveNow_congr (congrArg (fun m => (m.get i).lines) (hb .part (by decide))) (congrArg (fun m => m.get idx) (hb .clove (by decide)))
  unfold State.cloveShared State.profileFor
  rw [hc, profile_congr (hb .tbl (by decide))]
  split
  · next h => rw [h]; rfl
  · rfl

end begun

/-- The lookup of thread t, whose state is h, waits for the directory in a miss of its own (R217). -/
def missEntered (i t : Nat) (h : Thread) (s : State) : State :=
  updPart i (fun p => { p with misses := p.misses ++
      [{ key := h.key, profile := h.profile, prof := h.prof, hash := h.hash, b1 := (s.candidates i h.hash).1,
         b2 := (s.candidates i h.hash).2, threads := [t] }] })
    { s with eng := { s.eng with th := s.eng.th.set t { h with wait := .miss } } }

theorem missEntered_only (i t : Nat) (h : Thread) (s : State) : s.changesOnly (missEntered i t h s) [.fseq, .part, .eng, .cnt] :=
  (eng_only s _).trans (updPart_only i _ _)

theorem enterMiss_waits {i t : Nat} {s : State} (hne : ∀ m ∈ (s.part.get i).misses, m.key ≠ (s.th t).key)
    (hlen : (s.part.get i).misses.length < 1024) : enterMiss i t s = missEntered i t (s.th t) s := by
  have ha : ¬ ((s.part.get i).misses.any (fun m => m.key == (s.th t).key)) = true := by
    simpa using hne
  unfold enterMiss
  extract_lets h e u b
  have ha' : ¬ ((u.part.get i).misses.any (fun m => m.key == h.key)) = true := ha
  have hlen' : ¬ 1024 ≤ (u.part.get i).misses.length := Nat.not_le.mpr hlen
  rw [if_neg ha', if_neg hlen']
  rfl

section lookup
variable {i t : Nat} {key : BitVec 384} {p : Pkt} {rest : List Pkt} {s : State} (hq : s.fseq.get (2 * i) = p :: rest)
  (ht : s.freeThread i false = some t) (hv : profValid (s.profile p.flowProfile) = true)
  (h2 : spService (s.svcParam p.flowProfile) ≠ 2 ∨ isFragment (s.profile p.flowProfile) p = false)
  (h1 : spService (s.svcParam p.flowProfile) ≠ 1 ∨ nonFirst (s.profile p.flowProfile) p = none)
  (hk : buildKey (s.profile p.flowProfile) p false = some key)
include hq ht hv h2 h1 hk

theorem doFseLookup_keyed (hroom : (s.cacheHit i key (s.hashOf i key)).isNone = true → (s.part.get i).misses.length < 1024) :
    doFseLookup i false s = match s.cacheHit i key (s.hashOf i key) with
      | some l => lockRequest i l.idx t ((lookupBegun i t p rest key s).cloveShared (s.lookupThread i p key) i l.idx)
          (countC p.cls (Cnt.FSE_HIT i) (lookupBegun i t p rest key s))
      | none => enterMiss i t (lookupBegun i t p rest key s) := by
  unfold doFseLookup
  extract_lets q
  have hq' : s.fseq.get q = p :: rest := hq
  rw [hq']
  dsimp -zeta only
  rw [ht]
  dsimp -zeta only
  extract_lets pn prof key' hash hit p' th' u v
  have hkey : key' = some key := (if_pos hv).trans hk
  have hhash : hash = s.hashOf i key := by unfold hash; rw [hkey]
  have hhit : hit = s.cacheHit i key (s.hashOf i key) := by unfold hit; rw [hkey, hhash]; rfl
  have hth : th' = s.lookupThread i p key := by unfold th'; rw [hkey, hhash]; rfl
  have hvb : v = lookupBegun i t p rest key s := by unfold v u; rw [hth]; rfl
  have hsv : v.svcParam pn = s.svcParam p.flowProfile := by
    rw [hvb]
    exact tblGet_congr (lookupBegun_only i t p rest key s .tbl (by decide)) _ _
  have hfull : ¬ (key'.isSome && hit.isNone && decide (1024 ≤ (s.part.get i).misses.length)) = true := by
    intro hb
    obtain ⟨hb, hlen⟩ := Bool.and_eq_true_iff.mp hb
    have hmiss := (Bool.and_eq_true_iff.mp hb).2
    rw [hhit] at hmiss
    have := of_decide_eq_true hlen
    have := hroom hmiss
    omega
  have hfrag : isFragment prof p' = isFragment (s.profile p.flowProfile) p := rfl
  have hnon : nonFirst prof p' = nonFirst (s.profile p.flowProfile) p := rfl
  have hvalid : ¬ (!profValid prof) = true := fun e => Bool.noConfusion ((Bool.not_eq_true' _ ▸ e).symm.trans hv)
  have hnat64 : ¬ (spService (s.svcParam p.flowProfile) = 2 ∧ isFragment (s.profile p.flowProfile) p = true) := fun e =>
    h2.elim (fun k => k e.1) fun k => Bool.noConfusion (k.symm.trans e.2)
  have hnat44 : ¬ (false = false ∧ spService (s.svcParam p.flowProfile) = 1 ∧ (nonFirst (s.profile p.flowProfile) p).isSome = true) :=
    fun ⟨_, e1, e2⟩ => h1.elim (fun k => k e1) fun k => by rw [k] at e2; cases e2
  rw [if_neg hfull, if_neg hvalid, hsv, hfrag, hnon, if_neg hnat64, if_neg hnat44, hkey, hhit, hvb, hth] <;> rfl

theorem exec_fseLookup_miss (hr : s.running) (hi : i < 4) (hmiss : s.cacheHit i key (s.hashOf i key) = none)
    (hlen : (s.part.get i).misses.length < 1024) (hne : ∀ m ∈ (s.part.get i).misses, m.key ≠ key) :
    ∃ u, exec (.fseLookup i false) s = .next u ∧ u.fseq = s.fseq.set (2 * i) rest ∧ u.eng.nextOrder = s.eng.nextOrder + 1 ∧
      (u.th t).wait = .miss ∧ (u.th t).key = key ∧ (u.th t).order = s.eng.nextOrder ∧
      (u.part.get i).misses = (s.part.get i).misses ++
        [{ key := key, profile := p.flowProfile, prof := s.profile p.flowProfile, hash := s.hashOf i key,
           b1 := (s.candidates i (s.hashOf i key)).1, b2 := (s.candidates i (s.hashOf i key)).2, threads := [t] }] ∧
      s.fresh.changesOnly u [.fseq, .part, .eng, .cnt] := by
  have e := doFseLookup_keyed (s := s.fresh) hq ht hv h2 h1 hk fun _ => hlen
  have hmiss' : s.fresh.cacheHit i key (s.fresh.hashOf i key) = none := hmiss
  have hb := lookupBegun_only i t p rest key s.fresh
  have hp : (lookupBegun i t p rest key s.fresh).part = s.part := hb .part (by decide)
  have hth := lookupBegun_th i t p rest key s.fresh
  have hen := lookupBegun_eng i t p rest key s.fresh
  have hf := lookupBegun_fseq i t p rest key s.fresh
  have hc := candidates_congr (hb .regs (by decide)) i (s.fresh.lookupThread i p key).hash
  rw [hmiss'] at e
  dsimp only at e
  generalize lookupBegun i t p rest key s.fresh = v at e hb hp hth hen hf hc
  have hkey : (v.th t).key = key := by rw [hth]; rfl
  rw [enterMiss_waits (by rw [hkey, hp]; exact hne) (by rw [hp]; exact hlen), hth] at e
  have hall : s.fresh.changesOnly (missEntered i t (s.fresh.lookupThread i p key) v) [.fseq, .part, .eng, .cnt] :=
    (hb.mono (by decide)).trans (missEntered_only i t _ v)
  have hw : (missEntered i t (s.fresh.lookupThread i p key) v).th t = { s.fresh.lookupThread i p key with wait := .miss } :=
    SMap.get_set_self _ _ _
  refine ⟨_, partCmd_answers hr hi e hall, hf, congrArg EngSt.nextOrder hen, ?_, ?_, ?_, ?_, hall⟩
  · exact congrArg Thread.wait hw
  · exact congrArg Thread.key hw
  · exact congrArg Thread.order hw
  · rw [missEntered, updPart_get]
    dsimp only
    rw [hp]
    rw [hc]
    rfl

theorem exec_fseLookup_hit (hr : s.running) (hi : i < 4) {l : Line} (hhit : s.cacheHit i key (s.hashOf i key) = some l) :
    ∃ u, exec (.fseLookup i false) s = .next u ∧ u.fseq = s.fseq.set (2 * i) rest ∧ (u.th t).wait = .lock ∧
      (∃ l' ∈ (u.part.get i).lines, l'.idx = l.idx ∧
        l'.fifo.getLast? = some { thread := t, shared := profShared (s.profile (cvProfile (s.cloveNow i l.idx))) }) ∧
      s.fresh.changesOnly u [.fseq, .part, .eng, .cnt] := by
  have hhit' : s.fresh.cacheHit i key (s.fresh.hashOf i key) = some l := hhit
  have hmem : l ∈ (s.part.get i).lines := List.mem_of_find?_eq_some hhit
  have e := doFseLookup_keyed (s := s.fresh) hq ht hv h2 h1 hk fun hn => by rw [hhit'] at hn; cases hn
  have hb : s.fresh.changesOnly (countC p.cls (Cnt.FSE_HIT i) (lookupBegun i t p rest key s.fresh)) [.fseq, .eng, .cnt] :=
    (lookupBegun_only i t p rest key s.fresh).trans (countC_cnt_only _ _ _)
  have hf : (countC p.cls (Cnt.FSE_HIT i) (lookupBegun i t p rest key s.fresh)).fseq = s.fseq.set (2 * i) rest :=
    (countC_cnt_only (fs := [.cnt]) _ _ _ (by decide) .fseq (by decide)).trans (lookupBegun_fseq i t p rest key s.fresh)
  rw [hhit'] at e
  dsimp only at e
  rw [lookupBegun_shared] at e
  generalize countC p.cls (Cnt.FSE_HIT i) (lookupBegun i t p rest key s.fresh) = v at e hb hf
  have hp : v.part = s.part := hb .part (by decide)
  have hall : s.fresh.changesOnly (lockRequest i l.idx t (profShared (s.fresh.profile (cvProfile (s.fresh.cloveNow i l.idx)))) v)
      [.fseq, .part, .eng, .cnt] := (hb.mono (by decide)).trans ((lockRequest_only i l.idx t _ v).mono (by decide))
  refine ⟨_, partCmd_answers hr hi e hall, (lockRequest_only i l.idx t _ v .fseq (by decide)).trans hf, ?_, ?_, hall⟩
  · rw [lockRequest_th]
  · rw [lockRequest_get]
    refine ⟨_, List.mem_map_of_mem (hp ▸ hmem), ?_, ?_⟩
    · rw [if_pos (beq_self_eq_true l.idx)]
      rfl
    · rw [if_pos (beq_self_eq_true l.idx)]
      exact List.getLast?_concat

end lookup

theorem exec_fseLookup_noThread {i : Nat} {egress : Bool} {p : Pkt} {rest : List Pkt} {s : State} (hr : s.running) (hi : i < 4)
    (hq : s.fseq.get (2 * i + b2n egress) = p :: rest) (ht : s.freeThread i egress = none) :
    exec (.fseLookup i egress) s = .next (countC p.cls (Cnt.ENG_NO_THREAD i) s.fresh) := by
  refine partCmd_answers hr hi ?_ (countC_cnt_only (fs := [.cnt]) _ _ _)
  unfold doFseLookup
  have hq' : s.fresh.fseq.get (2 * i + b2n egress) = p :: rest := hq
  have ht' : s.fresh.freeThread i egress = none := ht
  extract_lets q
  rw [show s.fresh.fseq.get q = p :: rest from hq']
  dsimp -zeta only
  rw [ht']

end Sys2Proof.Machine

namespace Sys2Proof.Machine

/-! ### The first request of a line is granted (R214, R215, R286) -/

theorem touchLine_line (i idx : Nat) (s : State) : (touchLine i idx s).line i idx = s.line i idx := by
  unfold State.line touchLine
  rw [updPart_get]
  dsimp only
  have hothers : ((s.part.get i).lines.filter (fun l => l.idx != idx)).find? (fun l => l.idx == idx) = none := by
    simp [List.find?_eq_none]
  rw [List.find?_append, hothers, Option.or_none, List.find?_filter]
  congr 1
  funext l
  by_cases h : l.idx = idx
  · simp [h]
  · simp [h]

theorem touchLine_only (i idx : Nat) (s : State) {fs : List Fld} (h : Fld.part ∈ fs := by decide) :
    s.changesOnly (touchLine i idx s) fs := updPart_only i _ s h

/-- A start at a program that has a routine makes the thread ready at it (R286, R293, R295). -/
theorem dispatchFi_starts {t fipc u : Nat} {s : State} (hf : fipc ≤ 4095) (hz : (s.fiAt fipc).toNat / 2 ^ 24 ≠ 0)
    (hd : s.eng.disp.get ((s.fiAt fipc).toNat / 2 ^ 24) = some u) :
    dispatchFi t fipc s = updTh t (fun h => { h with live := { h.live with fipc := fipc, fi := s.fiAt fipc, upc := u } }) s := by
  unfold dispatchFi
  rw [if_neg (by omega)]
  extract_lets fi v
  have hd' : (if fi.toNat / 2 ^ 24 = 0 then none else v.eng.disp.get (fi.toNat / 2 ^ 24)) = some u := (if_neg hz).trans hd
  rw [hd']
  exact updTh_updTh t _ _ s

/-- The thread of a run as the run starts: its descriptor, its parameters and its segment are made, and the run is counted. -/
def runBegun (t : Nat) (s : State) : State :=
  let u := updTh t (fun h => { h with wait := .ready, started := true, live := {}, save := {}, tm := false, cause := 0,
                                      pending := if s.preempts t then 4 else 0, trapUsed := 0, maps := [], pushed := 0, pulled := 0 }) s
  count (Cnt.ENG_RUNS (thCluster t)) (updTh t (fun h => { h with
    desc := u.buildDesc t h, sp := u.runParam t h, seg := if h.keyed then tcpSeg h.prof h.pkt h.key else none }) u)

theorem startRun_eq (t fipc : Nat) (s : State) : startRun t fipc s = dispatchFi t fipc (runBegun t s) := by
  unfold startRun runBegun
  dsimp only

theorem runBegun_only (t : Nat) (s : State) : s.changesOnly (runBegun t s) [.eng, .cnt] :=
  (updTh_only t _ s).trans ((updTh_only t _ _).trans (count_cnt_only _ _))

theorem runBegun_eng (t : Nat) (s : State) : (runBegun t s).eng.disp = s.eng.disp :=
  (congrArg EngSt.disp (count_cnt_only (fs := [.cnt]) _ _ (by decide) .eng (by decide))).trans rfl

theorem runBegun_th (t : Nat) (s : State) : ((runBegun t s).th t).wait = .ready ∧ ((runBegun t s).th t).clove = (s.th t).clove := by
  unfold runBegun
  extract_lets u
  have e : ∀ v : State, (count (Cnt.ENG_RUNS (thCluster t)) v).th t = v.th t := fun v =>
    congrArg (fun e => e.th.get t) (count_cnt_only (fs := [.cnt]) _ v (by decide) .eng (by decide))
  rw [e, updTh_th]
  unfold u
  rw [updTh_th]
  exact ⟨rfl, rfl⟩

theorem startRun_starts {t fipc u : Nat} {s : State} (hf : fipc ≤ 4095) (hz : (s.fiAt fipc).toNat / 2 ^ 24 ≠ 0)
    (hd : s.eng.disp.get ((s.fiAt fipc).toNat / 2 ^ 24) = some u) :
    s.changesOnly (startRun t fipc s) [.eng, .cnt] ∧ ((startRun t fipc s).th t).wait = .ready ∧
      ((startRun t fipc s).th t).clove = (s.th t).clove ∧ ((startRun t fipc s).th t).live.fipc = fipc ∧
      ((startRun t fipc s).th t).live.upc = u := by
  have hb := runBegun_only t s
  obtain ⟨hw, hc⟩ := runBegun_th t s
  have hfi : (runBegun t s).fiAt fipc = s.fiAt fipc := by
    unfold State.fiAt
    rw [tblGet_congr (hb .tbl (by decide))]
  rw [startRun_eq, dispatchFi_starts hf (by rw [hfi]; exact hz) (by rw [hfi, runBegun_eng]; exact hd), updTh_th]
  exact ⟨hb.trans (updTh_only t _ _), hw, hc, rfl, rfl⟩

/-- The lock of a free line once a request has it (R214). -/
def lockOf (r : LockReq) : Lock := if r.shared then .shared [r.thread] else .excl r.thread

/-- The line of a grant to request r (R214, R215). -/
def grantedLine (r : LockReq) (rest : List LockReq) (c : Clove) (l : Line) : Line :=
  { l with lock := lockOf r, fifo := rest, clove := c, dirty := true }

/-- The line and the thread of a grant, before the run starts. -/
def lockGranted (i idx : Nat) (r : LockReq) (rest : List LockReq) (c : Clove) (s : State) : State :=
  let u := updLine i idx (grantedLine r rest c) (touchLine i idx s)
  let counted := profCount (u.profileFor (u.th r.thread) (cvProfile c))
  updTh r.thread (fun h => { h with
    clove := some idx, shared := r.shared,
    pkt := if h.egress then
        (if counted then { h.pkt with egrClove := some (i, idx), egrGen := cvGen c } else h.pkt)
      else { h.pkt with clove := some (i, idx), gen := cvGen c, counted := counted } }) u

section grant
variable {i idx : Nat} {l : Line} {r : LockReq} {rest : List LockReq} {s : State} (hl : s.line i idx = some l) (hf : l.fifo = r :: rest)
  (hk : l.lock = .free)
include hl hf hk

theorem doLockGrant_free : doLockGrant i idx s =
    startRun r.thread (cvProgram (hitUpdate s (s.th r.thread) l.clove))
      (lockGranted i idx r rest (hitUpdate s (s.th r.thread) l.clove) s) := by
  unfold doLockGrant
  rw [hl]
  dsimp -zeta only
  rw [hf]
  dsimp -zeta only
  rw [hk]
  rfl

omit hf hk in
theorem lockGranted_line (c : Clove) : (lockGranted i idx r rest c s).line i idx =
    some (grantedLine r rest c l) := by
  have e : (lockGranted i idx r rest c s).line i idx =
      (updLine i idx (grantedLine r rest c) (touchLine i idx s)).line i idx := rfl
  rw [e, updLine_line (f := grantedLine r rest c) (fun _ => rfl), touchLine_line, hl]
  rfl

omit hl hf hk in
theorem lockGranted_only (c : Clove) : s.changesOnly (lockGranted i idx r rest c s) [.part, .eng, .cnt] :=
  (touchLine_only i idx s).trans ((updLine_only i idx _ _).trans (updTh_only _ _ _))

end grant

theorem exec_lockGrant {i idx u : Nat} {l : Line} {r : LockReq} {rest : List LockReq} {s : State} (hr : s.running) (hi : i < 4)
    (hl : s.line i idx = some l) (hf : l.fifo = r :: rest) (hk : l.lock = .free)
    (hz : (s.fiAt (cvProgram (hitUpdate s (s.th r.thread) l.clove))).toNat / 2 ^ 24 ≠ 0)
    (hd : s.eng.disp.get ((s.fiAt (cvProgram (hitUpdate s (s.th r.thread) l.clove))).toNat / 2 ^ 24) = some u) :
    ∃ t, exec (.lockGrant i idx) s = .next t ∧ (t.th r.thread).wait = .ready ∧ (t.th r.thread).clove = some idx ∧
      (t.th r.thread).live.fipc = cvProgram (hitUpdate s (s.th r.thread) l.clove) ∧ (t.th r.thread).live.upc = u ∧
      t.line i idx = some { l with
        lock := if r.shared then .shared [r.thread] else .excl r.thread,
        fifo := rest, clove := hitUpdate s (s.th r.thread) l.clove, dirty := true } ∧
      s.fresh.changesOnly t [.part, .eng, .cnt] := by
  have e := doLockGrant_free (s := s.fresh) hl hf hk
  have hline := lockGranted_line (r := r) (rest := rest) (s := s.fresh) hl (hitUpdate s (s.th r.thread) l.clove)
  have hg := lockGranted_only (i := i) (idx := idx) (r := r) (rest := rest) (s := s.fresh) (hitUpdate s (s.th r.thread) l.clove)
  have hth : ((lockGranted i idx r rest (hitUpdate s (s.th r.thread) l.clove) s.fresh).th r.thread).clove = some idx := by
    rw [lockGranted, updTh_th]
  have hdisp : (lockGranted i idx r rest (hitUpdate s (s.th r.thread) l.clove) s.fresh).eng.disp = s.eng.disp := rfl
  have hc : hitUpdate s.fresh (s.fresh.th r.thread) l.clove = hitUpdate s (s.th r.thread) l.clove := rfl
  rw [hc] at e
  generalize hitUpdate s (s.th r.thread) l.clove = c at *
  generalize lockGranted i idx r rest c s.fresh = v at *
  have hfi : v.fiAt (cvProgram c) = s.fiAt (cvProgram c) := by
    unfold State.fiAt
    rw [tblGet_congr (hg .tbl (by decide))]
    rfl
  have hp : cvProgram c ≤ 4095 := Nat.le_of_lt_succ (Nat.mod_lt _ (by decide))
  obtain ⟨ho, hw, hcl, hpc, hupc⟩ := startRun_starts (t := r.thread) (s := v) (u := u) hp (by rw [hfi]; exact hz)
    (by rw [hfi, hdisp]; exact hd)
  have hall : s.fresh.changesOnly (startRun r.thread (cvProgram c) v) [.part, .eng, .cnt] := hg.trans (ho.mono (by decide))
  have hln : (startRun r.thread (cvProgram c) v).line i idx = v.line i idx :=
    line_congr (congrArg (fun m => (m.get i).lines) (ho .part (by decide))) idx
  exact ⟨_, partCmd_answers hr hi e hall, hw, hcl.trans hth, hpc, hupc, hln.trans hline, hall⟩

end Sys2Proof.Machine

namespace Sys2Proof.Machine

/-! ### Cloves of a miss are read (R217, R232) -/

section miss
variable {i k : Nat} {m : Miss} {s : State} (hm : (s.part.get i).misses[k]? = some m)
include hm

theorem doCloveRead_lost {idx : Nat} {rest : List Nat} {ue : Bool} (victim : Bool) (hst : m.stage = .candidates (idx :: rest))
    (hf : s.readFails i idx ue = true) :
    doCloveRead i k ue victim s = updMiss i k (fun m => { m with stage := .reading }) (loseClove i idx (some m.key) s) := by
  unfold doCloveRead
  rw [hm]
  dsimp only
  rw [hst]
  exact if_pos hf

theorem doCloveRead_next {idx next : Nat} {rest : List Nat} (victim : Bool) (hst : m.stage = .candidates (idx :: next :: rest))
    (hk : cvKey (s.cloveNow i idx) ≠ m.key) (hf : s.readFails i idx false = false) :
    doCloveRead i k false victim s = updMiss i k (fun m => { m with stage := .candidates (next :: rest) }) s := by
  have hno : ¬ (cvValid (s.cloveNow i idx) && cvKey (s.cloveNow i idx) == m.key) = true := by simp [hk]
  unfold doCloveRead
  rw [hm]
  dsimp only
  rw [hst]
  dsimp only
  rw [hf, if_neg Bool.false_ne_true, if_neg hno]
  rfl

theorem doCloveRead_found {idx : Nat} {rest : List Nat} (victim : Bool) (hst : m.stage = .candidates (idx :: rest))
    (hv : cvValid (s.cloveNow i idx) = true) (hk : cvKey (s.cloveNow i idx) = m.key) (hf : s.readFails i idx false = false)
    (hs : missStale s m = false) : doCloveRead i k false victim s =
      missInstall i k m idx (s.cloveNow i idx) false false (count (Cnt.FSE_FILL i) s) := by
  have hyes : (cvValid (s.cloveNow i idx) && cvKey (s.cloveNow i idx) == m.key) = true := by simp [hv, hk]
  unfold doCloveRead
  rw [hm]
  dsimp only
  rw [hst]
  dsimp only
  rw [hf, if_neg Bool.false_ne_true, if_pos hyes, hs, if_neg Bool.false_ne_true]

theorem doLineInstall_learned {idx : Nat} {c : Clove} {dirty : Bool} (hst : m.stage = .install idx c dirty true)
    (hv : cvValid (s.cloveNow i idx) = true) (hk : cvKey (s.cloveNow i idx) = m.key) :
    doLineInstall i k s = missInstall i k m idx (s.cloveNow i idx) dirty true s := by
  have hno : ¬ ((!true && missStale s m) || !(cvValid (s.cloveNow i idx) && cvKey (s.cloveNow i idx) == m.key)) = true := by
    simp [hv, hk]
  unfold doLineInstall
  rw [hm]
  dsimp only
  rw [hst]
  dsimp only
  rw [if_neg hno]

end miss

theorem updMiss_only (i k : Nat) (f : Miss → Miss) (s : State) {fs : List Fld} (h : Fld.part ∈ fs := by decide) :
    s.changesOnly (updMiss i k f s) fs := updPart_only i _ s h

theorem exec_cloveRead_lost {i k idx : Nat} {ue : Bool} (victim : Bool) {rest : List Nat} {m : Miss} {s : State} (hr : s.running)
    (hi : i < 4) (hm : (s.part.get i).misses[k]? = some m) (hst : m.stage = .candidates (idx :: rest))
    (hf : s.readFails i idx ue = true) :
    ∃ t, exec (.cloveRead i k ue victim) s = .next t ∧ t.clove = s.clove.set idx 0 ∧
      (t.part.get i).misses = (s.part.get i).misses.modify k (fun m => { m with stage := .reading }) ∧
      (t.part.get i).freeCache = runsCut (s.part.get i).freeCache idx (idx + 1) ∧
      s.fresh.changesOnly t (Fld.events ++ [.part, .clove, .dir]) := by
  have e := doCloveRead_lost (s := s.fresh) hm victim hst ((fresh_readFails ..).trans hf)
  have ho := loseClove_only i idx (some m.key) s.fresh
  have hc := loseClove_clove i idx (some m.key) s.fresh
  obtain ⟨n, p, q, hg⟩ := loseClove_get i idx (some m.key) s.fresh
  generalize loseClove i idx (some m.key) s.fresh = v at e ho hc hg
  have hall : s.fresh.changesOnly (updMiss i k (fun m => { m with stage := .reading }) v) (Fld.events ++ [.part, .clove, .dir]) :=
    ho.trans (updMiss_only i k _ v)
  refine ⟨_, partCmd_answers hr hi e hall, hc, ?_, ?_, hall⟩
  · rw [updMiss, updPart_get, hg]
    rfl
  · rw [updMiss, updPart_get, hg]
    rfl

theorem exec_cloveRead_next {i k idx next : Nat} (victim : Bool) {rest : List Nat} {m : Miss} {s : State} (hr : s.running) (hi : i < 4)
    (hm : (s.part.get i).misses[k]? = some m) (hst : m.stage = .candidates (idx :: next :: rest))
    (hk : cvKey (s.cloveNow i idx) ≠ m.key) (hf : s.readFails i idx false = false) :
    exec (.cloveRead i k false victim) s = .next
      (updMiss i k (fun m => { m with stage := .candidates (next :: rest) }) s.fresh) :=
  partCmd_answers hr hi (doCloveRead_next (s := s.fresh) hm victim hst hk ((fresh_readFails ..).trans hf))
    (updMiss_only i k _ s.fresh (fs := [.part]))

section installs
variable {i k idx : Nat} {m : Miss} {s : State} (hr : s.running) (hi : i < 4) (hm : (s.part.get i).misses[k]? = some m)
  (hl : s.line i idx = none) (hv : cvValid (s.clove.get idx) = true) (hk : cvKey (s.clove.get idx) = m.key)
  (hw : ((s.part.get i).lines.filter (fun x => x.set == hashSet m.hash)).length < 16) (hh : (s.part.get i).held = [])
include hr hi hm hl hv hk hw hh

theorem exec_cloveRead_found (victim : Bool) {rest : List Nat} (hst : m.stage = .candidates (idx :: rest))
    (hb : s.cloveBad i idx = false) (hs : missStale s m = false) :
    ∃ t, exec (.cloveRead i k false victim) s = .next t ∧ (t.part.get i).misses = (s.part.get i).misses.eraseIdx k ∧
      (∃ l, t.line i idx = some l ∧ l.clove = s.clove.get idx ∧ l.set = hashSet m.hash ∧ l.lock = .free) ∧
      s.fresh.changesOnly t (Fld.events ++ [.part, .eng, .clove, .dir, .svc]) := by
  have hl' : s.fresh.line i idx = none := hl
  have hcn := cloveNow_unlined hl'
  have e := doCloveRead_found (s := s.fresh) hm victim hst (by rw [hcn]; exact hv) (by rw [hcn]; exact hk)
    (readFails_sound ((fresh_cloveBad ..).trans hb)) hs
  rw [hcn] at e
  have hn : s.fresh.changesOnly (count (Cnt.FSE_FILL i) s.fresh) [.cnt] := count_cnt_only _ _
  have hp : (count (Cnt.FSE_FILL i) s.fresh).part = s.part := hn .part (by decide)
  generalize count (Cnt.FSE_FILL i) s.fresh = v at e hn hp
  have hlv : v.line i idx = none := (line_congr (s := s) (by rw [hp]) idx).trans hl
  have hwv : ((v.part.get i).lines.filter (fun x => x.set == hashSet m.hash)).length < 16 := by rw [hp]; exact hw
  have hhv : (v.part.get i).held = [] := by rw [hp]; exact hh
  obtain ⟨f, hline⟩ := missInstall_line (k := k) (c := s.fresh.clove.get idx) hlv hwv hhv false false
  obtain ⟨ls, hg⟩ := missInstall_get (k := k) (c := s.fresh.clove.get idx) hlv hwv hhv false false
  have hall := (hn.mono (gs := Fld.events ++ [.part, .eng, .clove, .dir, .svc]) (by decide)).trans
    ((missInstall_only (k := k) (c := s.fresh.clove.get idx) hlv hwv hhv false false).mono (by decide))
  refine ⟨_, partCmd_answers hr hi e hall, ?_, ⟨_, hline, rfl, rfl, rfl⟩, hall⟩
  rw [hg, hp]

theorem exec_lineInstall {c : Clove} {dirty : Bool} (hst : m.stage = .install idx c dirty true) :
    ∃ t, exec (.lineInstall i k) s = .next t ∧ (t.part.get i).misses = (s.part.get i).misses.eraseIdx k ∧
      (∃ l, t.line i idx = some l ∧ l.clove = s.clove.get idx ∧ l.dirty = dirty) ∧
      s.fresh.changesOnly t (Fld.events ++ [.part, .eng, .clove, .dir, .svc]) := by
  have hl' : s.fresh.line i idx = none := hl
  have hcn := cloveNow_unlined hl'
  have e := doLineInstall_learned (s := s.fresh) hm hst (by rw [hcn]; exact hv) (by rw [hcn]; exact hk)
  rw [hcn] at e
  obtain ⟨f, hline⟩ := missInstall_line (s := s.fresh) (k := k) (c := s.fresh.clove.get idx) hl hw hh dirty true
  obtain ⟨ls, hg⟩ := missInstall_get (s := s.fresh) (k := k) (c := s.fresh.clove.get idx) hl hw hh dirty true
  have hall := (missInstall_only (s := s.fresh) (k := k) (c := s.fresh.clove.get idx) hl hw hh dirty true).mono
    (gs := Fld.events ++ [.part, .eng, .clove, .dir, .svc]) (by decide)
  refine ⟨_, partCmd_answers hr hi e hall, ?_, ⟨_, hline, rfl, rfl⟩, hall⟩
  rw [hg]
  rfl

end installs

end Sys2Proof.Machine

namespace Sys2Proof.Machine

/-! ### The buckets of a miss arrive (R210, R217, R429) -/

theorem hbmGo_congr {s u : State} (h : u.hmc = s.hmc) (f n l : Nat) : u.hbmGo f n l = s.hbmGo f n l := by
  induction f generalizing n l with
  | zero => rfl
  | succ f ih =>
    unfold State.hbmGo
    rw [h]
    simp only [ih]

theorem hbmBad_congr {s u : State} (h : u.hmc = s.hmc) (a n : Nat) : u.hbmBad a n = s.hbmBad a n := by
  unfold State.hbmBad State.burstBad State.hbmLost State.pcRetired State.hbmAt
  simp only [hbmGo_congr h, h]

/-- Buckets have been read whole: the directory cache may hold others, and nothing else of the partition has changed. -/
structure BucketRead (i : Nat) (s u : State) : Prop where
  only : s.changesOnly u [.part, .free]
  part : ∃ c, u.part.get i = { s.part.get i with dirCache := c }

namespace BucketRead

theorem trans {i : Nat} {s u v : State} (h : BucketRead i s u) (g : BucketRead i u v) : BucketRead i s v where
  only := h.only.trans g.only
  part := by
    obtain ⟨_, hp⟩ := h.part
    obtain ⟨c, gp⟩ := g.part
    exact ⟨c, by rw [gp, hp]⟩

theorem bucketBad {i : Nat} {s u : State} (h : BucketRead i s u) (b : Nat) : u.bucketBad i b = s.bucketBad i b := by
  obtain ⟨c, hp⟩ := h.part
  unfold State.bucketBad
  rw [hbmBad_congr (h.only .hmc (by decide)), hp]

theorem clean {i b : Nat} {s : State} (h : s.bucketBad i b = false) : BucketRead i s (readBucket i b false s) := by
  unfold readBucket
  extract_lets p d kept u
  split
  · exact ⟨.refl s _, _, rfl⟩
  · have hd : s.changesOnly d.2 [.free] := by
      unfold d
      split
      · exact .refl s _
      · exact draw_only s
    have hp : d.2.part = s.part := hd .part (by decide)
    have hu : BucketRead i s u := ⟨(hd.mono (by decide)).trans (updPart_only i _ _), b :: kept, by rw [← hp]; exact updPart_get _ _ _⟩
    rw [Bool.false_or, hu.bucketBad, h, if_neg Bool.false_ne_true]
    exact hu

end BucketRead

/-- A miss whose buckets have just been read (R217 step 5). -/
def missRead (s : State) (m : Miss) : Miss :=
  { m with v1 := (s.dir.get m.b1).version, v2 := (s.dir.get m.b2).version }

/-- The cloves that the buckets of a miss name under its tag, in order (R217 step 6). -/
def State.tagged (s : State) (m : Miss) : List Nat :=
  (((s.dir.get m.b1).slots ++ (s.dir.get m.b2).slots).filter (fun x => x.tag == hashTag m.hash)).map DirSlot.idx

/-- The miss k of partition i has had its two buckets read. -/
structure MissRead (i k : Nat) (m : Miss) (s v : State) : Prop where
  only : s.changesOnly v [.part, .free]
  part : ∃ c, v.part.get i = { s.part.get i with dirCache := c, misses := (s.part.get i).misses.modify k (fun _ => missRead s m) }

section arrive
variable {i k : Nat} {m : Miss} {s : State} (hm : (s.part.get i).misses[k]? = some m) (hst : m.stage = .reading)
  (h1 : s.bucketBad i m.b1 = false) (h2 : s.bucketBad i m.b2 = false)
include hm hst h1 h2

theorem doDirectoryRead_whole (ue : Bool) : ∃ v, MissRead i k m s v ∧
    doDirectoryRead i k false false ue s = missCandidates i k (missRead s m) (s.tagged m) ue v := by
  have hb : BucketRead i s (readBucket i m.b1 false s) := .clean h1
  have hv : BucketRead i s (readBucket i m.b2 false (readBucket i m.b1 false s)) := hb.trans (.clean ((hb.bucketBad _).trans h2))
  have hd : (readBucket i m.b2 false (readBucket i m.b1 false s)).dir = s.dir := hv.only .dir (by decide)
  obtain ⟨c, hp⟩ := hv.part
  refine ⟨updMiss i k (fun _ => missRead s m) (readBucket i m.b2 false (readBucket i m.b1 false s)),
    ⟨hv.only.trans (updMiss_only i k _ _), c, by rw [updMiss, updPart_get, hp]⟩, ?_⟩
  unfold doDirectoryRead
  rw [hm]
  dsimp only
  rw [if_neg (fun hne => hne hst), hd]
  rfl

theorem doDirectoryRead_none (ue : Bool) (hc : s.tagged m = []) : ∃ v, MissRead i k m s v ∧
    doDirectoryRead i k false false ue s = missLearn i k (missRead s m) ue v := by
  obtain ⟨v, hv, e⟩ := doDirectoryRead_whole hm hst h1 h2 ue
  have hs : missStale v (missRead s m) = false := by
    unfold missStale
    rw [hv.only .dir (by decide)]
    simp [missRead]
  refine ⟨v, hv, e.trans ?_⟩
  rw [missCandidates, hc, hs]
  rfl

end arrive

theorem exec_directoryRead_matches {i k : Nat} (ue : Bool) {m : Miss} {s : State} (hr : s.running) (hi : i < 4)
    (hm : (s.part.get i).misses[k]? = some m) (hst : m.stage = .reading) (h1 : s.bucketBad i m.b1 = false)
    (h2 : s.bucketBad i m.b2 = false)
    (hc : ((s.dir.get m.b1).slots ++ (s.dir.get m.b2).slots).filter (fun x => x.tag == hashTag m.hash) ≠ []) :
    ∃ t, exec (.directoryRead i k false false ue) s = .next t ∧ t.dir = s.dir ∧
      (t.part.get i).misses = (s.part.get i).misses.modify k (fun _ =>
        { m with
          v1 := (s.dir.get m.b1).version, v2 := (s.dir.get m.b2).version,
          stage := .candidates ((((s.dir.get m.b1).slots ++ (s.dir.get m.b2).slots).filter
            (fun x => x.tag == hashTag m.hash)).map DirSlot.idx) }) ∧
      s.fresh.changesOnly t [.part, .free] := by
  obtain ⟨v, hv, e⟩ := doDirectoryRead_whole (s := s.fresh) hm hst ((fresh_bucketBad ..).trans h1) ((fresh_bucketBad ..).trans h2) ue
  obtain ⟨c, hp⟩ := hv.part
  have hne : (!(s.fresh.tagged m).isEmpty) = true := by
    have : s.fresh.tagged m ≠ [] := fun h => hc (List.map_eq_nil_iff.mp h)
    simpa using this
  have hall : s.fresh.changesOnly (updMiss i k (fun m' => { m' with stage := .candidates (s.fresh.tagged m) }) v) [.part, .free] :=
    hv.only.trans (updMiss_only i k _ v)
  refine ⟨_, partCmd_answers hr hi (e.trans (if_pos hne)) hall, hv.only .dir (by decide), ?_, hall⟩
  rw [updMiss, updPart_get, hp]
  dsimp only
  rw [List.modify_modify_eq]
  rfl

/-! ### What is not learned takes the no-state action (R219, R220, R225, R226) -/

theorem dropPreempt_only (t : Nat) (s : State) {fs : List Fld} (h : Fld.eng ∈ fs := by decide) : s.changesOnly (dropPreempt t s) fs := by
  unfold dropPreempt
  split
  · exact ite_only (eng_only s _ h) (.refl s fs)
  · exact .refl s fs

/-- A packet that DROP decides (R225). -/
structure Dropped (t : Nat) (s u : State) : Prop where
  only : s.changesOnly u [.eng, .cnt]
  wait : (u.th t).wait = .ended
  verdict : (u.th t).verdict = 1

/-- The no-state entry of the partition says DROP (R225). -/
def State.dropsStateless (s : State) (i : Nat) : Prop := datB (s.tblGet 0x25 (s.regF (Reg.FSE_PART_CFG i) 11 8)) 0 0 2 = 0

theorem noState_drops {i t : Nat} {s : State} (h : s.dropsStateless i) : Dropped t s (noState i t s) := by
  unfold noState
  extract_lets e g u fin
  have he : datB e 0 0 2 = 0 := h
  rw [he]
  have hu : s.changesOnly (dropPreempt t u) [.eng, .cnt] := (countC_cnt_only _ _ s).trans (dropPreempt_only t u)
  show Dropped t s (fin 1 0)
  unfold fin
  exact ⟨hu.trans (updTh_only t _ _), by rw [updTh_th], by rw [updTh_th]⟩

theorem Dropped.given {i t : Nat} {s u : State} (h : Dropped t s u) (c : Option Nat) : Dropped t s (giveClove i t c u) := by
  unfold giveClove
  split
  · refine ⟨h.only.trans (updTh_only t _ u), ?_, ?_⟩
    · rw [updTh_th]
      split <;> exact h.wait
    · rw [updTh_th]
      split <;> exact h.verdict
  · exact h

theorem countEarlyFragment_only (i t : Nat) (s : State) {fs : List Fld} (h : Fld.cnt ∈ fs := by decide) :
    s.changesOnly (countEarlyFragment i t s) fs := by
  unfold countEarlyFragment
  extract_lets g
  split
  · exact .refl s fs
  · exact ite_only (countC_cnt_only _ _ _ h) (.refl s fs)

theorem regF_congr {s u : State} (h : u.regs = s.regs) (a hi lo : Nat) : u.regF a hi lo = s.regF a hi lo := by
  unfold State.regF State.reg
  rw [h]

theorem dropsStateless_congr {i : Nat} {s u : State} (hr : u.regs = s.regs) (ht : u.tbl = s.tbl) (h : s.dropsStateless i) :
    u.dropsStateless i := by
  unfold State.dropsStateless
  rw [regF_congr hr, tblGet_congr ht]
  exact h

theorem lookupNoState_drops {i t : Nat} {s : State} (h : s.dropsStateless i) : Dropped t s (lookupNoState i t s) := by
  have hu : s.icmpUnmatched i (s.th t) = false := by
    have ha : (datB (s.tblGet 0x25 (s.regF (Reg.FSE_PART_CFG i) 11 8)) 0 0 2 == 3) = false := by
      rw [show datB _ 0 0 2 = 0 from h]
      rfl
    unfold State.icmpUnmatched
    rw [ha]
    simp
  have hc := countEarlyFragment_only i t s (fs := [.cnt])
  have hn := noState_drops (t := t) (dropsStateless_congr (hc .regs (by decide)) (hc .tbl (by decide)) h)
  unfold lookupNoState
  rw [hu, if_neg Bool.false_ne_true]
  exact Dropped.given ⟨(hc.mono (by decide)).trans hn.only, hn.wait, hn.verdict⟩ _

theorem missLearn_fails (i k : Nat) {m : Miss} (ue : Bool) {s : State} (h : profLearn m.prof = false ∨ s.learnRoom i = false) :
    ∃ w, missLearn i k m ue s = missFails i k m w ∧ s.changesOnly w Fld.events := by
  unfold missLearn
  extract_lets cause
  have hc : ∀ c, s.changesOnly (cause c s) Fld.events := fun c => (countA_cnt_only _ _ _ _).mono (by decide)
  split
  · exact ⟨_, rfl, hc _⟩
  · split
    · exact ⟨_, rfl, .refl s _⟩
    · next hl =>
      split
      · exact ⟨_, rfl, (hc _).trans (raiseLim_only _ _ _ _ _ _ _)⟩
      · next hroom =>
        exact h.elim (fun e => absurd (by rw [e]; rfl) hl) (fun e => absurd (by rw [e]; rfl) hroom)

theorem learnRoom_congr {i : Nat} {s u : State} (hw : (u.part.get i).learnWin = (s.part.get i).learnWin) (ht : u.tbe = s.tbe)
    (hr : u.regs = s.regs) : u.learnRoom i = s.learnRoom i := by
  unfold State.learnRoom State.now
  rw [hw, ht, regF_congr hr]

theorem exec_directoryRead_drops {i k th : Nat} (ue : Bool) {m : Miss} {s : State} (hr : s.running) (hi : i < 4)
    (hm : (s.part.get i).misses[k]? = some m) (hst : m.stage = .reading) (ht : m.threads = [th]) (h1 : s.bucketBad i m.b1 = false)
    (h2 : s.bucketBad i m.b2 = false)
    (hc : ((s.dir.get m.b1).slots ++ (s.dir.get m.b2).slots).filter (fun x => x.tag == hashTag m.hash) = [])
    (hl : profLearn m.prof = false ∨ s.learnRoom i = false) (ha : s.dropsStateless i) (hh : (s.part.get i).held = []) :
    ∃ t, exec (.directoryRead i k false false ue) s = .next t ∧ (t.part.get i).misses = (s.part.get i).misses.eraseIdx k ∧
      (t.th th).wait = .ended ∧ (t.th th).verdict = 1 ∧ s.fresh.changesOnly t (Fld.events ++ [.part, .eng, .free]) := by
  obtain ⟨v, hv, e⟩ := doDirectoryRead_none (s := s.fresh) hm hst ((fresh_bucketBad ..).trans h1) ((fresh_bucketBad ..).trans h2) ue
    (List.map_eq_nil_iff.mpr hc)
  obtain ⟨c, hp⟩ := hv.part
  have hroom : v.learnRoom i = s.learnRoom i :=
    learnRoom_congr (s := s) (by rw [hp]; rfl) (hv.only .tbe (by decide)) (hv.only .regs (by decide))
  obtain ⟨w, ew, hw⟩ := missLearn_fails i k (m := missRead s.fresh m) ue (s := v) (by rw [hroom]; exact hl)
  have hwp : w.part.get i = v.part.get i := congrArg (fun m => m.get i) (hw .part (by decide))
  have hall : s.fresh.changesOnly w (Fld.events ++ [.part, .eng, .free]) := (hv.only.mono (by decide)).trans (hw.mono (by decide))
  rw [ew, missFails, show (missRead s.fresh m).threads = [th] from ht, dropMiss_unheld (by rw [hwp, hp]; exact hh)] at e
  have hu : s.fresh.changesOnly (updPart i (fun p => { p with misses := p.misses.eraseIdx k }) w) (Fld.events ++ [.part, .eng, .free]) :=
    hall.trans (updPart_only i _ w)
  have hg : ((updPart i (fun p => { p with misses := p.misses.eraseIdx k }) w).part.get i).misses = (s.part.get i).misses.eraseIdx k := by
    rw [updPart_get, hwp, hp]
    exact List.eraseIdx_modify_of_eq _ _ _
  generalize updPart i (fun p => { p with misses := p.misses.eraseIdx k }) w = x at e hu hg
  have hd := lookupNoState_drops (t := th) (dropsStateless_congr (hu .regs (by decide)) (hu .tbl (by decide)) ha)
  have hend := hu.trans (hd.only.mono (by decide))
  exact ⟨_, partCmd_answers hr hi e hend, (congrArg (fun m => (m.get i).misses) (hd.only .part (by decide))).trans hg, hd.wait,
    hd.verdict, hend⟩

end Sys2Proof.Machine

namespace Sys2Proof.Machine

/-! ### A flow is learned (R219, R221, R222) -/

theorem learnedClove_congr {s u : State} (ht : u.tbe = s.tbe) (hr : u.regs = s.regs) (key : BitVec 384) (profile : Nat) (p : Dat) :
    learnedClove u key profile p = learnedClove s key profile p := by
  have hn : u.now = s.now := congrArg Tbe.st ht
  have ha : u.ageStamp = s.ageStamp := by
    unfold State.ageStamp State.agePeriod
    rw [hn, regF_congr hr]
  unfold learnedClove State.ms
  rw [hn, ha]

/-- GEN of the next clove of a partition (R222). -/
def State.genNext (s : State) (i : Nat) : Nat := ((s.part.get i).learnSeq + 1).toNat % 256

/-- The clove of a learned flow in its slot (R221). -/
def State.learnt (s : State) (i b slot : Nat) (m : Miss) : Clove := slotted b slot (s.genNext i) (learnedClove s m.key m.profile m.prof)

/-- The clove of a learned flow is written, and the learn charged, before the flow enters the cache. -/
def learnWritten (i b slot idx : Nat) (m : Miss) (s : State) : State :=
  let g := nextGen i s
  chargeLearn i (placeClove i b slot idx (hashTag m.hash) g.1 (learnedClove g.2 m.key m.profile m.prof) g.2)

/-- The learn is counted, with the lookups that an ageing has raced. -/
def flowCounted (i idx : Nat) (m : Miss) (s : State) : State :=
  let u := countA (flowAttr i 3 idx) (Cnt.FSE_LEARN i) 1 s
  (m.threads.filter (fun t => (u.th t).raced)).foldl (fun s t => countC (s.th t).pkt.cls (Cnt.FSE_AGE_RACE i) s) u

theorem learnAt_eq (i k b slot idx : Nat) (m : Miss) (s : State) : learnAt i k m b slot idx s =
    missInstall i k m idx ((flowCounted i idx m (learnWritten i b slot idx m s)).clove.get idx) true true
      (flowCounted i idx m (learnWritten i b slot idx m s)) := by
  unfold learnAt flowCounted learnWritten
  dsimp only

theorem flowCounted_only (i idx : Nat) (m : Miss) (s : State) : s.changesOnly (flowCounted i idx m s) [.cnt] :=
  (countA_cnt_only _ _ _ s).trans (foldl_only (fun _ _ => countC_cnt_only _ _ _) _ _)

theorem chargeLearn_only (i : Nat) (s : State) {fs : List Fld} (h : Fld.part ∈ fs := by decide) : s.changesOnly (chargeLearn i s) fs :=
  updPart_only i _ s h

theorem placeClove_get (i b k idx tag gen : Nat) (c : Clove) (s : State) : (placeClove i b k idx tag gen c s).part.get i =
    { s.part.get i with used := (s.part.get i).used + 1, pinned := (s.part.get i).pinned + b2n (cvPinned c) } := by
  unfold placeClove
  extract_lets d u
  have hd : cvPinned d = cvPinned c := slotted_pinned b k gen c
  rw [updPart_get, hd]
  clear_value d
  rfl

section written
variable (i b slot idx : Nat) (m : Miss) (s : State)

theorem nextGen_fst : (nextGen i s).1 = s.genNext i := by
  rw [nextGen, updPart_get]
  rfl

theorem learnWritten_only : s.changesOnly (learnWritten i b slot idx m s) Fld.placed :=
  (nextGen_only i s).trans ((placeClove_only i b slot idx _ _ _ _).trans (chargeLearn_only i _))

theorem learnWritten_eq : learnWritten i b slot idx m s = chargeLearn i
    (placeClove i b slot idx (hashTag m.hash) (s.genNext i) (learnedClove s m.key m.profile m.prof) (nextGen i s).2) := by
  have hn := nextGen_only i s (fs := [.part])
  unfold learnWritten
  dsimp only
  rw [nextGen_fst, learnedClove_congr (hn .tbe (by decide)) (hn .regs (by decide))]

theorem learnWritten_clove : (learnWritten i b slot idx m s).clove = s.clove.set idx (s.learnt i b slot m) := by
  rw [learnWritten_eq, chargeLearn, updPart_clove, placeClove_clove]
  rfl

theorem learnWritten_dir : (learnWritten i b slot idx m s).dir = (updBucket b (fun d => { d with
    slots := d.slots ++ [{ slot := slot, idx := idx, tag := hashTag m.hash, pinned := cvPinned (s.learnt i b slot m) }] }) s).dir := by
  rw [learnWritten_eq, State.learnt, slotted_pinned, chargeLearn_only (fs := [.part]) i _ (by decide) .dir (by decide), placeClove_dir,
    updBucket, updBucket, nextGen_only (fs := [.part]) i s (by decide) .dir (by decide)]

theorem learnWritten_get : ∃ n p w, (learnWritten i b slot idx m s).part.get i =
    { s.part.get i with learnSeq := n, used := (s.part.get i).used + 1, pinned := p, learnWin := w } := by
  have hn : (nextGen i s).2.part.get i = { s.part.get i with learnSeq := (s.part.get i).learnSeq + 1 } := updPart_get _ _ _
  rw [learnWritten_eq, chargeLearn, updPart_get, placeClove_get, hn]
  exact ⟨_, _, _, rfl⟩

end written

/-- Partition i has learned the flow of a miss k of thread th: its clove c stands in slot `slot` of bucket b under index idx, and the
thread waits for it exclusively, ahead of all others (R217, R221). -/
structure Learned (i k th b slot idx : Nat) (m : Miss) (s t : State) : Prop where
  clove : t.clove = s.clove.set idx (s.learnt i b slot m)
  dir : t.dir = (updBucket b (fun d => { d with
    slots := d.slots ++ [{ slot := slot, idx := idx, tag := hashTag m.hash, pinned := cvPinned (s.learnt i b slot m) }] }) s).dir
  part : ∃ n p w ls, t.part.get i = { s.part.get i with
    learnSeq := n, used := (s.part.get i).used + 1, pinned := p, learnWin := w, lines := ls, misses := (s.part.get i).misses.eraseIdx k }
  wait : (t.th th).wait = .lock
  learned : (t.th th).learned = true
  line : ∃ l, t.line i idx = some l ∧ l.clove = s.learnt i b slot m ∧ l.fifo = [{ thread := th, shared := false }]
  only : s.changesOnly t [.part, .eng, .clove, .dir, .svc, .cnt]

theorem learnAt_learns {i k th b slot idx : Nat} {m : Miss} {s : State} (ht : m.threads = [th]) (hl : s.line i idx = none)
    (hw : ((s.part.get i).lines.filter (fun x => x.set == hashSet m.hash)).length < 16) (hh : (s.part.get i).held = []) :
    Learned i k th b slot idx m s (learnAt i k m b slot idx s) := by
  have hc := flowCounted_only i idx m (learnWritten i b slot idx m s)
  have ho : s.changesOnly (flowCounted i idx m (learnWritten i b slot idx m s)) [.part, .eng, .clove, .dir, .svc, .cnt] :=
    ((learnWritten_only i b slot idx m s).mono (by decide)).trans (hc.mono (by decide))
  have hcl := (hc .clove (by decide)).trans (learnWritten_clove i b slot idx m s)
  have hd := (hc .dir (by decide)).trans (learnWritten_dir i b slot idx m s)
  obtain ⟨n, p, w, hg⟩ := learnWritten_get i b slot idx m s
  rw [← congrArg (fun m => m.get i) (show (flowCounted i idx m (learnWritten i b slot idx m s)).part = _ from hc .part (by decide))] at hg
  rw [learnAt_eq]
  generalize flowCounted i idx m (learnWritten i b slot idx m s) = v at ho hcl hd hg
  have hc' : v.clove.get idx = s.learnt i b slot m := by rw [hcl, SMap.get_set_self]
  have hlv : v.line i idx = none := (line_congr (s := s) (by rw [hg]) idx).trans hl
  have hwv : ((v.part.get i).lines.filter (fun x => x.set == hashSet m.hash)).length < 16 := by rw [hg]; exact hw
  have hhv : (v.part.get i).held = [] := by rw [hg]; exact hh
  rw [hc']
  have hi := missInstall_only (k := k) (c := s.learnt i b slot m) hlv hwv hhv true true
  obtain ⟨ls, hp⟩ := missInstall_get (k := k) (c := s.learnt i b slot m) hlv hwv hhv true true
  obtain ⟨hline, hwait, hlearned⟩ := missInstall_learner (k := k) (c := s.learnt i b slot m) hlv hwv hhv ht true
  exact {
    clove := (hi .clove (by decide)).trans hcl
    dir := (hi .dir (by decide)).trans hd
    part := ⟨n, p, w, ls, by rw [hp, hg]⟩
    wait := hwait
    learned := hlearned
    line := ⟨_, hline, rfl, rfl⟩
    only := ho.trans (hi.mono (by decide)) }

end Sys2Proof.Machine

namespace Sys2Proof.Machine

theorem learnt_congr {i : Nat} {s u : State} (hg : (u.part.get i).learnSeq = (s.part.get i).learnSeq) (ht : u.tbe = s.tbe)
    (hr : u.regs = s.regs) (b slot : Nat) (m : Miss) : u.learnt i b slot m = s.learnt i b slot m := by
  unfold State.learnt State.genNext
  rw [hg, learnedClove_congr ht hr]

theorem pinRoom_congr {i : Nat} {s u : State} (hp : (u.part.get i).pinned = (s.part.get i).pinned) (hr : u.regs = s.regs) :
    u.pinRoom i = s.pinRoom i := by
  unfold State.pinRoom
  rw [hp, regF_congr hr]

theorem freeBucket_congr {s u : State} (h : u.dir = s.dir) (b1 b2 : Nat) : freeBucket u b1 b2 = freeBucket s b1 b2 := by
  unfold freeBucket
  rw [h]

theorem eligible_congr {i : Nat} {s u : State} (hl : (u.part.get i).lines = (s.part.get i).lines) (hd : u.dir = s.dir) (b : Nat) :
    u.eligible i b = s.eligible i b := by
  have hk : u.locked i = s.locked i := funext fun idx => by unfold State.locked; rw [line_congr hl]
  unfold State.eligible
  rw [hd, hk]

/-- A flow that partition i may learn (R219, R220): the profile says LEARN in Service, and neither a limit nor a lost pair of buckets
stands against it. -/
structure Learnable (i : Nat) (m : Miss) (s : State) : Prop where
  bucket : ((s.dir.get m.b1).gone && (s.dir.get m.b2).gone) = false
  mode : s.md.mode = .service
  learn : profLearn m.prof = true
  room : s.learnRoom i = true
  pin : profPin m.prof = false ∨ s.pinRoom i = true

namespace Learnable

theorem read {i k : Nat} {m : Miss} {s v : State} (h : Learnable i m s) (hv : MissRead i k m s v) : Learnable i (missRead s m) v := by
  obtain ⟨c, hp⟩ := hv.part
  have hr := hv.only .regs (by decide)
  have hroom : v.learnRoom i = s.learnRoom i := learnRoom_congr (by rw [hp]) (hv.only .tbe (by decide)) hr
  have hpin : v.pinRoom i = s.pinRoom i := pinRoom_congr (by rw [hp]) hr
  exact {
    bucket := by rw [hv.only .dir (by decide)]; exact h.bucket
    mode := (congrArg ModeSt.mode (hv.only .md (by decide))).trans h.mode
    learn := h.learn
    room := hroom.trans h.room
    pin := h.pin.imp id hpin.trans }

theorem not_refused {i : Nat} {m : Miss} {s : State} (h : Learnable i m s) :
    ¬ (!profLearn m.prof || !(s.md.mode == .service || s.md.mode == .headless)) = true := by
  rw [h.learn, h.mode]
  decide

theorem not_pinned {i : Nat} {m : Miss} {s : State} (h : Learnable i m s) : ¬ (profPin m.prof && !s.pinRoom i) = true := by
  intro hp
  obtain ⟨hpin, hroom⟩ := Bool.and_eq_true_iff.mp hp
  rcases h.pin with e | e
  · exact Bool.noConfusion (e.symm.trans hpin)
  · rw [e] at hroom
    cases hroom

variable {i k : Nat} {m : Miss} {s : State} (h : Learnable i m s) (ue : Bool)
include h

theorem learns {b slot idx : Nat} {runs : List (Nat × Nat)} (hb : freeBucket s m.b1 m.b2 = some (b, slot))
    (hx : runsPop (s.part.get i).freeCache = some (idx, runs)) :
    missLearn i k m ue s = learnAt i k m b slot idx (updPart i (fun p => { p with freeCache := runs }) s) := by
  have ht : takeIndex i s = some (idx, updPart i (fun p => { p with freeCache := runs }) s) := by
    unfold takeIndex
    rw [hx]
  unfold missLearn
  extract_lets cause
  rw [h.bucket, if_neg Bool.false_ne_true, if_neg h.not_refused, h.room, if_neg (by decide), if_neg h.not_pinned, hb, ht]

/-- With no free slot, a victim that can be read leaves its slot and its index to the flow (R223). -/
theorem evicts {x : DirSlot} (hb : freeBucket s m.b1 m.b2 = none) (hx : chooseVictim i m.b1 m.b2 s = (some (m.b1, x), s))
    (hf : s.readFails i x.idx ue = false) :
    missLearn i k m ue s = learnAt i k m m.b1 x.slot x.idx
      (countA (flowAttr i 3 x.idx) (Cnt.FSE_EVICT i) 1 (deleteClove 3 i x.idx 3 false s)) := by
  unfold missLearn
  extract_lets cause
  rw [h.bucket, if_neg Bool.false_ne_true, if_neg h.not_refused, h.room, if_neg (by decide), if_neg h.not_pinned, hb]
  dsimp only
  rw [hx]
  dsimp only
  rw [hf, if_neg Bool.false_ne_true]

end Learnable

section learn
variable {i k th : Nat} (ue : Bool) {m : Miss} {s : State} (hr : s.running) (hi : i < 4)
  (hm : (s.part.get i).misses[k]? = some m) (hst : m.stage = .reading) (ht : m.threads = [th]) (h1 : s.bucketBad i m.b1 = false)
  (h2 : s.bucketBad i m.b2 = false)
  (hc : ((s.dir.get m.b1).slots ++ (s.dir.get m.b2).slots).filter (fun x => x.tag == hashTag m.hash) = []) (ha : Learnable i m s)
  (hw : ((s.part.get i).lines.filter (fun x => x.set == hashSet m.hash)).length < 16) (hh : (s.part.get i).held = [])
include hr hi hm hst ht h1 h2 hc ha hw hh

theorem exec_directoryRead_learns {b slot idx : Nat} {runs : List (Nat × Nat)} (hb : freeBucket s m.b1 m.b2 = some (b, slot))
    (hx : runsPop (s.part.get i).freeCache = some (idx, runs)) (hl : s.line i idx = none) :
    ∃ t, exec (.directoryRead i k false false ue) s = .next t ∧ t.clove = s.clove.set idx (s.learnt i b slot m) ∧
      t.dir = s.dir.upd b (fun d =>
        { d with
          version := (d.version + 1) % 2 ^ 32,
          slots := d.slots ++ [{ slot := slot, idx := idx, tag := hashTag m.hash, pinned := cvPinned (s.learnt i b slot m) }] }) ∧
      (t.part.get i).misses = (s.part.get i).misses.eraseIdx k ∧ (t.part.get i).freeCache = runs ∧
      (t.part.get i).used = (s.part.get i).used + 1 ∧ (t.th th).wait = .lock ∧ (t.th th).learned = true ∧
      (∃ l, t.line i idx = some l ∧ l.clove = s.learnt i b slot m ∧ l.fifo = [{ thread := th, shared := false }]) ∧
      s.fresh.changesOnly t (Fld.events ++ [.part, .eng, .clove, .dir, .svc, .free]) := by
  obtain ⟨v, hv, e⟩ := doDirectoryRead_none (s := s.fresh) hm hst ((fresh_bucketBad ..).trans h1) ((fresh_bucketBad ..).trans h2) ue
    (List.map_eq_nil_iff.mpr hc)
  have hav := Learnable.read (s := s.fresh) ⟨ha.bucket, ha.mode, ha.learn, ha.room, ha.pin⟩ hv
  obtain ⟨c, hp⟩ := hv.part
  have hbv : freeBucket v m.b1 m.b2 = some (b, slot) := (freeBucket_congr (s := s) (hv.only .dir (by decide)) _ _).trans hb
  have hxv : runsPop (v.part.get i).freeCache = some (idx, runs) := by rw [hp]; exact hx
  rw [hav.learns ue hbv hxv] at e
  have hu := updPart_only (fs := [.part, .free]) i (fun p => { p with freeCache := runs }) v
  have hg := updPart_get i (fun p => { p with freeCache := runs }) v
  generalize updPart i (fun p => { p with freeCache := runs }) v = w at e hu hg
  rw [hp] at hg
  have hall := hv.only.trans hu
  have hln := learnAt_learns (k := k) (b := b) (slot := slot) (m := missRead s.fresh m) (s := w) ht
    ((line_congr (s := s) (by rw [hg]; rfl) idx).trans hl) (by rw [hg]; exact hw) (by rw [hg]; exact hh)
  have hlt : w.learnt i b slot (missRead s.fresh m) = s.learnt i b slot m :=
    learnt_congr (s := s) (by rw [hg]; rfl) (hall .tbe (by decide)) (hall .regs (by decide)) b slot m
  obtain ⟨n, q, z, ls, hpt⟩ := hln.part
  rw [hg] at hpt
  have hend : s.fresh.changesOnly _ (Fld.events ++ [.part, .eng, .clove, .dir, .svc, .free]) :=
    (hall.mono (by decide)).trans (hln.only.mono (by decide))
  refine ⟨_, partCmd_answers hr hi e hend, ?_, ?_, ?_, ?_, ?_, hln.wait, hln.learned, ?_, hend⟩
  · rw [hln.clove, hlt, hall .clove (by decide)]
    rfl
  · rw [hln.dir, hlt, updBucket, hall .dir (by decide)]
    rfl
  · rw [hpt]
    exact List.eraseIdx_modify_of_eq _ _ _
  · rw [hpt]
  · rw [hpt]
    rfl
  · rw [← hlt]
    exact hln.line

end learn

end Sys2Proof.Machine

namespace Sys2Proof.Machine

/-! ### A flow takes the place of another (R223, R224) -/

/-- Under EVICT 1 the victim is the first eligible clove of the fuller bucket, here the first one (R223). -/
theorem chooseVictim_first {i b1 b2 : Nat} {x : DirSlot} {more : List DirSlot} {s : State} (he : s.eligible i b1 = x :: more)
    (hle : (s.eligible i b2).length ≤ (s.eligible i b1).length) (hb : bit (s.reg (Reg.FSE_PART_CFG i)) 0 = true) :
    chooseVictim i b1 b2 s = (some (b1, x), s) := by
  unfold chooseVictim
  extract_lets e1 e2 all d
  have h1 : e1 = x :: more := he
  have ha : all = (b1, x) :: (more.map (fun x => (b1, x)) ++ e2.map (fun x => (b2, x))) := by
    unfold all
    rw [h1]
    rfl
  rw [ha]
  dsimp only
  rw [hb, if_pos rfl, if_neg (Nat.not_lt.mpr hle), h1]
  rfl

theorem updBucket_slots (b : Nat) (f : DirBucket → DirBucket) (s : State) :
    ((updBucket b f s).dir.get b).slots = (f (s.dir.get b)).slots := by
  unfold updBucket
  dsimp only
  rw [SMap.get_upd_self]

/-- The victim of an eviction has ended, with reason EVICTED, and its index stays taken. -/
def evicted (i idx : Nat) (s : State) : State := countA (flowAttr i 3 idx) (Cnt.FSE_EVICT i) 1 (deleteClove 3 i idx 3 false s)

section evict
variable {i b : Nat} {x : DirSlot} {s : State} (hl : s.line i x.idx = none) (hs : datU (s.clove.get x.idx) 64 1 = 0)

theorem evicted_only (idx : Nat) : s.changesOnly (evicted i idx s) Fld.flow :=
  (deleteClove_only 3 i idx 3 false s).trans ((countA_cnt_only _ _ _ _).mono (by decide))

include hl hs

theorem evicted_removed : (removeClove i x.idx 3 false s).changesOnly (evicted i x.idx s) [.cnt] := by
  unfold evicted
  rw [deleteClove_plain hl hs (by decide)]
  exact countA_cnt_only _ _ _ _

/-- The victim's slot is free, where its DIR_SLOT names it. -/
theorem evicted_dir (hd : cvDirSlot (s.clove.get x.idx) = 8 * b + x.slot) (h8 : x.slot < 8) (hx : x ∈ (s.dir.get b).slots) :
    (evicted i x.idx s).dir = (updBucket b (fun d => { d with slots := d.slots.filter (fun y => y.slot != x.slot) }) s).dir := by
  have hb : (8 * b + x.slot) / 8 = b := by omega
  have hk : (8 * b + x.slot) % 8 = x.slot := by omega
  have hn : ((s.dir.get ((8 * b + x.slot) / 8)).slots.any (fun y => y.slot == (8 * b + x.slot) % 8 && y.idx == x.idx)) = true := by
    rw [hb, hk]
    exact List.any_eq_true.mpr ⟨x, hx, by simp⟩
  refine (evicted_removed hl hs .dir (by decide)).trans ((removeClove_unlined_dir hl 3 false).trans ?_)
  rw [hd, clearSlot_names hn, hb, hk]

theorem evicted_get (hq : (s.part.get i).endq.length < 512) : ∃ a n p, (evicted i x.idx s).part.get i =
    { s.part.get i with freeBits := a, used := n, pinned := p,
                        endq := (s.part.get i).endq ++ [{ clove := s.clove.get x.idx, idx := x.idx, reason := 3, at_ := s.now }] } := by
  obtain ⟨f, a, n, p, hg, hf⟩ := removeClove_unlined_get hl (reason := 3) (by decide) hq false
  rw [hf rfl] at hg
  exact ⟨a, n, p, (congrArg (fun m => m.get i) (evicted_removed hl hs .part (by decide))).trans hg⟩

end evict

section learn
variable {i k th : Nat} (ue : Bool) {m : Miss} {s : State} (hr : s.running) (hi : i < 4)
  (hm : (s.part.get i).misses[k]? = some m) (hst : m.stage = .reading) (ht : m.threads = [th]) (h1 : s.bucketBad i m.b1 = false)
  (h2 : s.bucketBad i m.b2 = false)
  (hc : ((s.dir.get m.b1).slots ++ (s.dir.get m.b2).slots).filter (fun x => x.tag == hashTag m.hash) = []) (ha : Learnable i m s)
  (hw : ((s.part.get i).lines.filter (fun x => x.set == hashSet m.hash)).length < 16) (hh : (s.part.get i).held = [])
include hr hi hm hst ht h1 h2 hc ha hw hh

theorem exec_directoryRead_evicts {x : DirSlot} {more : List DirSlot} (hb : freeBucket s m.b1 m.b2 = none)
    (hcfg : bit (s.reg (Reg.FSE_PART_CFG i)) 0 = true) (he : s.eligible i m.b1 = x :: more)
    (hle : (s.eligible i m.b2).length ≤ (s.eligible i m.b1).length) (hl : s.line i x.idx = none)
    (hf : s.readFails i x.idx ue = false) (hd : cvDirSlot (s.clove.get x.idx) = 8 * m.b1 + x.slot) (h8 : x.slot < 8)
    (hs : datU (s.clove.get x.idx) 64 1 = 0) (hq : (s.part.get i).endq.length < 512) :
    ∃ t, exec (.directoryRead i k false false ue) s = .next t ∧ t.clove.get x.idx = s.learnt i m.b1 x.slot m ∧
      (t.dir.get m.b1).slots = (s.dir.get m.b1).slots.filter (fun y => y.slot != x.slot) ++
        [{ slot := x.slot, idx := x.idx, tag := hashTag m.hash, pinned := cvPinned (s.learnt i m.b1 x.slot m) }] ∧
      (t.part.get i).endq = (s.part.get i).endq ++ [{ clove := s.clove.get x.idx, idx := x.idx, reason := 3, at_ := s.now }] ∧
      (t.part.get i).misses = (s.part.get i).misses.eraseIdx k ∧ (t.part.get i).freeCache = (s.part.get i).freeCache ∧
      (t.th th).wait = .lock ∧
      (∃ l, t.line i x.idx = some l ∧ l.clove = s.learnt i m.b1 x.slot m ∧ l.fifo = [{ thread := th, shared := false }]) ∧
      s.fresh.changesOnly t (Fld.events ++ [.part, .eng, .clove, .dir, .svc, .free]) := by
  have hx : x ∈ (s.dir.get m.b1).slots := List.mem_of_mem_filter (he ▸ List.mem_cons_self : x ∈ s.eligible i m.b1)
  obtain ⟨v, hv, e⟩ := doDirectoryRead_none (s := s.fresh) hm hst ((fresh_bucketBad ..).trans h1) ((fresh_bucketBad ..).trans h2) ue
    (List.map_eq_nil_iff.mpr hc)
  have hav := Learnable.read (s := s.fresh) ⟨ha.bucket, ha.mode, ha.learn, ha.room, ha.pin⟩ hv
  obtain ⟨c, hp⟩ := hv.part
  have hdir : v.dir = s.dir := hv.only .dir (by decide)
  have hclv : v.clove = s.clove := hv.only .clove (by decide)
  have hnow : v.now = s.now := congrArg Tbe.st (hv.only .tbe (by decide))
  have hlines : (v.part.get i).lines = (s.part.get i).lines := by rw [hp]; rfl
  have hbv : freeBucket v m.b1 m.b2 = none := (freeBucket_congr hdir _ _).trans hb
  have hreg : v.reg (Reg.FSE_PART_CFG i) = s.reg (Reg.FSE_PART_CFG i) := by
    unfold State.reg
    rw [hv.only .regs (by decide)]
    rfl
  have hvic : chooseVictim i m.b1 m.b2 v = (some (m.b1, x), v) :=
    chooseVictim_first ((eligible_congr hlines hdir _).trans he)
      (by rw [eligible_congr hlines hdir, eligible_congr hlines hdir]; exact hle) (by rw [hreg]; exact hcfg)
  have hlv : v.line i x.idx = none := (line_congr hlines _).trans hl
  have hfv : v.readFails i x.idx ue = false := by
    have hbad : v.cloveBad i x.idx = s.cloveBad i x.idx := by
      unfold State.cloveBad
      rw [hbmBad_congr (s := s) (hv.only .hmc (by decide)), hp]
      rfl
    unfold State.readFails at hf ⊢
    rw [hbad, hlv, ← hl]
    exact hf
  have hsv : datU (v.clove.get x.idx) 64 1 = 0 := by rw [hclv]; exact hs
  rw [hav.evicts ue hbv hvic hfv, ← evicted, show (missRead s.fresh m).b1 = m.b1 from rfl] at e
  have ho := evicted_only (i := i) (s := v) x.idx
  have hedir := evicted_dir hlv hsv (b := m.b1) (by rw [hclv]; exact hd) h8 (by rw [hdir]; exact hx)
  obtain ⟨a, n, p, hg⟩ := evicted_get hlv hsv (by rw [hp]; exact hq)
  generalize evicted i x.idx v = w at e ho hedir hg
  rw [hp, hclv, hnow] at hg
  have hall : s.fresh.changesOnly w (Fld.events ++ [.part, .eng, .clove, .dir, .svc, .free]) :=
    (hv.only.mono (by decide)).trans (ho.mono (by decide))
  have hln := learnAt_learns (k := k) (b := m.b1) (slot := x.slot) (m := missRead s.fresh m) (s := w) ht
    ((line_congr (s := s) (by rw [hg]; rfl) x.idx).trans hl) (by rw [hg]; exact hw) (by rw [hg]; exact hh)
  have hlt : w.learnt i m.b1 x.slot (missRead s.fresh m) = s.learnt i m.b1 x.slot m :=
    learnt_congr (s := s) (by rw [hg]; rfl) (hall .tbe (by decide)) (hall .regs (by decide)) m.b1 x.slot m
  obtain ⟨_, _, _, ls, hpt⟩ := hln.part
  rw [hg] at hpt
  have hend : s.fresh.changesOnly _ (Fld.events ++ [.part, .eng, .clove, .dir, .svc, .free]) := hall.trans (hln.only.mono (by decide))
  refine ⟨_, partCmd_answers hr hi e hend, ?_, ?_, ?_, ?_, ?_, hln.wait, ?_, hend⟩
  · rw [hln.clove, SMap.get_set_self, hlt]
  · rw [hln.dir, hlt, updBucket_slots, hedir, updBucket_slots, hdir]
    rfl
  · rw [hpt]
    rfl
  · rw [hpt]
    exact List.eraseIdx_modify_of_eq _ _ _
  · rw [hpt]
    rfl
  · rw [← hlt]
    exact hln.line

end learn

/-- Settles O41, a clause for each way a lookup goes. -/
theorem flowLookups : Obligations.FlowLookups :=
  ⟨fun _ _ _ _ _ _ hr hi hq ht hv h2 h1 hk hmiss hlen hne => exec_fseLookup_miss hq ht hv h2 h1 hk hr hi hmiss hlen hne,
   fun _ _ _ _ _ _ _ hr hi hq ht hv h2 h1 hk hhit => exec_fseLookup_hit hq ht hv h2 h1 hk hr hi hhit,
   fun _ _ _ _ _ hr hi hq ht => exec_fseLookup_noThread hr hi hq ht,
   fun _ _ _ _ _ _ _ hr hi hl hf hk hz hd => exec_lockGrant hr hi hl hf hk hz hd,
   fun _ _ ue _ _ hr hi hm hst h1 h2 hc => exec_directoryRead_matches ue hr hi hm hst h1 h2 hc,
   fun _ _ _ _ _ _ ue _ c _ _ hr hi hmode hm hst ht h1 h2 hgone hc hlearn hroom hpin hb hx hl hw hh (hcl : c = State.learnt _ _ _ _ _) =>
     hcl ▸ exec_directoryRead_learns ue hr hi hm hst ht h1 h2 hc ⟨hgone, hmode, hlearn, hroom, hpin⟩ hw hh hb hx hl,
   fun _ _ _ ue _ _ c _ _ hr hi hmode hm hst ht h1 h2 hgone hc hlearn hroom hpin hb hcfg he hle hl hf hd h8 hs hq hw hh
       (hcl : c = State.learnt _ _ _ _ _) =>
     hcl ▸ exec_directoryRead_evicts ue hr hi hm hst ht h1 h2 hc ⟨hgone, hmode, hlearn, hroom, hpin⟩ hw hh hb
       hcfg he hle hl hf hd h8 hs hq,
   fun _ _ _ ue _ _ hr hi hm hst ht h1 h2 hc hl ha hh => exec_directoryRead_drops ue hr hi hm hst ht h1 h2 hc hl ha hh,
   fun _ _ _ victim _ _ _ hr hi hm hst hl hv hk hb hs hw hh => exec_cloveRead_found hr hi hm hl hv hk hw hh victim hst hb hs,
   fun _ _ _ _ victim _ _ _ hr hi hm hst hk hf => exec_cloveRead_next victim hr hi hm hst hk hf,
   fun _ _ _ _ victim _ _ _ hr hi hm hst hf => exec_cloveRead_lost victim hr hi hm hst hf,
   fun _ _ _ _ _ _ _ hr hi hm hst hl hv hk hw hh => exec_lineInstall hr hi hm hl hv hk hw hh hst⟩

end Sys2Proof.Machine
